-- ==== Sys2Proof/Word.lean ====
section
/-! DEFINITION. The word types of the VT4816 and the plain names that its state, its commands and its tables share. -/

namespace Sys2Proof

/-- A byte. -/
abbrev Byte := BitVec 8

/-- A register word: every register is 32 bits wide (R6). -/
abbrev Word := BitVec 32

/-- A 64 B line, as one little-endian value (R3). -/
abbrev Line := BitVec 512

/-- Sparse data by key: pairs in strictly rising order of their key, none equal to what an unlisted key reads as. -/
abbrev SMap (α : Type) := List (Nat × α)

/-- One bit field of a register: byte offset in the page, lowest bit, width, and the distance of one copy of the register
from the next where the register repeats (R3, R5). -/
structure Fld where
  off : Nat
  lo : Nat
  width : Nat
  step : Nat
deriving DecidableEq, Repr

/-- Copy `i` of a repeated field. -/
def Fld.ix (f : Fld) (i : Nat) : Fld := ⟨f.off + i * f.step, f.lo, f.width, f.step⟩

/-- Access codes of Table 00-2 that occur in the field tables (R11). -/
inductive Acc
  | ro | rw | w1c | w1s | rc | rwl
deriving DecidableEq, Repr

/-- Which resets reach a field (R12, R492): `page` every reset of the page; `warm` WARM and COLD; `cold` COLD; `store` COLD,
which restores it from the parameter store. -/
inductive RstClass
  | page | warm | cold | store
deriving DecidableEq, Repr

/-- What a written value of a field may be (R10): anything; a range, with or without EMPTY on 0, LENGTH outside it; codes up
to a highest, UNSUPPORTED above it; a two's-complement range; a range whose low values record CONFLICT. -/
inductive Chk
  | any
  | range (empty : Bool) (lo hi : Nat)
  | enum (hi : Nat)
  | signed (lo hi : Int)
  | confl (lo hi : Nat)
deriving DecidableEq, Repr

/-- One row of a field table: the field, how many copies of the register there are, its access code, its reset value, its
reset class and the check on a written value. -/
structure Row where
  fld : Fld
  copies : Nat
  acc : Acc
  rst : Nat
  cls : RstClass
  chk : Chk
deriving DecidableEq, Repr

/-- The blocks of Table 21-1. -/
inductive Block
  | dev | trv | seq0 | seq1 | rtm | thm | pst | mgt | sec | key | loop | qos | pmc | evq | flt | pdr | hpt | shl | shm | xtn
  | fcc | fcm | vwn | mch | map | ptx | rcl | ckp | ptl | age | hlt | wgv | cry | rky | cpe | cpd | cps
deriving DecidableEq, Repr

/-- The two paths into the control space (R486): through the BAR of a head, or the management path. -/
inductive Path
  | host (head : Fin 8)
  | mgmt
deriving DecidableEq, Repr

/-- The shared error codes of Table 00-10 (R27). -/
inductive Code
  | ok | empty | length | staleEpoch | busy | exhausted | denied | conflict | unsupported | causeOpen | integrity
deriving DecidableEq, Repr

/-- The number of a code (Table 00-10). -/
def Code.num : Code → Nat
  | .ok => 0x00
  | .empty => 0x01
  | .length => 0x10
  | .staleEpoch => 0x11
  | .busy => 0x12
  | .exhausted => 0x13
  | .denied => 0x14
  | .conflict => 0x15
  | .unsupported => 0x16
  | .causeOpen => 0x17
  | .integrity => 0x18

end Sys2Proof
end

