-- ==== Sys2Proof/Operand.lean ====
section
/-! DEFINITION. The types of the commands' operands beyond words and numbers. -/

namespace Sys2Proof

/-- How an array operation of a die ends (Table 05-7): READ_STATUS with FAIL, OVERRIDE and XFER_ERR, the pulses used, and the field's start
amplitude as READ_PULSE gives it afterwards (R137). -/
structure ArrayEnd where
  fail : Bool
  override : Bool
  xferErr : Bool
  pulses : Fin 33
  amplitude : Fin 256
deriving DecidableEq, Repr

/-- A change of the manager's state (R319): a member's state, a new TERM, the next shelf extent number, a grant (extent, head's part, HXT index, state: 0 withdrawn,
1 granted, 2 revoked while its part was away; with the words of its HXT entry, its key index and hint), an owner of a grant (extent, part, first local extent, role), a loss record kept for an owner, a member's health, and all duties
passing to the receiver (R321). -/
inductive Sync
  | member (part state : Nat)
  | term (term : Nat)
  | nextSxn (sxn : Nat)
  | grant (sxn part hxt : Nat) (words : List Nat) (key hint state : Nat)
  | owner (sxn part lxn role : Nat)
  | loss (owner : Nat) (words : List Nat)
  | lossGone (owner : Nat)
  | health (part : Nat) (words : List Nat)
  | duties
deriving DecidableEq, Repr

/-- An Abager request (Table 15-5): VERSION, BODY_LEN, the SPDM session it came in if any, the requester's endpoint ID, and its body. CODE is the command's own. -/
structure Abager where
  version : BitVec 8
  len : BitVec 16
  session : Option (BitVec 16)
  eid : BitVec 8
  body : List Byte
deriving DecidableEq, Repr

/-- An MCTP packet on the bus (R393): its endpoints, tag and sequence number, first and last of its message or not, whether its PEC is right, its payload, and, with the
last packet of a secured message, the session and what that session opens the message to. -/
structure McPacket where
  src : BitVec 8
  dest : BitVec 8
  tag : Fin 16
  seq : Fin 4
  som : Bool
  eom : Bool
  pec : Bool
  payload : List Byte
  opened : Option (BitVec 16 × List Byte)
deriving DecidableEq, Repr

/-- What a line packet of the ring names (Table 11-9): the requester and its tag, the copy (0 primary, 1 mirror) and its line, the key index, the shelf extent, and the line of
the other copy of a mirrored line. -/
structure RingLine where
  oid : BitVec 16
  tag : BitVec 16
  copy : Fin 2
  lln : BitVec 38
  key : Fin 4096
  sxn : BitVec 21
  mirror : Option (BitVec 38)
deriving DecidableEq, Repr

/-- The two forms of a UNIT_CMD request (R402): a register write on a path, or an Abager message. -/
inductive UnitRequest
  | write (path : Path) (page : Fin 512) (target : Fin 16) (epoch : BitVec 16)
  | message (m : Abager)
deriving DecidableEq, Repr

/-- An extent as the manager places it (R54): the ingress part, the HXT index there and its head, region, first unit, length in units, permission, whether it is mirrored, the first
XMB entry, the key index and hint of its local extents, and for each member the part, its first local extent and that of its mirror partner. -/
structure Placement where
  part : Fin 32
  hxt : Fin 8192
  head : Fin 8
  region : Fin 8
  unit : BitVec 21
  length : BitVec 22
  perm : Fin 4
  mirror : Bool
  xmb : Fin 32768
  key : Fin 4096
  hint : Fin 4
  members : List (Fin 32 × Fin 49152 × Fin 49152)
deriving DecidableEq, Repr

end Sys2Proof
end

