-- ==== Sys2Proof/Syntax.lean ====
section
/-! DEFINITION. The commands of the part: one constructor per row of the table of operations and events. An operand is what the row
carries from outside: an address, a value, a length, or what the spec leaves to the world (which sensor, how a frame decodes). -/

namespace Sys2Proof

/-- A command: an operation on the part, or an event that comes to it. -/
inductive Instr
  /-- REGISTER_WRITE (R11). A host-path or management-path write to a register that has no row of its own, applied by access code and checked under R7 to R10. -/
  | registerWrite (path : Path) (offset : BitVec 21) (size : Fin 65) (value : BitVec 64)
  /-- READ_CLEAR (R11). A read of an RC field returns its value and then clears the field. -/
  | readClear (path : Path) (offset : BitVec 21) (size : Fin 65)
  /-- UNMAPPED_ACCESS (R488). An access to an unimplemented page reads zero or is discarded, is counted in DEV_UNMAPPED and raises UNMAPPED_ACCESS. -/
  | unmappedAccess (path : Path) (write : Bool) (offset : BitVec 21) (size : Fin 65)
  /-- RTM_TIME_LO_READ (R335). A read of RTM_TIME_LO latches the matching upper half of rack time into RTM_TIME_HI. -/
  | rtmTimeLoRead (path : Path) (wide : Bool)
  /-- UNIT_CMD (R22). A UNIT_CMD write or Abager UNIT_CMD message is checked against UNIT_STATE and either rejected or accepted as a state change request. -/
  | unitCmd (request : UnitRequest)
  /-- UNIT_STATE_CHANGE_DONE (R24). An accepted state change completes, PENDING clears and the unit takes its new state with a new epoch. -/
  | unitStateChangeDone (page : Fin 512)
  /-- UNIT_INIT_DONE (R24). Initialisation of a unit completes and it enters SERVICE, DEGRADED or CONTAINED. -/
  | unitInitDone (page : Fin 512)
  /-- EVT_STATUS_CLEAR (R18). A W1C write to EVT_STATUS clears bits and releases the capture when the captured event's bit clears. -/
  | evtStatusClear (path : Path) (page : Fin 512) (bits : Word)
  /-- EVT_FORCE (R20). A write to EVT_FORCE sets status bits and fills the capture as a forced event. -/
  | evtForce (path : Path) (page : Fin 512) (bits : Word)
  /-- EVT_ENABLE_WRITE (R19). A write to EVT_ENABLE that makes EVT_STATUS AND EVT_ENABLE non-zero sends a notice to EVT_ROUTE.DEST. -/
  | evtEnableWrite (path : Path) (page : Fin 512) (bits : Word)
  /-- PAGE_LOCK_SET (R21). Writing 1 to PAGE_LOCK.LOCK makes the page's RWL fields read-only until WARM or COLD reset. -/
  | pageLockSet (path : Path) (page : Fin 512)
  /-- LOCK_ALL (R493). A write of DEV_CTL.LOCK_ALL sets PAGE_LOCK.LOCK of every implemented powered page. -/
  | lockAll (path : Path)
  /-- CONTAINMENT (R476). A data-path checker opens a containment cause, moves the unit to CONTAINED and logs the fault. -/
  | containment (page : Fin 512) (code : Fin 256) (info1 : Word) (info2 : Word)
  /-- INTERNAL_CLEAR (R476). A management-path write of 1 to an INTERNAL cause bit closes that cause. -/
  | internalClear (path : Path) (page : Fin 512)
  /-- COLD_RESET (R12). Loss and return of supplies resets the whole part including PD00 and reloads the parameter store. -/
  | coldReset (tamperLow : Bool)
  /-- STRAP_SAMPLE (R500). At T0 + 1 ms the part samples SHELF_ID and ROLE and refuses manager duties for a ROLE strap on a non-zero shelf ID. -/
  | strapSample (shelf : Fin 32) (role : Bool)
  /-- RESET_N (R377). An assertion of RESET_N starts a drain in RUN or takes a WARM reset at once in other states. -/
  | resetN (ns : Nat)
  /-- MEMRD (R171). A host MemRd or MemRdData is decoded and served from the posted-write buffer, the front cache, media or a forwarded read. -/
  | memrd (head : Fin 8) (hpa : BitVec 64)
  /-- MEMSPECRD (R68). A MemSpecRd hint starts a front-cache fill of one line or is dropped. -/
  | memspecrd (head : Fin 8) (hpa : BitVec 64) (taken : Bool)
  /-- MEMINV (R68). A MemInv or MemInvNT completes with Cmp and no effect on data. -/
  | meminv (head : Fin 8)
  /-- MEMWR (R69). A host MemWr or MemWrPtl fills a posted-write buffer entry and is accepted with its NDR. -/
  | memwr (head : Fin 8) (hpa : BitVec 64) (data : Line) (mask : BitVec 64) (poison : Bool)
  /-- PWB_SEND (R254). A posted-write buffer entry is decoded and sent toward its home when ring credit allows. -/
  | pwbSend (head : Fin 8) (entry : Nat)
  /-- HOME_READ (R101). A read serialised at the home looks up the frame tag and is served as a hit or enters the miss pipeline. -/
  | homeRead (turn : Nat) (parity : BitVec 64)
  /-- HOME_WRITE (R105). A write serialised at the home is staged as a patch or dense line in its frame and mirror slot, or held under the dirty limit. -/
  | homeWrite (turn : Nat) (parity : BitVec 64)
  /-- ALIAS_WRITEBACK_DONE (R99). The dirty lines of a frame met by an alias access become persistent, the frame is invalidated and the alias request is served as a miss. -/
  | aliasWritebackDone (waiter : Nat)
  /-- KEY_DERIVE_DONE (R278). Derivation of a key set that was not cached completes and the waiting request proceeds. -/
  | keyDeriveDone
  /-- MAP_LOOKUP_DONE (R171). A map entry returns and the miss pipeline serves poison or zero, or issues the base read. -/
  | mapLookupDone (miss : Nat) (parity0 : BitVec 64) (parity1 : BitVec 64)
  /-- PTX_LOOKUP_DONE (R171). A patch-index lookup answers and the base read is kept or squashed and the patch is read. -/
  | ptxLookupDone (miss : Nat) (parity0 : BitVec 64) (parity1 : BitVec 64)
  /-- MEDIA_READ_DATA (R171). A media frame is collected by DATA_OUT, decoded and verified, or retried, reconstructed or ended in poison. -/
  | mediaReadData (read : Nat) (errors : List (Fin 65 × Fin 14))
  /-- RECONSTRUCT_DONE (R146). All frames of a reconstruction read are collected and XORed and the result goes to verification. -/
  | reconstructDone (miss : Nat) (fixed : BitVec 16) (bad : BitVec 16)
  /-- SEG_REBUILD_DONE (R110). A rebuild of a map segment or patch-index block from media completes and waiting requests continue. -/
  | segRebuildDone (index : Nat)
  /-- FCC_FLIP_ARM (R112). Arming FCC_FLIP_CTL makes the next matching line write store corrupted parity and raise FLIP_APPLIED. -/
  | fccFlipArm (path : Path) (stack : Fin 4) (target : Fin 8)
  /-- SCRUB_READ (R113). The stack scrubber reads its next line in an idle cycle and handles any parity error. -/
  | scrubRead (stack : Fin 4) (parity : BitVec 64)
  /-- SCRUB_SLOW (R113). A scrub lap passes SCRUB_LAP_LIMIT and SCRUB_SLOW is raised once for that lap. -/
  | scrubSlow (stack : Fin 4)
  /-- HBM_ACCESS_TIMEOUT (R114). An HBM access has no response within 2 µs and its pseudo-channel is declared failed. -/
  | hbmAccessTimeout (stack : Fin 4) (channel : Fin 32)
  /-- HBM_PHY_LOCK_LOSS (R114). An HBM PHY reports loss of lock and its stack is declared failed. -/
  | hbmPhyLockLoss (stack : Fin 4)
  /-- CLEAN (R121). FCM operation CLEAN writes back the dirty lines of a page range and keeps the frames. -/
  | clean (path : Path) (mode : Bool) (head : Fin 8)
  /-- CLEAN_INV (R121). FCM operation CLEAN_INV writes back and invalidates the frames of a page range. -/
  | cleanInv (path : Path) (mode : Bool) (head : Fin 8)
  /-- CLEAN_SW (R120). FCM operation CLEAN_SW writes back frames of one way from a given set upward. -/
  | cleanSw (path : Path)
  /-- CLEAN_INV_SW (R120). FCM operation CLEAN_INV_SW writes back and invalidates frames of one way by set. -/
  | cleanInvSw (path : Path)
  /-- INV_ALL (R124). FCM operation INV_ALL cleans and invalidates every cache-way frame, setting CLEAN_SLATE when the cache is disabled. -/
  | invAll (path : Path)
  /-- PROBE (R119). FCM operation PROBE reads the tag and line bits of one frame into FCM_PROBE0 to FCM_PROBE4. -/
  | probe (path : Path)
  /-- FCM_ABORT (R122). A write of FCM_OP.ABORT stops a running operation after the page in progress. -/
  | fcmAbort (path : Path)
  /-- OP_DONE (R121). A maintenance operation completes, OP_BUSY clears and OP_DONE is raised with its result and progress. -/
  | opDone
  /-- CACHE_DISABLE (R123). Writing FCM_CTL.ENABLE = 0 sets DISABLING and starts write-back of every dirty line. -/
  | cacheDisable (path : Path)
  /-- CACHE_DISABLE_DONE (R123). The last dirty line is persistent and the cache clears ENABLED, CLEAN_SLATE and DISABLING. -/
  | cacheDisableDone
  /-- CACHE_ENABLE (R124). Writing FCM_CTL.ENABLE = 1 enables the cache at once with CLEAN_SLATE, or is refused with ENABLE_REFUSED. -/
  | cacheEnable (path : Path)
  /-- VWN_RESIZE (R127). A write of VWN_CFG.SIZE is stored and starts growth or shrinking of the volatile window. -/
  | vwnResize (path : Path) (size : BitVec 4)
  /-- RESIZE_DONE (R127). A window resize completes and RESIZE_DONE is raised. -/
  | resizeDone
  /-- REMAP (R131). Writing VWN_CMD.REMAP replaces lost window frames with frames of enabled cache ways. -/
  | remap (path : Path)
  /-- REMAP_DONE (R131). A remap completes, REMAP clears and VWN returns to SERVICE when no frame remains lost. -/
  | remapDone
  /-- MEDIA_ATTENTION (R151). Mc_RDY_N asserts and the part reads attention and status of each partition with DONE pending, ending programs and resets. -/
  | mediaAttention (channel : Fin 16) (die : Fin 8) (partition : Fin 16) (result : ArrayEnd)
  /-- SUSPEND_TIMEOUT (R154). Five microseconds after a suspend the part sends RESUME to the partition. -/
  | suspendTimeout (channel : Fin 16) (die : Fin 8) (partition : Fin 16)
  /-- MCH_POR_DONE (R156). After t_POR the channel sends DIE_RESET, CALIBRATE and READ_ID and classifies each die. -/
  | mchPorDone (channel : Fin 16) (ids : List (BitVec 128)) (calibrated : Bool)
  /-- MEDIA_CMD_TIMEOUT (R158). A die fails to answer a command correctly or a read is not READY within 2 µs. -/
  | mediaCmdTimeout (channel : Fin 16) (die : Fin 8) (notReady : Bool) (between : Bool)
  /-- DIE_FAIL_RECORD (R158). Ten microseconds after a die is declared failed without a second die failing, it is recorded FAILED in the parameter store. -/
  | dieFailRecord (channel : Fin 16) (die : Fin 8)
  /-- RDY_N_STUCK (R159). Mc_RDY_N stays low for 1 ms with nothing pending and the channel faults. -/
  | rdyNStuck (channel : Fin 16)
  /-- CHAN_RETRAIN (R160). Every 100 ms a faulted channel retrains by DIE_RESET, CALIBRATE and READ_ID, closing CHAN_FAULT and opening REBUILD on success. -/
  | chanRetrain (channel : Fin 16) (passed : Bool)
  /-- REBUILD_DONE (R162). Every stale field of the channel has been reset and REBUILD closes. -/
  | rebuildDone (channel : Fin 16)
  /-- MCH_FLIP_ARM (R163). Arming MCH_FLIP_CTL corrupts the check bytes of the next program to the target die and raises FLIP_APPLIED. -/
  | mchFlipArm (path : Path) (channel : Fin 16) (value : Word)
  /-- MAP_ACC_PAGE (R186). A write of MAP_ACC_PAGE starts a lookup of one map entry into MAP_ACC_LO and MAP_ACC_HI. -/
  | mapAccPage (path : Path) (page : Word)
  /-- PTX_ACC_START (R187). PTX_ACC_CMD.START looks up the patch-index slot of a page and line. -/
  | ptxAccStart (path : Path) (line : Fin 64)
  /-- INSPECT_DONE (R186). A map, patch-index or field-table inspection completes and its result registers are filled. -/
  | inspectDone (kind : Fin 3)
  /-- DENSE_HOLD_EXPIRY (R190). The oldest dense line of a frame has waited HOLD_US or HOLDUP_WAIT_MS and a DENSE fold is issued. -/
  | denseHoldExpiry (page : Nat)
  /-- PATCH_HOLD_EXPIRY (R191). The oldest patch of a PATCH stripe has waited its hold time and the stripe is issued. -/
  | patchHoldExpiry
  /-- FOLD_SPACING_EXPIRY (R297). A fold held to keep commits of one page 120 µs apart reaches its time and commits. -/
  | foldSpacingExpiry
  /-- SLOT_START (R343). A slot begins and Campion admits programs, resets and resumes into it in class order within its budget. -/
  | slotStart (slot : Fin 64)
  /-- STRIPE_OVERDUE (R345). The oldest dirty line has waited 100 µs unadmitted and its stripe is issued and given priority. -/
  | stripeOverdue
  /-- COPY_VERIFIED (R206). A READ_HEADER of a reclaim destination returns the expected fields and the copy commits if still current. -/
  | copyVerified (copy : Nat) (verified : Bool)
  /-- REPLAY (R214). After a start without a clean mark, CKP runs replay of checkpoint objects, journal, open bands and patch log. -/
  | replay
  /-- REPLAY_DONE (R215). Replay completes, the ledger's listed regions are handled and REPLAY_DONE is raised. -/
  | replayDone (channelLost : Bool)
  /-- THERMAL_ROUND (R462). Every 10 ms the part reads and judges all sensors, advances age clocks, sets the throttle level and updates histograms. -/
  | thermalRound (readings : List (Option (BitVec 16)))
  /-- OLD_MARK_TICK (R222). Every 60 s of powered time OLD is set on closed fields aged 10^6 s or more. -/
  | oldMarkTick
  /-- AGE_SAVE (R228). Every 60 s and at clean shutdown the rack time and age clocks are stored in the parameter store. -/
  | ageSave
  /-- PATROL_ISSUE (R231). Patrol issues READ_PAGE to the next page at its paced rate, or to a queued suspect page. -/
  | patrolIssue
  /-- PATROL_RATE_PERIOD (R235). Every 60 s patrol sets its rate from the remaining pages and time, under the LOOP bound. -/
  | patrolRatePeriod
  /-- PTL_CURSOR_SAVE (R238). Every 60 s the patrol cursor, lap and elapsed time are stored in the parameter store. -/
  | ptlCursorSave
  /-- AGE_INSP (R249). AGE_INSP.START reads a field-table entry and computes its age and bins. -/
  | ageInsp (path : Path) (field : Fin 1048576) (start : Bool)
  /-- WGV_DAILY (R247). Every 24 h of powered time the wear governor computes MEAN, RATE, PROJ and the ceiling. -/
  | wgvDaily
  /-- HEALTH_SAVE (R246). Every 60 minutes the histograms, peaks and lifetime counters are stored in the parameter store. -/
  | healthSave
  /-- HEALTH_META_COPY (R213). Every 24 h of powered time the HEALTH record body is written to META segment 4,512. -/
  | healthMetaCopy
  /-- FENCE_START (R260). A host write of HPT_FNC_CTLn with GO starts a fence covering earlier accepted writes and reads. -/
  | fenceStart (path : Path) (head : Fin 8) (slot : Fin 8) (value : Word)
  /-- FENCE_COMPLETE (R262). The condition of the fence's scope holds for every covered request and STATUS is set. -/
  | fenceComplete (head : Fin 8) (slot : Fin 9)
  /-- FENCE_DEADLINE (R268). 45 µs after a fence starts, its unticketed covered writes are resolved as DEGRADED or LOST. -/
  | fenceDeadline (head : Fin 8) (slot : Fin 9)
  /-- FENCE_DURABLE (R263). Every covered write is reported persistent and the PERSIST fence sets DURABLE, or NOT_DURABLE on a loss. -/
  | fenceDurable (head : Fin 8) (slot : Fin 9)
  /-- GPF_PHASE2 (R264). A CXL global persistent flush phase 2 acts as a PERSIST fence over every head's accepted writes. -/
  | gpfPhase2 (head : Fin 8)
  /-- HPT_LOSS_POP (R269). Writing HPT_LOSS_POP removes the oldest loss record. -/
  | hptLossPop (path : Path) (head : Fin 8)
  /-- RESERVE (R271). HPT_RSV_CMDk RESERVE reads a 16 B word and places a reservation on its line. -/
  | reserveWord (path : Path) (head : Fin 8) (slot : Fin 4)
  /-- COND_WRITE (R271). HPT_RSV_CMDk COND_WRITE writes the word if the slot's reservation is held and consumes it. -/
  | condWrite (path : Path) (head : Fin 8) (slot : Fin 4)
  /-- RELEASE (R271). HPT_RSV_CMDk RELEASE drops the slot's reservation at the home. -/
  | releaseWord (path : Path) (head : Fin 8) (slot : Fin 4)
  /-- RSV_COMPLETE (R273). The home's answer to a reservation operation returns and the slot's RESULT, HELD and LOSS_CAUSE are set. -/
  | rsvComplete (head : Fin 8) (slot : Fin 4)
  /-- RSV_TIMEOUT (R272). 1 ms after a RESERVE is serialised the reservation is lost with cause 2. -/
  | rsvTimeout (part : Fin 32) (slot : Fin 32)
  /-- IMPORT (R281). KEY_CMD IMPORT decapsulates and unwraps a blob into an EMPTY slot and redraws the nonce. -/
  | importKey (path : Path) (slot : Fin 4096) (seed : Option Line)
  /-- CLEAR (R282). KEY_CMD CLEAR moves an unused LOADED slot to CLEARING and writes back its dirty lines. -/
  | clearKey (path : Path) (slot : Fin 4096)
  /-- INSPECT (R284). KEY_CMD INSPECT fills KEY_INFO0 to KEY_INFO2 for one slot. -/
  | inspectKey (path : Path) (slot : Fin 4096)
  /-- RKY_START (R302). RKY_CMD.START requests a version transition of a slot for rotation. -/
  | rkyStart (path : Path) (slot : Fin 4096)
  /-- SWEEP_RATE_PERIOD (R299). Every second the re-key sweep sets its rate from remaining pages and TARGET_S. -/
  | sweepRatePeriod
  /-- SWEEP_CURSOR_SAVE (R301). Every 60 s the sweep cursor and elapsed time are stored in KEY_SWEEP. -/
  | sweepCursorSave
  /-- SWEEP_LATE (R300). A sweep passes 900 s, SWEEP_LATE is raised and non-sweep folds of the key wait. -/
  | sweepLate (slot : Fin 4096)
  /-- ERASE_DONE (R295). Steps 1 to 3 of a crypto erase complete, frames of the extent are invalidated and ERASE_DONE is raised. -/
  | eraseDone
  /-- XTN_READ (R62). XTN_ACC_CMD with WRITE = 0 reads one HXT, XMB or LXT entry into DATA0 to DATA3. -/
  | xtnRead (path : Path) (table : Fin 4) (index : Fin 65536)
  /-- XTN_HXT_WRITE (R48). XTN_ACC_CMD writes an HXT entry after its checks, offering, forcing release or freeing an extent. -/
  | xtnHxtWrite (path : Path) (index : Fin 65536)
  /-- XTN_XMB_WRITE (R48). XTN_ACC_CMD writes an XMB entry after its checks. -/
  | xtnXmbWrite (path : Path) (index : Fin 65536)
  /-- XTN_LXT_WRITE (R50). XTN_ACC_CMD writes an LXT entry under Table 02-3, activating a local extent or starting its erase. -/
  | xtnLxtWrite (path : Path) (index : Fin 65536)
  /-- XTN_ACC_DONE (R62). A table access completes, BUSY clears and RESULT is set. -/
  | xtnAccDone
  /-- RELEASE_DONE (R52). The last request decoded through a RELEASING HXT entry completes and the entry becomes FREE. -/
  | releaseDone (index : Fin 8192)
  /-- DECODER_COMMIT (R41). Host software commits an HDM decoder and the part types the window or fails the commit. -/
  | decoderCommit (head : Fin 8) (decoder : Fin 8) (base : BitVec 64) (size : BitVec 64) (dpaBase : BitVec 64) (ways : Fin 17) (gran : Fin 16)
  /-- LINK_UP (R84). A head's link reaches L0 with CXL.mem and the head enters SERVICE, DEGRADED or a HEAD reset. -/
  | linkUp (head : Fin 8) (mem : Bool) (speed : Fin 8) (width : Fin 32)
  /-- TRAIN_FAIL (R66). Head training fails and is retried every 100 ms. -/
  | trainFail (head : Fin 8) (noFlit : Bool)
  /-- LANE_FAULT (R86). A lane of a head fails and the head narrows by L0p or passes through Recovery. -/
  | laneFault (head : Fin 8) (lane : Fin 16) (l0p : Bool)
  /-- L0P_NARROW_DONE (R86). An L0p width change completes and the head serves DEGRADED with NARROW. -/
  | l0pNarrowDone (head : Fin 8) (stall : Word)
  /-- LINK_DOWN (R85). A head's link goes down, the head is contained, reads are abandoned and writes drain. -/
  | linkDown (head : Fin 8)
  /-- IDE_FAIL (R87). An IDE failure contains the head and poisons later CXL.mem reads. -/
  | ideFail (head : Fin 8) (mem : Bool) (io : Bool) (stream : Word)
  /-- IDE_REKEY (R87). New IDE keys are programmed and the stream is enabled, closing IDE_FAIL. -/
  | ideRekey (head : Fin 8) (mem : Bool) (io : Bool)
  /-- FLR (R88). A function-level reset triggers a HEAD reset of the head. -/
  | flr (head : Fin 8)
  /-- HEAD_RESET (R88). A CXL link reset or FLR drains writes, abandons reads, uncommits windows and resets logs. -/
  | headReset (head : Fin 8)
  /-- HEAD_RESET_DONE (R88). A HEAD reset completes and the head proceeds to its new state. -/
  | headResetDone (head : Fin 8)
  /-- HPT_PORT_CFG_WRITE (R64). A management write of HPT_PORT_CFG stores SPLIT in the parameter store for the next WARM reset. -/
  | hptPortCfgWrite (path : Path) (head : Fin 8) (value : Word)
  /-- GET_EVENT_RECORDS (R82). Mailbox command returns up to 63 event records. -/
  | getEventRecords (head : Fin 8) (len : BitVec 21) (log : BitVec 8)
  /-- CLEAR_EVENT_RECORDS (R79). Mailbox command clears matching event records and admits held forced-release notices. -/
  | clearEventRecords (head : Fin 8) (len : BitVec 21) (log : BitVec 8) (all : Bool) (handles : List (BitVec 16))
  /-- GET_EVENT_INTERRUPT_POLICY (R82). Mailbox command returns the event interrupt policy. -/
  | getEventInterruptPolicy (head : Fin 8) (len : BitVec 21)
  /-- SET_EVENT_INTERRUPT_POLICY (R82). Mailbox command sets the event interrupt policy. -/
  | setEventInterruptPolicy (head : Fin 8) (len : BitVec 21) (modes : List (Fin 16)) (vectors : List (Fin 256))
  /-- GET_FW_INFO (R82). Mailbox command reports the running firmware image. -/
  | getFwInfo (head : Fin 8) (len : BitVec 21)
  /-- TRANSFER_FW (R82). Mailbox command Transfer FW returns Unsupported. -/
  | transferFw (head : Fin 8)
  /-- ACTIVATE_FW (R82). Mailbox command Activate FW returns Unsupported. -/
  | activateFw (head : Fin 8)
  /-- GET_TIMESTAMP (R334). Mailbox command returns rack time times 1,000 ns, or 0 before rack time has arrived. -/
  | getTimestamp (head : Fin 8) (len : BitVec 21)
  /-- SET_TIMESTAMP (R82). Mailbox command Set Timestamp returns Unsupported. -/
  | setTimestamp (head : Fin 8)
  /-- GET_SUPPORTED_LOGS (R82). Mailbox command lists the Command Effects Log. -/
  | getSupportedLogs (head : Fin 8) (len : BitVec 21)
  /-- GET_LOG (R82). Mailbox command returns the Command Effects Log. -/
  | getLog (head : Fin 8) (len : BitVec 21) (cel : Bool) (offset : Word) (size : Word)
  /-- IDENTIFY_MEMORY_DEVICE (R82). Mailbox command reports capacities, log sizes and limits of the head. -/
  | identifyMemoryDevice (head : Fin 8) (len : BitVec 21)
  /-- GET_PARTITION_INFO (R82). Mailbox command returns all values 0. -/
  | getPartitionInfo (head : Fin 8) (len : BitVec 21)
  /-- GET_HEALTH_INFO (R244). Mailbox command reports health figures from HLT and WGV and the dirty shutdown count. -/
  | getHealthInfo (head : Fin 8) (len : BitVec 21)
  /-- GET_ALERT_CONFIG (R244). Mailbox command reads HLT_WARN. -/
  | getAlertConfig (head : Fin 8) (len : BitVec 21)
  /-- SET_ALERT_CONFIG (R244). Mailbox command writes the warning thresholds of HLT_WARN. -/
  | setAlertConfig (head : Fin 8) (len : BitVec 21) (valid : BitVec 8) (life : BitVec 8) (temperature : BitVec 16)
  /-- GET_SHUTDOWN_STATE (R82). Mailbox command reads the shutdown state from the parameter store. -/
  | getShutdownState (head : Fin 8) (len : BitVec 21)
  /-- SET_SHUTDOWN_STATE (R82). Mailbox command stores the shutdown state in the parameter store. -/
  | setShutdownState (head : Fin 8) (len : BitVec 21) (value : BitVec 8)
  /-- GET_POISON_LIST (R82). Mailbox command returns retained poison records for the head's extents and window. -/
  | getPoisonList (head : Fin 8) (len : BitVec 21) (start : BitVec 64) (size : BitVec 64)
  /-- INJECT_POISON (R82). Mailbox command sets POISON on one 64 B line as R75 does. -/
  | injectPoison (head : Fin 8) (len : BitVec 21) (dpa : BitVec 64)
  /-- CLEAR_POISON (R82). Mailbox command writes 64 B as a full-line write under the covering window's key. -/
  | clearPoison (head : Fin 8) (len : BitVec 21) (dpa : BitVec 64) (data : Line)
  /-- SANITIZE (R82). Mailbox command Sanitize returns Unsupported. -/
  | sanitize (head : Fin 8)
  /-- SECURE_ERASE (R82). Mailbox command Secure Erase returns Unsupported. -/
  | secureErase (head : Fin 8)
  /-- GET_DYNAMIC_CAPACITY_CONFIG (R82). Mailbox command reports the 8 regions and the 256 MiB block size. -/
  | getDynamicCapacityConfig (head : Fin 8) (len : BitVec 21) (count : BitVec 8) (start : BitVec 8)
  /-- GET_DYNAMIC_CAPACITY_EXTENT_LIST (R82). Mailbox command lists the head's ACTIVE and RELEASING extents. -/
  | getDynamicCapacityExtentList (head : Fin 8) (len : BitVec 21) (count : Word) (start : Word)
  /-- ADD_DYNAMIC_CAPACITY_RESPONSE (R53). Host accepts offered extents, moving whole-accepted HXT entries to ACTIVE and others to FREE. -/
  | addDynamicCapacityResponse (head : Fin 8) (len : BitVec 21) (extents : List (BitVec 64 × BitVec 64))
  /-- RELEASE_DYNAMIC_CAPACITY (R52). Host releases extents and each HXT entry passes to RELEASING. -/
  | releaseDynamicCapacity (head : Fin 8) (len : BitVec 21) (extents : List (BitVec 64 × BitVec 64))
  /-- MAILBOX_UNSUPPORTED (R82). An unlisted mailbox opcode returns Unsupported. -/
  | mailboxUnsupported (head : Fin 8) (opcode : BitVec 16)
  /-- SHL_TRAIN_START (R304). A DOWN link starts training after its retry delay or when PD07 powers up. -/
  | shlTrainStart (side : Fin 2)
  /-- SHL_TRAINED (R304). A shelf link PHY trains at x8 or x4 and enters HELLO. -/
  | shlTrained (side : Fin 2) (wide : Bool) (fast : Bool)
  /-- SHL_PHASE_TIMEOUT (R304). TRAIN or HELLO exceeds its bound and the link returns to DOWN. -/
  | shlPhaseTimeout (side : Fin 2)
  /-- HELLO (R306). The HELLO exchange checks cabling, authenticates both ends and derives bootstrap keys, or opens MISCABLE or AUTH_FAIL. -/
  | hello (side : Fin 2) (peer : Fin 32) (peerSide : Fin 2) (chain : Bool) (signature : Bool) (decapsulated : Bool)
  /-- FLIT_RX (R307). A flit is received, corrected, checked and group-verified, with NAK and replay on failure. -/
  | flitRx (side : Fin 2) (seq : Fin 1024) (ack : Fin 1024) (fec : Fin 5) (crc : Bool) (nak : Bool) (groupMac : Bool)
  /-- SHL_IDLE_TIMEOUT (R304). No good flit for IDLE_US moves an UP link to RECOVER. -/
  | shlIdleTimeout (side : Fin 2)
  /-- SHL_RECOVER_TIMEOUT (R304). RECOVER_US elapses without recovery, the link goes DOWN and DOWN_REPORT is sent. -/
  | shlRecoverTimeout (side : Fin 2) (discarded : BitVec 16)
  /-- SHL_RECOVERED (R304). 1 µs of good flits returns a RECOVER link to UP. -/
  | shlRecovered (side : Fin 2)
  /-- SHL_LANE_FAULT (R310). A shelf link lane fails and the link narrows to x4 within 8 µs or enters RECOVER. -/
  | shlLaneFault (side : Fin 2) (lane : Fin 8) (stall : Word)
  /-- LINK_KEY_TICK (R308). Every 60 s the manager issues new link keys for each direction of each link. -/
  | linkKeyTick
  /-- LINK_KEY_SELF_DERIVE (R308). A link with no new key for 120 s derives its next key at both ends and toggles KEY_PHASE. -/
  | linkKeySelfDerive (side : Fin 2)
  /-- PACKET_PASS_THROUGH (R309). A packet not addressed to the part is forwarded on the other link. -/
  | packetPassThrough (side : Fin 2) (opcode : BitVec 8) (source : Fin 32) (destination : Fin 32) (units : Fin 512) (args : List Nat) (data : Option Line)
  /-- MRD (R49). A forwarded line read arrives at the owner, is checked against the LXT and served. -/
  | mrd (line : RingLine)
  /-- MWR (R323). A full-line write to the lead copy is checked and serialised, with ORDER sent for a mirrored line. -/
  | mwr (line : RingLine) (data : Line) (poison : Bool)
  /-- MWRP (R324). A partial write to the lead copy fills, merges and is ordered. -/
  | mwrp (line : RingLine) (data : Line) (mask : BitVec 64) (poison : Bool)
  /-- MWR_M (R323). A full-line write to the other copy is held for its ORDER. -/
  | mwrM (line : RingLine) (data : Line) (poison : Bool) (again : Bool)
  /-- MWRP_M (R324). A partial write to the other copy is held for its ORDER. -/
  | mwrpM (line : RingLine) (data : Line) (mask : BitVec 64) (poison : Bool) (again : Bool)
  /-- RSV (R271). A reservation operation arrives at the lead home and is serialised. -/
  | rsv (line : RingLine) (op : Fin 4) (word : Fin 4) (value : BitVec 128) (slot : Fin 32)
  /-- MRSP (R322). Read data and status return to the ingress part and are answered to the requester. -/
  | mrsp (oid : BitVec 16) (tag : BitVec 16) (status : Fin 8) (data : Line)
  /-- TICKET (R323). A ticket arrives at the ingress part and the write is ticketed on that copy. -/
  | ticket (oid : BitVec 16) (tag : BitVec 16) (copy : Fin 2) (status : Fin 8)
  /-- HOLD (R257). The home reports a held write and the entry stays in the posted-write buffer. -/
  | hold (oid : BitVec 16) (tag : BitVec 16)
  /-- PULL (R257). The home calls for a held write's data and the ingress part sends MWR_DATA. -/
  | pull (source : Fin 32) (oid : BitVec 16) (tag : BitVec 16)
  /-- MWR_DATA (R257). A held write's data arrives at the home and is applied in its ticketed place. -/
  | mwrData (oid : BitVec 16) (tag : BitVec 16) (data : Line) (mask : BitVec 64) (poison : Bool)
  /-- PERSISTED (R263). The owner reports a covered write persistent to the ingress part. -/
  | persisted (oid : BitVec 16) (tag : BitVec 16) (copy : Fin 2)
  /-- RSV_RSP (R273). The result of a reservation operation returns to the ingress part. -/
  | rsvRsp (oid : BitVec 16) (tag : BitVec 16) (result : Fin 8) (loss : Fin 4) (word : BitVec 128)
  /-- ORDER (R323). The partner receives a write's MON and applies held writes strictly in MON order. -/
  | order (order : Word) (ingress : Fin 32) (tag : BitVec 16) (poison : Bool)
  /-- ORDER_ACK (R323). The lead receives ORDER_ACK, serialises the write and sends TICKET, or resends a merged line on FILL_FAIL. -/
  | orderAck (order : Word) (fillFail : Bool)
  /-- BEACON (R317). A manager beacon arrives and refreshes the part's beacon timer. -/
  | beacon (source : Fin 32) (term : Word)
  /-- BEACON_TICK (R317). Every 2 µs the manager sends BEACON in both directions. -/
  | beaconTick
  /-- BEACON_TIMEOUT (R317). No beacon for 16 µs without the manager held failed sets CUT and contains SHM. -/
  | beaconTimeout
  /-- DOWN_REPORT (R316). The manager or deputy receives a link-down report and declares a failure, a break or probes. -/
  | downReport (part : Fin 32) (side : Fin 2) (peer : Fin 32)
  /-- DOWN_REPORT_WINDOW (R316). 1 µs passes with only one end of a link reporting and the manager sends PROBE. -/
  | downReportWindow (link : Fin 32)
  /-- PROBE_RSP (R316). A probe answer in time records a break. -/
  | probeRsp (part : Fin 32)
  /-- PROBE_TIMEOUT (R316). No probe answer in time declares the silent end FAILED. -/
  | probeTimeout (part : Fin 32)
  /-- MEMBER (R318). A membership declaration is applied, updating topology and entering SOLO or failover where it concerns the partner. -/
  | member (source : Fin 32) (term : Word) (part : Fin 32) (state : Fin 16) (topology : Word) (members : Word) (failed : Word) (unreachable : Word) (lag : BitVec 16) (solo : Bool) (extents : List (Fin 49152))
  /-- JOIN (R315). A join fragment is received and reassembled, and each complete join message advances the exchange. -/
  | join (side : Fin 2) (peer : Fin 32) (message : Fin 16) (fragment : Fin 4096) (last : Fin 4096) (total : Word) (bytes : List Byte) (valid : Bool) (cabled : Bool)
  /-- JOIN_TIMEOUT (R315). A join exchange not complete within 100 ms is abandoned and restarted. -/
  | joinTimeout (peer : Fin 32)
  /-- LOSS_REC (R270). A loss record reaches the manager or owner and the owner poisons the lost lines. -/
  | lossRec (words : List Word)
  /-- TBL_WRITE (R321). A manager XTN table access arrives and is applied as XTN_ACC_CMD. -/
  | tblWrite (source : Fin 32) (term : Word) (table : Fin 4) (index : Fin 65536) (write : Bool) (data0 : Word) (data1 : Word) (data2 : Word) (data3 : Word)
  /-- TBL_RSP (R321). The result of a remote table access returns to the manager. -/
  | tblRsp (source : Fin 32) (result : BitVec 8)
  /-- MGR_SYNC (R319). The deputy applies a manager state change and answers SYNC_ACK. -/
  | mgrSync (source : Fin 32) (term : Word) (change : Sync)
  /-- SYNC_ACK (R319). The deputy's acknowledgement lets the manager's state change take effect. -/
  | syncAck
  /-- KEY_ISSUE (R308). A wrapped link key is received and installed, moving a KEYED link to UP. -/
  | keyIssue (source : Fin 32) (term : Word) (side : Fin 2) (send : Bool) (unwraps : Bool)
  /-- RTIME (R339). A ring rack time value arrives and is accepted, armed, or discarded. -/
  | rtime (source : Fin 32) (term : Word) (value : BitVec 64)
  /-- HEALTH (R328). A member health summary reaches the manager and refreshes its table. -/
  | health (source : Fin 32) (words : List Word)
  /-- HEALTH_TICK (R328). Every second a member sends HEALTH to the manager. -/
  | healthTick
  /-- HEALTH_STALE (R328). A member's last report is 3 s old and the manager raises HEALTH_STALE. -/
  | healthStale (part : Fin 32)
  /-- KEY_BLOB (R281). A forwarded import blob arrives and is imported as a KEY_IMPORT. -/
  | keyBlob (source : Fin 32) (term : Word) (slot : Fin 4096) (seed : Option Line)
  /-- MANAGER_TAKEOVER (R320). The deputy has stored TERM + 1 and sends MEMBER and BEACON under the new TERM. -/
  | managerTakeover
  /-- MANAGER_CLAIM (R387). A ROLE = 1 part that gets no JOIN answer in 50 ms takes manager duties. -/
  | managerClaim
  /-- LEAVE (R327). SHM_CMD LEAVE hands the part's leads to its partner and announces it ABSENT. -/
  | leave (path : Path) (plain : Bool)
  /-- HANDBACK (R321). SHM_CMD HANDBACK passes manager duties to the strapped part. -/
  | handback (path : Path)
  /-- RESYNC_DONE (R326). Pair resync completes and the pair passes through HANDBACK to NORMAL. -/
  | resyncDone
  /-- RTICK_EDGE (R331). An RTICK edge anchors the frame, counts as a glitch, or qualifies toward a snap to LOCKED. -/
  | rtickEdge (offset : Int) (spacing : Nat)
  /-- RTICK_MISSED (R331). No good edge 2 µs after the expected boundary counts a missed tick, entering HOLDOVER on the third. -/
  | rtickMissed
  /-- FRAME_BOUNDARY (R335). A frame boundary advances rack time, applies an armed value and computes slot budgets. -/
  | frameBoundary
  /-- RTM_SET (R336). A write of RTM_SET_HI arms a rack time value for the next boundary. -/
  | rtmSet (path : Path) (value : Word)
  /-- RTM_SLOT_MASK_LO (R341). A write of RTM_SLOT_MASK_LO is held until the HI half commits it. -/
  | rtmSlotMaskLo (path : Path) (value : Word)
  /-- RTM_SLOT_MASK_HI (R341). A write of RTM_SLOT_MASK_HI forms and checks a candidate mask and stores it for the next boundary. -/
  | rtmSlotMaskHi (path : Path) (value : Word)
  /-- SEQ_START (R358). SEQ_CMD START leaves STANDBY for state 2 and closes SEQ_CAUSE. -/
  | seqStart (path : Path)
  /-- POWER_DOWN (R376). SEQ_CMD POWER_DOWN runs the clean shutdown and then the downward order. -/
  | powerDown (path : Path)
  /-- SEQ_STATE_SETTLED (R359). Every input of a sequence state has been high for 100 µs and the part releases SEQ_STEP or advances. -/
  | seqStateSettled
  /-- SEQ_STEP_TIMEOUT (R359). A state not settled 20 ms after its first enable fails the attempt. -/
  | seqStepTimeout (rail : Fin 64)
  /-- SEQ_RETRY_WAIT_DONE (R360). After 100 ms in RETRY_WAIT the sequence restarts or stops with RETRY_EXHAUSTED. -/
  | seqRetryWaitDone
  /-- SEQ_DOWN_STEP_DONE (R357). A downward state's power-good falls or 10 ms pass and the part continues down or reaches STANDBY. -/
  | seqDownStepDone
  /-- SEQ_STEP_HIGH (R364). SEQ_STEP is sampled high for 2 µs and the part advances to its next state. -/
  | seqStepHigh
  /-- SEQ_SOLO (R364). A part that waited 25 ms for SEQ_STEP stops driving it and paces alone. -/
  | seqSolo
  /-- RAIL_FAULT (R367). A required input sampled low for 1 µs in RUN causes full shut-off without drain. -/
  | railFault (rail : Fin 64)
  /-- PFAIL (R371). PFAIL_N qualified in RUN enters DRAIN, withholds credits and starts the ADMIT phase. -/
  | pfail
  /-- PFAIL_GLITCH (R369). A PFAIL_N low shorter than 1 µs is counted and raises PFAIL_GLITCH. -/
  | pfailGlitch (ns : Fin 1000)
  /-- ADMIT_END (R371). 10 µs after qualification the homes stop admitting writes and the ledger takes DRAINING. -/
  | admitEnd
  /-- DRAINED (R371). The last dirty line is persistent, the ledger takes DRAINED and the part continues down or returns to RUN. -/
  | drained
  /-- PFAIL_RELEASE (R369). PFAIL_N high for 1 ms counts as released. -/
  | pfailRelease
  /-- CPX_FAULT (R474). An uncorrectable fault of the processor complex or both firmware store copies causes a fatal stop. -/
  | cpxFault (page : Fin 512) (event : Fin 32) (info : Word)
  /-- THERMTRIP_CHECK (R466). Every 100 µs die sensors are compared against 130 °C and THERMTRIP_N asserts with full shut-off on a confirmed trip. -/
  | thermtripCheck (readings : List (Option (BitVec 16)))
  /-- HBM_TRAIN_DONE (R383). An HBM stack finishes training after RUN and the part runs INV_ALL and restore. -/
  | hbmTrainDone (stack : Fin 4) (bad : Word)
  /-- HBM_TRAIN_TIMEOUT (R383). A stack not trained within 120 ms of RUN is failed. -/
  | hbmTrainTimeout (stack : Fin 4)
  /-- META_RESTORE (R384). Key slots, field and epoch tables and extent tables are restored from META and CKP chooses clean start or replay. -/
  | metaRestore (directoryBad : Bool) (segmentBad : Bool)
  /-- ENTER_SERVICE (R385). XTN enters service, the ledger takes RUN and the anti-rollback counters advance. -/
  | enterService
  /-- OBJECT_LOAD_DONE (R386). A checkpoint object finishes loading on demand or in background, and waiting lookups continue. -/
  | objectLoadDone (object : Fin 32768)
  /-- PROVISION (R388). Abager PROVISION builds empty tables, writes a directory and CKP_ROOT and continues as a clean start. -/
  | provision (message : Abager)
  /-- ENEC (R389). CCC ENEC enables target interrupts. -/
  | enec (events : BitVec 8)
  /-- DISEC (R389). CCC DISEC disables target interrupts. -/
  | disec (events : BitVec 8)
  /-- ENTDAA (R389). CCC ENTDAA assigns a dynamic address. -/
  | entdaa (address : BitVec 7)
  /-- SETDASA (R389). CCC SETDASA assigns a dynamic address from the static address. -/
  | setdasa (static : BitVec 7) (address : BitVec 7)
  /-- SETNEWDA (R389). CCC SETNEWDA changes the dynamic address. -/
  | setnewda (address : BitVec 7)
  /-- RSTDAA (R389). CCC RSTDAA resets the dynamic address. -/
  | rstdaa
  /-- SETMWL (R389). CCC SETMWL sets the maximum write length within 69 to 1,024 B. -/
  | setmwl (length : BitVec 16)
  /-- SETMRL (R389). CCC SETMRL sets the maximum read length within 69 to 1,024 B. -/
  | setmrl (length : BitVec 16)
  /-- GETMWL (R389). CCC GETMWL returns the maximum write length. -/
  | getmwl
  /-- GETMRL (R389). CCC GETMRL returns the maximum read length. -/
  | getmrl
  /-- GETPID (R389). CCC GETPID returns the provisional ID. -/
  | getpid
  /-- GETBCR (R389). CCC GETBCR returns 0x27. -/
  | getbcr
  /-- GETDCR (R389). CCC GETDCR returns 0x00. -/
  | getdcr
  /-- GETSTATUS (R389). CCC GETSTATUS returns the target status. -/
  | getstatus
  /-- GETMXDS (R389). CCC GETMXDS returns the data speed limits. -/
  | getmxds
  /-- RSTACT (R389). CCC RSTACT resets I3C and MCTP state and session keys. -/
  | rstact (action : BitVec 8)
  /-- ENTHDR0 (R389). CCC ENTHDR0 enters HDR-DDR for a private transfer. -/
  | enthdr0
  /-- CCC_NACK (R389). An unsupported CCC is NACKed. -/
  | cccNack (code : BitVec 8)
  /-- BUS_ERROR (R389). An I3C bus error TE0 to TE6 discards the transfer and is counted. -/
  | busError (error : Fin 7)
  /-- IBI_SEND (R390). At Bus Available the part requests an in-band interrupt for the oldest queued notice. -/
  | ibiSend (ack : Bool)
  /-- ALERT_TIMEOUT (R392). A notice has waited 1 ms and ALERT_N is driven low. -/
  | alertTimeout
  /-- MCTP_PACKET (R393). An MCTP packet is checked and reassembled into a message. -/
  | mctpPacket (packet : McPacket)
  /-- SET_ENDPOINT_ID (R394). MCTP control command assigns the endpoint ID. -/
  | setEndpointId (source : BitVec 8) (destination : BitVec 8) (inst : Fin 32) (op : Fin 4) (eid : BitVec 8)
  /-- GET_ENDPOINT_ID (R394). MCTP control command returns the endpoint ID. -/
  | getEndpointId (source : BitVec 8) (destination : BitVec 8) (inst : Fin 32)
  /-- GET_ENDPOINT_UUID (R394). MCTP control command returns the derived UUID. -/
  | getEndpointUuid (source : BitVec 8) (destination : BitVec 8) (inst : Fin 32)
  /-- GET_MCTP_VERSION_SUPPORT (R394). MCTP control command returns supported versions. -/
  | getMctpVersionSupport (source : BitVec 8) (destination : BitVec 8) (inst : Fin 32) (type : BitVec 8)
  /-- GET_MESSAGE_TYPE_SUPPORT (R394). MCTP control command returns the message types of Table 15-3. -/
  | getMessageTypeSupport (source : BitVec 8) (destination : BitVec 8) (inst : Fin 32)
  /-- GET_VENDOR_DEFINED_MESSAGE_SUPPORT (R394). MCTP control command returns vendor-defined message support. -/
  | getVendorDefinedMessageSupport (source : BitVec 8) (destination : BitVec 8) (inst : Fin 32) (selector : BitVec 8)
  /-- MCTP_CONTROL_UNSUPPORTED (R394). Any other MCTP control command is answered ERROR_UNSUPPORTED_CMD. -/
  | mctpControlUnsupported (source : BitVec 8) (destination : BitVec 8) (inst : Fin 32) (command : BitVec 8)
  /-- GET_TID (R396). PLDM GetTID returns the terminus ID. -/
  | getTid (eid : BitVec 8) (inst : Fin 32)
  /-- GET_PLDM_VERSION (R396). PLDM GetPLDMVersion returns the version. -/
  | getPldmVersion (eid : BitVec 8) (inst : Fin 32) (type : BitVec 8)
  /-- GET_PLDM_TYPES (R396). PLDM GetPLDMTypes returns types 0 and 2. -/
  | getPldmTypes (eid : BitVec 8) (inst : Fin 32)
  /-- GET_PLDM_COMMANDS (R396). PLDM GetPLDMCommands returns the supported commands. -/
  | getPldmCommands (eid : BitVec 8) (inst : Fin 32) (type : BitVec 8)
  /-- GET_PDR_REPOSITORY_INFO (R396). PLDM command returns repository information. -/
  | getPdrRepositoryInfo (eid : BitVec 8) (inst : Fin 32)
  /-- GET_PDR (R396). PLDM GetPDR returns one PDR. -/
  | getPdr (eid : BitVec 8) (inst : Fin 32) (record : Word)
  /-- GET_SENSOR_READING (R396). PLDM GetSensorReading returns a numeric reading. -/
  | getSensorReading (eid : BitVec 8) (inst : Fin 32) (sensor : BitVec 16)
  /-- GET_STATE_SENSOR_READINGS (R396). PLDM GetStateSensorReadings returns state sensor values. -/
  | getStateSensorReadings (eid : BitVec 8) (inst : Fin 32) (sensor : BitVec 16)
  /-- SET_EVENT_RECEIVER (R396). PLDM SetEventReceiver sets the event receiver. -/
  | setEventReceiver (eid : BitVec 8) (inst : Fin 32) (receiver : Option Byte)
  /-- GET_EVENT_RECEIVER (R396). PLDM GetEventReceiver returns the event receiver. -/
  | getEventReceiver (eid : BitVec 8) (inst : Fin 32)
  /-- GET_INFO (R398). Abager GET_INFO returns identity, stepping, shelf ID, role, firmware version and EID. -/
  | getInfo (message : Abager)
  /-- GET_HEALTH (R398). Abager GET_HEALTH returns the health summary. -/
  | getHealth (message : Abager)
  /-- GET_OP_STATUS (R398). Abager GET_OP_STATUS reports the running and last long operation. -/
  | getOpStatus (message : Abager)
  /-- REG_READ (R399). Abager REG_READ reads a range of registers as management-path accesses. -/
  | regRead (message : Abager)
  /-- REG_WRITE (R399). Abager REG_WRITE writes a range of registers as management-path accesses. -/
  | regWrite (message : Abager)
  /-- UNIT_STATE_LIST (R398). Abager UNIT_STATE_LIST returns UNIT_STATE of all 512 pages. -/
  | unitStateList (message : Abager)
  /-- MEM_READ (R400). Abager MEM_READ reads pool lines under its key index, reporting poison in a bitmap. -/
  | memRead (message : Abager)
  /-- MEM_WRITE (R400). Abager MEM_WRITE writes whole lines and responds after each is serialised. -/
  | memWrite (message : Abager)
  /-- TIME_SET (R336). Abager TIME_SET delivers a rack time value for the next boundary. -/
  | timeSet (message : Abager)
  /-- TIME_GET (R398). Abager TIME_GET returns rack time and RTM_STAT. -/
  | timeGet (message : Abager)
  /-- KEY_EK_GET (R280). Abager KEY_EK_GET returns the encapsulation key and nonce. -/
  | keyEkGet (message : Abager)
  /-- KEY_IMPORT (R281). Abager KEY_IMPORT imports a wrapped seed into a slot. -/
  | keyImport (message : Abager) (seed : Option Line)
  /-- KEY_CLEAR (R282). Abager KEY_CLEAR clears a key slot. -/
  | keyClear (message : Abager)
  /-- FW_TRANSFER (R412). Abager FW_TRANSFER writes a chunk into the transfer buffer. -/
  | fwTransfer (message : Abager)
  /-- FW_ACTIVATE (R412). Abager FW_ACTIVATE starts verification and programming of the buffered image. -/
  | fwActivate (message : Abager)
  /-- ACTIVATE_DONE (R412). A firmware activation completes, NEXT is set and ACTIVATE_DONE is raised. -/
  | activateDone (publicKey : Bool) (signature : Bool)
  /-- GET_DCD_INFO (R401). FM API command returns DCD information on the manager. -/
  | getDcdInfo (eid : BitVec 8)
  /-- GET_HOST_DC_REGION_CONFIGURATION (R401). FM API command returns a host's DC region configuration. -/
  | getHostDcRegionConfiguration (eid : BitVec 8) (host : BitVec 16)
  /-- GET_DC_REGION_EXTENT_LISTS (R401). FM API command returns DC region extent lists. -/
  | getDcRegionExtentLists (eid : BitVec 8) (host : BitVec 16)
  /-- INITIATE_DYNAMIC_CAPACITY_ADD (R401). FM API command grants an extent in the order of R54. -/
  | initiateDynamicCapacityAdd (eid : BitVec 8) (placement : Placement)
  /-- INITIATE_DYNAMIC_CAPACITY_RELEASE (R401). FM API command releases an extent in reverse grant order. -/
  | initiateDynamicCapacityRelease (eid : BitVec 8) (extent : BitVec 21) (forced : Bool)
  /-- SPDM_REQUEST (R413). An SPDM 1.3 request is answered within the supported capabilities. -/
  | spdmRequest (mailbox : Option (Fin 8)) (session : BitVec 16) (code : BitVec 8) (authentic : Bool)
  /-- GET_MEASUREMENTS (R414). SPDM GET_MEASUREMENTS reports the measurement blocks. -/
  | getMeasurements (mailbox : Option (Fin 8)) (session : BitVec 16) (index : BitVec 8) (sign : Bool)
  /-- KEY_EXCHANGE (R415). SPDM KEY_EXCHANGE sets up a session, with mutual authentication against the operator root. -/
  | keyExchange (mailbox : Option (Fin 8)) (root : Line) (authentic : Bool)
  /-- HEARTBEAT_TIMEOUT (R413). A session that misses two heartbeat periods is ended. -/
  | heartbeatTimeout (session : BitVec 16)
  /-- PUF_RECONSTRUCT (R404). At PD04 power-up the island reconstructs PUF_ROOT, retrying up to three times or opening PUF_FAIL. -/
  | pufReconstruct (failures : Fin 4)
  /-- RBG_HEALTH_FAIL (R405). The random bit generator fails its health test and SEC opens INTERNAL. -/
  | rbgHealthFail
  /-- FW_BOOT_VERIFY (R411). At start the ROM verifies BL1 and BL1 verifies the runtime image, falling back or opening FW_INVALID. -/
  | fwBootVerify (publicKeys : Fin 32) (signatures : Fin 32)
  /-- STORE_OPR (R415). SEC_CMD STORE_OPR stores the operator root hash. -/
  | storeOpr (path : Path) (authenticated : Bool)
  /-- DBG_NONCE (R416). JTAG DBG_NONCE shifts out a fresh nonce. -/
  | dbgNonce
  /-- DBG_TOKEN (R416). JTAG DBG_TOKEN is verified and, if valid, triggers the tamper response and opens debug. -/
  | dbgToken (uuid : BitVec 128) (nonce : BitVec 128) (scope : BitVec 8) (signature : Bool)
  /-- TAMPER (R417). A qualified TAMPER_N zeroises keys, discards front memory, drops links and advances KEY_EPOCH. -/
  | tamper (ns : Nat) (held : Bool)
  /-- PST_RAW_READ (R427). PST_ACC_CMD with WRITE = 0 reads one page into PST_ACC_DATA. -/
  | pstRawRead (path : Path) (page : Fin 4096)
  /-- PST_RAW_WRITE (R427). PST_ACC_CMD with WRITE = 1 writes one page in TEST. -/
  | pstRawWrite (path : Path) (page : Fin 4096)
  /-- COUNTER_READ (R434). PST_CTR_CMD READ returns a counter, repairing a skipped STAMP. -/
  | counterRead (path : Path) (counter : Fin 64)
  /-- COUNTER_INCREMENT (R433). PST_CTR_CMD INCREMENT adds DELTA to an operator counter, saturating with EXHAUSTED. -/
  | counterIncrement (path : Path) (counter : Fin 64)
  /-- PST_PAGE_WRITE_DONE (R422). A parameter-store page write ends and the next queued write starts. -/
  | pstPageWriteDone
  /-- AON_LOW (R424). The AON supply falls below AON_LOW and no further page write starts. -/
  | aonLow
  /-- CPD_ARM (R441). CPD_CTL.ARM arms the shadow set and starts it when the channel is idle. -/
  | cpdArm (path : Path) (channel : Fin 32)
  /-- ABORT (R445). CPD_CTL.ABORT stops a busy or halted channel after lines in flight resolve. -/
  | copyAbort (path : Path) (channel : Fin 32)
  /-- RETRY (R445). CPD_CTL.RESUME RETRY restarts a halted channel at DONE. -/
  | retry (path : Path) (channel : Fin 32)
  /-- SKIP (R445). CPD_CTL.RESUME SKIP restarts a halted channel past the failed line. -/
  | skip (path : Path) (channel : Fin 32)
  /-- GO (R447). CPS_CTL.GO starts a simple channel's descriptor. -/
  | copyGo (path : Path) (channel : Fin 8)
  /-- CPS_ABORT (R445). CPS_CTL.ABORT stops a simple channel. -/
  | cpsAbort (path : Path) (channel : Fin 8)
  /-- COPY_LINE_DONE (R440). A channel's line read or write completes or fails, advancing DONE, halting or completing the descriptor. -/
  | copyLineDone (channel : Fin 40)
  /-- COPY_LINE_RETRY (R443). 1 µs after a line fails it is reissued. -/
  | copyLineRetry (channel : Fin 40)
  /-- START (R453). EVQ_PUSH_CTL.START reserves a packet's length word in a queue. -/
  | pushStart (path : Path) (queue : Fin 64) (length : BitVec 16)
  /-- PUSH_DATA (R453). A write of EVQ_PUSH_DATA appends 4 B to the open packet. -/
  | pushData (path : Path) (data : Word)
  /-- END (R453). EVQ_PUSH_CTL.END writes the length word and makes the packet visible. -/
  | pushEnd (path : Path)
  /-- PUSH_TIMEOUT (R452). A push open for 10 ms is closed TRUNCATED. -/
  | pushTimeout (path : Path)
  /-- POP (R454). EVQ_RD_CTL.POP frees the head packet of the selected queue. -/
  | queuePop (path : Path)
  /-- QOS_WINDOW (R457). A regulation window boundary resets master counts and applies pending configuration. -/
  | qosWindow
  /-- QOS_PROMOTE (R458). A LOW request that waited AGE_US at one point becomes NORMAL. -/
  | qosPromote (master : Fin 64) (point : Fin 4) (request : Nat)
  /-- SNAP (R470). PMC_CTL.SNAP latches the counters of listed pages into PMC_SNAP. -/
  | snap (path : Path)
  /-- PMC_AUTO_SNAP (R470). Each PMC_PERIOD with AUTO = 1 takes a snapshot or counts a skip. -/
  | pmcAutoSnap
  /-- SNAP_DONE (R470). A snapshot completes, BUSY clears and SNAP_DONE is raised. -/
  | snapDone
  /-- TRV_SCRUB (R480). Every SCRUB_US TRV votes each word, repairing one bad copy or making a fatal stop. -/
  | trvScrub (upsets : List (Fin 32 × Fin 3 × Word))
  /-- TRV_FLIP_ARM (R485). TRV_FLIP_CTL.ARM corrupts one copy of a word at the next scrub in TEST. -/
  | trvFlipArm (path : Path) (copy : Fin 4) (word : Fin 32)
  /-- RESET_N_RELEASE (R499). Release of RESET_N lets the part leave sequence state 0 after a WARM reset, so the management path answers and STANDBY and the milestones follow. -/
  | resetNRelease
  /-- SHELF_PROBE (R316). A PROBE packet reaches the silent end of a link, which answers with PROBE_RSP on the other route. -/
  | shelfProbe (side : Fin 2) (source : Fin 32) (term : Word)
  /-- CHATTER (R359). A low sample of a power-good input restarts its 100 µs settle timer, adds to its chatter count and raises CHATTER, or is ignored as shorter than 1 µs in RUN. -/
  | chatter (rail : Fin 64)
  /-- AON_LOW_RELEASE (R424). VAON rises above 1.70 V, AON_LOW is released and queued parameter-store page writes may start again. -/
  | aonLowRelease
  /-- ARRAY_OP_TIMEOUT (R158). An array operation on a die does not end within the bound of R154, and the die is declared failed. -/
  | arrayOpTimeout (channel : Fin 16) (die : Fin 8) (partition : Fin 16)
  /-- RBG_HEALTH_PASS (R405). The random bit generator passes its continuous health test again, and operations that need a fresh draw stop completing with BUSY. -/
  | rbgHealthPass
deriving DecidableEq, Repr

end Sys2Proof
end

