-- ==== Sys2Proof/Decode.lean ====
section
/-! DEFINITION. The words that spell commands. The table of operations gives no row any bits: a command comes on a bus, a pin or a queue, not in a word, so no word
spells one. -/

namespace Sys2Proof

/-- The command that a word of `nbits` bits spells by the bits of the table of operations: none, since no row has bits. -/
def decodeTableWord (_nbits _w : Nat) : Option Instr := none

end Sys2Proof
end

