-- ==== Sys2Proof/Config.lean ====
section
/-! DEFINITION. What an implementation or a single part fixes, and the values that the spec leaves open: constants with no body,
so that nothing can be proved of their value. Each has a log entry. -/

namespace Sys2Proof.Config

/-- The n-th value that the spec leaves open, as a number (log entry 2). -/
opaque free : Nat → Nat

/-- The n-th draw of the random bit generator of R405, as a number (log entry 3). -/
opaque draw : Nat → Nat

/-- The die serial number before the two values that R494 excludes are set aside (log entry 4). -/
opaque serialSeed : BitVec 64

/-- The first 16 bytes of the hash of the identity public key, as a number, before the two fields of Table 16-1 are set (log entry 99). -/
opaque uuidSeed : BitVec 128

/-- Word `word` of the encapsulation key made from draw `draw` (R280; log entry 106). -/
opaque ekWord (draw word : Nat) : BitVec 32

/-- What measurement 1 reports of the mask ROM (log entry 99). -/
opaque romImage : BitVec 512

end Sys2Proof.Config
end

