-- ==== Sys2Proof/Machine/Fields.lean ====
section
/-! DEFINITION. The bit fields of every register, one constant for each row of the field tables of spec/ (R5, R11),
taken from the register maps (offset) and the field tables (bits). For a register that repeats, `step` is the distance of one
copy from the next. -/

namespace Sys2Proof.Machine

@[reducible] def F.PAGE_ID.BLOCK_TYPE : Fld := ⟨0x0, 0, 8, 0⟩
@[reducible] def F.PAGE_ID.INSTANCE : Fld := ⟨0x0, 8, 8, 0⟩
@[reducible] def F.PAGE_ID.LAYOUT : Fld := ⟨0x0, 16, 8, 0⟩
@[reducible] def F.PAGE_CAPS.STATES : Fld := ⟨0x4, 0, 7, 0⟩
@[reducible] def F.PAGE_CAPS.PMC : Fld := ⟨0x4, 7, 1, 0⟩
@[reducible] def F.PAGE_CAPS.EVT_COUNT : Fld := ⟨0x4, 8, 6, 0⟩
@[reducible] def F.PAGE_CAPS.BLOCK_CAPS : Fld := ⟨0x4, 16, 16, 0⟩
@[reducible] def F.UNIT_STATE.STATE : Fld := ⟨0x8, 0, 4, 0⟩
@[reducible] def F.UNIT_STATE.CAUSE_OPEN : Fld := ⟨0x8, 4, 1, 0⟩
@[reducible] def F.UNIT_STATE.EPOCH : Fld := ⟨0x8, 16, 16, 0⟩
@[reducible] def F.UNIT_CMD.TARGET : Fld := ⟨0xC, 0, 4, 0⟩
@[reducible] def F.UNIT_CMD.PENDING : Fld := ⟨0xC, 7, 1, 0⟩
@[reducible] def F.UNIT_CMD.RESULT : Fld := ⟨0xC, 8, 8, 0⟩
@[reducible] def F.UNIT_CMD.EXP_EPOCH : Fld := ⟨0xC, 16, 16, 0⟩
@[reducible] def F.EVT_ROUTE.DEST : Fld := ⟨0x1C, 0, 2, 0⟩
@[reducible] def F.EVT_ROUTE.HEAD : Fld := ⟨0x1C, 4, 3, 0⟩
@[reducible] def F.EVT_ROUTE.QUEUE : Fld := ⟨0x1C, 8, 6, 0⟩
@[reducible] def F.EVT_ROUTE.VECTOR : Fld := ⟨0x1C, 16, 11, 0⟩
@[reducible] def F.ERR_INFO0.EVENT : Fld := ⟨0x20, 0, 8, 0⟩
@[reducible] def F.ERR_INFO0.CODE : Fld := ⟨0x20, 8, 8, 0⟩
@[reducible] def F.ERR_INFO0.DETAIL : Fld := ⟨0x20, 16, 14, 0⟩
@[reducible] def F.ERR_INFO0.FORCED : Fld := ⟨0x20, 30, 1, 0⟩
@[reducible] def F.ERR_INFO0.MORE : Fld := ⟨0x20, 31, 1, 0⟩
@[reducible] def F.ERR_INFO1.INFO : Fld := ⟨0x24, 0, 32, 0⟩
@[reducible] def F.ERR_INFO2.INFO : Fld := ⟨0x28, 0, 32, 0⟩
@[reducible] def F.ERR_INFO3.INFO : Fld := ⟨0x2C, 0, 32, 0⟩
@[reducible] def F.PAGE_LOCK.LOCK : Fld := ⟨0x30, 0, 1, 0⟩
@[reducible] def F.PAGE_REJECT.CODE : Fld := ⟨0x34, 0, 8, 0⟩
@[reducible] def F.PAGE_REJECT.MORE : Fld := ⟨0x34, 8, 1, 0⟩
@[reducible] def F.PAGE_REJECT.PATH : Fld := ⟨0x34, 9, 1, 0⟩
@[reducible] def F.PAGE_REJECT.OFFSET : Fld := ⟨0x34, 12, 12, 0⟩
@[reducible] def F.XTN_SELF.SHELF_ID : Fld := ⟨0x40, 0, 5, 0⟩
@[reducible] def F.XTN_SELF.MANAGER : Fld := ⟨0x40, 5, 1, 0⟩
@[reducible] def F.XTN_SELF.LXT_COUNT : Fld := ⟨0x40, 16, 16, 0⟩
@[reducible] def F.XTN_ACC_CMD.TABLE : Fld := ⟨0x44, 0, 2, 0⟩
@[reducible] def F.XTN_ACC_CMD.WRITE : Fld := ⟨0x44, 2, 1, 0⟩
@[reducible] def F.XTN_ACC_CMD.INDEX : Fld := ⟨0x44, 4, 16, 0⟩
@[reducible] def F.XTN_ACC_STAT.BUSY : Fld := ⟨0x48, 0, 1, 0⟩
@[reducible] def F.XTN_ACC_STAT.RESULT : Fld := ⟨0x48, 8, 8, 0⟩
@[reducible] def F.XTN_ACC_DATA.DATA : Fld := ⟨0x4C, 0, 32, 4⟩
@[reducible] def F.XTN_DCNT.COUNT : Fld := ⟨0x60, 0, 32, 4⟩
@[reducible] def F.WIN_CTL.COMMITTED : Fld := ⟨0x100, 0, 1, 16⟩
@[reducible] def F.WIN_CTL.TYPE : Fld := ⟨0x100, 1, 2, 16⟩
@[reducible] def F.WIN_CTL.REGION : Fld := ⟨0x100, 3, 3, 16⟩
@[reducible] def F.WIN_CTL.IW : Fld := ⟨0x100, 8, 4, 16⟩
@[reducible] def F.WIN_CTL.IG : Fld := ⟨0x100, 12, 4, 16⟩
@[reducible] def F.WIN_CTL.KEY : Fld := ⟨0x100, 16, 12, 16⟩
@[reducible] def F.WIN_CTL.KEY_VALID : Fld := ⟨0x100, 28, 1, 16⟩
@[reducible] def F.WIN_BASE_LO.BASE_LO : Fld := ⟨0x104, 28, 4, 16⟩
@[reducible] def F.WIN_BASE_HI.BASE_HI : Fld := ⟨0x108, 0, 32, 16⟩
@[reducible] def F.WIN_SIZE.SIZE : Fld := ⟨0x10C, 0, 32, 16⟩
@[reducible] def F.HPT_PORT_CFG.SPLIT : Fld := ⟨0x40, 0, 1, 0⟩
@[reducible] def F.HPT_PORT_CFG.L0P_EN : Fld := ⟨0x40, 1, 1, 0⟩
@[reducible] def F.HPT_PORT_CFG.MAX_SPEED : Fld := ⟨0x40, 2, 2, 0⟩
@[reducible] def F.HPT_LINK_STAT.UP : Fld := ⟨0x44, 0, 1, 0⟩
@[reducible] def F.HPT_LINK_STAT.FLIT : Fld := ⟨0x44, 1, 1, 0⟩
@[reducible] def F.HPT_LINK_STAT.CXL_MEM : Fld := ⟨0x44, 2, 1, 0⟩
@[reducible] def F.HPT_LINK_STAT.SPEED : Fld := ⟨0x44, 3, 3, 0⟩
@[reducible] def F.HPT_LINK_STAT.WIDTH : Fld := ⟨0x44, 6, 5, 0⟩
@[reducible] def F.HPT_LINK_STAT.L0P_WIDTH : Fld := ⟨0x44, 11, 5, 0⟩
@[reducible] def F.HPT_LINK_STAT.IDE_ACTIVE : Fld := ⟨0x44, 16, 1, 0⟩
@[reducible] def F.HPT_LANE_ERR.LANE_FAULT : Fld := ⟨0x48, 0, 16, 0⟩
@[reducible] def F.HPT_CAUSE.LINK_DOWN : Fld := ⟨0x4C, 0, 1, 0⟩
@[reducible] def F.HPT_CAUSE.IDE_FAIL : Fld := ⟨0x4C, 1, 1, 0⟩
@[reducible] def F.HPT_CAUSE.INTERNAL : Fld := ⟨0x4C, 2, 1, 0⟩
@[reducible] def F.HPT_CAUSE.NARROW : Fld := ⟨0x4C, 8, 1, 0⟩
@[reducible] def F.HPT_CAUSE.SLOW : Fld := ⟨0x4C, 9, 1, 0⟩
@[reducible] def F.HPT_PWB.OCCUPIED : Fld := ⟨0x50, 0, 9, 0⟩
@[reducible] def F.HPT_PWB.HIGH_WATER : Fld := ⟨0x50, 9, 9, 0⟩
@[reducible] def F.HPT_RDQ.OUTSTANDING : Fld := ⟨0x54, 0, 11, 0⟩
@[reducible] def F.HPT_RDQ.HIGH_WATER : Fld := ⟨0x54, 11, 11, 0⟩
@[reducible] def F.HPT_QOS_CFG.T_OPT : Fld := ⟨0x58, 0, 7, 0⟩
@[reducible] def F.HPT_QOS_CFG.T_MOD : Fld := ⟨0x58, 8, 7, 0⟩
@[reducible] def F.HPT_QOS_CFG.T_SEV : Fld := ⟨0x58, 16, 7, 0⟩
@[reducible] def F.HPT_QOS_STAT.DEVLOAD : Fld := ⟨0x5C, 0, 2, 0⟩
@[reducible] def F.HPT_QOS_STAT.FILL : Fld := ⟨0x5C, 2, 7, 0⟩
@[reducible] def F.HPT_MBX_LAST.OPCODE : Fld := ⟨0x60, 0, 16, 0⟩
@[reducible] def F.HPT_MBX_LAST.RETURN : Fld := ⟨0x60, 16, 16, 0⟩
@[reducible] def F.HPT_EVLOG.INFO : Fld := ⟨0x64, 0, 7, 0⟩
@[reducible] def F.HPT_EVLOG.WARN : Fld := ⟨0x64, 8, 7, 0⟩
@[reducible] def F.HPT_EVLOG.FAIL : Fld := ⟨0x64, 16, 7, 0⟩
@[reducible] def F.HPT_EVLOG.FATAL : Fld := ⟨0x64, 24, 7, 0⟩
@[reducible] def F.HPT_EVLOG_DC.COUNT : Fld := ⟨0x68, 0, 9, 0⟩
@[reducible] def F.HPT_EVLOG_DC.FORCED_PEND : Fld := ⟨0x68, 16, 14, 0⟩
@[reducible] def F.HPT_EVLOG_MERGE.COUNT : Fld := ⟨0x6C, 0, 32, 0⟩
@[reducible] def F.HPT_MSI_DROP.COUNT : Fld := ⟨0x70, 0, 32, 0⟩
@[reducible] def F.HPT_IDE_STAT.MEM_STREAM : Fld := ⟨0x74, 0, 1, 0⟩
@[reducible] def F.HPT_IDE_STAT.IO_LINK : Fld := ⟨0x74, 1, 1, 0⟩
@[reducible] def F.FCC_CFG.SCRUB_EN : Fld := ⟨0x40, 0, 1, 0⟩
@[reducible] def F.FCC_CFG.SCRUB_LAP_LIMIT : Fld := ⟨0x40, 8, 8, 0⟩
@[reducible] def F.FCC_CAUSE.STACK_LOST : Fld := ⟨0x44, 0, 1, 0⟩
@[reducible] def F.FCC_CAUSE.PC_LOST : Fld := ⟨0x44, 1, 1, 0⟩
@[reducible] def F.FCC_CAUSE.PARTNER_LOSS : Fld := ⟨0x44, 2, 1, 0⟩
@[reducible] def F.FCC_CAUSE.INTERNAL : Fld := ⟨0x44, 3, 1, 0⟩
@[reducible] def F.FCC_PC_FAIL.PC_FAIL : Fld := ⟨0x48, 0, 32, 0⟩
@[reducible] def F.FCC_WAYS.CACHE : Fld := ⟨0x4C, 0, 3, 0⟩
@[reducible] def F.FCC_WAYS.WINDOW : Fld := ⟨0x4C, 3, 3, 0⟩
@[reducible] def F.FCC_WAYS.DISABLED : Fld := ⟨0x4C, 6, 3, 0⟩
@[reducible] def F.FCC_SCRUB_POS.LINE : Fld := ⟨0x50, 0, 30, 0⟩
@[reducible] def F.FCC_SCRUB_LAP.LAST_LAP : Fld := ⟨0x54, 0, 16, 0⟩
@[reducible] def F.FCC_SCRUB_LAP.LAPS : Fld := ⟨0x54, 16, 16, 0⟩
@[reducible] def F.FCC_PAR_CORR.COUNT : Fld := ⟨0x58, 0, 32, 0⟩
@[reducible] def F.FCC_PAR_UNCORR.COUNT : Fld := ⟨0x5C, 0, 32, 0⟩
@[reducible] def F.FCC_FLIP_CTL.ARM : Fld := ⟨0x60, 0, 1, 0⟩
@[reducible] def F.FCC_FLIP_CTL.TARGET : Fld := ⟨0x60, 1, 3, 0⟩
@[reducible] def F.FCC_FLIP_LO.MASK : Fld := ⟨0x64, 0, 32, 0⟩
@[reducible] def F.FCC_FLIP_HI.MASK : Fld := ⟨0x68, 0, 32, 0⟩
@[reducible] def F.FCC_MIRROR_USED.SLOTS : Fld := ⟨0x6C, 0, 26, 0⟩
@[reducible] def F.FCM_CTL.ENABLE : Fld := ⟨0x40, 0, 1, 0⟩
@[reducible] def F.FCM_STAT.ENABLED : Fld := ⟨0x44, 0, 1, 0⟩
@[reducible] def F.FCM_STAT.DISABLING : Fld := ⟨0x44, 1, 1, 0⟩
@[reducible] def F.FCM_STAT.CLEAN_SLATE : Fld := ⟨0x44, 2, 1, 0⟩
@[reducible] def F.FCM_STAT.OP_BUSY : Fld := ⟨0x44, 3, 1, 0⟩
@[reducible] def F.FCM_STAT.ABORTED : Fld := ⟨0x44, 4, 1, 0⟩
@[reducible] def F.FCM_STAT.AT_LIMIT : Fld := ⟨0x44, 5, 1, 0⟩
@[reducible] def F.FCM_OP.OP : Fld := ⟨0x48, 0, 4, 0⟩
@[reducible] def F.FCM_OP.MODE : Fld := ⟨0x48, 4, 1, 0⟩
@[reducible] def F.FCM_OP.HEAD : Fld := ⟨0x48, 5, 3, 0⟩
@[reducible] def F.FCM_OP.ABORT : Fld := ⟨0x48, 8, 1, 0⟩
@[reducible] def F.FCM_ADDR_LO.PAGE_LO : Fld := ⟨0x4C, 0, 32, 0⟩
@[reducible] def F.FCM_ADDR_HI.PAGE_HI : Fld := ⟨0x50, 0, 20, 0⟩
@[reducible] def F.FCM_COUNT.COUNT : Fld := ⟨0x54, 0, 24, 0⟩
@[reducible] def F.FCM_SETWAY.SET : Fld := ⟨0x58, 0, 21, 0⟩
@[reducible] def F.FCM_SETWAY.WAY : Fld := ⟨0x58, 21, 4, 0⟩
@[reducible] def F.FCM_SETWAY.HALF : Fld := ⟨0x58, 25, 1, 0⟩
@[reducible] def F.FCM_PROGRESS.DONE : Fld := ⟨0x5C, 0, 24, 0⟩
@[reducible] def F.FCM_RESULT.CODE : Fld := ⟨0x60, 0, 8, 0⟩
@[reducible] def F.FCM_RESULT.SKIPPED : Fld := ⟨0x60, 8, 24, 0⟩
@[reducible] def F.FCM_DIRTY.LINES : Fld := ⟨0x64, 0, 29, 0⟩
@[reducible] def F.FCM_DIRTY_LIMIT.LINES : Fld := ⟨0x68, 0, 29, 0⟩
@[reducible] def F.FCM_WB_STALL.COUNT : Fld := ⟨0x6C, 0, 32, 0⟩
@[reducible] def F.FCM_PROBE0.PAGE : Fld := ⟨0x70, 0, 32, 0⟩
@[reducible] def F.FCM_PROBE1.KEY : Fld := ⟨0x74, 0, 12, 0⟩
@[reducible] def F.FCM_PROBE1.TAG_VALID : Fld := ⟨0x74, 12, 1, 0⟩
@[reducible] def F.FCM_PROBE1.WINDOW : Fld := ⟨0x74, 13, 1, 0⟩
@[reducible] def F.FCM_PROBE1.DISABLED : Fld := ⟨0x74, 14, 1, 0⟩
@[reducible] def F.FCM_PROBE1.LRU : Fld := ⟨0x74, 16, 4, 0⟩
@[reducible] def F.FCM_PROBE2.VALID : Fld := ⟨0x78, 0, 32, 0⟩
@[reducible] def F.FCM_PROBE3.DIRTY : Fld := ⟨0x7C, 0, 32, 0⟩
@[reducible] def F.FCM_PROBE4.PATCHED : Fld := ⟨0x80, 0, 32, 0⟩
@[reducible] def F.VWN_CFG.SIZE : Fld := ⟨0x40, 0, 3, 0⟩
@[reducible] def F.VWN_STAT.CURRENT : Fld := ⟨0x44, 0, 3, 0⟩
@[reducible] def F.VWN_STAT.RESIZING : Fld := ⟨0x44, 3, 1, 0⟩
@[reducible] def F.VWN_STAT.BYPASS : Fld := ⟨0x44, 4, 1, 0⟩
@[reducible] def F.VWN_STAT.REMAPPING : Fld := ⟨0x44, 5, 1, 0⟩
@[reducible] def F.VWN_STAT.LOST_FRAMES : Fld := ⟨0x44, 8, 24, 0⟩
@[reducible] def F.VWN_CMD.REMAP : Fld := ⟨0x48, 0, 1, 0⟩
@[reducible] def F.VWN_POISON_READ.COUNT : Fld := ⟨0x4C, 0, 32, 0⟩
@[reducible] def F.VWN_PARTIAL_DROP.COUNT : Fld := ⟨0x50, 0, 32, 0⟩
@[reducible] def F.VWN_LOST_WRITE.COUNT : Fld := ⟨0x54, 0, 32, 0⟩
@[reducible] def F.MCH_CFG.MAX_ACTIVE : Fld := ⟨0x40, 0, 5, 0⟩
@[reducible] def F.MCH_CFG.SUSP_EN : Fld := ⟨0x40, 5, 1, 0⟩
@[reducible] def F.MCH_CAUSE.CHAN_FAULT : Fld := ⟨0x44, 0, 1, 0⟩
@[reducible] def F.MCH_CAUSE.DIE_LOST : Fld := ⟨0x44, 1, 1, 0⟩
@[reducible] def F.MCH_CAUSE.REBUILD : Fld := ⟨0x44, 2, 1, 0⟩
@[reducible] def F.MCH_CAUSE.INTERNAL : Fld := ⟨0x44, 3, 1, 0⟩
@[reducible] def F.MCH_DIE_STATE.DIE : Fld := ⟨0x48, 0, 32, 0⟩
@[reducible] def F.MCH_DIE_SEL.DIE : Fld := ⟨0x4C, 0, 3, 0⟩
@[reducible] def F.MCH_PSTATE.PART : Fld := ⟨0x50, 0, 32, 0⟩
@[reducible] def F.MCH_TEMP.TEMP : Fld := ⟨0x54, 0, 12, 0⟩
@[reducible] def F.MCH_TEMP.VALID : Fld := ⟨0x54, 12, 1, 0⟩
@[reducible] def F.MCH_TEMP.SOURCE : Fld := ⟨0x54, 13, 3, 0⟩
@[reducible] def F.MCH_LINK.TRAINED : Fld := ⟨0x58, 0, 1, 0⟩
@[reducible] def F.MCH_LINK.RETRAINS : Fld := ⟨0x58, 8, 8, 0⟩
@[reducible] def F.MCH_CORR.COUNT : Fld := ⟨0x5C, 0, 32, 0⟩
@[reducible] def F.MCH_UNCORR.COUNT : Fld := ⟨0x60, 0, 32, 0⟩
@[reducible] def F.MCH_RECON.COUNT : Fld := ⟨0x64, 0, 32, 0⟩
@[reducible] def F.MCH_PROG_FAIL.COUNT : Fld := ⟨0x68, 0, 32, 0⟩
@[reducible] def F.MCH_RST_FAIL.COUNT : Fld := ⟨0x6C, 0, 32, 0⟩
@[reducible] def F.MCH_SUSP.COUNT : Fld := ⟨0x70, 0, 32, 0⟩
@[reducible] def F.MCH_SUSP_WAIT.COUNT : Fld := ⟨0x74, 0, 32, 0⟩
@[reducible] def F.MCH_CRC_ERR.COUNT : Fld := ⟨0x78, 0, 32, 0⟩
@[reducible] def F.MCH_OVERRIDE.COUNT : Fld := ⟨0x7C, 0, 32, 0⟩
@[reducible] def F.MCH_FLIP_CTL.ARM : Fld := ⟨0x80, 0, 1, 0⟩
@[reducible] def F.MCH_FLIP_CTL.DIE : Fld := ⟨0x80, 1, 3, 0⟩
@[reducible] def F.MCH_FLIP_CTL.FRAME : Fld := ⟨0x80, 4, 6, 0⟩
@[reducible] def F.MCH_FLIP_CTL.HEADER : Fld := ⟨0x80, 10, 1, 0⟩
@[reducible] def F.MCH_FLIP.MASK : Fld := ⟨0x84, 0, 32, 4⟩
@[reducible] def F.MCH_DIE_ID.ID : Fld := ⟨0x94, 0, 32, 4⟩
@[reducible] def F.MAP_CFG.RETRY_MAX : Fld := ⟨0x40, 0, 2, 0⟩
@[reducible] def F.MAP_CFG.DEEP_EN : Fld := ⟨0x40, 2, 1, 0⟩
@[reducible] def F.MAP_CFG.SPEC_EN : Fld := ⟨0x40, 3, 1, 0⟩
@[reducible] def F.MAP_CFG.BG_MAX : Fld := ⟨0x40, 16, 12, 0⟩
@[reducible] def F.MAP_RD_STAT.IN_FLIGHT : Fld := ⟨0x44, 0, 13, 0⟩
@[reducible] def F.MAP_RD_STAT.BG_IN_FLIGHT : Fld := ⟨0x44, 13, 13, 0⟩
@[reducible] def F.MAP_RD_STAT.FULL : Fld := ⟨0x44, 26, 1, 0⟩
@[reducible] def F.MAP_RD_HWM.HIGH_WATER : Fld := ⟨0x48, 0, 13, 0⟩
@[reducible] def F.MAP_SEG_STAT.LOADED : Fld := ⟨0x4C, 0, 15, 0⟩
@[reducible] def F.MAP_SEG_STAT.ALL_LOADED : Fld := ⟨0x4C, 15, 1, 0⟩
@[reducible] def F.MAP_ACC_PAGE.PAGE : Fld := ⟨0x50, 0, 32, 0⟩
@[reducible] def F.MAP_ACC_LO.ENTRY_LO : Fld := ⟨0x54, 0, 32, 0⟩
@[reducible] def F.MAP_ACC_HI.ENTRY_HI : Fld := ⟨0x58, 0, 32, 0⟩
@[reducible] def F.MAP_ACC_STAT.BUSY : Fld := ⟨0x5C, 0, 1, 0⟩
@[reducible] def F.MAP_ACC_STAT.RESULT : Fld := ⟨0x5C, 8, 8, 0⟩
@[reducible] def F.MAP_RETRY.COUNT : Fld := ⟨0x60, 0, 32, 0⟩
@[reducible] def F.MAP_RETRY_OK.COUNT : Fld := ⟨0x64, 0, 32, 0⟩
@[reducible] def F.MAP_DEEP.COUNT : Fld := ⟨0x68, 0, 32, 0⟩
@[reducible] def F.MAP_DEEP_OK.COUNT : Fld := ⟨0x6C, 0, 32, 0⟩
@[reducible] def F.MAP_UNRECOV.COUNT : Fld := ⟨0x70, 0, 32, 0⟩
@[reducible] def F.MAP_TAG_FAIL.COUNT : Fld := ⟨0x74, 0, 32, 0⟩
@[reducible] def F.MAP_ALIAS.COUNT : Fld := ⟨0x78, 0, 32, 0⟩
@[reducible] def F.MAP_POISON_RD.COUNT : Fld := ⟨0x7C, 0, 32, 0⟩
@[reducible] def F.MAP_SQUASH.COUNT : Fld := ⟨0x80, 0, 32, 0⟩
@[reducible] def F.MAP_SEG_REBUILD.COUNT : Fld := ⟨0x84, 0, 32, 0⟩
@[reducible] def F.PTX_LIVE.SLOTS : Fld := ⟨0x40, 0, 30, 0⟩
@[reducible] def F.PTX_STAGED.SLOTS : Fld := ⟨0x44, 0, 28, 0⟩
@[reducible] def F.PTX_POISONED.SLOTS : Fld := ⟨0x48, 0, 30, 0⟩
@[reducible] def F.PTX_PROBE_HIST.COUNT : Fld := ⟨0x4C, 0, 32, 4⟩
@[reducible] def F.PTX_LOOKUP_HIT.COUNT : Fld := ⟨0x5C, 0, 32, 0⟩
@[reducible] def F.PTX_LOOKUP_NONE.COUNT : Fld := ⟨0x60, 0, 32, 0⟩
@[reducible] def F.PTX_SPEC_LATE.COUNT : Fld := ⟨0x64, 0, 32, 0⟩
@[reducible] def F.PTX_ACC_CMD.LINE : Fld := ⟨0x68, 0, 6, 0⟩
@[reducible] def F.PTX_ACC_CMD.START : Fld := ⟨0x68, 6, 1, 0⟩
@[reducible] def F.PTX_ACC_PAGE.PAGE : Fld := ⟨0x6C, 0, 32, 0⟩
@[reducible] def F.PTX_ACC_LO.SLOT_LO : Fld := ⟨0x70, 0, 32, 0⟩
@[reducible] def F.PTX_ACC_HI.SLOT_HI : Fld := ⟨0x74, 0, 32, 0⟩
@[reducible] def F.PTX_ACC_STAT.BUSY : Fld := ⟨0x78, 0, 1, 0⟩
@[reducible] def F.PTX_ACC_STAT.FOUND : Fld := ⟨0x78, 1, 1, 0⟩
@[reducible] def F.PTX_ACC_STAT.PROBED : Fld := ⟨0x78, 2, 2, 0⟩
@[reducible] def F.PTX_ACC_STAT.RESULT : Fld := ⟨0x78, 8, 8, 0⟩
@[reducible] def F.PTX_FOLD_CFG.DENSE_LINES : Fld := ⟨0x100, 0, 7, 0⟩
@[reducible] def F.PTX_FOLD_CFG.HOLD_US : Fld := ⟨0x100, 8, 7, 0⟩
@[reducible] def F.PTX_FOLD_CFG.HOLDUP_WAIT_MS : Fld := ⟨0x100, 16, 10, 0⟩
@[reducible] def F.PTX_LOAD_CFG.LOAD_HIGH : Fld := ⟨0x104, 0, 7, 0⟩
@[reducible] def F.PTX_LOG_USED.PAGES : Fld := ⟨0x108, 0, 25, 0⟩
@[reducible] def F.PTX_LOG_CFG.LOG_HIGH : Fld := ⟨0x10C, 0, 25, 0⟩
@[reducible] def F.PTX_LOG_SEQ_LO.SEQ : Fld := ⟨0x110, 0, 32, 0⟩
@[reducible] def F.PTX_LOG_SEQ_HI.SEQ : Fld := ⟨0x114, 0, 32, 0⟩
@[reducible] def F.PTX_FOLD_ACTIVE.FOLDS : Fld := ⟨0x118, 0, 10, 0⟩
@[reducible] def F.PTX_FOLD_DENSE.COUNT : Fld := ⟨0x120, 0, 32, 0⟩
@[reducible] def F.PTX_FOLD_PSEQ.COUNT : Fld := ⟨0x124, 0, 32, 0⟩
@[reducible] def F.PTX_FOLD_BUCKET.COUNT : Fld := ⟨0x128, 0, 32, 0⟩
@[reducible] def F.PTX_FOLD_LOG.COUNT : Fld := ⟨0x12C, 0, 32, 0⟩
@[reducible] def F.PTX_FOLD_LOAD.COUNT : Fld := ⟨0x130, 0, 32, 0⟩
@[reducible] def F.PTX_FOLD_SWEEP.COUNT : Fld := ⟨0x134, 0, 32, 0⟩
@[reducible] def F.PTX_STALE_PATCH.COUNT : Fld := ⟨0x138, 0, 32, 0⟩
@[reducible] def F.PTX_FOLD_POISON.COUNT : Fld := ⟨0x13C, 0, 32, 0⟩
@[reducible] def F.RCL_CFG.FREE_LOW : Fld := ⟨0x40, 0, 12, 0⟩
@[reducible] def F.RCL_CFG.FREE_CRIT : Fld := ⟨0x40, 12, 12, 0⟩
@[reducible] def F.RCL_CFG.BG_SHARE : Fld := ⟨0x40, 24, 7, 0⟩
@[reducible] def F.RCL_OPEN0.HOT : Fld := ⟨0x44, 0, 8, 0⟩
@[reducible] def F.RCL_OPEN0.COLD : Fld := ⟨0x44, 8, 8, 0⟩
@[reducible] def F.RCL_OPEN0.RELOC : Fld := ⟨0x44, 16, 8, 0⟩
@[reducible] def F.RCL_OPEN0.META : Fld := ⟨0x44, 24, 8, 0⟩
@[reducible] def F.RCL_OPEN1.PATCH : Fld := ⟨0x48, 0, 8, 0⟩
@[reducible] def F.RCL_OPEN1.CKPT : Fld := ⟨0x48, 8, 8, 0⟩
@[reducible] def F.RCL_HOT_AGE.MINUTES : Fld := ⟨0x4C, 0, 11, 0⟩
@[reducible] def F.RCL_FREE.BANDS : Fld := ⟨0x50, 0, 17, 0⟩
@[reducible] def F.RCL_OUT.BANDS : Fld := ⟨0x54, 0, 17, 0⟩
@[reducible] def F.RCL_VICTIM.BAND : Fld := ⟨0x58, 0, 16, 0⟩
@[reducible] def F.RCL_VICTIM.PHASE : Fld := ⟨0x58, 16, 3, 0⟩
@[reducible] def F.RCL_VICTIM.KIND : Fld := ⟨0x58, 19, 3, 0⟩
@[reducible] def F.RCL_VPROG.COPIED : Fld := ⟨0x5C, 0, 16, 0⟩
@[reducible] def F.RCL_VPROG.REMAINING : Fld := ⟨0x5C, 16, 16, 0⟩
@[reducible] def F.RCL_COPIED.COUNT : Fld := ⟨0x60, 0, 32, 0⟩
@[reducible] def F.RCL_RESETS.COUNT : Fld := ⟨0x64, 0, 32, 0⟩
@[reducible] def F.RCL_RETIRED.COUNT : Fld := ⟨0x68, 0, 32, 0⟩
@[reducible] def F.RCL_DEST_FAIL.COUNT : Fld := ⟨0x6C, 0, 32, 0⟩
@[reducible] def F.RCL_RECOPY.COUNT : Fld := ⟨0x70, 0, 32, 0⟩
@[reducible] def F.RCL_RACE.COUNT : Fld := ⟨0x74, 0, 32, 0⟩
@[reducible] def F.RCL_HINT_DISAGREE.COUNT : Fld := ⟨0x78, 0, 32, 0⟩
@[reducible] def F.CKP_CFG.PTX_LAG : Fld := ⟨0x40, 0, 23, 0⟩
@[reducible] def F.CKP_STAT.PHASE : Fld := ⟨0x44, 0, 3, 0⟩
@[reducible] def F.CKP_STAT.CLEAN_START : Fld := ⟨0x44, 3, 1, 0⟩
@[reducible] def F.CKP_STAT.JOURNAL_FULL : Fld := ⟨0x44, 4, 1, 0⟩
@[reducible] def F.CKP_JRNL.PAGES : Fld := ⟨0x48, 0, 17, 0⟩
@[reducible] def F.CKP_DIRTY.OBJECTS : Fld := ⟨0x4C, 0, 16, 0⟩
@[reducible] def F.CKP_JSN_LO.JSN : Fld := ⟨0x50, 0, 32, 0⟩
@[reducible] def F.CKP_JSN_HI.JSN : Fld := ⟨0x54, 0, 32, 0⟩
@[reducible] def F.CKP_REPLAY_MS.MS : Fld := ⟨0x58, 0, 16, 0⟩
@[reducible] def F.CKP_REPLAY_REC.COUNT : Fld := ⟨0x5C, 0, 32, 0⟩
@[reducible] def F.CKP_REPLAY_HDR.COUNT : Fld := ⟨0x60, 0, 32, 0⟩
@[reducible] def F.CKP_REPLAY_PATCH.COUNT : Fld := ⟨0x64, 0, 32, 0⟩
@[reducible] def F.CKP_REPLAY_DROP.COUNT : Fld := ⟨0x68, 0, 32, 0⟩
@[reducible] def F.AGE_CFG.OFF_TEMP : Fld := ⟨0x40, 0, 8, 0⟩
@[reducible] def F.AGE_CFG.BIAS_EN : Fld := ⟨0x40, 8, 1, 0⟩
@[reducible] def F.AGE_CFG.FORCE_BIN : Fld := ⟨0x40, 16, 3, 0⟩
@[reducible] def F.AGE_CFG.FORCE_EN : Fld := ⟨0x40, 19, 1, 0⟩
@[reducible] def F.AGE_STAT.RT_APPLIED : Fld := ⟨0x44, 0, 1, 0⟩
@[reducible] def F.AGE_STAT.OFF_UNKNOWN : Fld := ⟨0x44, 1, 1, 0⟩
@[reducible] def F.AGE_STAT.TIME_BACKWARD : Fld := ⟨0x44, 2, 1, 0⟩
@[reducible] def F.AGE_STAT.FALLBACK : Fld := ⟨0x44, 16, 16, 0⟩
@[reducible] def F.AGE_OFF.SECONDS : Fld := ⟨0x48, 0, 32, 0⟩
@[reducible] def F.AGE_CLK_SEL.CHANNEL : Fld := ⟨0x4C, 0, 4, 0⟩
@[reducible] def F.AGE_CLK.STAMP : Fld := ⟨0x50, 0, 32, 0⟩
@[reducible] def F.AGE_AF.AF : Fld := ⟨0x54, 0, 21, 0⟩
@[reducible] def F.AGE_AF.SOURCE : Fld := ⟨0x54, 24, 2, 0⟩
@[reducible] def F.AGE_INSP.FIELD : Fld := ⟨0x58, 0, 20, 0⟩
@[reducible] def F.AGE_INSP.START : Fld := ⟨0x58, 20, 1, 0⟩
@[reducible] def F.AGE_INSP_RES.BUSY : Fld := ⟨0x5C, 0, 1, 0⟩
@[reducible] def F.AGE_INSP_RES.BASE_BIN : Fld := ⟨0x5C, 1, 3, 0⟩
@[reducible] def F.AGE_INSP_RES.BIN : Fld := ⟨0x5C, 4, 3, 0⟩
@[reducible] def F.AGE_INSP_RES.BIAS : Fld := ⟨0x5C, 7, 3, 0⟩
@[reducible] def F.AGE_INSP_RES.OLD : Fld := ⟨0x5C, 10, 1, 0⟩
@[reducible] def F.AGE_INSP_RES.PRESTART : Fld := ⟨0x5C, 11, 1, 0⟩
@[reducible] def F.AGE_INSP_AGE.SECONDS : Fld := ⟨0x60, 0, 32, 0⟩
@[reducible] def F.AGE_FT.ENTRY : Fld := ⟨0x64, 0, 32, 4⟩
@[reducible] def F.AGE_PRED_OK.COUNT : Fld := ⟨0x74, 0, 32, 0⟩
@[reducible] def F.AGE_PRED_UP.COUNT : Fld := ⟨0x78, 0, 32, 0⟩
@[reducible] def F.AGE_PRED_DOWN.COUNT : Fld := ⟨0x7C, 0, 32, 0⟩
@[reducible] def F.AGE_BIAS_CHG.COUNT : Fld := ⟨0x80, 0, 32, 0⟩
@[reducible] def F.AGE_PRESTART.COUNT : Fld := ⟨0x84, 0, 32, 0⟩
@[reducible] def F.AGE_BIN_HIST.COUNT : Fld := ⟨0xA0, 0, 32, 4⟩
@[reducible] def F.PTL_CFG.LAP_HOURS : Fld := ⟨0x40, 0, 9, 0⟩
@[reducible] def F.PTL_CFG.EN : Fld := ⟨0x40, 9, 1, 0⟩
@[reducible] def F.PTL_CFG.RELOC_BITS : Fld := ⟨0x40, 10, 4, 0⟩
@[reducible] def F.PTL_CFG.EVAC_RELOCS : Fld := ⟨0x40, 16, 8, 0⟩
@[reducible] def F.PTL_POS.BAND : Fld := ⟨0x44, 0, 16, 0⟩
@[reducible] def F.PTL_POS.PAGE : Fld := ⟨0x44, 16, 12, 0⟩
@[reducible] def F.PTL_LAP.LAP : Fld := ⟨0x48, 0, 16, 0⟩
@[reducible] def F.PTL_LAP.PRIORITY : Fld := ⟨0x48, 16, 1, 0⟩
@[reducible] def F.PTL_ELAPSED.MINUTES : Fld := ⟨0x4C, 0, 24, 0⟩
@[reducible] def F.PTL_LAST.MINUTES : Fld := ⟨0x50, 0, 24, 0⟩
@[reducible] def F.PTL_RATE.PAGES : Fld := ⟨0x54, 0, 24, 0⟩
@[reducible] def F.PTL_SUSPECT.QUEUED : Fld := ⟨0x58, 0, 13, 0⟩
@[reducible] def F.PTL_LAP_PAGES.PAGES : Fld := ⟨0x5C, 0, 32, 0⟩
@[reducible] def F.PTL_RELOC.COUNT : Fld := ⟨0x60, 0, 32, 0⟩
@[reducible] def F.PTL_EVAC.COUNT : Fld := ⟨0x64, 0, 32, 0⟩
@[reducible] def F.PTL_LINE_LOST.COUNT : Fld := ⟨0x68, 0, 32, 0⟩
@[reducible] def F.PTL_SUSP_DROP.COUNT : Fld := ⟨0x6C, 0, 32, 0⟩
@[reducible] def F.PTL_CORR.COUNT : Fld := ⟨0x70, 0, 32, 0⟩
@[reducible] def F.PTL_RECON.COUNT : Fld := ⟨0x74, 0, 32, 0⟩
@[reducible] def F.HLT_WARN.SPARE_WARN : Fld := ⟨0x40, 0, 7, 0⟩
@[reducible] def F.HLT_WARN.LIFE_WARN : Fld := ⟨0x40, 8, 7, 0⟩
@[reducible] def F.HLT_WARN.TEMP_WARN : Fld := ⟨0x40, 16, 8, 0⟩
@[reducible] def F.HLT_STATUS.SPARE_PCT : Fld := ⟨0x44, 0, 7, 0⟩
@[reducible] def F.HLT_STATUS.LIFE_PCT : Fld := ⟨0x44, 7, 7, 0⟩
@[reducible] def F.HLT_STATUS.SPARE_BELOW : Fld := ⟨0x44, 14, 1, 0⟩
@[reducible] def F.HLT_STATUS.LIFE_ABOVE : Fld := ⟨0x44, 15, 1, 0⟩
@[reducible] def F.HLT_STATUS.TEMP_ABOVE : Fld := ⟨0x44, 16, 1, 0⟩
@[reducible] def F.HLT_STATUS.SPARE_NEG : Fld := ⟨0x44, 17, 1, 0⟩
@[reducible] def F.HLT_CAPACITY.POSITIONS : Fld := ⟨0x48, 0, 20, 0⟩
@[reducible] def F.HLT_SPARE.POSITIONS : Fld := ⟨0x4C, 0, 32, 0⟩
@[reducible] def F.HLT_GRANTABLE.EXTENTS : Fld := ⟨0x50, 0, 16, 0⟩
@[reducible] def F.HLT_RETIRED.FIELDS : Fld := ⟨0x54, 0, 21, 0⟩
@[reducible] def F.HLT_DIES.FAILED : Fld := ⟨0x58, 0, 8, 0⟩
@[reducible] def F.HLT_AMP.MEAN : Fld := ⟨0x5C, 0, 8, 0⟩
@[reducible] def F.HLT_AMP.MAX : Fld := ⟨0x5C, 8, 8, 0⟩
@[reducible] def F.HLT_AMP.ABOVE_CAP : Fld := ⟨0x5C, 16, 16, 0⟩
@[reducible] def F.HLT_TEMP_SEL.CELL : Fld := ⟨0x60, 0, 5, 0⟩
@[reducible] def F.HLT_TEMP_HIST.MINUTES : Fld := ⟨0x64, 0, 32, 0⟩
@[reducible] def F.HLT_TEMP_PEAK.DIE : Fld := ⟨0x68, 0, 16, 0⟩
@[reducible] def F.HLT_TEMP_PEAK.MEDIA : Fld := ⟨0x68, 16, 16, 0⟩
@[reducible] def F.HLT_LIFE_CORR.COUNT : Fld := ⟨0x70, 0, 32, 0⟩
@[reducible] def F.HLT_LIFE_UNCORR.COUNT : Fld := ⟨0x74, 0, 32, 0⟩
@[reducible] def F.HLT_LIFE_RECON.COUNT : Fld := ⟨0x78, 0, 32, 0⟩
@[reducible] def F.HLT_LIFE_RETRY.COUNT : Fld := ⟨0x7C, 0, 32, 0⟩
@[reducible] def F.HLT_LIFE_SQUASH.COUNT : Fld := ⟨0x80, 0, 32, 0⟩
@[reducible] def F.HLT_LIFE_POISON.COUNT : Fld := ⟨0x84, 0, 32, 0⟩
@[reducible] def F.HLT_LIFE_PFAIL.COUNT : Fld := ⟨0x88, 0, 32, 0⟩
@[reducible] def F.HLT_LIFE_RFAIL.COUNT : Fld := ⟨0x8C, 0, 32, 0⟩
@[reducible] def F.WGV_CFG.MODE : Fld := ⟨0x40, 0, 1, 0⟩
@[reducible] def F.WGV_CFG.TARGET_YEARS : Fld := ⟨0x40, 1, 7, 0⟩
@[reducible] def F.WGV_CFG.WINDOW_DAYS : Fld := ⟨0x40, 8, 8, 0⟩
@[reducible] def F.WGV_MEAN.UNITS : Fld := ⟨0x44, 0, 25, 0⟩
@[reducible] def F.WGV_MAX.UNITS : Fld := ⟨0x48, 0, 25, 0⟩
@[reducible] def F.WGV_RATE.UNITS : Fld := ⟨0x4C, 0, 25, 0⟩
@[reducible] def F.WGV_PROJ.YEARS : Fld := ⟨0x50, 0, 16, 0⟩
@[reducible] def F.WGV_SERVICE.HOURS : Fld := ⟨0x54, 0, 32, 0⟩
@[reducible] def F.WGV_LIFE.LIFE_USED : Fld := ⟨0x58, 0, 7, 0⟩
@[reducible] def F.WGV_CEIL.PCT : Fld := ⟨0x5C, 0, 7, 0⟩
@[reducible] def F.WGV_CEIL.PINNED : Fld := ⟨0x5C, 7, 1, 0⟩
@[reducible] def F.HPT_FNC_CTL.SCOPE : Fld := ⟨0x200, 0, 2, 8⟩
@[reducible] def F.HPT_FNC_CTL.GO : Fld := ⟨0x200, 2, 1, 8⟩
@[reducible] def F.HPT_FNC_CTL.NOTIFY : Fld := ⟨0x200, 3, 1, 8⟩
@[reducible] def F.HPT_FNC_CTL.VECTOR : Fld := ⟨0x200, 8, 8, 8⟩
@[reducible] def F.HPT_FNC_STAT.BUSY : Fld := ⟨0x204, 0, 1, 8⟩
@[reducible] def F.HPT_FNC_STAT.STATUS : Fld := ⟨0x204, 1, 2, 8⟩
@[reducible] def F.HPT_FNC_STAT.DURABLE : Fld := ⟨0x204, 3, 1, 8⟩
@[reducible] def F.HPT_FNC_STAT.NOT_DURABLE : Fld := ⟨0x204, 4, 1, 8⟩
@[reducible] def F.HPT_FNC_STAT.LOSSES : Fld := ⟨0x204, 8, 8, 8⟩
@[reducible] def F.HPT_FNC_STAT.TIME : Fld := ⟨0x204, 16, 16, 8⟩
@[reducible] def F.HPT_FNC_DONE.COUNT : Fld := ⟨0x240, 0, 32, 0⟩
@[reducible] def F.HPT_FNC_DEG.COUNT : Fld := ⟨0x244, 0, 32, 0⟩
@[reducible] def F.HPT_FNC_LOST.COUNT : Fld := ⟨0x248, 0, 32, 0⟩
@[reducible] def F.HPT_LOSS_STAT.RECORDS : Fld := ⟨0x250, 0, 5, 0⟩
@[reducible] def F.HPT_LOSS_STAT.DROPPED : Fld := ⟨0x250, 16, 16, 0⟩
@[reducible] def F.HPT_LOSS_SEL.INDEX : Fld := ⟨0x254, 0, 4, 0⟩
@[reducible] def F.HPT_LOSS0.HPA_LO : Fld := ⟨0x258, 0, 32, 0⟩
@[reducible] def F.HPT_LOSS1.HPA_HI : Fld := ⟨0x25C, 0, 32, 0⟩
@[reducible] def F.HPT_LOSS2.LINES : Fld := ⟨0x260, 0, 9, 0⟩
@[reducible] def F.HPT_LOSS2.HEAD : Fld := ⟨0x260, 9, 3, 0⟩
@[reducible] def F.HPT_LOSS2.KEY : Fld := ⟨0x260, 12, 12, 0⟩
@[reducible] def F.HPT_LOSS2.OWNER : Fld := ⟨0x260, 24, 5, 0⟩
@[reducible] def F.HPT_LOSS2.CAUSE : Fld := ⟨0x260, 30, 2, 0⟩
@[reducible] def F.HPT_LOSS3.OID : Fld := ⟨0x264, 0, 16, 0⟩
@[reducible] def F.HPT_LOSS3.FENCE : Fld := ⟨0x264, 16, 3, 0⟩
@[reducible] def F.HPT_LOSS3.FENCED : Fld := ⟨0x264, 19, 1, 0⟩
@[reducible] def F.HPT_LOSS_POP.POP : Fld := ⟨0x268, 0, 1, 0⟩
@[reducible] def F.HPT_RSV_ADDR_LO.HPA : Fld := ⟨0x300, 4, 28, 64⟩
@[reducible] def F.HPT_RSV_ADDR_HI.HPA : Fld := ⟨0x304, 0, 32, 64⟩
@[reducible] def F.HPT_RSV_CMD.OP : Fld := ⟨0x308, 0, 2, 64⟩
@[reducible] def F.HPT_RSV_STAT.BUSY : Fld := ⟨0x30C, 0, 1, 64⟩
@[reducible] def F.HPT_RSV_STAT.HELD : Fld := ⟨0x30C, 1, 1, 64⟩
@[reducible] def F.HPT_RSV_STAT.RESULT : Fld := ⟨0x30C, 8, 3, 64⟩
@[reducible] def F.HPT_RSV_STAT.LOSS_CAUSE : Fld := ⟨0x30C, 12, 4, 64⟩
@[reducible] def F.HPT_RSV_DATA0.DATA : Fld := ⟨0x310, 0, 32, 64⟩
@[reducible] def F.HPT_RSV_DATA1.DATA : Fld := ⟨0x314, 0, 32, 64⟩
@[reducible] def F.HPT_RSV_DATA2.DATA : Fld := ⟨0x318, 0, 32, 64⟩
@[reducible] def F.HPT_RSV_DATA3.DATA : Fld := ⟨0x31C, 0, 32, 64⟩
@[reducible] def F.HPT_RSV_NEW0.DATA : Fld := ⟨0x320, 0, 32, 64⟩
@[reducible] def F.HPT_RSV_NEW1.DATA : Fld := ⟨0x324, 0, 32, 64⟩
@[reducible] def F.HPT_RSV_NEW2.DATA : Fld := ⟨0x328, 0, 32, 64⟩
@[reducible] def F.HPT_RSV_NEW3.DATA : Fld := ⟨0x32C, 0, 32, 64⟩
@[reducible] def F.KEY_CMD.OP : Fld := ⟨0x40, 0, 2, 0⟩
@[reducible] def F.KEY_CMD.SLOT : Fld := ⟨0x40, 4, 12, 0⟩
@[reducible] def F.KEY_STAT.BUSY : Fld := ⟨0x44, 0, 1, 0⟩
@[reducible] def F.KEY_STAT.RESULT : Fld := ⟨0x44, 8, 8, 0⟩
@[reducible] def F.KEY_NONCE_LO.NONCE : Fld := ⟨0x48, 0, 32, 0⟩
@[reducible] def F.KEY_NONCE_HI.NONCE : Fld := ⟨0x4C, 0, 32, 0⟩
@[reducible] def F.KEY_INFO0.STATE : Fld := ⟨0x50, 0, 3, 0⟩
@[reducible] def F.KEY_INFO0.AGAIN : Fld := ⟨0x50, 3, 1, 0⟩
@[reducible] def F.KEY_INFO0.EXHAUSTED : Fld := ⟨0x50, 4, 1, 0⟩
@[reducible] def F.KEY_INFO1.VERSION : Fld := ⟨0x54, 0, 32, 0⟩
@[reducible] def F.KEY_INFO2.EXTENTS : Fld := ⟨0x58, 0, 16, 0⟩
@[reducible] def F.KEY_INFO2.WINDOWS : Fld := ⟨0x58, 16, 16, 0⟩
@[reducible] def F.KEY_LOADED.SLOTS : Fld := ⟨0x5C, 0, 13, 0⟩
@[reducible] def F.KEY_EK_IDX.WORD : Fld := ⟨0x60, 0, 9, 0⟩
@[reducible] def F.KEY_EK_DATA.DATA : Fld := ⟨0x64, 0, 32, 0⟩
@[reducible] def F.KEY_IMPORT_OK.COUNT : Fld := ⟨0x68, 0, 32, 0⟩
@[reducible] def F.KEY_IMPORT_FAIL.COUNT : Fld := ⟨0x6C, 0, 32, 0⟩
@[reducible] def F.KEY_BLOB.DATA : Fld := ⟨0x400, 0, 32, 4⟩
@[reducible] def F.RKY_CFG.TARGET_S : Fld := ⟨0x40, 0, 10, 0⟩
@[reducible] def F.RKY_CMD.KEY : Fld := ⟨0x44, 0, 12, 0⟩
@[reducible] def F.RKY_CMD.START : Fld := ⟨0x44, 12, 1, 0⟩
@[reducible] def F.RKY_CMD.RESULT : Fld := ⟨0x44, 16, 8, 0⟩
@[reducible] def F.RKY_STAT.ACTIVE : Fld := ⟨0x48, 0, 13, 0⟩
@[reducible] def F.RKY_STAT.AGAIN : Fld := ⟨0x48, 13, 13, 0⟩
@[reducible] def F.RKY_SEL.KEY : Fld := ⟨0x4C, 0, 12, 0⟩
@[reducible] def F.RKY_CURSOR.PAGE : Fld := ⟨0x50, 0, 32, 0⟩
@[reducible] def F.RKY_DONE.PAGES : Fld := ⟨0x54, 0, 32, 0⟩
@[reducible] def F.RKY_LEFT.PAGES : Fld := ⟨0x58, 0, 32, 0⟩
@[reducible] def F.RKY_ELAPSED.SECONDS : Fld := ⟨0x5C, 0, 16, 0⟩
@[reducible] def F.RKY_SWEEPS.COUNT : Fld := ⟨0x60, 0, 32, 0⟩
@[reducible] def F.RKY_LATE.COUNT : Fld := ⟨0x64, 0, 32, 0⟩
@[reducible] def F.CRY_ERASE_STAT.ACTIVE : Fld := ⟨0x40, 0, 1, 0⟩
@[reducible] def F.CRY_ERASE_STAT.QUEUED : Fld := ⟨0x40, 1, 15, 0⟩
@[reducible] def F.CRY_ERASE_STAT.LAST_NS : Fld := ⟨0x40, 16, 16, 0⟩
@[reducible] def F.CRY_EET_SEL.LXN : Fld := ⟨0x44, 0, 16, 0⟩
@[reducible] def F.CRY_EET_LO.EPOCH : Fld := ⟨0x48, 0, 32, 0⟩
@[reducible] def F.CRY_EET_HI.EPOCH : Fld := ⟨0x4C, 0, 32, 0⟩
@[reducible] def F.CRY_POISON_SET.COUNT : Fld := ⟨0x54, 0, 32, 0⟩
@[reducible] def F.CRY_PARTIAL_DROP.COUNT : Fld := ⟨0x58, 0, 32, 0⟩
@[reducible] def F.CRY_POISON_CLEAR.COUNT : Fld := ⟨0x5C, 0, 32, 0⟩
@[reducible] def F.CRY_POISON_PAGE.COUNT : Fld := ⟨0x60, 0, 32, 0⟩
@[reducible] def F.CRY_NOKEY_WR.COUNT : Fld := ⟨0x64, 0, 32, 0⟩
@[reducible] def F.CRY_VER_OLD.COUNT : Fld := ⟨0x68, 0, 32, 0⟩
@[reducible] def F.CRY_KCACHE_MISS.COUNT : Fld := ⟨0x6C, 0, 32, 0⟩
@[reducible] def F.CRY_ERASES.COUNT : Fld := ⟨0x70, 0, 32, 0⟩
@[reducible] def F.SHL_CFG.IDLE_US : Fld := ⟨0x40, 0, 4, 0⟩
@[reducible] def F.SHL_CFG.RECOVER_US : Fld := ⟨0x40, 4, 4, 0⟩
@[reducible] def F.SHL_CFG.LANE_DROP_EN : Fld := ⟨0x40, 8, 1, 0⟩
@[reducible] def F.SHL_CFG.MAX_SPEED : Fld := ⟨0x40, 9, 1, 0⟩
@[reducible] def F.SHL_STAT.PHASE : Fld := ⟨0x44, 0, 3, 0⟩
@[reducible] def F.SHL_STAT.WIDTH : Fld := ⟨0x44, 3, 4, 0⟩
@[reducible] def F.SHL_STAT.SPEED : Fld := ⟨0x44, 7, 1, 0⟩
@[reducible] def F.SHL_STAT.PEER_ID : Fld := ⟨0x44, 8, 5, 0⟩
@[reducible] def F.SHL_STAT.PEER_VALID : Fld := ⟨0x44, 13, 1, 0⟩
@[reducible] def F.SHL_STAT.KEY_PHASE : Fld := ⟨0x44, 14, 1, 0⟩
@[reducible] def F.SHL_CAUSE.DOWN : Fld := ⟨0x48, 0, 1, 0⟩
@[reducible] def F.SHL_CAUSE.MISCABLE : Fld := ⟨0x48, 1, 1, 0⟩
@[reducible] def F.SHL_CAUSE.AUTH_FAIL : Fld := ⟨0x48, 2, 1, 0⟩
@[reducible] def F.SHL_CAUSE.INTERNAL : Fld := ⟨0x48, 3, 1, 0⟩
@[reducible] def F.SHL_CAUSE.NARROW : Fld := ⟨0x48, 8, 1, 0⟩
@[reducible] def F.SHL_CAUSE.SLOW : Fld := ⟨0x48, 9, 1, 0⟩
@[reducible] def F.SHL_LANE_ERR.LANE_FAULT : Fld := ⟨0x4C, 0, 8, 0⟩
@[reducible] def F.SHL_KEYS.ROTATIONS : Fld := ⟨0x50, 0, 16, 0⟩
@[reducible] def F.SHL_KEYS.AGE_S : Fld := ⟨0x50, 16, 16, 0⟩
@[reducible] def F.SHL_FEC_CORR.COUNT : Fld := ⟨0x54, 0, 32, 0⟩
@[reducible] def F.SHL_REPLAY.COUNT : Fld := ⟨0x58, 0, 32, 0⟩
@[reducible] def F.SHL_MAC_FAIL.COUNT : Fld := ⟨0x5C, 0, 32, 0⟩
@[reducible] def F.SHL_DOWN.COUNT : Fld := ⟨0x60, 0, 32, 0⟩
@[reducible] def F.SHL_DISCARD.COUNT : Fld := ⟨0x64, 0, 32, 0⟩
@[reducible] def F.SHM_SELF.SHELF_ID : Fld := ⟨0x40, 0, 5, 0⟩
@[reducible] def F.SHM_SELF.ROLE : Fld := ⟨0x40, 5, 1, 0⟩
@[reducible] def F.SHM_SELF.MANAGER : Fld := ⟨0x40, 6, 1, 0⟩
@[reducible] def F.SHM_SELF.DEPUTY : Fld := ⟨0x40, 7, 1, 0⟩
@[reducible] def F.SHM_SELF.CUT : Fld := ⟨0x40, 8, 1, 0⟩
@[reducible] def F.SHM_SELF.ISOLATED : Fld := ⟨0x40, 9, 1, 0⟩
@[reducible] def F.SHM_SELF.COUNT : Fld := ⟨0x40, 16, 6, 0⟩
@[reducible] def F.SHM_MGR.MGR_ID : Fld := ⟨0x44, 0, 5, 0⟩
@[reducible] def F.SHM_MGR.MGR_VALID : Fld := ⟨0x44, 5, 1, 0⟩
@[reducible] def F.SHM_MGR.TERM : Fld := ⟨0x44, 16, 16, 0⟩
@[reducible] def F.SHM_MEMBERS.PARTS : Fld := ⟨0x48, 0, 32, 0⟩
@[reducible] def F.SHM_FAILED.PARTS : Fld := ⟨0x4C, 0, 32, 0⟩
@[reducible] def F.SHM_UNREACH.PARTS : Fld := ⟨0x50, 0, 32, 0⟩
@[reducible] def F.SHM_TOPO.TOPO : Fld := ⟨0x54, 0, 2, 0⟩
@[reducible] def F.SHM_TOPO.BREAK0 : Fld := ⟨0x54, 2, 5, 0⟩
@[reducible] def F.SHM_TOPO.BREAK0_VALID : Fld := ⟨0x54, 7, 1, 0⟩
@[reducible] def F.SHM_TOPO.BREAK1 : Fld := ⟨0x54, 8, 5, 0⟩
@[reducible] def F.SHM_TOPO.BREAK1_VALID : Fld := ⟨0x54, 13, 1, 0⟩
@[reducible] def F.SHM_PAIR.PARTNER : Fld := ⟨0x58, 0, 5, 0⟩
@[reducible] def F.SHM_PAIR.STATE : Fld := ⟨0x58, 5, 3, 0⟩
@[reducible] def F.SHM_RESYNC.LEFT : Fld := ⟨0x5C, 0, 16, 0⟩
@[reducible] def F.SHM_RESYNC.DONE : Fld := ⟨0x5C, 16, 16, 0⟩
@[reducible] def F.SHM_CMD.OP : Fld := ⟨0x60, 0, 2, 0⟩
@[reducible] def F.SHM_CMD.RESULT : Fld := ⟨0x60, 8, 8, 0⟩
@[reducible] def F.SHM_HLT_SEL.PART : Fld := ⟨0x64, 0, 5, 0⟩
@[reducible] def F.SHM_HLT0.STATE : Fld := ⟨0x68, 0, 4, 0⟩
@[reducible] def F.SHM_HLT0.SPARE_PCT : Fld := ⟨0x68, 4, 7, 0⟩
@[reducible] def F.SHM_HLT0.LIFE_PCT : Fld := ⟨0x68, 11, 7, 0⟩
@[reducible] def F.SHM_HLT1.GRANTABLE : Fld := ⟨0x6C, 0, 16, 0⟩
@[reducible] def F.SHM_HLT1.ACTIVE : Fld := ⟨0x6C, 16, 16, 0⟩
@[reducible] def F.SHM_HLT2.DIE_PEAK : Fld := ⟨0x70, 0, 16, 0⟩
@[reducible] def F.SHM_HLT2.MEDIA_PEAK : Fld := ⟨0x70, 16, 16, 0⟩
@[reducible] def F.SHM_HLT3.AGE_MS : Fld := ⟨0x74, 0, 16, 0⟩
@[reducible] def F.SHM_HLT3.STALE : Fld := ⟨0x74, 16, 1, 0⟩
@[reducible] def F.SHM_DECLARE.COUNT : Fld := ⟨0x78, 0, 32, 0⟩
@[reducible] def F.SHM_FAILOVER.COUNT : Fld := ⟨0x7C, 0, 32, 0⟩
@[reducible] def F.SHM_RESEND.COUNT : Fld := ⟨0x80, 0, 32, 0⟩
@[reducible] def F.SHM_DUP_DROP.COUNT : Fld := ⟨0x84, 0, 32, 0⟩
@[reducible] def F.SHM_STALE_TERM.COUNT : Fld := ⟨0x88, 0, 32, 0⟩
@[reducible] def F.RTM_CFG.SOURCE : Fld := ⟨0x40, 0, 2, 0⟩
@[reducible] def F.RTM_STAT.TICK : Fld := ⟨0x44, 0, 2, 0⟩
@[reducible] def F.RTM_STAT.VALID : Fld := ⟨0x44, 2, 1, 0⟩
@[reducible] def F.RTM_STAT.UNCERTAIN : Fld := ⟨0x44, 3, 1, 0⟩
@[reducible] def F.RTM_STAT.ARMED : Fld := ⟨0x44, 4, 1, 0⟩
@[reducible] def F.RTM_STAT.MISSED : Fld := ⟨0x44, 5, 3, 0⟩
@[reducible] def F.RTM_STAT.SLOT : Fld := ⟨0x44, 8, 6, 0⟩
@[reducible] def F.RTM_STAT.DRAIN : Fld := ⟨0x44, 14, 1, 0⟩
@[reducible] def F.RTM_TIME_LO.TIME : Fld := ⟨0x48, 0, 32, 0⟩
@[reducible] def F.RTM_TIME_HI.TIME : Fld := ⟨0x4C, 0, 32, 0⟩
@[reducible] def F.RTM_SET_LO.VALUE : Fld := ⟨0x50, 0, 32, 0⟩
@[reducible] def F.RTM_SET_HI.VALUE : Fld := ⟨0x54, 0, 32, 0⟩
@[reducible] def F.RTM_SLOT_MASK_LO.MASK : Fld := ⟨0x58, 0, 32, 0⟩
@[reducible] def F.RTM_SLOT_MASK_HI.MASK : Fld := ⟨0x5C, 0, 32, 0⟩
@[reducible] def F.RTM_SLOT_CFG.UNITS : Fld := ⟨0x60, 0, 8, 0⟩
@[reducible] def F.RTM_SLOT_CFG.RESET_COST : Fld := ⟨0x60, 8, 4, 0⟩
@[reducible] def F.RTM_BUDGET.B : Fld := ⟨0x64, 0, 8, 0⟩
@[reducible] def F.RTM_BUDGET.G : Fld := ⟨0x64, 8, 8, 0⟩
@[reducible] def F.RTM_BUDGET.PCT : Fld := ⟨0x64, 16, 7, 0⟩
@[reducible] def F.RTM_BUDGET.LIMITER : Fld := ⟨0x64, 23, 3, 0⟩
@[reducible] def F.RTM_MISSED.COUNT : Fld := ⟨0x68, 0, 32, 0⟩
@[reducible] def F.RTM_GLITCH.COUNT : Fld := ⟨0x6C, 0, 32, 0⟩
@[reducible] def F.RTM_STEPS.COUNT : Fld := ⟨0x70, 0, 32, 0⟩
@[reducible] def F.RTM_IGNORED.COUNT : Fld := ⟨0x74, 0, 32, 0⟩
@[reducible] def F.RTM_HOLDOVERS.COUNT : Fld := ⟨0x78, 0, 32, 0⟩
@[reducible] def F.RTM_SLOT_FULL.COUNT : Fld := ⟨0x7C, 0, 32, 0⟩
@[reducible] def F.LOOP_AMP.CAP_MLC : Fld := ⟨0x40, 0, 8, 0⟩
@[reducible] def F.LOOP_AMP.CAP_SLC : Fld := ⟨0x40, 8, 8, 0⟩
@[reducible] def F.LOOP_BIN.MIN_BIN : Fld := ⟨0x44, 0, 3, 0⟩
@[reducible] def F.LOOP_BIN.MAX_BIN : Fld := ⟨0x44, 4, 3, 0⟩
@[reducible] def F.LOOP_WRATE.MIN_PCT : Fld := ⟨0x48, 0, 7, 0⟩
@[reducible] def F.LOOP_WRATE.MAX_PCT : Fld := ⟨0x48, 8, 7, 0⟩
@[reducible] def F.LOOP_PLACE.DEFAULT : Fld := ⟨0x4C, 0, 2, 0⟩
@[reducible] def F.LOOP_PATROL.MAX_RATE : Fld := ⟨0x50, 0, 24, 0⟩
@[reducible] def F.LOOP_PINNED.LATCHED : Fld := ⟨0x54, 0, 6, 0⟩
@[reducible] def F.LOOP_PINNED.NOW : Fld := ⟨0x54, 8, 6, 0⟩
@[reducible] def F.LOOP_OVERRIDE_COUNT.COUNT : Fld := ⟨0x58, 0, 32, 0⟩
@[reducible] def F.LOOP_OVR.COUNT : Fld := ⟨0x60, 0, 32, 4⟩
@[reducible] def F.LOOP_PIN.COUNT : Fld := ⟨0x78, 0, 32, 4⟩
@[reducible] def F.SEQ_CFG.RETRIES : Fld := ⟨0x40, 0, 3, 0⟩
@[reducible] def F.SEQ_CFG.SHARED : Fld := ⟨0x40, 3, 1, 0⟩
@[reducible] def F.SEQ_CFG.AUTO : Fld := ⟨0x40, 4, 1, 0⟩
@[reducible] def F.SEQ_STAT.STATE : Fld := ⟨0x44, 0, 4, 0⟩
@[reducible] def F.SEQ_STAT.DOWN : Fld := ⟨0x44, 4, 1, 0⟩
@[reducible] def F.SEQ_STAT.ATTEMPT : Fld := ⟨0x44, 5, 3, 0⟩
@[reducible] def F.SEQ_STAT.SOLO : Fld := ⟨0x44, 8, 1, 0⟩
@[reducible] def F.SEQ_STAT.LINE : Fld := ⟨0x44, 9, 1, 0⟩
@[reducible] def F.SEQ_STAT.DRIVE : Fld := ⟨0x44, 10, 1, 0⟩
@[reducible] def F.SEQ_STAT.PFAIL : Fld := ⟨0x44, 11, 1, 0⟩
@[reducible] def F.SEQ_CMD.OP : Fld := ⟨0x48, 0, 2, 0⟩
@[reducible] def F.SEQ_CMD.RESULT : Fld := ⟨0x48, 8, 8, 0⟩
@[reducible] def F.SEQ_CAUSE.RAIL_FAULT : Fld := ⟨0x4C, 0, 1, 0⟩
@[reducible] def F.SEQ_CAUSE.STEP_FAIL : Fld := ⟨0x4C, 1, 1, 0⟩
@[reducible] def F.SEQ_CAUSE.THERMTRIP : Fld := ⟨0x4C, 2, 1, 0⟩
@[reducible] def F.SEQ_CAUSE.DOWN_FAULT : Fld := ⟨0x4C, 3, 1, 0⟩
@[reducible] def F.SEQ_LAST.STATE : Fld := ⟨0x50, 0, 4, 0⟩
@[reducible] def F.SEQ_LAST.DOWN : Fld := ⟨0x50, 4, 1, 0⟩
@[reducible] def F.SEQ_LAST.RAIL : Fld := ⟨0x50, 5, 6, 0⟩
@[reducible] def F.SEQ_UP_MS.MS : Fld := ⟨0x54, 0, 16, 0⟩
@[reducible] def F.SEQ_BARRIER.LONGEST_US : Fld := ⟨0x58, 0, 16, 0⟩
@[reducible] def F.SEQ_RETRIES.COUNT : Fld := ⟨0x5C, 0, 32, 0⟩
@[reducible] def F.SEQ_SHUTOFFS.COUNT : Fld := ⟨0x60, 0, 32, 0⟩
@[reducible] def F.SEQ_RAIL_EN.EN : Fld := ⟨0x40, 0, 16, 0⟩
@[reducible] def F.SEQ_RAIL_PG.PG : Fld := ⟨0x44, 0, 16, 0⟩
@[reducible] def F.SEQ_DOM_PG.PG : Fld := ⟨0x48, 0, 20, 0⟩
@[reducible] def F.SEQ_RAIL_FAULT.RAIL : Fld := ⟨0x4C, 0, 16, 0⟩
@[reducible] def F.SEQ_DOM_FAULT.DOMAIN : Fld := ⟨0x50, 0, 20, 0⟩
@[reducible] def F.SEQ_STEP_SEL.STATE : Fld := ⟨0x54, 0, 4, 0⟩
@[reducible] def F.SEQ_STEP_US.US : Fld := ⟨0x58, 0, 24, 0⟩
@[reducible] def F.SEQ_CHATTER.RAIL_LO : Fld := ⟨0x60, 0, 16, 4⟩
@[reducible] def F.SEQ_CHATTER.RAIL_HI : Fld := ⟨0x60, 16, 16, 4⟩
@[reducible] def F.PDR_CFG.DECLARED : Fld := ⟨0x40, 0, 1, 0⟩
@[reducible] def F.PDR_HOLDUP_US.US : Fld := ⟨0x44, 0, 16, 0⟩
@[reducible] def F.PDR_STAT.PHASE : Fld := ⟨0x48, 0, 3, 0⟩
@[reducible] def F.PDR_STAT.HELD : Fld := ⟨0x48, 3, 1, 0⟩
@[reducible] def F.PDR_DIRTY_AT.LINES : Fld := ⟨0x4C, 0, 29, 0⟩
@[reducible] def F.PDR_SAVED.LINES : Fld := ⟨0x50, 0, 29, 0⟩
@[reducible] def F.PDR_DRAIN_US.US : Fld := ⟨0x54, 0, 32, 0⟩
@[reducible] def F.PDR_MARGIN.US : Fld := ⟨0x58, 0, 32, 0⟩
@[reducible] def F.PDR_REGIONS.REGIONS : Fld := ⟨0x5C, 0, 20, 0⟩
@[reducible] def F.PDR_CURSOR.REGION : Fld := ⟨0x60, 0, 20, 0⟩
@[reducible] def F.PDR_LEDGER.STATE : Fld := ⟨0x64, 0, 3, 0⟩
@[reducible] def F.PDR_LEDGER.EVENT : Fld := ⟨0x64, 4, 3, 0⟩
@[reducible] def F.PDR_LEDGER.DECLARED : Fld := ⟨0x64, 7, 1, 0⟩
@[reducible] def F.PDR_LEDGER.SEQ : Fld := ⟨0x64, 8, 4, 0⟩
@[reducible] def F.PDR_LEDGER.DOWN : Fld := ⟨0x64, 12, 1, 0⟩
@[reducible] def F.PDR_LEDGER.RAIL : Fld := ⟨0x64, 13, 6, 0⟩
@[reducible] def F.PDR_LEDGER.OVERFLOW : Fld := ⟨0x64, 19, 1, 0⟩
@[reducible] def F.PDR_RUN_SEL.INDEX : Fld := ⟨0x68, 0, 13, 0⟩
@[reducible] def F.PDR_RUN_FIRST.REGION : Fld := ⟨0x6C, 0, 20, 0⟩
@[reducible] def F.PDR_RUN_COUNT.REGIONS : Fld := ⟨0x70, 0, 20, 0⟩
@[reducible] def F.PDR_POISONED.PAGES : Fld := ⟨0x74, 0, 32, 0⟩
@[reducible] def F.PDR_DEFERRED.REGIONS : Fld := ⟨0x78, 0, 20, 0⟩
@[reducible] def F.PDR_PFAILS.COUNT : Fld := ⟨0x7C, 0, 32, 0⟩
@[reducible] def F.PDR_CUTS.COUNT : Fld := ⟨0x80, 0, 32, 0⟩
@[reducible] def F.PDR_PFAIL_GLITCH.COUNT : Fld := ⟨0x84, 0, 32, 0⟩
@[reducible] def F.MGT_CFG.SESSION_REQ : Fld := ⟨0x40, 0, 1, 0⟩
@[reducible] def F.MGT_CFG.SDA_EN : Fld := ⟨0x40, 1, 1, 0⟩
@[reducible] def F.MGT_CFG.ALERT_EN : Fld := ⟨0x40, 2, 1, 0⟩
@[reducible] def F.MGT_STAT.DYN_ADDR : Fld := ⟨0x44, 0, 7, 0⟩
@[reducible] def F.MGT_STAT.ADDR_VALID : Fld := ⟨0x44, 7, 1, 0⟩
@[reducible] def F.MGT_STAT.EID : Fld := ⟨0x44, 8, 8, 0⟩
@[reducible] def F.MGT_STAT.EID_VALID : Fld := ⟨0x44, 16, 1, 0⟩
@[reducible] def F.MGT_STAT.IBI_EN : Fld := ⟨0x44, 17, 1, 0⟩
@[reducible] def F.MGT_STAT.SESSION : Fld := ⟨0x44, 18, 1, 0⟩
@[reducible] def F.MGT_STAT.ALERT : Fld := ⟨0x44, 19, 1, 0⟩
@[reducible] def F.MGT_IBI_Q.STATE_Q : Fld := ⟨0x48, 0, 11, 0⟩
@[reducible] def F.MGT_IBI_Q.EVENT_Q : Fld := ⟨0x48, 11, 9, 0⟩
@[reducible] def F.MGT_LAST.CODE : Fld := ⟨0x4C, 0, 8, 0⟩
@[reducible] def F.MGT_LAST.RESULT : Fld := ⟨0x4C, 8, 8, 0⟩
@[reducible] def F.MGT_INFLIGHT.REQUESTS : Fld := ⟨0x50, 0, 3, 0⟩
@[reducible] def F.MGT_RX_MSG.COUNT : Fld := ⟨0x54, 0, 32, 0⟩
@[reducible] def F.MGT_BUS_ERR.COUNT : Fld := ⟨0x58, 0, 32, 0⟩
@[reducible] def F.MGT_IBI_DROP.COUNT : Fld := ⟨0x5C, 0, 32, 0⟩
@[reducible] def F.MGT_REJECT.COUNT : Fld := ⟨0x60, 0, 32, 0⟩
@[reducible] def F.MGT_SESSION_DENY.COUNT : Fld := ⟨0x64, 0, 32, 0⟩
@[reducible] def F.SEC_CFG.MUTUAL : Fld := ⟨0x40, 0, 1, 0⟩
@[reducible] def F.SEC_CFG.DEBUG_EN : Fld := ⟨0x40, 1, 1, 0⟩
@[reducible] def F.SEC_STAT.PUF_OK : Fld := ⟨0x44, 0, 1, 0⟩
@[reducible] def F.SEC_STAT.RT_VERIFIED : Fld := ⟨0x44, 1, 1, 0⟩
@[reducible] def F.SEC_STAT.RT_SLOT : Fld := ⟨0x44, 2, 1, 0⟩
@[reducible] def F.SEC_STAT.FALLBACK : Fld := ⟨0x44, 3, 1, 0⟩
@[reducible] def F.SEC_STAT.BL1_COPY : Fld := ⟨0x44, 4, 1, 0⟩
@[reducible] def F.SEC_STAT.TAMPERED : Fld := ⟨0x44, 5, 1, 0⟩
@[reducible] def F.SEC_STAT.DEBUG_OPEN : Fld := ⟨0x44, 6, 1, 0⟩
@[reducible] def F.SEC_STAT.OPR_SET : Fld := ⟨0x44, 7, 1, 0⟩
@[reducible] def F.SEC_STAT.MCTP_SESSIONS : Fld := ⟨0x44, 8, 3, 0⟩
@[reducible] def F.SEC_STAT.DOE_SESSIONS : Fld := ⟨0x44, 11, 8, 0⟩
@[reducible] def F.SEC_CAUSE.PUF_FAIL : Fld := ⟨0x48, 0, 1, 0⟩
@[reducible] def F.SEC_CAUSE.FW_INVALID : Fld := ⟨0x48, 1, 1, 0⟩
@[reducible] def F.SEC_CAUSE.TAMPER : Fld := ⟨0x48, 2, 1, 0⟩
@[reducible] def F.SEC_CAUSE.INTERNAL : Fld := ⟨0x48, 3, 1, 0⟩
@[reducible] def F.SEC_FW_VER.VERSION : Fld := ⟨0x4C, 0, 32, 0⟩
@[reducible] def F.SEC_FW_SVN.SVN : Fld := ⟨0x50, 0, 32, 0⟩
@[reducible] def F.SEC_CTR_SEL.COUNTER : Fld := ⟨0x54, 0, 2, 0⟩
@[reducible] def F.SEC_CTR_LO.VALUE : Fld := ⟨0x58, 0, 32, 0⟩
@[reducible] def F.SEC_CTR_HI.VALUE : Fld := ⟨0x5C, 0, 32, 0⟩
@[reducible] def F.SEC_BOOT.NEXT : Fld := ⟨0x60, 0, 1, 0⟩
@[reducible] def F.SEC_BOOT.LAST_GOOD : Fld := ⟨0x60, 1, 1, 0⟩
@[reducible] def F.SEC_BOOT.VALID : Fld := ⟨0x60, 2, 2, 0⟩
@[reducible] def F.SEC_BOOT.BL1_STAGED : Fld := ⟨0x60, 4, 1, 0⟩
@[reducible] def F.SEC_ACT.TARGET : Fld := ⟨0x64, 0, 2, 0⟩
@[reducible] def F.SEC_ACT.BUSY : Fld := ⟨0x64, 2, 1, 0⟩
@[reducible] def F.SEC_ACT.RESULT : Fld := ⟨0x64, 8, 8, 0⟩
@[reducible] def F.SEC_ACT.PCT : Fld := ⟨0x64, 16, 7, 0⟩
@[reducible] def F.SEC_XFER.BYTES : Fld := ⟨0x68, 0, 27, 0⟩
@[reducible] def F.SEC_TAMPER.COUNT : Fld := ⟨0x6C, 0, 16, 0⟩
@[reducible] def F.SEC_TAMPER.LAST_NS : Fld := ⟨0x6C, 16, 16, 0⟩
@[reducible] def F.SEC_CMD.OP : Fld := ⟨0x70, 0, 2, 0⟩
@[reducible] def F.SEC_CMD.RESULT : Fld := ⟨0x70, 8, 8, 0⟩
@[reducible] def F.SEC_CHAL.COUNT : Fld := ⟨0x74, 0, 32, 0⟩
@[reducible] def F.SEC_SESS_FAIL.COUNT : Fld := ⟨0x78, 0, 32, 0⟩
@[reducible] def F.SEC_OPR.HASH : Fld := ⟨0x80, 0, 32, 4⟩
@[reducible] def F.SEC_UUID.UUID : Fld := ⟨0xC0, 0, 32, 4⟩
@[reducible] def F.PST_STAT.WRITING : Fld := ⟨0x40, 0, 1, 0⟩
@[reducible] def F.PST_STAT.AON_LOW : Fld := ⟨0x40, 1, 1, 0⟩
@[reducible] def F.PST_STAT.LOADED : Fld := ⟨0x40, 2, 1, 0⟩
@[reducible] def F.PST_STAT.QUEUED : Fld := ⟨0x40, 3, 10, 0⟩
@[reducible] def F.PST_PROTECT.QUARTER : Fld := ⟨0x44, 0, 1, 0⟩
@[reducible] def F.PST_PROTECT.HALF : Fld := ⟨0x44, 1, 1, 0⟩
@[reducible] def F.PST_PROTECT.WHOLE : Fld := ⟨0x44, 2, 1, 0⟩
@[reducible] def F.PST_ACC_CMD.PAGE : Fld := ⟨0x48, 0, 12, 0⟩
@[reducible] def F.PST_ACC_CMD.WRITE : Fld := ⟨0x48, 12, 1, 0⟩
@[reducible] def F.PST_ACC_STAT.BUSY : Fld := ⟨0x4C, 0, 1, 0⟩
@[reducible] def F.PST_ACC_STAT.RESULT : Fld := ⟨0x4C, 8, 8, 0⟩
@[reducible] def F.PST_CTR_CMD.COUNTER : Fld := ⟨0x50, 0, 6, 0⟩
@[reducible] def F.PST_CTR_CMD.OP : Fld := ⟨0x50, 6, 2, 0⟩
@[reducible] def F.PST_CTR_DELTA.DELTA : Fld := ⟨0x54, 0, 32, 0⟩
@[reducible] def F.PST_CTR_LO.VALUE : Fld := ⟨0x58, 0, 32, 0⟩
@[reducible] def F.PST_CTR_HI.VALUE : Fld := ⟨0x5C, 0, 32, 0⟩
@[reducible] def F.PST_CTR_STAT.BUSY : Fld := ⟨0x60, 0, 1, 0⟩
@[reducible] def F.PST_CTR_STAT.RESULT : Fld := ⟨0x60, 8, 8, 0⟩
@[reducible] def F.PST_SKIP_LO.SKIP : Fld := ⟨0x64, 0, 32, 0⟩
@[reducible] def F.PST_SKIP_HI.SKIP : Fld := ⟨0x68, 0, 32, 0⟩
@[reducible] def F.PST_REC_SEL.RECORD : Fld := ⟨0x6C, 0, 8, 0⟩
@[reducible] def F.PST_REC_STAT.A_OK : Fld := ⟨0x70, 0, 1, 0⟩
@[reducible] def F.PST_REC_STAT.B_OK : Fld := ⟨0x70, 1, 1, 0⟩
@[reducible] def F.PST_REC_STAT.USED_B : Fld := ⟨0x70, 2, 1, 0⟩
@[reducible] def F.PST_REC_STAT.ROW : Fld := ⟨0x70, 3, 3, 0⟩
@[reducible] def F.PST_REC_STAT.REPAIR_DUE : Fld := ⟨0x70, 6, 1, 0⟩
@[reducible] def F.PST_REC_SEQ.SEQ : Fld := ⟨0x74, 0, 32, 0⟩
@[reducible] def F.PST_WRITES.COUNT : Fld := ⟨0x78, 0, 32, 0⟩
@[reducible] def F.PST_TWIN.COUNT : Fld := ⟨0x7C, 0, 32, 0⟩
@[reducible] def F.PST_TORN.COUNT : Fld := ⟨0x80, 0, 32, 0⟩
@[reducible] def F.PST_COPY_BAD.COUNT : Fld := ⟨0x84, 0, 32, 0⟩
@[reducible] def F.PST_ACC_DATA.DATA : Fld := ⟨0x400, 0, 32, 4⟩
@[reducible] def F.CPE_CFG.RETRY : Fld := ⟨0x40, 0, 3, 0⟩
@[reducible] def F.CPE_STAT.ACTIVE : Fld := ⟨0x44, 0, 6, 0⟩
@[reducible] def F.CPE_MIB.COUNT : Fld := ⟨0x48, 0, 32, 0⟩
@[reducible] def F.CPE_RETRIES.COUNT : Fld := ⟨0x4C, 0, 32, 0⟩
@[reducible] def F.CPE_HALTS.COUNT : Fld := ⟨0x50, 0, 32, 0⟩
@[reducible] def F.CPE_POISON_PASS.COUNT : Fld := ⟨0x54, 0, 32, 0⟩
@[reducible] def F.CPE_SKIPPED.COUNT : Fld := ⟨0x58, 0, 32, 0⟩
@[reducible] def F.CPD_CTL.ARM : Fld := ⟨0x100, 0, 1, 256⟩
@[reducible] def F.CPD_CTL.ABORT : Fld := ⟨0x100, 1, 1, 256⟩
@[reducible] def F.CPD_CTL.RESUME : Fld := ⟨0x100, 2, 2, 256⟩
@[reducible] def F.CPS_CTL.GO : Fld := ⟨0x100, 0, 1, 64⟩
@[reducible] def F.CPS_CTL.ABORT : Fld := ⟨0x100, 1, 1, 64⟩
@[reducible] def F.CPD_STAT.STATE : Fld := ⟨0x104, 0, 3, 256⟩
@[reducible] def F.CPS_STAT.STATE : Fld := ⟨0x104, 0, 3, 64⟩
@[reducible] def F.CPD_STAT.SHADOW_ARMED : Fld := ⟨0x104, 3, 1, 256⟩
@[reducible] def F.CPS_STAT.SHADOW_ARMED : Fld := ⟨0x104, 3, 1, 64⟩
@[reducible] def F.CPD_STAT.CAUSE : Fld := ⟨0x104, 4, 4, 256⟩
@[reducible] def F.CPS_STAT.CAUSE : Fld := ⟨0x104, 4, 4, 64⟩
@[reducible] def F.CPD_STAT.RESULT : Fld := ⟨0x104, 8, 8, 256⟩
@[reducible] def F.CPS_STAT.RESULT : Fld := ⟨0x104, 8, 8, 64⟩
@[reducible] def F.CPD_STAT.FSTATUS : Fld := ⟨0x104, 16, 2, 256⟩
@[reducible] def F.CPS_STAT.FSTATUS : Fld := ⟨0x104, 16, 2, 64⟩
@[reducible] def F.CPD_STAT.DURABLE : Fld := ⟨0x104, 18, 1, 256⟩
@[reducible] def F.CPS_STAT.DURABLE : Fld := ⟨0x104, 18, 1, 64⟩
@[reducible] def F.CPD_STAT.NOT_DURABLE : Fld := ⟨0x104, 19, 1, 256⟩
@[reducible] def F.CPS_STAT.NOT_DURABLE : Fld := ⟨0x104, 19, 1, 64⟩
@[reducible] def F.CPD_STAT.INFLIGHT : Fld := ⟨0x104, 20, 7, 256⟩
@[reducible] def F.CPS_STAT.INFLIGHT : Fld := ⟨0x104, 20, 7, 64⟩
@[reducible] def F.CPD_DONE.BYTES : Fld := ⟨0x108, 0, 32, 256⟩
@[reducible] def F.CPS_DONE.BYTES : Fld := ⟨0x108, 0, 32, 64⟩
@[reducible] def F.CPD_ERR_LO.HPA : Fld := ⟨0x10C, 0, 32, 256⟩
@[reducible] def F.CPS_ERR_LO.HPA : Fld := ⟨0x10C, 0, 32, 64⟩
@[reducible] def F.CPD_ERR_HI.HPA : Fld := ⟨0x110, 0, 32, 256⟩
@[reducible] def F.CPS_ERR_HI.HPA : Fld := ⟨0x110, 0, 32, 64⟩
@[reducible] def F.CPD_ACT_SRC_LO.HPA : Fld := ⟨0x120, 4, 28, 256⟩
@[reducible] def F.CPD_SH_SRC_LO.HPA : Fld := ⟨0x140, 4, 28, 256⟩
@[reducible] def F.CPS_SRC_LO.HPA : Fld := ⟨0x114, 4, 28, 64⟩
@[reducible] def F.CPD_ACT_DST_LO.HPA : Fld := ⟨0x128, 4, 28, 256⟩
@[reducible] def F.CPD_SH_DST_LO.HPA : Fld := ⟨0x148, 4, 28, 256⟩
@[reducible] def F.CPS_DST_LO.HPA : Fld := ⟨0x11C, 4, 28, 64⟩
@[reducible] def F.CPD_ACT_SRC_HI.HPA : Fld := ⟨0x124, 0, 32, 256⟩
@[reducible] def F.CPD_SH_SRC_HI.HPA : Fld := ⟨0x144, 0, 32, 256⟩
@[reducible] def F.CPS_SRC_HI.HPA : Fld := ⟨0x118, 0, 32, 64⟩
@[reducible] def F.CPD_ACT_DST_HI.HPA : Fld := ⟨0x12C, 0, 32, 256⟩
@[reducible] def F.CPD_SH_DST_HI.HPA : Fld := ⟨0x14C, 0, 32, 256⟩
@[reducible] def F.CPS_DST_HI.HPA : Fld := ⟨0x120, 0, 32, 64⟩
@[reducible] def F.CPD_ACT_LEN.WORDS : Fld := ⟨0x130, 0, 28, 256⟩
@[reducible] def F.CPD_SH_LEN.WORDS : Fld := ⟨0x150, 0, 28, 256⟩
@[reducible] def F.CPS_LEN.WORDS : Fld := ⟨0x124, 0, 28, 64⟩
@[reducible] def F.CPD_ACT_ATTR.HEAD : Fld := ⟨0x134, 0, 3, 256⟩
@[reducible] def F.CPD_SH_ATTR.HEAD : Fld := ⟨0x154, 0, 3, 256⟩
@[reducible] def F.CPS_ATTR.HEAD : Fld := ⟨0x128, 0, 3, 64⟩
@[reducible] def F.CPD_ACT_ATTR.OP : Fld := ⟨0x134, 3, 2, 256⟩
@[reducible] def F.CPD_SH_ATTR.OP : Fld := ⟨0x154, 3, 2, 256⟩
@[reducible] def F.CPS_ATTR.OP : Fld := ⟨0x128, 3, 2, 64⟩
@[reducible] def F.CPD_ACT_ATTR.KEY : Fld := ⟨0x134, 5, 12, 256⟩
@[reducible] def F.CPD_SH_ATTR.KEY : Fld := ⟨0x154, 5, 12, 256⟩
@[reducible] def F.CPS_ATTR.KEY : Fld := ⟨0x128, 5, 12, 64⟩
@[reducible] def F.CPD_ACT_ATTR.FENCE_EN : Fld := ⟨0x134, 17, 1, 256⟩
@[reducible] def F.CPD_SH_ATTR.FENCE_EN : Fld := ⟨0x154, 17, 1, 256⟩
@[reducible] def F.CPS_ATTR.FENCE_EN : Fld := ⟨0x128, 17, 1, 64⟩
@[reducible] def F.CPD_ACT_ATTR.SCOPE : Fld := ⟨0x134, 18, 2, 256⟩
@[reducible] def F.CPD_SH_ATTR.SCOPE : Fld := ⟨0x154, 18, 2, 256⟩
@[reducible] def F.CPS_ATTR.SCOPE : Fld := ⟨0x128, 18, 2, 64⟩
@[reducible] def F.CPD_ACT_ATTR.PASS_POISON : Fld := ⟨0x134, 20, 1, 256⟩
@[reducible] def F.CPD_SH_ATTR.PASS_POISON : Fld := ⟨0x154, 20, 1, 256⟩
@[reducible] def F.CPS_ATTR.PASS_POISON : Fld := ⟨0x128, 20, 1, 64⟩
@[reducible] def F.CPD_ACT_ATTR.RECORD : Fld := ⟨0x134, 21, 1, 256⟩
@[reducible] def F.CPD_SH_ATTR.RECORD : Fld := ⟨0x154, 21, 1, 256⟩
@[reducible] def F.CPS_ATTR.RECORD : Fld := ⟨0x128, 21, 1, 64⟩
@[reducible] def F.CPD_ACT_ATTR.QUEUE : Fld := ⟨0x134, 22, 6, 256⟩
@[reducible] def F.CPD_SH_ATTR.QUEUE : Fld := ⟨0x154, 22, 6, 256⟩
@[reducible] def F.CPS_ATTR.QUEUE : Fld := ⟨0x128, 22, 6, 64⟩
@[reducible] def F.EVQ_POOL.FREE : Fld := ⟨0x40, 0, 16, 0⟩
@[reducible] def F.EVQ_POOL.LOW_MARK : Fld := ⟨0x40, 16, 16, 0⟩
@[reducible] def F.EVQ_QSEL.QUEUE : Fld := ⟨0x44, 0, 6, 0⟩
@[reducible] def F.EVQ_QCFG.EN : Fld := ⟨0x48, 0, 1, 0⟩
@[reducible] def F.EVQ_QCFG.DEST : Fld := ⟨0x48, 1, 2, 0⟩
@[reducible] def F.EVQ_QCFG.HEAD : Fld := ⟨0x48, 3, 3, 0⟩
@[reducible] def F.EVQ_QCFG.VECTOR : Fld := ⟨0x48, 8, 8, 0⟩
@[reducible] def F.EVQ_QCFG.MAX_CELLS : Fld := ⟨0x48, 16, 16, 0⟩
@[reducible] def F.EVQ_QSTAT.CELLS : Fld := ⟨0x4C, 0, 16, 0⟩
@[reducible] def F.EVQ_QSTAT.SEQ : Fld := ⟨0x4C, 16, 16, 0⟩
@[reducible] def F.EVQ_RD_CTL.OFF : Fld := ⟨0x50, 0, 11, 0⟩
@[reducible] def F.EVQ_RD_CTL.POP : Fld := ⟨0x50, 11, 1, 0⟩
@[reducible] def F.EVQ_RD_STAT.HEAD_LW : Fld := ⟨0x54, 0, 24, 0⟩
@[reducible] def F.EVQ_RD_STAT.RESULT : Fld := ⟨0x54, 24, 8, 0⟩
@[reducible] def F.EVQ_PUSH_CTL.LEN : Fld := ⟨0x58, 0, 16, 0⟩
@[reducible] def F.EVQ_PUSH_CTL.START : Fld := ⟨0x58, 16, 1, 0⟩
@[reducible] def F.EVQ_PUSH_CTL.END : Fld := ⟨0x58, 17, 1, 0⟩
@[reducible] def F.EVQ_PUSH_CTL.QUEUE : Fld := ⟨0x58, 18, 6, 0⟩
@[reducible] def F.EVQ_PUSH_DATA.DATA : Fld := ⟨0x5C, 0, 32, 0⟩
@[reducible] def F.EVQ_PUSH_STAT.OPEN : Fld := ⟨0x60, 0, 1, 0⟩
@[reducible] def F.EVQ_PUSH_STAT.RESULT : Fld := ⟨0x60, 8, 8, 0⟩
@[reducible] def F.EVQ_PUSH_STAT.BYTES : Fld := ⟨0x60, 16, 16, 0⟩
@[reducible] def F.EVQ_DROPPED.COUNT : Fld := ⟨0x64, 0, 32, 0⟩
@[reducible] def F.EVQ_TRUNC.COUNT : Fld := ⟨0x68, 0, 32, 0⟩
@[reducible] def F.EVQ_UNDERRUN.COUNT : Fld := ⟨0x6C, 0, 32, 0⟩
@[reducible] def F.EVQ_CELL.DATA : Fld := ⟨0x400, 0, 32, 4⟩
@[reducible] def F.QOS_CFG.WINDOW_US : Fld := ⟨0x40, 0, 7, 0⟩
@[reducible] def F.QOS_CFG.AGE_US : Fld := ⟨0x40, 8, 4, 0⟩
@[reducible] def F.QOS_URG.FILL : Fld := ⟨0x44, 0, 7, 0⟩
@[reducible] def F.QOS_SEL.MASTER : Fld := ⟨0x48, 0, 6, 0⟩
@[reducible] def F.QOS_MSTAT.USED : Fld := ⟨0x4C, 0, 20, 0⟩
@[reducible] def F.QOS_MSTAT.LOW : Fld := ⟨0x4C, 20, 1, 0⟩
@[reducible] def F.QOS_MSTAT.URGENT : Fld := ⟨0x4C, 21, 1, 0⟩
@[reducible] def F.QOS_MOUT.OUT : Fld := ⟨0x50, 0, 11, 0⟩
@[reducible] def F.QOS_MCFG.BUDGET : Fld := ⟨0x100, 0, 20, 8⟩
@[reducible] def F.QOS_MCFG.EN : Fld := ⟨0x100, 20, 1, 8⟩
@[reducible] def F.QOS_MCFG.PRIV : Fld := ⟨0x100, 21, 1, 8⟩
@[reducible] def F.QOS_MMAX.MAX_OUT : Fld := ⟨0x104, 0, 11, 8⟩
@[reducible] def F.QOS_LOWERED.COUNT : Fld := ⟨0x54, 0, 32, 0⟩
@[reducible] def F.QOS_PROMOTED.COUNT : Fld := ⟨0x58, 0, 32, 0⟩
@[reducible] def F.QOS_OUT_WAIT.COUNT : Fld := ⟨0x5C, 0, 32, 0⟩
@[reducible] def F.THM_CFG.MEDIA_LIMIT : Fld := ⟨0x40, 0, 8, 0⟩
@[reducible] def F.THM_STAT.LEVEL : Fld := ⟨0x44, 0, 2, 0⟩
@[reducible] def F.THM_STAT.MEDIA_THROTTLE : Fld := ⟨0x44, 2, 1, 0⟩
@[reducible] def F.THM_STAT.MMAX_VALID : Fld := ⟨0x44, 3, 1, 0⟩
@[reducible] def F.THM_STAT.TRIPPED : Fld := ⟨0x44, 4, 1, 0⟩
@[reducible] def F.THM_JMAX.TEMP : Fld := ⟨0x48, 0, 16, 0⟩
@[reducible] def F.THM_MMAX.TEMP : Fld := ⟨0x4C, 0, 16, 0⟩
@[reducible] def F.THM_JMAX.SENSOR : Fld := ⟨0x48, 16, 6, 0⟩
@[reducible] def F.THM_MMAX.SENSOR : Fld := ⟨0x4C, 16, 6, 0⟩
@[reducible] def F.THM_SUSPECT_LO.SENSORS : Fld := ⟨0x50, 0, 32, 0⟩
@[reducible] def F.THM_MISSING_LO.SENSORS : Fld := ⟨0x58, 0, 32, 0⟩
@[reducible] def F.THM_SUSPECT_HI.SENSORS : Fld := ⟨0x54, 0, 20, 0⟩
@[reducible] def F.THM_MISSING_HI.SENSORS : Fld := ⟨0x5C, 0, 20, 0⟩
@[reducible] def F.THM_SEL.SENSOR : Fld := ⟨0x60, 0, 6, 0⟩
@[reducible] def F.THM_READ.TEMP : Fld := ⟨0x64, 0, 16, 0⟩
@[reducible] def F.THM_READ.MEDIAN : Fld := ⟨0x64, 16, 16, 0⟩
@[reducible] def F.THM_THROTTLE_MS.COUNT : Fld := ⟨0x68, 0, 32, 0⟩
@[reducible] def F.THM_LEVEL_UP.COUNT : Fld := ⟨0x6C, 0, 32, 0⟩
@[reducible] def F.THM_SUSPECTS.COUNT : Fld := ⟨0x70, 0, 32, 0⟩
@[reducible] def F.PMC_CNT_LO.COUNT : Fld := ⟨0xC00, 0, 32, 8⟩
@[reducible] def F.PMC_CNT_HI.COUNT : Fld := ⟨0xC04, 0, 16, 8⟩
@[reducible] def F.PMC_SEL.EVENT : Fld := ⟨0xC40, 0, 8, 4⟩
@[reducible] def F.PMC_SEL.EN : Fld := ⟨0xC40, 8, 1, 4⟩
@[reducible] def F.PMC_SEL.THR_EN : Fld := ⟨0xC40, 9, 1, 4⟩
@[reducible] def F.PMC_SEL.SAMPLE : Fld := ⟨0xC40, 10, 1, 4⟩
@[reducible] def F.PMC_THR_LO.THR : Fld := ⟨0xC60, 0, 32, 8⟩
@[reducible] def F.PMC_THR_HI.THR : Fld := ⟨0xC64, 0, 16, 8⟩
@[reducible] def F.PMC_PCTL.FREEZE : Fld := ⟨0xCA0, 0, 1, 0⟩
@[reducible] def F.PMC_PCTL.FREEZE_ON_OVF : Fld := ⟨0xCA0, 1, 1, 0⟩
@[reducible] def F.PMC_PSTAT.OVF : Fld := ⟨0xCA4, 0, 8, 0⟩
@[reducible] def F.PMC_PSTAT.THR : Fld := ⟨0xCA4, 8, 8, 0⟩
@[reducible] def F.PMC_SAMP0.OID : Fld := ⟨0xCA8, 0, 16, 0⟩
@[reducible] def F.PMC_SAMP0.COUNTER : Fld := ⟨0xCA8, 16, 3, 0⟩
@[reducible] def F.PMC_SAMP0.VALID : Fld := ⟨0xCA8, 19, 1, 0⟩
@[reducible] def F.PMC_SAMP0.SKID : Fld := ⟨0xCA8, 20, 7, 0⟩
@[reducible] def F.PMC_SAMP1.ADDR : Fld := ⟨0xCAC, 0, 32, 0⟩
@[reducible] def F.PMC_SAMP2.ADDR : Fld := ⟨0xCB0, 0, 32, 0⟩
@[reducible] def F.PMC_CTL.FREEZE_ALL : Fld := ⟨0x40, 0, 1, 0⟩
@[reducible] def F.PMC_CTL.SNAP : Fld := ⟨0x40, 1, 1, 0⟩
@[reducible] def F.PMC_CTL.CLEAR_ON_SNAP : Fld := ⟨0x40, 2, 1, 0⟩
@[reducible] def F.PMC_STAT.BUSY : Fld := ⟨0x44, 0, 1, 0⟩
@[reducible] def F.PMC_STAT.RESULT : Fld := ⟨0x44, 8, 8, 0⟩
@[reducible] def F.PMC_STAT.COUNT : Fld := ⟨0x44, 16, 16, 0⟩
@[reducible] def F.PMC_PERIOD.MS : Fld := ⟨0x48, 0, 16, 0⟩
@[reducible] def F.PMC_PERIOD.AUTO : Fld := ⟨0x48, 16, 1, 0⟩
@[reducible] def F.PMC_SNAP_TIME_LO.TIME : Fld := ⟨0x4C, 0, 32, 0⟩
@[reducible] def F.PMC_SNAP_TIME_HI.TIME : Fld := ⟨0x50, 0, 32, 0⟩
@[reducible] def F.PMC_MISSING.ENTRIES : Fld := ⟨0x54, 0, 32, 0⟩
@[reducible] def F.PMC_SKIPPED.COUNT : Fld := ⟨0x58, 0, 32, 0⟩
@[reducible] def F.PMC_LIST.PAGE_A : Fld := ⟨0x80, 0, 9, 4⟩
@[reducible] def F.PMC_LIST.VALID_A : Fld := ⟨0x80, 15, 1, 4⟩
@[reducible] def F.PMC_LIST.PAGE_B : Fld := ⟨0x80, 16, 9, 4⟩
@[reducible] def F.PMC_LIST.VALID_B : Fld := ⟨0x80, 31, 1, 4⟩
@[reducible] def F.PMC_SNAP.COUNT : Fld := ⟨0x400, 0, 32, 4⟩
@[reducible] def F.FLT_CFG.WRAP : Fld := ⟨0x40, 0, 1, 0⟩
@[reducible] def F.FLT_STAT.FATAL : Fld := ⟨0x44, 0, 1, 0⟩
@[reducible] def F.FLT_STAT.FATAL_CLASS : Fld := ⟨0x44, 1, 4, 0⟩
@[reducible] def F.FLT_STAT.ENTRIES : Fld := ⟨0x44, 5, 9, 0⟩
@[reducible] def F.FLT_SEQ.COUNT : Fld := ⟨0x48, 0, 32, 0⟩
@[reducible] def F.FLT_BOUND.NS : Fld := ⟨0x4C, 0, 32, 0⟩
@[reducible] def F.FLT_LOG_SEL.INDEX : Fld := ⟨0x50, 0, 8, 0⟩
@[reducible] def F.FLT_LOG0.PAGE : Fld := ⟨0x54, 0, 9, 0⟩
@[reducible] def F.FLT_LOG0.EVENT : Fld := ⟨0x54, 9, 5, 0⟩
@[reducible] def F.FLT_LOG0.CLASS : Fld := ⟨0x54, 14, 4, 0⟩
@[reducible] def F.FLT_LOG0.FATAL : Fld := ⟨0x54, 18, 1, 0⟩
@[reducible] def F.FLT_LOG1.STALL_NS : Fld := ⟨0x58, 0, 32, 0⟩
@[reducible] def F.FLT_LOG2.TIME : Fld := ⟨0x5C, 0, 32, 0⟩
@[reducible] def F.FLT_LOG3.TIME : Fld := ⟨0x60, 0, 32, 0⟩
@[reducible] def F.FLT_LOG4.INFO : Fld := ⟨0x64, 0, 32, 0⟩
@[reducible] def F.FLT_CATALOGUE.COUNT : Fld := ⟨0x68, 0, 32, 0⟩
@[reducible] def F.FLT_OUTSIDE.COUNT : Fld := ⟨0x6C, 0, 32, 0⟩
@[reducible] def F.FLT_BOUND_MISS.COUNT : Fld := ⟨0x70, 0, 32, 0⟩
@[reducible] def F.TRV_CFG.SCRUB_US : Fld := ⟨0x40, 0, 10, 0⟩
@[reducible] def F.TRV_SEL.WORD : Fld := ⟨0x44, 0, 5, 0⟩
@[reducible] def F.TRV_VOTED.VALUE : Fld := ⟨0x48, 0, 32, 0⟩
@[reducible] def F.TRV_COPY.VALUE : Fld := ⟨0x4C, 0, 32, 4⟩
@[reducible] def F.TRV_FLIP_CTL.ARM : Fld := ⟨0x58, 0, 1, 0⟩
@[reducible] def F.TRV_FLIP_CTL.COPY : Fld := ⟨0x58, 1, 2, 0⟩
@[reducible] def F.TRV_FLIP_CTL.WORD : Fld := ⟨0x58, 3, 5, 0⟩
@[reducible] def F.TRV_FLIP_MASK.MASK : Fld := ⟨0x5C, 0, 32, 0⟩
@[reducible] def F.TRV_REPAIRS.COUNT : Fld := ⟨0x60, 0, 32, 0⟩
@[reducible] def F.TRV_DOUBLES.COUNT : Fld := ⟨0x64, 0, 32, 0⟩
@[reducible] def F.DEV_VENDOR.VENDOR : Fld := ⟨0x40, 0, 15, 0⟩
@[reducible] def F.DEV_PART.PART : Fld := ⟨0x44, 0, 16, 0⟩
@[reducible] def F.DEV_STEP.STEPPING : Fld := ⟨0x48, 0, 8, 0⟩
@[reducible] def F.DEV_SERIAL_LO.SERIAL : Fld := ⟨0x4C, 0, 32, 0⟩
@[reducible] def F.DEV_SERIAL_HI.SERIAL : Fld := ⟨0x50, 0, 32, 0⟩
@[reducible] def F.DEV_CTL.LOCK_ALL : Fld := ⟨0x54, 0, 1, 0⟩
@[reducible] def F.DEV_UNMAPPED.COUNT : Fld := ⟨0x58, 0, 32, 0⟩
@[reducible] def F.EVT_STATUS.BITS : Fld := ⟨0x10, 0, 32, 0⟩
@[reducible] def F.EVT_ENABLE.BITS : Fld := ⟨0x14, 0, 32, 0⟩
@[reducible] def F.EVT_FORCE.BITS : Fld := ⟨0x18, 0, 32, 0⟩

/-! Event bits: one constant for each row of the event tables of spec/ (R18). -/

@[reducible] def E.XTN.NO_WINDOW : Nat := 0
@[reducible] def E.XTN.VW_RANGE : Nat := 1
@[reducible] def E.XTN.NO_EXTENT : Nat := 2
@[reducible] def E.XTN.PERM : Nat := 3
@[reducible] def E.XTN.UNREACHABLE : Nat := 4
@[reducible] def E.XTN.STALE_OWNER : Nat := 5
@[reducible] def E.XTN.OFFER_REJECTED : Nat := 6
@[reducible] def E.XTN.RELEASE_DONE : Nat := 7
@[reducible] def E.HPT.LINK_UP : Nat := 0
@[reducible] def E.HPT.LINK_DOWN : Nat := 1
@[reducible] def E.HPT.TRAIN_FAIL : Nat := 2
@[reducible] def E.HPT.LANE_FAULT : Nat := 3
@[reducible] def E.HPT.IDE_FAIL : Nat := 4
@[reducible] def E.HPT.INTERNAL : Nat := 5
@[reducible] def E.HPT.EVLOG_OVERFLOW : Nat := 6
@[reducible] def E.HPT.MSI_DROPPED : Nat := 7
@[reducible] def E.FCC.PAR_CORRECTED : Nat := 0
@[reducible] def E.FCC.PAR_UNCORRECTED : Nat := 1
@[reducible] def E.FCC.PC_LOST : Nat := 2
@[reducible] def E.FCC.STACK_LOST : Nat := 3
@[reducible] def E.FCC.SCRUB_SLOW : Nat := 4
@[reducible] def E.FCC.FLIP_APPLIED : Nat := 5
@[reducible] def E.FCM.OP_DONE : Nat := 0
@[reducible] def E.FCM.DIRTY_LIMIT : Nat := 1
@[reducible] def E.FCM.ENABLE_REFUSED : Nat := 2
@[reducible] def E.FCM.DISABLED : Nat := 3
@[reducible] def E.VWN.RESIZE_DONE : Nat := 0
@[reducible] def E.VWN.PAR_POISONED : Nat := 1
@[reducible] def E.VWN.FRAMES_LOST : Nat := 2
@[reducible] def E.VWN.REMAP_DONE : Nat := 3
@[reducible] def E.VWN.PARTIAL_DROPPED : Nat := 4
@[reducible] def E.MCH.DIE_LOST : Nat := 0
@[reducible] def E.MCH.CHAN_FAULT : Nat := 1
@[reducible] def E.MCH.PROG_FAIL : Nat := 2
@[reducible] def E.MCH.RST_FAIL : Nat := 3
@[reducible] def E.MCH.UNCORRECTABLE : Nat := 4
@[reducible] def E.MCH.OVERRIDE : Nat := 5
@[reducible] def E.MCH.FLIP_APPLIED : Nat := 6
@[reducible] def E.MCH.REBUILD_DONE : Nat := 7
@[reducible] def E.MAP.RECOVERED_DEEP : Nat := 0
@[reducible] def E.MAP.UNRECOVERABLE : Nat := 1
@[reducible] def E.MAP.INTEGRITY : Nat := 2
@[reducible] def E.MAP.ALIAS_READ : Nat := 3
@[reducible] def E.MAP.SEG_REBUILD : Nat := 4
@[reducible] def E.MAP.INFLIGHT_FULL : Nat := 5
@[reducible] def E.PTX.BLOCK_REBUILD : Nat := 0
@[reducible] def E.PTX.SLOT_INVALID : Nat := 1
@[reducible] def E.PTX.FOLD_POISONED : Nat := 2
@[reducible] def E.PTX.LOAD_HIGH : Nat := 3
@[reducible] def E.PTX.LOAD_FULL : Nat := 4
@[reducible] def E.PTX.LOG_HIGH : Nat := 5
@[reducible] def E.PTX.LOG_FULL : Nat := 6
@[reducible] def E.PTX.FOLD_WAIT : Nat := 7
@[reducible] def E.RCL.FREE_LOW : Nat := 0
@[reducible] def E.RCL.FREE_CRIT : Nat := 1
@[reducible] def E.RCL.DEST_FAIL : Nat := 2
@[reducible] def E.RCL.FIELD_RETIRED : Nat := 3
@[reducible] def E.RCL.BAND_OUT : Nat := 4
@[reducible] def E.RCL.RESERVE : Nat := 5
@[reducible] def E.CKP.JOURNAL_FULL : Nat := 0
@[reducible] def E.CKP.REPLAY_DONE : Nat := 1
@[reducible] def E.CKP.STRIPE_DISCARDED : Nat := 2
@[reducible] def E.CKP.CKPT_BUDGET : Nat := 3
@[reducible] def E.AGE.RT_APPLIED : Nat := 0
@[reducible] def E.AGE.SENSOR_FALLBACK : Nat := 1
@[reducible] def E.AGE.RETENTION_RISK : Nat := 2
@[reducible] def E.AGE.BIAS_LIMIT : Nat := 3
@[reducible] def E.PTL.LAP_DONE : Nat := 0
@[reducible] def E.PTL.LAP_LATE : Nat := 1
@[reducible] def E.PTL.BAND_EVACUATE : Nat := 2
@[reducible] def E.PTL.LINE_LOST : Nat := 3
@[reducible] def E.PTL.SUSPECT_DROP : Nat := 4
@[reducible] def E.PTL.PRIORITY_LAP : Nat := 5
@[reducible] def E.HLT.SPARE_WARN : Nat := 0
@[reducible] def E.HLT.SPARE_NEG : Nat := 1
@[reducible] def E.HLT.LIFE_WARN : Nat := 2
@[reducible] def E.HLT.TEMP_WARN : Nat := 3
@[reducible] def E.WGV.BELOW_TARGET : Nat := 0
@[reducible] def E.WGV.GOVERNING : Nat := 1
@[reducible] def E.WGV.PINNED : Nat := 2
@[reducible] def E.KEY.IMPORTED : Nat := 0
@[reducible] def E.KEY.IMPORT_FAILED : Nat := 1
@[reducible] def E.KEY.CLEARED : Nat := 2
@[reducible] def E.KEY.UNSEAL_FAILED : Nat := 3
@[reducible] def E.KEY.ZEROISED : Nat := 4
@[reducible] def E.RKY.GEN_EXHAUSTED : Nat := 0
@[reducible] def E.RKY.SWEEP_DONE : Nat := 1
@[reducible] def E.RKY.SWEEP_LATE : Nat := 2
@[reducible] def E.RKY.AGAIN_SET : Nat := 3
@[reducible] def E.RKY.VERSION_EXHAUSTED : Nat := 4
@[reducible] def E.CRY.POISON_CREATED : Nat := 0
@[reducible] def E.CRY.PARTIAL_DROPPED : Nat := 1
@[reducible] def E.CRY.POISON_PAGE : Nat := 2
@[reducible] def E.CRY.NOKEY_WRITE : Nat := 3
@[reducible] def E.CRY.ERASE_DONE : Nat := 4
@[reducible] def E.CRY.EPOCH_EXHAUSTED : Nat := 5
@[reducible] def E.SHL.LINK_UP : Nat := 0
@[reducible] def E.SHL.LINK_DOWN : Nat := 1
@[reducible] def E.SHL.MISCABLE : Nat := 2
@[reducible] def E.SHL.AUTH_FAIL : Nat := 3
@[reducible] def E.SHL.MAC_FAIL : Nat := 4
@[reducible] def E.SHL.LANE_DROP : Nat := 5
@[reducible] def E.SHM.MEMBER_JOINED : Nat := 0
@[reducible] def E.SHM.MEMBER_FAILED : Nat := 1
@[reducible] def E.SHM.TOPOLOGY : Nat := 2
@[reducible] def E.SHM.FAILOVER : Nat := 3
@[reducible] def E.SHM.RESYNC_DONE : Nat := 4
@[reducible] def E.SHM.MANAGER_CHANGE : Nat := 5
@[reducible] def E.SHM.CUT : Nat := 6
@[reducible] def E.SHM.HEALTH_STALE : Nat := 7
@[reducible] def E.SHM.JOIN_REFUSED : Nat := 8
@[reducible] def E.RTM.TIME_VALID : Nat := 0
@[reducible] def E.RTM.HOLDOVER : Nat := 1
@[reducible] def E.RTM.LOCKED : Nat := 2
@[reducible] def E.RTM.TIME_STEP : Nat := 3
@[reducible] def E.RTM.RTICK_GLITCH : Nat := 4
@[reducible] def E.LOOP.LOOP_OVERRIDE : Nat := 0
@[reducible] def E.LOOP.LOOP_PINNED : Nat := 1
@[reducible] def E.SEQ.SEQ_DONE : Nat := 0
@[reducible] def E.SEQ.STEP_FAIL : Nat := 1
@[reducible] def E.SEQ.RETRY_EXHAUSTED : Nat := 2
@[reducible] def E.SEQ.RAIL_FAULT : Nat := 3
@[reducible] def E.SEQ.DOWN_FAULT : Nat := 4
@[reducible] def E.SEQ.CHATTER : Nat := 5
@[reducible] def E.SEQ.SOLO : Nat := 6
@[reducible] def E.SEQ.THERMTRIP : Nat := 7
@[reducible] def E.PDR.PFAIL : Nat := 0
@[reducible] def E.PDR.DRAINED : Nat := 1
@[reducible] def E.PDR.DRAIN_CUT : Nat := 2
@[reducible] def E.PDR.LEDGER_POISON : Nat := 3
@[reducible] def E.PDR.HOLDUP_BREACH : Nat := 4
@[reducible] def E.PDR.PFAIL_GLITCH : Nat := 5
@[reducible] def E.MGT.EID_ASSIGNED : Nat := 0
@[reducible] def E.MGT.IBI_OVERFLOW : Nat := 1
@[reducible] def E.MGT.BUS_ERROR : Nat := 2
@[reducible] def E.MGT.REQUEST_DENIED : Nat := 3
@[reducible] def E.SEC.TAMPER : Nat := 0
@[reducible] def E.SEC.FW_FALLBACK : Nat := 1
@[reducible] def E.SEC.ACTIVATE_DONE : Nat := 2
@[reducible] def E.SEC.PUF_FAIL : Nat := 3
@[reducible] def E.SEC.DEBUG_OPENED : Nat := 4
@[reducible] def E.SEC.SESSION_FAIL : Nat := 5
@[reducible] def E.SEC.SVN_ADVANCED : Nat := 6
@[reducible] def E.PST.PST_TWIN_CONFLICT : Nat := 0
@[reducible] def E.PST.COPY_FAILED : Nat := 1
@[reducible] def E.PST.RECORD_LOST : Nat := 2
@[reducible] def E.PST.COUNTER_SKIP : Nat := 3
@[reducible] def E.PST.PST_EXHAUSTED : Nat := 4
@[reducible] def E.EVQ.OVERRUN : Nat := 0
@[reducible] def E.EVQ.TRUNCATED : Nat := 1
@[reducible] def E.EVQ.POOL_LOW : Nat := 2
@[reducible] def E.QOS.LOWERED : Nat := 0
@[reducible] def E.QOS.PROMOTED : Nat := 1
@[reducible] def E.QOS.OUT_LIMIT : Nat := 2
@[reducible] def E.THM.THROTTLE : Nat := 0
@[reducible] def E.THM.SENSOR_SUSPECT : Nat := 1
@[reducible] def E.THM.SENSOR_MISSING : Nat := 2
@[reducible] def E.THM.MEDIA_THROTTLE : Nat := 3
@[reducible] def E.THM.THERMTRIP : Nat := 4
@[reducible] def E.PMC.SNAP_DONE : Nat := 0
@[reducible] def E.PMC.THRESHOLD : Nat := 1
@[reducible] def E.PMC.OVERFLOW : Nat := 2
@[reducible] def E.FLT.FAULT_LOGGED : Nat := 0
@[reducible] def E.FLT.BOUND_MISS : Nat := 1
@[reducible] def E.FLT.LOG_FULL : Nat := 2
@[reducible] def E.FLT.FATAL_SEEN : Nat := 3
@[reducible] def E.TRV.REPAIRED : Nat := 0
@[reducible] def E.TRV.DOUBLE : Nat := 1
@[reducible] def E.TRV.FLIP_APPLIED : Nat := 2
@[reducible] def E.DEV.UNMAPPED_ACCESS : Nat := 0

end Sys2Proof.Machine
end

