-- ==== Sys2Proof/Machine/RegTable.lean ====
section
/-! DEFINITION. The register tables: for each block the rows of its field tables of spec/ (access code, reset value, reset class,
what a written value may be: R9 to R12), and the page map of Table 21-1 (R487). -/

namespace Sys2Proof.Machine

/-- Field rows of DEV: Table 21-4. -/
def rowsDev : List Row :=
  [⟨F.DEV_VENDOR.VENDOR, 1, .ro, 7462, .page, .any⟩,
   ⟨F.DEV_PART.PART, 1, .ro, 18454, .page, .any⟩,
   ⟨F.DEV_STEP.STEPPING, 1, .ro, 0, .page, .any⟩,
   ⟨F.DEV_SERIAL_LO.SERIAL, 1, .ro, 0, .page, .any⟩,
   ⟨F.DEV_SERIAL_HI.SERIAL, 1, .ro, 0, .page, .any⟩,
   ⟨F.DEV_CTL.LOCK_ALL, 1, .w1s, 0, .page, .any⟩,
   ⟨F.DEV_UNMAPPED.COUNT, 1, .rc, 0, .page, .any⟩]

/-- Field rows of TRV: Table 20-11. -/
def rowsTrv : List Row :=
  [⟨F.TRV_CFG.SCRUB_US, 1, .rw, 100, .page, (.range true 1 1000)⟩,
   ⟨F.TRV_SEL.WORD, 1, .rw, 0, .page, .any⟩,
   ⟨F.TRV_VOTED.VALUE, 1, .ro, 0, .page, .any⟩,
   ⟨F.TRV_COPY.VALUE, 3, .ro, 0, .page, .any⟩,
   ⟨F.TRV_FLIP_CTL.ARM, 1, .rw, 0, .page, .any⟩,
   ⟨F.TRV_FLIP_CTL.COPY, 1, .rw, 0, .page, (.enum 2)⟩,
   ⟨F.TRV_FLIP_CTL.WORD, 1, .rw, 0, .page, .any⟩,
   ⟨F.TRV_FLIP_MASK.MASK, 1, .rw, 0, .page, .any⟩,
   ⟨F.TRV_REPAIRS.COUNT, 1, .rc, 0, .cold, .any⟩,
   ⟨F.TRV_DOUBLES.COUNT, 1, .rc, 0, .cold, .any⟩]

/-- Field rows of SEQ0: Table 13-8. -/
def rowsSeq0 : List Row :=
  [⟨F.SEQ_CFG.RETRIES, 1, .rw, 3, .store, .any⟩,
   ⟨F.SEQ_CFG.SHARED, 1, .rw, 1, .store, .any⟩,
   ⟨F.SEQ_CFG.AUTO, 1, .rw, 1, .store, .any⟩,
   ⟨F.SEQ_STAT.STATE, 1, .ro, 0, .cold, .any⟩,
   ⟨F.SEQ_STAT.DOWN, 1, .ro, 0, .cold, .any⟩,
   ⟨F.SEQ_STAT.ATTEMPT, 1, .ro, 0, .cold, .any⟩,
   ⟨F.SEQ_STAT.SOLO, 1, .ro, 0, .cold, .any⟩,
   ⟨F.SEQ_STAT.LINE, 1, .ro, 0, .page, .any⟩,
   ⟨F.SEQ_STAT.DRIVE, 1, .ro, 0, .page, .any⟩,
   ⟨F.SEQ_STAT.PFAIL, 1, .ro, 0, .page, .any⟩,
   ⟨F.SEQ_CMD.OP, 1, .rw, 0, .page, (.enum 2)⟩,
   ⟨F.SEQ_CMD.RESULT, 1, .ro, 0, .page, .any⟩,
   ⟨F.SEQ_CAUSE.RAIL_FAULT, 1, .ro, 0, .cold, .any⟩,
   ⟨F.SEQ_CAUSE.STEP_FAIL, 1, .ro, 0, .cold, .any⟩,
   ⟨F.SEQ_CAUSE.THERMTRIP, 1, .ro, 0, .cold, .any⟩,
   ⟨F.SEQ_CAUSE.DOWN_FAULT, 1, .ro, 0, .cold, .any⟩,
   ⟨F.SEQ_LAST.STATE, 1, .ro, 0, .cold, .any⟩,
   ⟨F.SEQ_LAST.DOWN, 1, .ro, 0, .cold, .any⟩,
   ⟨F.SEQ_LAST.RAIL, 1, .ro, 63, .cold, .any⟩,
   ⟨F.SEQ_UP_MS.MS, 1, .ro, 0, .cold, .any⟩,
   ⟨F.SEQ_BARRIER.LONGEST_US, 1, .ro, 0, .cold, .any⟩,
   ⟨F.SEQ_RETRIES.COUNT, 1, .rc, 0, .cold, .any⟩,
   ⟨F.SEQ_SHUTOFFS.COUNT, 1, .rc, 0, .cold, .any⟩]

/-- Field rows of SEQ1: Table 13-8. -/
def rowsSeq1 : List Row :=
  [⟨F.SEQ_RAIL_EN.EN, 1, .ro, 0, .cold, .any⟩,
   ⟨F.SEQ_RAIL_PG.PG, 1, .ro, 0, .cold, .any⟩,
   ⟨F.SEQ_DOM_PG.PG, 1, .ro, 1, .cold, .any⟩,
   ⟨F.SEQ_RAIL_FAULT.RAIL, 1, .w1c, 0, .cold, .any⟩,
   ⟨F.SEQ_DOM_FAULT.DOMAIN, 1, .w1c, 0, .cold, .any⟩,
   ⟨F.SEQ_STEP_SEL.STATE, 1, .rw, 0, .page, .any⟩,
   ⟨F.SEQ_STEP_US.US, 1, .ro, 0, .cold, .any⟩,
   ⟨F.SEQ_CHATTER.RAIL_LO, 8, .rc, 0, .cold, .any⟩,
   ⟨F.SEQ_CHATTER.RAIL_HI, 8, .rc, 0, .cold, .any⟩]

/-- Field rows of RTM: Table 12-5. -/
def rowsRtm : List Row :=
  [⟨F.RTM_CFG.SOURCE, 1, .rw, 0, .cold, (.enum 2)⟩,
   ⟨F.RTM_STAT.TICK, 1, .ro, 0, .cold, .any⟩,
   ⟨F.RTM_STAT.VALID, 1, .ro, 0, .cold, .any⟩,
   ⟨F.RTM_STAT.UNCERTAIN, 1, .ro, 0, .cold, .any⟩,
   ⟨F.RTM_STAT.ARMED, 1, .ro, 0, .cold, .any⟩,
   ⟨F.RTM_STAT.MISSED, 1, .ro, 0, .cold, .any⟩,
   ⟨F.RTM_STAT.SLOT, 1, .ro, 0, .cold, .any⟩,
   ⟨F.RTM_STAT.DRAIN, 1, .ro, 0, .page, .any⟩,
   ⟨F.RTM_TIME_LO.TIME, 1, .ro, 0, .cold, .any⟩,
   ⟨F.RTM_TIME_HI.TIME, 1, .ro, 0, .cold, .any⟩,
   ⟨F.RTM_SET_LO.VALUE, 1, .rw, 0, .cold, .any⟩,
   ⟨F.RTM_SET_HI.VALUE, 1, .rw, 0, .cold, .any⟩,
   ⟨F.RTM_SLOT_MASK_LO.MASK, 1, .rw, 4294967295, .store, .any⟩,
   ⟨F.RTM_SLOT_MASK_HI.MASK, 1, .rw, 4294967295, .store, .any⟩,
   ⟨F.RTM_SLOT_CFG.UNITS, 1, .rw, 176, .cold, (.confl 16 255)⟩,
   ⟨F.RTM_SLOT_CFG.RESET_COST, 1, .rw, 8, .cold, (.range true 1 15)⟩,
   ⟨F.RTM_BUDGET.B, 1, .ro, 0, .page, .any⟩,
   ⟨F.RTM_BUDGET.G, 1, .ro, 0, .page, .any⟩,
   ⟨F.RTM_BUDGET.PCT, 1, .ro, 0, .page, .any⟩,
   ⟨F.RTM_BUDGET.LIMITER, 1, .ro, 0, .page, .any⟩,
   ⟨F.RTM_MISSED.COUNT, 1, .rc, 0, .page, .any⟩,
   ⟨F.RTM_GLITCH.COUNT, 1, .rc, 0, .page, .any⟩,
   ⟨F.RTM_STEPS.COUNT, 1, .rc, 0, .page, .any⟩,
   ⟨F.RTM_IGNORED.COUNT, 1, .rc, 0, .page, .any⟩,
   ⟨F.RTM_HOLDOVERS.COUNT, 1, .rc, 0, .page, .any⟩,
   ⟨F.RTM_SLOT_FULL.COUNT, 1, .rc, 0, .page, .any⟩]

/-- Field rows of THM: Table 19-9. -/
def rowsThm : List Row :=
  [⟨F.THM_CFG.MEDIA_LIMIT, 1, .rw, 95, .cold, (.range false 70 110)⟩,
   ⟨F.THM_STAT.LEVEL, 1, .ro, 0, .page, .any⟩,
   ⟨F.THM_STAT.MEDIA_THROTTLE, 1, .ro, 0, .page, .any⟩,
   ⟨F.THM_STAT.MMAX_VALID, 1, .ro, 0, .page, .any⟩,
   ⟨F.THM_STAT.TRIPPED, 1, .ro, 0, .cold, .any⟩,
   ⟨F.THM_JMAX.TEMP, 1, .ro, 0, .page, .any⟩,
   ⟨F.THM_MMAX.TEMP, 1, .ro, 0, .page, .any⟩,
   ⟨F.THM_JMAX.SENSOR, 1, .ro, 0, .page, .any⟩,
   ⟨F.THM_MMAX.SENSOR, 1, .ro, 0, .page, .any⟩,
   ⟨F.THM_SUSPECT_LO.SENSORS, 1, .ro, 0, .page, .any⟩,
   ⟨F.THM_MISSING_LO.SENSORS, 1, .ro, 0, .page, .any⟩,
   ⟨F.THM_SUSPECT_HI.SENSORS, 1, .ro, 0, .page, .any⟩,
   ⟨F.THM_MISSING_HI.SENSORS, 1, .ro, 0, .page, .any⟩,
   ⟨F.THM_SEL.SENSOR, 1, .rw, 0, .page, (.range false 0 51)⟩,
   ⟨F.THM_READ.TEMP, 1, .ro, 0, .page, .any⟩,
   ⟨F.THM_READ.MEDIAN, 1, .ro, 0, .page, .any⟩,
   ⟨F.THM_THROTTLE_MS.COUNT, 1, .rc, 0, .page, .any⟩,
   ⟨F.THM_LEVEL_UP.COUNT, 1, .rc, 0, .page, .any⟩,
   ⟨F.THM_SUSPECTS.COUNT, 1, .rc, 0, .page, .any⟩]

/-- Field rows of PST: Table 17-8. -/
def rowsPst : List Row :=
  [⟨F.PST_STAT.WRITING, 1, .ro, 0, .page, .any⟩,
   ⟨F.PST_STAT.AON_LOW, 1, .ro, 0, .page, .any⟩,
   ⟨F.PST_STAT.LOADED, 1, .ro, 0, .page, .any⟩,
   ⟨F.PST_STAT.QUEUED, 1, .ro, 0, .page, .any⟩,
   ⟨F.PST_PROTECT.QUARTER, 1, .ro, 1, .page, .any⟩,
   ⟨F.PST_PROTECT.HALF, 1, .rwl, 0, .warm, .any⟩,
   ⟨F.PST_PROTECT.WHOLE, 1, .rwl, 0, .warm, .any⟩,
   ⟨F.PST_ACC_CMD.PAGE, 1, .rw, 0, .page, .any⟩,
   ⟨F.PST_ACC_CMD.WRITE, 1, .rw, 0, .page, .any⟩,
   ⟨F.PST_ACC_STAT.BUSY, 1, .ro, 0, .page, .any⟩,
   ⟨F.PST_ACC_STAT.RESULT, 1, .ro, 0, .page, .any⟩,
   ⟨F.PST_CTR_CMD.COUNTER, 1, .rw, 0, .page, .any⟩,
   ⟨F.PST_CTR_CMD.OP, 1, .rw, 0, .page, (.enum 2)⟩,
   ⟨F.PST_CTR_DELTA.DELTA, 1, .rw, 1, .page, .any⟩,
   ⟨F.PST_CTR_LO.VALUE, 1, .ro, 0, .page, .any⟩,
   ⟨F.PST_CTR_HI.VALUE, 1, .ro, 0, .page, .any⟩,
   ⟨F.PST_CTR_STAT.BUSY, 1, .ro, 0, .page, .any⟩,
   ⟨F.PST_CTR_STAT.RESULT, 1, .ro, 0, .page, .any⟩,
   ⟨F.PST_SKIP_LO.SKIP, 1, .w1c, 0, .cold, .any⟩,
   ⟨F.PST_SKIP_HI.SKIP, 1, .w1c, 0, .cold, .any⟩,
   ⟨F.PST_REC_SEL.RECORD, 1, .rw, 0, .page, .any⟩,
   ⟨F.PST_REC_STAT.A_OK, 1, .ro, 0, .page, .any⟩,
   ⟨F.PST_REC_STAT.B_OK, 1, .ro, 0, .page, .any⟩,
   ⟨F.PST_REC_STAT.USED_B, 1, .ro, 0, .page, .any⟩,
   ⟨F.PST_REC_STAT.ROW, 1, .ro, 0, .page, .any⟩,
   ⟨F.PST_REC_STAT.REPAIR_DUE, 1, .ro, 0, .page, .any⟩,
   ⟨F.PST_REC_SEQ.SEQ, 1, .ro, 0, .page, .any⟩,
   ⟨F.PST_WRITES.COUNT, 1, .rc, 0, .cold, .any⟩,
   ⟨F.PST_TWIN.COUNT, 1, .rc, 0, .cold, .any⟩,
   ⟨F.PST_TORN.COUNT, 1, .rc, 0, .cold, .any⟩]
  ++ [⟨F.PST_COPY_BAD.COUNT, 1, .rc, 0, .cold, .any⟩,
   ⟨F.PST_ACC_DATA.DATA, 64, .rw, 0, .page, .any⟩]

/-- Field rows of MGT: Table 15-8. -/
def rowsMgt : List Row :=
  [⟨F.MGT_CFG.SESSION_REQ, 1, .rw, 1, .store, .any⟩,
   ⟨F.MGT_CFG.SDA_EN, 1, .rw, 1, .store, .any⟩,
   ⟨F.MGT_CFG.ALERT_EN, 1, .rw, 1, .store, .any⟩,
   ⟨F.MGT_STAT.DYN_ADDR, 1, .ro, 0, .page, .any⟩,
   ⟨F.MGT_STAT.ADDR_VALID, 1, .ro, 0, .page, .any⟩,
   ⟨F.MGT_STAT.EID, 1, .ro, 0, .page, .any⟩,
   ⟨F.MGT_STAT.EID_VALID, 1, .ro, 0, .page, .any⟩,
   ⟨F.MGT_STAT.IBI_EN, 1, .ro, 0, .page, .any⟩,
   ⟨F.MGT_STAT.SESSION, 1, .ro, 0, .page, .any⟩,
   ⟨F.MGT_STAT.ALERT, 1, .ro, 0, .page, .any⟩,
   ⟨F.MGT_IBI_Q.STATE_Q, 1, .ro, 0, .page, .any⟩,
   ⟨F.MGT_IBI_Q.EVENT_Q, 1, .ro, 0, .page, .any⟩,
   ⟨F.MGT_LAST.CODE, 1, .ro, 0, .page, .any⟩,
   ⟨F.MGT_LAST.RESULT, 1, .ro, 0, .page, .any⟩,
   ⟨F.MGT_INFLIGHT.REQUESTS, 1, .ro, 0, .page, .any⟩,
   ⟨F.MGT_RX_MSG.COUNT, 1, .rc, 0, .page, .any⟩,
   ⟨F.MGT_BUS_ERR.COUNT, 1, .rc, 0, .page, .any⟩,
   ⟨F.MGT_IBI_DROP.COUNT, 1, .rc, 0, .page, .any⟩,
   ⟨F.MGT_REJECT.COUNT, 1, .rc, 0, .page, .any⟩,
   ⟨F.MGT_SESSION_DENY.COUNT, 1, .rc, 0, .page, .any⟩]

/-- Field rows of SEC: Table 16-9. -/
def rowsSec : List Row :=
  [⟨F.SEC_CFG.MUTUAL, 1, .rw, 0, .store, .any⟩,
   ⟨F.SEC_CFG.DEBUG_EN, 1, .rw, 0, .store, .any⟩,
   ⟨F.SEC_STAT.PUF_OK, 1, .ro, 0, .page, .any⟩,
   ⟨F.SEC_STAT.RT_VERIFIED, 1, .ro, 0, .page, .any⟩,
   ⟨F.SEC_STAT.RT_SLOT, 1, .ro, 0, .page, .any⟩,
   ⟨F.SEC_STAT.FALLBACK, 1, .ro, 0, .page, .any⟩,
   ⟨F.SEC_STAT.BL1_COPY, 1, .ro, 0, .page, .any⟩,
   ⟨F.SEC_STAT.TAMPERED, 1, .ro, 0, .page, .any⟩,
   ⟨F.SEC_STAT.DEBUG_OPEN, 1, .ro, 0, .page, .any⟩,
   ⟨F.SEC_STAT.OPR_SET, 1, .ro, 0, .store, .any⟩,
   ⟨F.SEC_STAT.MCTP_SESSIONS, 1, .ro, 0, .page, .any⟩,
   ⟨F.SEC_STAT.DOE_SESSIONS, 1, .ro, 0, .page, .any⟩,
   ⟨F.SEC_CAUSE.PUF_FAIL, 1, .ro, 0, .page, .any⟩,
   ⟨F.SEC_CAUSE.FW_INVALID, 1, .ro, 0, .page, .any⟩,
   ⟨F.SEC_CAUSE.TAMPER, 1, .ro, 0, .page, .any⟩,
   ⟨F.SEC_CAUSE.INTERNAL, 1, .w1c, 0, .warm, .any⟩,
   ⟨F.SEC_FW_VER.VERSION, 1, .ro, 0, .page, .any⟩,
   ⟨F.SEC_FW_SVN.SVN, 1, .ro, 0, .page, .any⟩,
   ⟨F.SEC_CTR_SEL.COUNTER, 1, .rw, 0, .page, .any⟩,
   ⟨F.SEC_CTR_LO.VALUE, 1, .ro, 0, .store, .any⟩,
   ⟨F.SEC_CTR_HI.VALUE, 1, .ro, 0, .store, .any⟩,
   ⟨F.SEC_BOOT.NEXT, 1, .ro, 0, .store, .any⟩,
   ⟨F.SEC_BOOT.LAST_GOOD, 1, .ro, 0, .store, .any⟩,
   ⟨F.SEC_BOOT.VALID, 1, .ro, 0, .store, .any⟩,
   ⟨F.SEC_BOOT.BL1_STAGED, 1, .ro, 0, .store, .any⟩,
   ⟨F.SEC_ACT.TARGET, 1, .ro, 0, .page, .any⟩,
   ⟨F.SEC_ACT.BUSY, 1, .ro, 0, .page, .any⟩,
   ⟨F.SEC_ACT.RESULT, 1, .ro, 0, .page, .any⟩,
   ⟨F.SEC_ACT.PCT, 1, .ro, 0, .page, .any⟩,
   ⟨F.SEC_XFER.BYTES, 1, .ro, 0, .page, .any⟩]
  ++ [⟨F.SEC_TAMPER.COUNT, 1, .ro, 0, .cold, .any⟩,
   ⟨F.SEC_TAMPER.LAST_NS, 1, .ro, 0, .cold, .any⟩,
   ⟨F.SEC_CMD.OP, 1, .rw, 0, .page, (.enum 1)⟩,
   ⟨F.SEC_CMD.RESULT, 1, .ro, 0, .page, .any⟩,
   ⟨F.SEC_CHAL.COUNT, 1, .rc, 0, .page, .any⟩,
   ⟨F.SEC_SESS_FAIL.COUNT, 1, .rc, 0, .page, .any⟩,
   ⟨F.SEC_OPR.HASH, 16, .rw, 0, .store, .any⟩,
   ⟨F.SEC_UUID.UUID, 4, .ro, 0, .page, .any⟩]

/-- Field rows of KEY: Table 10-5. -/
def rowsKey : List Row :=
  [⟨F.KEY_CMD.OP, 1, .rw, 0, .page, .any⟩,
   ⟨F.KEY_CMD.SLOT, 1, .rw, 0, .page, .any⟩,
   ⟨F.KEY_STAT.BUSY, 1, .ro, 0, .page, .any⟩,
   ⟨F.KEY_STAT.RESULT, 1, .ro, 0, .page, .any⟩,
   ⟨F.KEY_NONCE_LO.NONCE, 1, .ro, 0, .page, .any⟩,
   ⟨F.KEY_NONCE_HI.NONCE, 1, .ro, 0, .page, .any⟩,
   ⟨F.KEY_INFO0.STATE, 1, .ro, 0, .page, .any⟩,
   ⟨F.KEY_INFO0.AGAIN, 1, .ro, 0, .page, .any⟩,
   ⟨F.KEY_INFO0.EXHAUSTED, 1, .ro, 0, .page, .any⟩,
   ⟨F.KEY_INFO1.VERSION, 1, .ro, 0, .page, .any⟩,
   ⟨F.KEY_INFO2.EXTENTS, 1, .ro, 0, .page, .any⟩,
   ⟨F.KEY_INFO2.WINDOWS, 1, .ro, 0, .page, .any⟩,
   ⟨F.KEY_LOADED.SLOTS, 1, .ro, 0, .page, .any⟩,
   ⟨F.KEY_EK_IDX.WORD, 1, .rw, 0, .page, (.range false 0 391)⟩,
   ⟨F.KEY_EK_DATA.DATA, 1, .ro, 0, .page, .any⟩,
   ⟨F.KEY_IMPORT_OK.COUNT, 1, .rc, 0, .page, .any⟩,
   ⟨F.KEY_IMPORT_FAIL.COUNT, 1, .rc, 0, .page, .any⟩,
   ⟨F.KEY_BLOB.DATA, 407, .rw, 0, .page, .any⟩]

/-- Field rows of LOOP: Table 12-8. -/
def rowsLoop : List Row :=
  [⟨F.LOOP_AMP.CAP_MLC, 1, .rwl, 0, .store, .any⟩,
   ⟨F.LOOP_AMP.CAP_SLC, 1, .rwl, 0, .store, .any⟩,
   ⟨F.LOOP_BIN.MIN_BIN, 1, .rwl, 0, .cold, .any⟩,
   ⟨F.LOOP_BIN.MAX_BIN, 1, .rwl, 7, .cold, .any⟩,
   ⟨F.LOOP_WRATE.MIN_PCT, 1, .rwl, 10, .cold, (.range true 1 100)⟩,
   ⟨F.LOOP_WRATE.MAX_PCT, 1, .rwl, 100, .cold, (.range true 1 100)⟩,
   ⟨F.LOOP_PLACE.DEFAULT, 1, .rwl, 0, .cold, (.enum 2)⟩,
   ⟨F.LOOP_PATROL.MAX_RATE, 1, .rwl, 16777215, .cold, (.range true 1 16777215)⟩,
   ⟨F.LOOP_PINNED.LATCHED, 1, .w1c, 0, .page, .any⟩,
   ⟨F.LOOP_PINNED.NOW, 1, .ro, 0, .page, .any⟩,
   ⟨F.LOOP_OVERRIDE_COUNT.COUNT, 1, .rc, 0, .page, .any⟩,
   ⟨F.LOOP_OVR.COUNT, 6, .rc, 0, .page, .any⟩,
   ⟨F.LOOP_PIN.COUNT, 6, .rc, 0, .page, .any⟩]

/-- Field rows of QOS: Table 19-6. -/
def rowsQos : List Row :=
  [⟨F.QOS_CFG.WINDOW_US, 1, .rw, 8, .page, (.range true 1 64)⟩,
   ⟨F.QOS_CFG.AGE_US, 1, .rw, 4, .page, (.range true 1 15)⟩,
   ⟨F.QOS_URG.FILL, 1, .rw, 56, .page, (.range true 1 64)⟩,
   ⟨F.QOS_SEL.MASTER, 1, .rw, 0, .page, (.range false 0 48)⟩,
   ⟨F.QOS_MSTAT.USED, 1, .ro, 0, .page, .any⟩,
   ⟨F.QOS_MSTAT.LOW, 1, .ro, 0, .page, .any⟩,
   ⟨F.QOS_MSTAT.URGENT, 1, .ro, 0, .page, .any⟩,
   ⟨F.QOS_MOUT.OUT, 1, .ro, 0, .page, .any⟩,
   ⟨F.QOS_MCFG.BUDGET, 49, .rw, 1048575, .page, (.range true 1 1048575)⟩,
   ⟨F.QOS_MCFG.EN, 49, .rw, 0, .page, .any⟩,
   ⟨F.QOS_MCFG.PRIV, 49, .rw, 0, .page, .any⟩,
   ⟨F.QOS_MMAX.MAX_OUT, 49, .rw, 1024, .page, (.range true 1 1024)⟩,
   ⟨F.QOS_LOWERED.COUNT, 1, .rc, 0, .page, .any⟩,
   ⟨F.QOS_PROMOTED.COUNT, 1, .rc, 0, .page, .any⟩,
   ⟨F.QOS_OUT_WAIT.COUNT, 1, .rc, 0, .page, .any⟩]

/-- Field rows of PMC: Table 19-14. -/
def rowsPmc : List Row :=
  [⟨F.PMC_CTL.FREEZE_ALL, 1, .rw, 0, .page, .any⟩,
   ⟨F.PMC_CTL.SNAP, 1, .w1s, 0, .page, .any⟩,
   ⟨F.PMC_CTL.CLEAR_ON_SNAP, 1, .rw, 0, .page, .any⟩,
   ⟨F.PMC_STAT.BUSY, 1, .ro, 0, .page, .any⟩,
   ⟨F.PMC_STAT.RESULT, 1, .ro, 0, .page, .any⟩,
   ⟨F.PMC_STAT.COUNT, 1, .ro, 0, .page, .any⟩,
   ⟨F.PMC_PERIOD.MS, 1, .rw, 1000, .page, (.range true 1 65535)⟩,
   ⟨F.PMC_PERIOD.AUTO, 1, .rw, 0, .page, .any⟩,
   ⟨F.PMC_SNAP_TIME_LO.TIME, 1, .ro, 0, .page, .any⟩,
   ⟨F.PMC_SNAP_TIME_HI.TIME, 1, .ro, 0, .page, .any⟩,
   ⟨F.PMC_MISSING.ENTRIES, 1, .ro, 0, .page, .any⟩,
   ⟨F.PMC_SKIPPED.COUNT, 1, .rc, 0, .page, .any⟩,
   ⟨F.PMC_LIST.PAGE_A, 16, .rw, 0, .page, .any⟩,
   ⟨F.PMC_LIST.VALID_A, 16, .rw, 0, .page, .any⟩,
   ⟨F.PMC_LIST.PAGE_B, 16, .rw, 0, .page, .any⟩,
   ⟨F.PMC_LIST.VALID_B, 16, .rw, 0, .page, .any⟩,
   ⟨F.PMC_SNAP.COUNT, 512, .ro, 0, .page, .any⟩]

/-- Field rows of EVQ: Table 18-6. -/
def rowsEvq : List Row :=
  [⟨F.EVQ_POOL.FREE, 1, .ro, 32768, .page, .any⟩,
   ⟨F.EVQ_POOL.LOW_MARK, 1, .rw, 1024, .page, .any⟩,
   ⟨F.EVQ_QSEL.QUEUE, 1, .rw, 0, .page, .any⟩,
   ⟨F.EVQ_QCFG.EN, 1, .rw, 0, .page, .any⟩,
   ⟨F.EVQ_QCFG.DEST, 1, .rw, 0, .page, (.enum 2)⟩,
   ⟨F.EVQ_QCFG.HEAD, 1, .rw, 0, .page, .any⟩,
   ⟨F.EVQ_QCFG.VECTOR, 1, .rw, 0, .page, .any⟩,
   ⟨F.EVQ_QCFG.MAX_CELLS, 1, .rw, 512, .page, (.range true 1 32768)⟩,
   ⟨F.EVQ_QSTAT.CELLS, 1, .ro, 0, .page, .any⟩,
   ⟨F.EVQ_QSTAT.SEQ, 1, .ro, 0, .page, .any⟩,
   ⟨F.EVQ_RD_CTL.OFF, 1, .rw, 0, .page, (.range false 0 1024)⟩,
   ⟨F.EVQ_RD_CTL.POP, 1, .w1s, 0, .page, .any⟩,
   ⟨F.EVQ_RD_STAT.HEAD_LW, 1, .ro, 0, .page, .any⟩,
   ⟨F.EVQ_RD_STAT.RESULT, 1, .ro, 0, .page, .any⟩,
   ⟨F.EVQ_PUSH_CTL.LEN, 1, .rw, 0, .page, .any⟩,
   ⟨F.EVQ_PUSH_CTL.START, 1, .w1s, 0, .page, .any⟩,
   ⟨F.EVQ_PUSH_CTL.END, 1, .w1s, 0, .page, .any⟩,
   ⟨F.EVQ_PUSH_CTL.QUEUE, 1, .rw, 0, .page, .any⟩,
   ⟨F.EVQ_PUSH_DATA.DATA, 1, .rw, 0, .page, .any⟩,
   ⟨F.EVQ_PUSH_STAT.OPEN, 1, .ro, 0, .page, .any⟩,
   ⟨F.EVQ_PUSH_STAT.RESULT, 1, .ro, 0, .page, .any⟩,
   ⟨F.EVQ_PUSH_STAT.BYTES, 1, .ro, 0, .page, .any⟩,
   ⟨F.EVQ_DROPPED.COUNT, 1, .rc, 0, .page, .any⟩,
   ⟨F.EVQ_TRUNC.COUNT, 1, .rc, 0, .page, .any⟩,
   ⟨F.EVQ_UNDERRUN.COUNT, 1, .rc, 0, .page, .any⟩,
   ⟨F.EVQ_CELL.DATA, 16, .ro, 0, .page, .any⟩]

/-- Field rows of FLT: Table 20-8. -/
def rowsFlt : List Row :=
  [⟨F.FLT_CFG.WRAP, 1, .rw, 1, .cold, .any⟩,
   ⟨F.FLT_STAT.FATAL, 1, .ro, 0, .cold, .any⟩,
   ⟨F.FLT_STAT.FATAL_CLASS, 1, .ro, 0, .cold, .any⟩,
   ⟨F.FLT_STAT.ENTRIES, 1, .ro, 0, .cold, .any⟩,
   ⟨F.FLT_SEQ.COUNT, 1, .ro, 0, .cold, .any⟩,
   ⟨F.FLT_BOUND.NS, 1, .ro, 0, .cold, .any⟩,
   ⟨F.FLT_LOG_SEL.INDEX, 1, .rw, 0, .page, .any⟩,
   ⟨F.FLT_LOG0.PAGE, 1, .ro, 0, .cold, .any⟩,
   ⟨F.FLT_LOG0.EVENT, 1, .ro, 0, .cold, .any⟩,
   ⟨F.FLT_LOG0.CLASS, 1, .ro, 0, .cold, .any⟩,
   ⟨F.FLT_LOG0.FATAL, 1, .ro, 0, .cold, .any⟩,
   ⟨F.FLT_LOG1.STALL_NS, 1, .ro, 0, .cold, .any⟩,
   ⟨F.FLT_LOG2.TIME, 1, .ro, 0, .cold, .any⟩,
   ⟨F.FLT_LOG3.TIME, 1, .ro, 0, .cold, .any⟩,
   ⟨F.FLT_LOG4.INFO, 1, .ro, 0, .cold, .any⟩,
   ⟨F.FLT_CATALOGUE.COUNT, 1, .rc, 0, .cold, .any⟩,
   ⟨F.FLT_OUTSIDE.COUNT, 1, .rc, 0, .cold, .any⟩,
   ⟨F.FLT_BOUND_MISS.COUNT, 1, .rc, 0, .cold, .any⟩]

/-- Field rows of PDR: Table 13-11. -/
def rowsPdr : List Row :=
  [⟨F.PDR_CFG.DECLARED, 1, .rw, 0, .store, .any⟩,
   ⟨F.PDR_HOLDUP_US.US, 1, .rw, 5000, .store, (.range true 2000 50000)⟩,
   ⟨F.PDR_STAT.PHASE, 1, .ro, 0, .page, .any⟩,
   ⟨F.PDR_STAT.HELD, 1, .ro, 0, .page, .any⟩,
   ⟨F.PDR_DIRTY_AT.LINES, 1, .ro, 0, .cold, .any⟩,
   ⟨F.PDR_SAVED.LINES, 1, .ro, 0, .cold, .any⟩,
   ⟨F.PDR_DRAIN_US.US, 1, .ro, 0, .cold, .any⟩,
   ⟨F.PDR_MARGIN.US, 1, .ro, 0, .cold, .any⟩,
   ⟨F.PDR_REGIONS.REGIONS, 1, .ro, 0, .page, .any⟩,
   ⟨F.PDR_CURSOR.REGION, 1, .ro, 0, .page, .any⟩,
   ⟨F.PDR_LEDGER.STATE, 1, .ro, 0, .cold, .any⟩,
   ⟨F.PDR_LEDGER.EVENT, 1, .ro, 0, .cold, .any⟩,
   ⟨F.PDR_LEDGER.DECLARED, 1, .ro, 0, .cold, .any⟩,
   ⟨F.PDR_LEDGER.SEQ, 1, .ro, 0, .cold, .any⟩,
   ⟨F.PDR_LEDGER.DOWN, 1, .ro, 0, .cold, .any⟩,
   ⟨F.PDR_LEDGER.RAIL, 1, .ro, 63, .cold, .any⟩,
   ⟨F.PDR_LEDGER.OVERFLOW, 1, .ro, 0, .cold, .any⟩,
   ⟨F.PDR_RUN_SEL.INDEX, 1, .rw, 0, .page, .any⟩,
   ⟨F.PDR_RUN_FIRST.REGION, 1, .ro, 0, .cold, .any⟩,
   ⟨F.PDR_RUN_COUNT.REGIONS, 1, .ro, 0, .cold, .any⟩,
   ⟨F.PDR_POISONED.PAGES, 1, .ro, 0, .cold, .any⟩,
   ⟨F.PDR_DEFERRED.REGIONS, 1, .ro, 0, .cold, .any⟩,
   ⟨F.PDR_PFAILS.COUNT, 1, .rc, 0, .cold, .any⟩,
   ⟨F.PDR_CUTS.COUNT, 1, .rc, 0, .cold, .any⟩,
   ⟨F.PDR_PFAIL_GLITCH.COUNT, 1, .rc, 0, .cold, .any⟩]

/-- Field rows of HPT: Table 03-8, 09-8. -/
def rowsHpt : List Row :=
  [⟨F.HPT_PORT_CFG.SPLIT, 1, .rw, 0, .store, .any⟩,
   ⟨F.HPT_PORT_CFG.L0P_EN, 1, .rw, 1, .warm, .any⟩,
   ⟨F.HPT_PORT_CFG.MAX_SPEED, 1, .rw, 3, .warm, .any⟩,
   ⟨F.HPT_LINK_STAT.UP, 1, .ro, 0, .page, .any⟩,
   ⟨F.HPT_LINK_STAT.FLIT, 1, .ro, 0, .page, .any⟩,
   ⟨F.HPT_LINK_STAT.CXL_MEM, 1, .ro, 0, .page, .any⟩,
   ⟨F.HPT_LINK_STAT.SPEED, 1, .ro, 0, .page, .any⟩,
   ⟨F.HPT_LINK_STAT.WIDTH, 1, .ro, 0, .page, .any⟩,
   ⟨F.HPT_LINK_STAT.L0P_WIDTH, 1, .ro, 0, .page, .any⟩,
   ⟨F.HPT_LINK_STAT.IDE_ACTIVE, 1, .ro, 0, .page, .any⟩,
   ⟨F.HPT_LANE_ERR.LANE_FAULT, 1, .w1c, 0, .warm, .any⟩,
   ⟨F.HPT_CAUSE.LINK_DOWN, 1, .ro, 0, .page, .any⟩,
   ⟨F.HPT_CAUSE.IDE_FAIL, 1, .ro, 0, .page, .any⟩,
   ⟨F.HPT_CAUSE.INTERNAL, 1, .w1c, 0, .warm, .any⟩,
   ⟨F.HPT_CAUSE.NARROW, 1, .ro, 0, .page, .any⟩,
   ⟨F.HPT_CAUSE.SLOW, 1, .ro, 0, .page, .any⟩,
   ⟨F.HPT_PWB.OCCUPIED, 1, .ro, 0, .page, .any⟩,
   ⟨F.HPT_PWB.HIGH_WATER, 1, .rc, 0, .page, .any⟩,
   ⟨F.HPT_RDQ.OUTSTANDING, 1, .ro, 0, .page, .any⟩,
   ⟨F.HPT_RDQ.HIGH_WATER, 1, .rc, 0, .page, .any⟩,
   ⟨F.HPT_QOS_CFG.T_OPT, 1, .rw, 16, .page, .any⟩,
   ⟨F.HPT_QOS_CFG.T_MOD, 1, .rw, 48, .page, .any⟩,
   ⟨F.HPT_QOS_CFG.T_SEV, 1, .rw, 60, .page, .any⟩,
   ⟨F.HPT_QOS_STAT.DEVLOAD, 1, .ro, 0, .page, .any⟩,
   ⟨F.HPT_QOS_STAT.FILL, 1, .ro, 0, .page, .any⟩,
   ⟨F.HPT_MBX_LAST.OPCODE, 1, .ro, 0, .page, .any⟩,
   ⟨F.HPT_MBX_LAST.RETURN, 1, .ro, 0, .page, .any⟩,
   ⟨F.HPT_EVLOG.INFO, 1, .ro, 0, .page, .any⟩,
   ⟨F.HPT_EVLOG.WARN, 1, .ro, 0, .page, .any⟩,
   ⟨F.HPT_EVLOG.FAIL, 1, .ro, 0, .page, .any⟩]
  ++ [⟨F.HPT_EVLOG.FATAL, 1, .ro, 0, .page, .any⟩,
   ⟨F.HPT_EVLOG_DC.COUNT, 1, .ro, 0, .warm, .any⟩,
   ⟨F.HPT_EVLOG_DC.FORCED_PEND, 1, .ro, 0, .warm, .any⟩,
   ⟨F.HPT_EVLOG_MERGE.COUNT, 1, .rc, 0, .page, .any⟩,
   ⟨F.HPT_MSI_DROP.COUNT, 1, .rc, 0, .page, .any⟩,
   ⟨F.HPT_IDE_STAT.MEM_STREAM, 1, .ro, 0, .page, .any⟩,
   ⟨F.HPT_IDE_STAT.IO_LINK, 1, .ro, 0, .page, .any⟩,
   ⟨F.HPT_FNC_CTL.SCOPE, 8, .rw, 0, .page, .any⟩,
   ⟨F.HPT_FNC_CTL.GO, 8, .w1s, 0, .page, .any⟩,
   ⟨F.HPT_FNC_CTL.NOTIFY, 8, .rw, 0, .page, .any⟩,
   ⟨F.HPT_FNC_CTL.VECTOR, 8, .rw, 0, .page, .any⟩,
   ⟨F.HPT_FNC_STAT.BUSY, 8, .ro, 0, .page, .any⟩,
   ⟨F.HPT_FNC_STAT.STATUS, 8, .ro, 0, .page, .any⟩,
   ⟨F.HPT_FNC_STAT.DURABLE, 8, .ro, 0, .page, .any⟩,
   ⟨F.HPT_FNC_STAT.NOT_DURABLE, 8, .ro, 0, .page, .any⟩,
   ⟨F.HPT_FNC_STAT.LOSSES, 8, .ro, 0, .page, .any⟩,
   ⟨F.HPT_FNC_STAT.TIME, 8, .ro, 0, .page, .any⟩,
   ⟨F.HPT_FNC_DONE.COUNT, 1, .rc, 0, .page, .any⟩,
   ⟨F.HPT_FNC_DEG.COUNT, 1, .rc, 0, .page, .any⟩,
   ⟨F.HPT_FNC_LOST.COUNT, 1, .rc, 0, .page, .any⟩,
   ⟨F.HPT_LOSS_STAT.RECORDS, 1, .ro, 0, .warm, .any⟩,
   ⟨F.HPT_LOSS_STAT.DROPPED, 1, .rc, 0, .warm, .any⟩,
   ⟨F.HPT_LOSS_SEL.INDEX, 1, .rw, 0, .page, .any⟩,
   ⟨F.HPT_LOSS0.HPA_LO, 1, .ro, 0, .warm, .any⟩,
   ⟨F.HPT_LOSS1.HPA_HI, 1, .ro, 0, .warm, .any⟩,
   ⟨F.HPT_LOSS2.LINES, 1, .ro, 0, .warm, .any⟩,
   ⟨F.HPT_LOSS2.HEAD, 1, .ro, 0, .warm, .any⟩,
   ⟨F.HPT_LOSS2.KEY, 1, .ro, 0, .warm, .any⟩,
   ⟨F.HPT_LOSS2.OWNER, 1, .ro, 0, .warm, .any⟩,
   ⟨F.HPT_LOSS2.CAUSE, 1, .ro, 0, .warm, .any⟩]
  ++ [⟨F.HPT_LOSS3.OID, 1, .ro, 0, .warm, .any⟩,
   ⟨F.HPT_LOSS3.FENCE, 1, .ro, 0, .warm, .any⟩,
   ⟨F.HPT_LOSS3.FENCED, 1, .ro, 0, .warm, .any⟩,
   ⟨F.HPT_LOSS_POP.POP, 1, .w1s, 0, .page, .any⟩,
   ⟨F.HPT_RSV_ADDR_LO.HPA, 4, .rw, 0, .page, .any⟩,
   ⟨F.HPT_RSV_ADDR_HI.HPA, 4, .rw, 0, .page, .any⟩,
   ⟨F.HPT_RSV_CMD.OP, 4, .rw, 0, .page, .any⟩,
   ⟨F.HPT_RSV_STAT.BUSY, 4, .ro, 0, .page, .any⟩,
   ⟨F.HPT_RSV_STAT.HELD, 4, .ro, 0, .page, .any⟩,
   ⟨F.HPT_RSV_STAT.RESULT, 4, .ro, 0, .page, .any⟩,
   ⟨F.HPT_RSV_STAT.LOSS_CAUSE, 4, .ro, 0, .page, .any⟩,
   ⟨F.HPT_RSV_DATA0.DATA, 4, .ro, 0, .page, .any⟩,
   ⟨F.HPT_RSV_DATA1.DATA, 4, .ro, 0, .page, .any⟩,
   ⟨F.HPT_RSV_DATA2.DATA, 4, .ro, 0, .page, .any⟩,
   ⟨F.HPT_RSV_DATA3.DATA, 4, .ro, 0, .page, .any⟩,
   ⟨F.HPT_RSV_NEW0.DATA, 4, .rw, 0, .page, .any⟩,
   ⟨F.HPT_RSV_NEW1.DATA, 4, .rw, 0, .page, .any⟩,
   ⟨F.HPT_RSV_NEW2.DATA, 4, .rw, 0, .page, .any⟩,
   ⟨F.HPT_RSV_NEW3.DATA, 4, .rw, 0, .page, .any⟩]

/-- Field rows of SHL: Table 11-10. -/
def rowsShl : List Row :=
  [⟨F.SHL_CFG.IDLE_US, 1, .rw, 4, .page, (.range true 1 15)⟩,
   ⟨F.SHL_CFG.RECOVER_US, 1, .rw, 8, .page, (.range true 2 15)⟩,
   ⟨F.SHL_CFG.LANE_DROP_EN, 1, .rw, 1, .warm, .any⟩,
   ⟨F.SHL_CFG.MAX_SPEED, 1, .rw, 1, .warm, .any⟩,
   ⟨F.SHL_STAT.PHASE, 1, .ro, 0, .page, .any⟩,
   ⟨F.SHL_STAT.WIDTH, 1, .ro, 0, .page, .any⟩,
   ⟨F.SHL_STAT.SPEED, 1, .ro, 0, .page, .any⟩,
   ⟨F.SHL_STAT.PEER_ID, 1, .ro, 0, .page, .any⟩,
   ⟨F.SHL_STAT.PEER_VALID, 1, .ro, 0, .page, .any⟩,
   ⟨F.SHL_STAT.KEY_PHASE, 1, .ro, 0, .page, .any⟩,
   ⟨F.SHL_CAUSE.DOWN, 1, .ro, 0, .page, .any⟩,
   ⟨F.SHL_CAUSE.MISCABLE, 1, .ro, 0, .page, .any⟩,
   ⟨F.SHL_CAUSE.AUTH_FAIL, 1, .ro, 0, .page, .any⟩,
   ⟨F.SHL_CAUSE.INTERNAL, 1, .w1c, 0, .warm, .any⟩,
   ⟨F.SHL_CAUSE.NARROW, 1, .ro, 0, .page, .any⟩,
   ⟨F.SHL_CAUSE.SLOW, 1, .ro, 0, .page, .any⟩,
   ⟨F.SHL_LANE_ERR.LANE_FAULT, 1, .w1c, 0, .warm, .any⟩,
   ⟨F.SHL_KEYS.ROTATIONS, 1, .ro, 0, .page, .any⟩,
   ⟨F.SHL_KEYS.AGE_S, 1, .ro, 0, .page, .any⟩,
   ⟨F.SHL_FEC_CORR.COUNT, 1, .rc, 0, .page, .any⟩,
   ⟨F.SHL_REPLAY.COUNT, 1, .rc, 0, .page, .any⟩,
   ⟨F.SHL_MAC_FAIL.COUNT, 1, .rc, 0, .page, .any⟩,
   ⟨F.SHL_DOWN.COUNT, 1, .rc, 0, .page, .any⟩,
   ⟨F.SHL_DISCARD.COUNT, 1, .rc, 0, .page, .any⟩]

/-- Field rows of SHM: Table 11-13. -/
def rowsShm : List Row :=
  [⟨F.SHM_SELF.SHELF_ID, 1, .ro, 0, .page, .any⟩,
   ⟨F.SHM_SELF.ROLE, 1, .ro, 0, .page, .any⟩,
   ⟨F.SHM_SELF.MANAGER, 1, .ro, 0, .page, .any⟩,
   ⟨F.SHM_SELF.DEPUTY, 1, .ro, 0, .page, .any⟩,
   ⟨F.SHM_SELF.CUT, 1, .ro, 0, .page, .any⟩,
   ⟨F.SHM_SELF.ISOLATED, 1, .ro, 0, .page, .any⟩,
   ⟨F.SHM_SELF.COUNT, 1, .ro, 0, .page, .any⟩,
   ⟨F.SHM_MGR.MGR_ID, 1, .ro, 0, .page, .any⟩,
   ⟨F.SHM_MGR.MGR_VALID, 1, .ro, 0, .page, .any⟩,
   ⟨F.SHM_MGR.TERM, 1, .ro, 0, .store, .any⟩,
   ⟨F.SHM_MEMBERS.PARTS, 1, .ro, 0, .page, .any⟩,
   ⟨F.SHM_FAILED.PARTS, 1, .ro, 0, .page, .any⟩,
   ⟨F.SHM_UNREACH.PARTS, 1, .ro, 0, .page, .any⟩,
   ⟨F.SHM_TOPO.TOPO, 1, .ro, 0, .page, .any⟩,
   ⟨F.SHM_TOPO.BREAK0, 1, .ro, 0, .page, .any⟩,
   ⟨F.SHM_TOPO.BREAK0_VALID, 1, .ro, 0, .page, .any⟩,
   ⟨F.SHM_TOPO.BREAK1, 1, .ro, 0, .page, .any⟩,
   ⟨F.SHM_TOPO.BREAK1_VALID, 1, .ro, 0, .page, .any⟩,
   ⟨F.SHM_PAIR.PARTNER, 1, .ro, 0, .page, .any⟩,
   ⟨F.SHM_PAIR.STATE, 1, .ro, 0, .page, .any⟩,
   ⟨F.SHM_RESYNC.LEFT, 1, .ro, 0, .page, .any⟩,
   ⟨F.SHM_RESYNC.DONE, 1, .ro, 0, .page, .any⟩,
   ⟨F.SHM_CMD.OP, 1, .rw, 0, .page, (.enum 2)⟩,
   ⟨F.SHM_CMD.RESULT, 1, .ro, 0, .page, .any⟩,
   ⟨F.SHM_HLT_SEL.PART, 1, .rw, 0, .page, .any⟩,
   ⟨F.SHM_HLT0.STATE, 1, .ro, 0, .page, .any⟩,
   ⟨F.SHM_HLT0.SPARE_PCT, 1, .ro, 0, .page, .any⟩,
   ⟨F.SHM_HLT0.LIFE_PCT, 1, .ro, 0, .page, .any⟩,
   ⟨F.SHM_HLT1.GRANTABLE, 1, .ro, 0, .page, .any⟩,
   ⟨F.SHM_HLT1.ACTIVE, 1, .ro, 0, .page, .any⟩]
  ++ [⟨F.SHM_HLT2.DIE_PEAK, 1, .ro, 0, .page, .any⟩,
   ⟨F.SHM_HLT2.MEDIA_PEAK, 1, .ro, 0, .page, .any⟩,
   ⟨F.SHM_HLT3.AGE_MS, 1, .ro, 0, .page, .any⟩,
   ⟨F.SHM_HLT3.STALE, 1, .ro, 0, .page, .any⟩,
   ⟨F.SHM_DECLARE.COUNT, 1, .rc, 0, .page, .any⟩,
   ⟨F.SHM_FAILOVER.COUNT, 1, .rc, 0, .page, .any⟩,
   ⟨F.SHM_RESEND.COUNT, 1, .rc, 0, .page, .any⟩,
   ⟨F.SHM_DUP_DROP.COUNT, 1, .rc, 0, .page, .any⟩,
   ⟨F.SHM_STALE_TERM.COUNT, 1, .rc, 0, .page, .any⟩]

/-- Field rows of XTN: Table 02-11, 02-7. -/
def rowsXtn : List Row :=
  [⟨F.XTN_SELF.SHELF_ID, 1, .ro, 0, .page, .any⟩,
   ⟨F.XTN_SELF.MANAGER, 1, .ro, 0, .page, .any⟩,
   ⟨F.XTN_SELF.LXT_COUNT, 1, .ro, 49152, .page, .any⟩,
   ⟨F.XTN_ACC_CMD.TABLE, 1, .rw, 0, .page, (.enum 2)⟩,
   ⟨F.XTN_ACC_CMD.WRITE, 1, .rw, 0, .page, .any⟩,
   ⟨F.XTN_ACC_CMD.INDEX, 1, .rw, 0, .page, .any⟩,
   ⟨F.XTN_ACC_STAT.BUSY, 1, .ro, 0, .page, .any⟩,
   ⟨F.XTN_ACC_STAT.RESULT, 1, .ro, 0, .page, .any⟩,
   ⟨F.XTN_ACC_DATA.DATA, 4, .rw, 0, .page, .any⟩,
   ⟨F.XTN_DCNT.COUNT, 6, .rc, 0, .page, .any⟩,
   ⟨F.WIN_CTL.COMMITTED, 64, .ro, 0, .page, .any⟩,
   ⟨F.WIN_CTL.TYPE, 64, .ro, 0, .page, .any⟩,
   ⟨F.WIN_CTL.REGION, 64, .ro, 0, .page, .any⟩,
   ⟨F.WIN_CTL.IW, 64, .ro, 0, .page, .any⟩,
   ⟨F.WIN_CTL.IG, 64, .ro, 0, .page, .any⟩,
   ⟨F.WIN_CTL.KEY, 64, .rw, 0, .page, .any⟩,
   ⟨F.WIN_CTL.KEY_VALID, 64, .rw, 0, .page, .any⟩,
   ⟨F.WIN_BASE_LO.BASE_LO, 64, .ro, 0, .page, .any⟩,
   ⟨F.WIN_BASE_HI.BASE_HI, 64, .ro, 0, .page, .any⟩,
   ⟨F.WIN_SIZE.SIZE, 64, .ro, 0, .page, .any⟩]

/-- Field rows of FCC: Table 04-6. -/
def rowsFcc : List Row :=
  [⟨F.FCC_CFG.SCRUB_EN, 1, .rw, 1, .page, .any⟩,
   ⟨F.FCC_CFG.SCRUB_LAP_LIMIT, 1, .rw, 24, .page, (.range true 1 255)⟩,
   ⟨F.FCC_CAUSE.STACK_LOST, 1, .ro, 0, .cold, .any⟩,
   ⟨F.FCC_CAUSE.PC_LOST, 1, .ro, 0, .cold, .any⟩,
   ⟨F.FCC_CAUSE.PARTNER_LOSS, 1, .ro, 0, .cold, .any⟩,
   ⟨F.FCC_CAUSE.INTERNAL, 1, .w1c, 0, .warm, .any⟩,
   ⟨F.FCC_PC_FAIL.PC_FAIL, 1, .ro, 0, .cold, .any⟩,
   ⟨F.FCC_WAYS.CACHE, 1, .ro, 0, .page, .any⟩,
   ⟨F.FCC_WAYS.WINDOW, 1, .ro, 0, .page, .any⟩,
   ⟨F.FCC_WAYS.DISABLED, 1, .ro, 0, .cold, .any⟩,
   ⟨F.FCC_SCRUB_POS.LINE, 1, .ro, 0, .page, .any⟩,
   ⟨F.FCC_SCRUB_LAP.LAST_LAP, 1, .ro, 0, .page, .any⟩,
   ⟨F.FCC_SCRUB_LAP.LAPS, 1, .ro, 0, .page, .any⟩,
   ⟨F.FCC_PAR_CORR.COUNT, 1, .rc, 0, .page, .any⟩,
   ⟨F.FCC_PAR_UNCORR.COUNT, 1, .rc, 0, .page, .any⟩,
   ⟨F.FCC_FLIP_CTL.ARM, 1, .rw, 0, .page, .any⟩,
   ⟨F.FCC_FLIP_CTL.TARGET, 1, .rw, 0, .page, (.enum 4)⟩,
   ⟨F.FCC_FLIP_LO.MASK, 1, .rw, 0, .page, .any⟩,
   ⟨F.FCC_FLIP_HI.MASK, 1, .rw, 0, .page, .any⟩,
   ⟨F.FCC_MIRROR_USED.SLOTS, 1, .ro, 0, .page, .any⟩]

/-- Field rows of FCM: Table 04-9. -/
def rowsFcm : List Row :=
  [⟨F.FCM_CTL.ENABLE, 1, .rw, 0, .warm, .any⟩,
   ⟨F.FCM_STAT.ENABLED, 1, .ro, 0, .warm, .any⟩,
   ⟨F.FCM_STAT.DISABLING, 1, .ro, 0, .warm, .any⟩,
   ⟨F.FCM_STAT.CLEAN_SLATE, 1, .ro, 0, .warm, .any⟩,
   ⟨F.FCM_STAT.OP_BUSY, 1, .ro, 0, .page, .any⟩,
   ⟨F.FCM_STAT.ABORTED, 1, .ro, 0, .page, .any⟩,
   ⟨F.FCM_STAT.AT_LIMIT, 1, .ro, 0, .warm, .any⟩,
   ⟨F.FCM_OP.OP, 1, .rw, 0, .page, .any⟩,
   ⟨F.FCM_OP.MODE, 1, .rw, 0, .page, .any⟩,
   ⟨F.FCM_OP.HEAD, 1, .rw, 0, .page, .any⟩,
   ⟨F.FCM_OP.ABORT, 1, .w1s, 0, .page, .any⟩,
   ⟨F.FCM_ADDR_LO.PAGE_LO, 1, .rw, 0, .page, .any⟩,
   ⟨F.FCM_ADDR_HI.PAGE_HI, 1, .rw, 0, .page, .any⟩,
   ⟨F.FCM_COUNT.COUNT, 1, .rw, 0, .page, .any⟩,
   ⟨F.FCM_SETWAY.SET, 1, .rw, 0, .page, .any⟩,
   ⟨F.FCM_SETWAY.WAY, 1, .rw, 0, .page, .any⟩,
   ⟨F.FCM_SETWAY.HALF, 1, .rw, 0, .page, .any⟩,
   ⟨F.FCM_PROGRESS.DONE, 1, .ro, 0, .page, .any⟩,
   ⟨F.FCM_RESULT.CODE, 1, .ro, 0, .page, .any⟩,
   ⟨F.FCM_RESULT.SKIPPED, 1, .ro, 0, .page, .any⟩,
   ⟨F.FCM_DIRTY.LINES, 1, .ro, 0, .warm, .any⟩,
   ⟨F.FCM_DIRTY_LIMIT.LINES, 1, .ro, 0, .warm, .any⟩,
   ⟨F.FCM_WB_STALL.COUNT, 1, .rc, 0, .page, .any⟩,
   ⟨F.FCM_PROBE0.PAGE, 1, .ro, 0, .page, .any⟩,
   ⟨F.FCM_PROBE1.KEY, 1, .ro, 0, .page, .any⟩,
   ⟨F.FCM_PROBE1.TAG_VALID, 1, .ro, 0, .page, .any⟩,
   ⟨F.FCM_PROBE1.WINDOW, 1, .ro, 0, .page, .any⟩,
   ⟨F.FCM_PROBE1.DISABLED, 1, .ro, 0, .page, .any⟩,
   ⟨F.FCM_PROBE1.LRU, 1, .ro, 0, .page, .any⟩,
   ⟨F.FCM_PROBE2.VALID, 1, .ro, 0, .page, .any⟩]
  ++ [⟨F.FCM_PROBE3.DIRTY, 1, .ro, 0, .page, .any⟩,
   ⟨F.FCM_PROBE4.PATCHED, 1, .ro, 0, .page, .any⟩]

/-- Field rows of VWN: Table 04-12. -/
def rowsVwn : List Row :=
  [⟨F.VWN_CFG.SIZE, 1, .rw, 0, .store, .any⟩,
   ⟨F.VWN_STAT.CURRENT, 1, .ro, 0, .page, .any⟩,
   ⟨F.VWN_STAT.RESIZING, 1, .ro, 0, .page, .any⟩,
   ⟨F.VWN_STAT.BYPASS, 1, .ro, 0, .page, .any⟩,
   ⟨F.VWN_STAT.REMAPPING, 1, .ro, 0, .page, .any⟩,
   ⟨F.VWN_STAT.LOST_FRAMES, 1, .ro, 0, .page, .any⟩,
   ⟨F.VWN_CMD.REMAP, 1, .w1s, 0, .page, .any⟩,
   ⟨F.VWN_POISON_READ.COUNT, 1, .rc, 0, .page, .any⟩,
   ⟨F.VWN_PARTIAL_DROP.COUNT, 1, .rc, 0, .page, .any⟩,
   ⟨F.VWN_LOST_WRITE.COUNT, 1, .rc, 0, .page, .any⟩]

/-- Field rows of MCH: Table 05-11. -/
def rowsMch : List Row :=
  [⟨F.MCH_CFG.MAX_ACTIVE, 1, .rw, 12, .page, (.range true 1 16)⟩,
   ⟨F.MCH_CFG.SUSP_EN, 1, .rw, 1, .page, .any⟩,
   ⟨F.MCH_CAUSE.CHAN_FAULT, 1, .ro, 0, .page, .any⟩,
   ⟨F.MCH_CAUSE.DIE_LOST, 1, .ro, 0, .cold, .any⟩,
   ⟨F.MCH_CAUSE.REBUILD, 1, .ro, 0, .page, .any⟩,
   ⟨F.MCH_CAUSE.INTERNAL, 1, .w1c, 0, .warm, .any⟩,
   ⟨F.MCH_DIE_STATE.DIE, 1, .ro, 0, .page, .any⟩,
   ⟨F.MCH_DIE_SEL.DIE, 1, .rw, 0, .page, .any⟩,
   ⟨F.MCH_PSTATE.PART, 1, .ro, 0, .page, .any⟩,
   ⟨F.MCH_TEMP.TEMP, 1, .ro, 0, .page, .any⟩,
   ⟨F.MCH_TEMP.VALID, 1, .ro, 0, .page, .any⟩,
   ⟨F.MCH_TEMP.SOURCE, 1, .ro, 0, .page, .any⟩,
   ⟨F.MCH_LINK.TRAINED, 1, .ro, 0, .page, .any⟩,
   ⟨F.MCH_LINK.RETRAINS, 1, .ro, 0, .warm, .any⟩,
   ⟨F.MCH_CORR.COUNT, 1, .rc, 0, .page, .any⟩,
   ⟨F.MCH_UNCORR.COUNT, 1, .rc, 0, .page, .any⟩,
   ⟨F.MCH_RECON.COUNT, 1, .rc, 0, .page, .any⟩,
   ⟨F.MCH_PROG_FAIL.COUNT, 1, .rc, 0, .page, .any⟩,
   ⟨F.MCH_RST_FAIL.COUNT, 1, .rc, 0, .page, .any⟩,
   ⟨F.MCH_SUSP.COUNT, 1, .rc, 0, .page, .any⟩,
   ⟨F.MCH_SUSP_WAIT.COUNT, 1, .rc, 0, .page, .any⟩,
   ⟨F.MCH_CRC_ERR.COUNT, 1, .rc, 0, .page, .any⟩,
   ⟨F.MCH_OVERRIDE.COUNT, 1, .rc, 0, .page, .any⟩,
   ⟨F.MCH_FLIP_CTL.ARM, 1, .rw, 0, .page, .any⟩,
   ⟨F.MCH_FLIP_CTL.DIE, 1, .rw, 0, .page, .any⟩,
   ⟨F.MCH_FLIP_CTL.FRAME, 1, .rw, 0, .page, .any⟩,
   ⟨F.MCH_FLIP_CTL.HEADER, 1, .rw, 0, .page, .any⟩,
   ⟨F.MCH_FLIP.MASK, 4, .rw, 0, .page, .any⟩,
   ⟨F.MCH_DIE_ID.ID, 4, .ro, 0, .page, .any⟩]

/-- Field rows of MAP: Table 06-7. -/
def rowsMap : List Row :=
  [⟨F.MAP_CFG.RETRY_MAX, 1, .rw, 3, .page, .any⟩,
   ⟨F.MAP_CFG.DEEP_EN, 1, .rw, 1, .page, .any⟩,
   ⟨F.MAP_CFG.SPEC_EN, 1, .rw, 1, .page, .any⟩,
   ⟨F.MAP_CFG.BG_MAX, 1, .rw, 1024, .page, (.range true 1 3072)⟩,
   ⟨F.MAP_RD_STAT.IN_FLIGHT, 1, .ro, 0, .page, .any⟩,
   ⟨F.MAP_RD_STAT.BG_IN_FLIGHT, 1, .ro, 0, .page, .any⟩,
   ⟨F.MAP_RD_STAT.FULL, 1, .ro, 0, .page, .any⟩,
   ⟨F.MAP_RD_HWM.HIGH_WATER, 1, .rc, 0, .page, .any⟩,
   ⟨F.MAP_SEG_STAT.LOADED, 1, .ro, 0, .page, .any⟩,
   ⟨F.MAP_SEG_STAT.ALL_LOADED, 1, .ro, 0, .page, .any⟩,
   ⟨F.MAP_ACC_PAGE.PAGE, 1, .rw, 0, .page, .any⟩,
   ⟨F.MAP_ACC_LO.ENTRY_LO, 1, .ro, 0, .page, .any⟩,
   ⟨F.MAP_ACC_HI.ENTRY_HI, 1, .ro, 0, .page, .any⟩,
   ⟨F.MAP_ACC_STAT.BUSY, 1, .ro, 0, .page, .any⟩,
   ⟨F.MAP_ACC_STAT.RESULT, 1, .ro, 0, .page, .any⟩,
   ⟨F.MAP_RETRY.COUNT, 1, .rc, 0, .page, .any⟩,
   ⟨F.MAP_RETRY_OK.COUNT, 1, .rc, 0, .page, .any⟩,
   ⟨F.MAP_DEEP.COUNT, 1, .rc, 0, .page, .any⟩,
   ⟨F.MAP_DEEP_OK.COUNT, 1, .rc, 0, .page, .any⟩,
   ⟨F.MAP_UNRECOV.COUNT, 1, .rc, 0, .page, .any⟩,
   ⟨F.MAP_TAG_FAIL.COUNT, 1, .rc, 0, .page, .any⟩,
   ⟨F.MAP_ALIAS.COUNT, 1, .rc, 0, .page, .any⟩,
   ⟨F.MAP_POISON_RD.COUNT, 1, .rc, 0, .page, .any⟩,
   ⟨F.MAP_SQUASH.COUNT, 1, .rc, 0, .page, .any⟩,
   ⟨F.MAP_SEG_REBUILD.COUNT, 1, .rc, 0, .page, .any⟩]

/-- Field rows of PTX: Table 06-10, 07-9. -/
def rowsPtx : List Row :=
  [⟨F.PTX_LIVE.SLOTS, 1, .ro, 0, .page, .any⟩,
   ⟨F.PTX_STAGED.SLOTS, 1, .ro, 0, .page, .any⟩,
   ⟨F.PTX_POISONED.SLOTS, 1, .ro, 0, .page, .any⟩,
   ⟨F.PTX_PROBE_HIST.COUNT, 4, .rc, 0, .page, .any⟩,
   ⟨F.PTX_LOOKUP_HIT.COUNT, 1, .rc, 0, .page, .any⟩,
   ⟨F.PTX_LOOKUP_NONE.COUNT, 1, .rc, 0, .page, .any⟩,
   ⟨F.PTX_SPEC_LATE.COUNT, 1, .rc, 0, .page, .any⟩,
   ⟨F.PTX_ACC_CMD.LINE, 1, .rw, 0, .page, .any⟩,
   ⟨F.PTX_ACC_CMD.START, 1, .w1s, 0, .page, .any⟩,
   ⟨F.PTX_ACC_PAGE.PAGE, 1, .rw, 0, .page, .any⟩,
   ⟨F.PTX_ACC_LO.SLOT_LO, 1, .ro, 0, .page, .any⟩,
   ⟨F.PTX_ACC_HI.SLOT_HI, 1, .ro, 0, .page, .any⟩,
   ⟨F.PTX_ACC_STAT.BUSY, 1, .ro, 0, .page, .any⟩,
   ⟨F.PTX_ACC_STAT.FOUND, 1, .ro, 0, .page, .any⟩,
   ⟨F.PTX_ACC_STAT.PROBED, 1, .ro, 0, .page, .any⟩,
   ⟨F.PTX_ACC_STAT.RESULT, 1, .ro, 0, .page, .any⟩,
   ⟨F.PTX_FOLD_CFG.DENSE_LINES, 1, .rw, 16, .page, (.range true 2 64)⟩,
   ⟨F.PTX_FOLD_CFG.HOLD_US, 1, .rw, 60, .page, (.range true 1 100)⟩,
   ⟨F.PTX_FOLD_CFG.HOLDUP_WAIT_MS, 1, .rw, 50, .page, (.range true 1 1000)⟩,
   ⟨F.PTX_LOAD_CFG.LOAD_HIGH, 1, .rw, 70, .page, (.range false 50 75)⟩,
   ⟨F.PTX_LOG_USED.PAGES, 1, .ro, 0, .page, .any⟩,
   ⟨F.PTX_LOG_CFG.LOG_HIGH, 1, .rw, 15728640, .page, (.range false 1048576 16777216)⟩,
   ⟨F.PTX_LOG_SEQ_LO.SEQ, 1, .ro, 0, .page, .any⟩,
   ⟨F.PTX_LOG_SEQ_HI.SEQ, 1, .ro, 0, .page, .any⟩,
   ⟨F.PTX_FOLD_ACTIVE.FOLDS, 1, .ro, 0, .page, .any⟩,
   ⟨F.PTX_FOLD_DENSE.COUNT, 1, .rc, 0, .page, .any⟩,
   ⟨F.PTX_FOLD_PSEQ.COUNT, 1, .rc, 0, .page, .any⟩,
   ⟨F.PTX_FOLD_BUCKET.COUNT, 1, .rc, 0, .page, .any⟩,
   ⟨F.PTX_FOLD_LOG.COUNT, 1, .rc, 0, .page, .any⟩,
   ⟨F.PTX_FOLD_LOAD.COUNT, 1, .rc, 0, .page, .any⟩]
  ++ [⟨F.PTX_FOLD_SWEEP.COUNT, 1, .rc, 0, .page, .any⟩,
   ⟨F.PTX_STALE_PATCH.COUNT, 1, .rc, 0, .page, .any⟩,
   ⟨F.PTX_FOLD_POISON.COUNT, 1, .rc, 0, .page, .any⟩]

/-- Field rows of RCL: Table 07-12. -/
def rowsRcl : List Row :=
  [⟨F.RCL_CFG.FREE_LOW, 1, .rw, 512, .page, .any⟩,
   ⟨F.RCL_CFG.FREE_CRIT, 1, .rw, 128, .page, .any⟩,
   ⟨F.RCL_CFG.BG_SHARE, 1, .rw, 25, .page, (.range true 1 100)⟩,
   ⟨F.RCL_OPEN0.HOT, 1, .rw, 96, .page, .any⟩,
   ⟨F.RCL_OPEN0.COLD, 1, .rw, 32, .page, .any⟩,
   ⟨F.RCL_OPEN0.RELOC, 1, .rw, 24, .page, .any⟩,
   ⟨F.RCL_OPEN0.META, 1, .rw, 16, .page, .any⟩,
   ⟨F.RCL_OPEN1.PATCH, 1, .rw, 16, .page, .any⟩,
   ⟨F.RCL_OPEN1.CKPT, 1, .rw, 8, .page, .any⟩,
   ⟨F.RCL_HOT_AGE.MINUTES, 1, .rw, 60, .page, (.range true 1 1440)⟩,
   ⟨F.RCL_FREE.BANDS, 1, .ro, 0, .page, .any⟩,
   ⟨F.RCL_OUT.BANDS, 1, .ro, 0, .page, .any⟩,
   ⟨F.RCL_VICTIM.BAND, 1, .ro, 0, .page, .any⟩,
   ⟨F.RCL_VICTIM.PHASE, 1, .ro, 0, .page, .any⟩,
   ⟨F.RCL_VICTIM.KIND, 1, .ro, 0, .page, .any⟩,
   ⟨F.RCL_VPROG.COPIED, 1, .ro, 0, .page, .any⟩,
   ⟨F.RCL_VPROG.REMAINING, 1, .ro, 0, .page, .any⟩,
   ⟨F.RCL_COPIED.COUNT, 1, .rc, 0, .page, .any⟩,
   ⟨F.RCL_RESETS.COUNT, 1, .rc, 0, .page, .any⟩,
   ⟨F.RCL_RETIRED.COUNT, 1, .rc, 0, .page, .any⟩,
   ⟨F.RCL_DEST_FAIL.COUNT, 1, .rc, 0, .page, .any⟩,
   ⟨F.RCL_RECOPY.COUNT, 1, .rc, 0, .page, .any⟩,
   ⟨F.RCL_RACE.COUNT, 1, .rc, 0, .page, .any⟩,
   ⟨F.RCL_HINT_DISAGREE.COUNT, 1, .rc, 0, .page, .any⟩]

/-- Field rows of CKP: Table 07-15. -/
def rowsCkp : List Row :=
  [⟨F.CKP_CFG.PTX_LAG, 1, .rw, 1048576, .page, (.range false 65536 4194304)⟩,
   ⟨F.CKP_STAT.PHASE, 1, .ro, 0, .page, .any⟩,
   ⟨F.CKP_STAT.CLEAN_START, 1, .ro, 0, .page, .any⟩,
   ⟨F.CKP_STAT.JOURNAL_FULL, 1, .ro, 0, .page, .any⟩,
   ⟨F.CKP_JRNL.PAGES, 1, .ro, 0, .page, .any⟩,
   ⟨F.CKP_DIRTY.OBJECTS, 1, .ro, 0, .page, .any⟩,
   ⟨F.CKP_JSN_LO.JSN, 1, .ro, 0, .page, .any⟩,
   ⟨F.CKP_JSN_HI.JSN, 1, .ro, 0, .page, .any⟩,
   ⟨F.CKP_REPLAY_MS.MS, 1, .ro, 0, .cold, .any⟩,
   ⟨F.CKP_REPLAY_REC.COUNT, 1, .ro, 0, .cold, .any⟩,
   ⟨F.CKP_REPLAY_HDR.COUNT, 1, .ro, 0, .cold, .any⟩,
   ⟨F.CKP_REPLAY_PATCH.COUNT, 1, .ro, 0, .cold, .any⟩,
   ⟨F.CKP_REPLAY_DROP.COUNT, 1, .ro, 0, .cold, .any⟩]

/-- Field rows of PTL: Table 08-9. -/
def rowsPtl : List Row :=
  [⟨F.PTL_CFG.LAP_HOURS, 1, .rw, 96, .page, (.range true 24 336)⟩,
   ⟨F.PTL_CFG.EN, 1, .rw, 1, .page, .any⟩,
   ⟨F.PTL_CFG.RELOC_BITS, 1, .rw, 8, .page, (.range false 4 12)⟩,
   ⟨F.PTL_CFG.EVAC_RELOCS, 1, .rw, 64, .page, (.range true 8 255)⟩,
   ⟨F.PTL_POS.BAND, 1, .ro, 0, .store, .any⟩,
   ⟨F.PTL_POS.PAGE, 1, .ro, 0, .store, .any⟩,
   ⟨F.PTL_LAP.LAP, 1, .ro, 0, .store, .any⟩,
   ⟨F.PTL_LAP.PRIORITY, 1, .ro, 0, .page, .any⟩,
   ⟨F.PTL_ELAPSED.MINUTES, 1, .ro, 0, .store, .any⟩,
   ⟨F.PTL_LAST.MINUTES, 1, .ro, 0, .cold, .any⟩,
   ⟨F.PTL_RATE.PAGES, 1, .ro, 0, .page, .any⟩,
   ⟨F.PTL_SUSPECT.QUEUED, 1, .ro, 0, .page, .any⟩,
   ⟨F.PTL_LAP_PAGES.PAGES, 1, .ro, 0, .page, .any⟩,
   ⟨F.PTL_RELOC.COUNT, 1, .rc, 0, .page, .any⟩,
   ⟨F.PTL_EVAC.COUNT, 1, .rc, 0, .page, .any⟩,
   ⟨F.PTL_LINE_LOST.COUNT, 1, .rc, 0, .page, .any⟩,
   ⟨F.PTL_SUSP_DROP.COUNT, 1, .rc, 0, .page, .any⟩,
   ⟨F.PTL_CORR.COUNT, 1, .rc, 0, .page, .any⟩,
   ⟨F.PTL_RECON.COUNT, 1, .rc, 0, .page, .any⟩]

/-- Field rows of AGE: Table 08-6. -/
def rowsAge : List Row :=
  [⟨F.AGE_CFG.OFF_TEMP, 1, .rw, 55, .cold, (.signed (-40) 85)⟩,
   ⟨F.AGE_CFG.BIAS_EN, 1, .rw, 1, .page, .any⟩,
   ⟨F.AGE_CFG.FORCE_BIN, 1, .rw, 0, .page, .any⟩,
   ⟨F.AGE_CFG.FORCE_EN, 1, .rw, 0, .page, .any⟩,
   ⟨F.AGE_STAT.RT_APPLIED, 1, .ro, 0, .page, .any⟩,
   ⟨F.AGE_STAT.OFF_UNKNOWN, 1, .ro, 0, .page, .any⟩,
   ⟨F.AGE_STAT.TIME_BACKWARD, 1, .ro, 0, .page, .any⟩,
   ⟨F.AGE_STAT.FALLBACK, 1, .ro, 0, .page, .any⟩,
   ⟨F.AGE_OFF.SECONDS, 1, .ro, 0, .page, .any⟩,
   ⟨F.AGE_CLK_SEL.CHANNEL, 1, .rw, 0, .page, .any⟩,
   ⟨F.AGE_CLK.STAMP, 1, .ro, 0, .store, .any⟩,
   ⟨F.AGE_AF.AF, 1, .ro, 0, .page, .any⟩,
   ⟨F.AGE_AF.SOURCE, 1, .ro, 0, .page, .any⟩,
   ⟨F.AGE_INSP.FIELD, 1, .rw, 0, .page, .any⟩,
   ⟨F.AGE_INSP.START, 1, .w1s, 0, .page, .any⟩,
   ⟨F.AGE_INSP_RES.BUSY, 1, .ro, 0, .page, .any⟩,
   ⟨F.AGE_INSP_RES.BASE_BIN, 1, .ro, 0, .page, .any⟩,
   ⟨F.AGE_INSP_RES.BIN, 1, .ro, 0, .page, .any⟩,
   ⟨F.AGE_INSP_RES.BIAS, 1, .ro, 0, .page, .any⟩,
   ⟨F.AGE_INSP_RES.OLD, 1, .ro, 0, .page, .any⟩,
   ⟨F.AGE_INSP_RES.PRESTART, 1, .ro, 0, .page, .any⟩,
   ⟨F.AGE_INSP_AGE.SECONDS, 1, .ro, 0, .page, .any⟩,
   ⟨F.AGE_FT.ENTRY, 4, .ro, 0, .page, .any⟩,
   ⟨F.AGE_PRED_OK.COUNT, 1, .rc, 0, .page, .any⟩,
   ⟨F.AGE_PRED_UP.COUNT, 1, .rc, 0, .page, .any⟩,
   ⟨F.AGE_PRED_DOWN.COUNT, 1, .rc, 0, .page, .any⟩,
   ⟨F.AGE_BIAS_CHG.COUNT, 1, .rc, 0, .page, .any⟩,
   ⟨F.AGE_PRESTART.COUNT, 1, .rc, 0, .page, .any⟩,
   ⟨F.AGE_BIN_HIST.COUNT, 8, .rc, 0, .page, .any⟩]

/-- Field rows of HLT: Table 08-12. -/
def rowsHlt : List Row :=
  [⟨F.HLT_WARN.SPARE_WARN, 1, .rw, 25, .cold, (.range true 1 100)⟩,
   ⟨F.HLT_WARN.LIFE_WARN, 1, .rw, 75, .cold, (.range true 1 100)⟩,
   ⟨F.HLT_WARN.TEMP_WARN, 1, .rw, 110, .cold, (.signed (0) 125)⟩,
   ⟨F.HLT_STATUS.SPARE_PCT, 1, .ro, 0, .page, .any⟩,
   ⟨F.HLT_STATUS.LIFE_PCT, 1, .ro, 0, .page, .any⟩,
   ⟨F.HLT_STATUS.SPARE_BELOW, 1, .ro, 0, .page, .any⟩,
   ⟨F.HLT_STATUS.LIFE_ABOVE, 1, .ro, 0, .page, .any⟩,
   ⟨F.HLT_STATUS.TEMP_ABOVE, 1, .ro, 0, .page, .any⟩,
   ⟨F.HLT_STATUS.SPARE_NEG, 1, .ro, 0, .page, .any⟩,
   ⟨F.HLT_CAPACITY.POSITIONS, 1, .ro, 0, .page, .any⟩,
   ⟨F.HLT_SPARE.POSITIONS, 1, .ro, 0, .page, .any⟩,
   ⟨F.HLT_GRANTABLE.EXTENTS, 1, .ro, 0, .page, .any⟩,
   ⟨F.HLT_RETIRED.FIELDS, 1, .ro, 0, .page, .any⟩,
   ⟨F.HLT_DIES.FAILED, 1, .ro, 0, .page, .any⟩,
   ⟨F.HLT_AMP.MEAN, 1, .ro, 0, .page, .any⟩,
   ⟨F.HLT_AMP.MAX, 1, .ro, 0, .page, .any⟩,
   ⟨F.HLT_AMP.ABOVE_CAP, 1, .ro, 0, .page, .any⟩,
   ⟨F.HLT_TEMP_SEL.CELL, 1, .rw, 0, .page, .any⟩,
   ⟨F.HLT_TEMP_HIST.MINUTES, 1, .ro, 0, .cold, .any⟩,
   ⟨F.HLT_TEMP_PEAK.DIE, 1, .ro, 0, .cold, .any⟩,
   ⟨F.HLT_TEMP_PEAK.MEDIA, 1, .ro, 0, .cold, .any⟩,
   ⟨F.HLT_LIFE_CORR.COUNT, 1, .ro, 0, .cold, .any⟩,
   ⟨F.HLT_LIFE_UNCORR.COUNT, 1, .ro, 0, .cold, .any⟩,
   ⟨F.HLT_LIFE_RECON.COUNT, 1, .ro, 0, .cold, .any⟩,
   ⟨F.HLT_LIFE_RETRY.COUNT, 1, .ro, 0, .cold, .any⟩,
   ⟨F.HLT_LIFE_SQUASH.COUNT, 1, .ro, 0, .cold, .any⟩,
   ⟨F.HLT_LIFE_POISON.COUNT, 1, .ro, 0, .cold, .any⟩,
   ⟨F.HLT_LIFE_PFAIL.COUNT, 1, .ro, 0, .cold, .any⟩,
   ⟨F.HLT_LIFE_RFAIL.COUNT, 1, .ro, 0, .cold, .any⟩]

/-- Field rows of WGV: Table 08-15. -/
def rowsWgv : List Row :=
  [⟨F.WGV_CFG.MODE, 1, .rw, 0, .cold, .any⟩,
   ⟨F.WGV_CFG.TARGET_YEARS, 1, .rw, 40, .cold, (.range true 1 100)⟩,
   ⟨F.WGV_CFG.WINDOW_DAYS, 1, .rw, 30, .cold, (.range true 1 255)⟩,
   ⟨F.WGV_MEAN.UNITS, 1, .ro, 0, .page, .any⟩,
   ⟨F.WGV_MAX.UNITS, 1, .ro, 0, .page, .any⟩,
   ⟨F.WGV_RATE.UNITS, 1, .ro, 0, .page, .any⟩,
   ⟨F.WGV_PROJ.YEARS, 1, .ro, 65535, .page, .any⟩,
   ⟨F.WGV_SERVICE.HOURS, 1, .ro, 0, .cold, .any⟩,
   ⟨F.WGV_LIFE.LIFE_USED, 1, .ro, 0, .page, .any⟩,
   ⟨F.WGV_CEIL.PCT, 1, .ro, 100, .page, .any⟩,
   ⟨F.WGV_CEIL.PINNED, 1, .ro, 0, .page, .any⟩]

/-- Field rows of CRY: Table 10-12. -/
def rowsCry : List Row :=
  [⟨F.CRY_ERASE_STAT.ACTIVE, 1, .ro, 0, .page, .any⟩,
   ⟨F.CRY_ERASE_STAT.QUEUED, 1, .ro, 0, .page, .any⟩,
   ⟨F.CRY_ERASE_STAT.LAST_NS, 1, .ro, 0, .page, .any⟩,
   ⟨F.CRY_EET_SEL.LXN, 1, .rw, 0, .page, (.range false 0 49151)⟩,
   ⟨F.CRY_EET_LO.EPOCH, 1, .ro, 0, .cold, .any⟩,
   ⟨F.CRY_EET_HI.EPOCH, 1, .ro, 0, .cold, .any⟩,
   ⟨F.CRY_POISON_SET.COUNT, 1, .rc, 0, .page, .any⟩,
   ⟨F.CRY_PARTIAL_DROP.COUNT, 1, .rc, 0, .page, .any⟩,
   ⟨F.CRY_POISON_CLEAR.COUNT, 1, .rc, 0, .page, .any⟩,
   ⟨F.CRY_POISON_PAGE.COUNT, 1, .rc, 0, .page, .any⟩,
   ⟨F.CRY_NOKEY_WR.COUNT, 1, .rc, 0, .page, .any⟩,
   ⟨F.CRY_VER_OLD.COUNT, 1, .rc, 0, .page, .any⟩,
   ⟨F.CRY_KCACHE_MISS.COUNT, 1, .rc, 0, .page, .any⟩,
   ⟨F.CRY_ERASES.COUNT, 1, .rc, 0, .page, .any⟩]

/-- Field rows of RKY: Table 10-9. -/
def rowsRky : List Row :=
  [⟨F.RKY_CFG.TARGET_S, 1, .rw, 600, .page, (.range true 60 900)⟩,
   ⟨F.RKY_CMD.KEY, 1, .rw, 0, .page, .any⟩,
   ⟨F.RKY_CMD.START, 1, .w1s, 0, .page, .any⟩,
   ⟨F.RKY_CMD.RESULT, 1, .ro, 0, .page, .any⟩,
   ⟨F.RKY_STAT.ACTIVE, 1, .ro, 0, .page, .any⟩,
   ⟨F.RKY_STAT.AGAIN, 1, .ro, 0, .page, .any⟩,
   ⟨F.RKY_SEL.KEY, 1, .rw, 0, .page, .any⟩,
   ⟨F.RKY_CURSOR.PAGE, 1, .ro, 0, .page, .any⟩,
   ⟨F.RKY_DONE.PAGES, 1, .ro, 0, .page, .any⟩,
   ⟨F.RKY_LEFT.PAGES, 1, .ro, 0, .page, .any⟩,
   ⟨F.RKY_ELAPSED.SECONDS, 1, .ro, 0, .page, .any⟩,
   ⟨F.RKY_SWEEPS.COUNT, 1, .rc, 0, .page, .any⟩,
   ⟨F.RKY_LATE.COUNT, 1, .rc, 0, .page, .any⟩]

/-- Field rows of CPE: Table 18-4. -/
def rowsCpe : List Row :=
  [⟨F.CPE_CFG.RETRY, 1, .rw, 2, .page, .any⟩,
   ⟨F.CPE_STAT.ACTIVE, 1, .ro, 0, .page, .any⟩,
   ⟨F.CPE_MIB.COUNT, 1, .rc, 0, .page, .any⟩,
   ⟨F.CPE_RETRIES.COUNT, 1, .rc, 0, .page, .any⟩,
   ⟨F.CPE_HALTS.COUNT, 1, .rc, 0, .page, .any⟩,
   ⟨F.CPE_POISON_PASS.COUNT, 1, .rc, 0, .page, .any⟩,
   ⟨F.CPE_SKIPPED.COUNT, 1, .rc, 0, .page, .any⟩]

/-- Field rows of CPD: Table 18-4. -/
def rowsCpd : List Row :=
  [⟨F.CPD_CTL.ARM, 4, .w1s, 0, .page, .any⟩,
   ⟨F.CPD_CTL.ABORT, 4, .w1s, 0, .page, .any⟩,
   ⟨F.CPD_CTL.RESUME, 4, .rw, 0, .page, (.enum 2)⟩,
   ⟨F.CPD_STAT.STATE, 4, .ro, 0, .page, .any⟩,
   ⟨F.CPD_STAT.SHADOW_ARMED, 4, .ro, 0, .page, .any⟩,
   ⟨F.CPD_STAT.CAUSE, 4, .ro, 0, .page, .any⟩,
   ⟨F.CPD_STAT.RESULT, 4, .ro, 0, .page, .any⟩,
   ⟨F.CPD_STAT.FSTATUS, 4, .ro, 0, .page, .any⟩,
   ⟨F.CPD_STAT.DURABLE, 4, .ro, 0, .page, .any⟩,
   ⟨F.CPD_STAT.NOT_DURABLE, 4, .ro, 0, .page, .any⟩,
   ⟨F.CPD_STAT.INFLIGHT, 4, .ro, 0, .page, .any⟩,
   ⟨F.CPD_DONE.BYTES, 4, .ro, 0, .page, .any⟩,
   ⟨F.CPD_ERR_LO.HPA, 4, .ro, 0, .page, .any⟩,
   ⟨F.CPD_ERR_HI.HPA, 4, .ro, 0, .page, .any⟩,
   ⟨F.CPD_ACT_SRC_LO.HPA, 4, .ro, 0, .page, .any⟩,
   ⟨F.CPD_SH_SRC_LO.HPA, 4, .rw, 0, .page, .any⟩,
   ⟨F.CPD_ACT_DST_LO.HPA, 4, .ro, 0, .page, .any⟩,
   ⟨F.CPD_SH_DST_LO.HPA, 4, .rw, 0, .page, .any⟩,
   ⟨F.CPD_ACT_SRC_HI.HPA, 4, .ro, 0, .page, .any⟩,
   ⟨F.CPD_SH_SRC_HI.HPA, 4, .rw, 0, .page, .any⟩,
   ⟨F.CPD_ACT_DST_HI.HPA, 4, .ro, 0, .page, .any⟩,
   ⟨F.CPD_SH_DST_HI.HPA, 4, .rw, 0, .page, .any⟩,
   ⟨F.CPD_ACT_LEN.WORDS, 4, .ro, 0, .page, .any⟩,
   ⟨F.CPD_SH_LEN.WORDS, 4, .rw, 0, .page, .any⟩,
   ⟨F.CPD_ACT_ATTR.HEAD, 4, .ro, 0, .page, .any⟩,
   ⟨F.CPD_SH_ATTR.HEAD, 4, .rw, 0, .page, .any⟩,
   ⟨F.CPD_ACT_ATTR.OP, 4, .ro, 0, .page, .any⟩,
   ⟨F.CPD_SH_ATTR.OP, 4, .rw, 0, .page, (.enum 2)⟩,
   ⟨F.CPD_ACT_ATTR.KEY, 4, .ro, 0, .page, .any⟩,
   ⟨F.CPD_SH_ATTR.KEY, 4, .rw, 0, .page, .any⟩]
  ++ [⟨F.CPD_ACT_ATTR.FENCE_EN, 4, .ro, 0, .page, .any⟩,
   ⟨F.CPD_SH_ATTR.FENCE_EN, 4, .rw, 0, .page, .any⟩,
   ⟨F.CPD_ACT_ATTR.SCOPE, 4, .ro, 0, .page, .any⟩,
   ⟨F.CPD_SH_ATTR.SCOPE, 4, .rw, 0, .page, .any⟩,
   ⟨F.CPD_ACT_ATTR.PASS_POISON, 4, .ro, 0, .page, .any⟩,
   ⟨F.CPD_SH_ATTR.PASS_POISON, 4, .rw, 0, .page, .any⟩,
   ⟨F.CPD_ACT_ATTR.RECORD, 4, .ro, 0, .page, .any⟩,
   ⟨F.CPD_SH_ATTR.RECORD, 4, .rw, 0, .page, .any⟩,
   ⟨F.CPD_ACT_ATTR.QUEUE, 4, .ro, 0, .page, .any⟩,
   ⟨F.CPD_SH_ATTR.QUEUE, 4, .rw, 0, .page, .any⟩]

/-- Field rows of CPS: Table 18-4. -/
def rowsCps : List Row :=
  [⟨F.CPS_CTL.GO, 8, .w1s, 0, .page, .any⟩,
   ⟨F.CPS_CTL.ABORT, 8, .w1s, 0, .page, .any⟩,
   ⟨F.CPS_STAT.STATE, 8, .ro, 0, .page, .any⟩,
   ⟨F.CPS_STAT.SHADOW_ARMED, 8, .ro, 0, .page, .any⟩,
   ⟨F.CPS_STAT.CAUSE, 8, .ro, 0, .page, .any⟩,
   ⟨F.CPS_STAT.RESULT, 8, .ro, 0, .page, .any⟩,
   ⟨F.CPS_STAT.FSTATUS, 8, .ro, 0, .page, .any⟩,
   ⟨F.CPS_STAT.DURABLE, 8, .ro, 0, .page, .any⟩,
   ⟨F.CPS_STAT.NOT_DURABLE, 8, .ro, 0, .page, .any⟩,
   ⟨F.CPS_STAT.INFLIGHT, 8, .ro, 0, .page, .any⟩,
   ⟨F.CPS_DONE.BYTES, 8, .ro, 0, .page, .any⟩,
   ⟨F.CPS_ERR_LO.HPA, 8, .ro, 0, .page, .any⟩,
   ⟨F.CPS_ERR_HI.HPA, 8, .ro, 0, .page, .any⟩,
   ⟨F.CPS_SRC_LO.HPA, 8, .rw, 0, .page, .any⟩,
   ⟨F.CPS_DST_LO.HPA, 8, .rw, 0, .page, .any⟩,
   ⟨F.CPS_SRC_HI.HPA, 8, .rw, 0, .page, .any⟩,
   ⟨F.CPS_DST_HI.HPA, 8, .rw, 0, .page, .any⟩,
   ⟨F.CPS_LEN.WORDS, 8, .rw, 0, .page, .any⟩,
   ⟨F.CPS_ATTR.HEAD, 8, .rw, 0, .page, .any⟩,
   ⟨F.CPS_ATTR.OP, 8, .rw, 0, .page, (.enum 2)⟩,
   ⟨F.CPS_ATTR.KEY, 8, .rw, 0, .page, .any⟩,
   ⟨F.CPS_ATTR.FENCE_EN, 8, .rw, 0, .page, .any⟩,
   ⟨F.CPS_ATTR.SCOPE, 8, .rw, 0, .page, .any⟩,
   ⟨F.CPS_ATTR.PASS_POISON, 8, .rw, 0, .page, .any⟩,
   ⟨F.CPS_ATTR.RECORD, 8, .rw, 0, .page, .any⟩,
   ⟨F.CPS_ATTR.QUEUE, 8, .rw, 0, .page, .any⟩]

/-- Field rows of the counters of every page: Table 19-12. -/
def rowsCounters : List Row :=
  [⟨F.PMC_CNT_LO.COUNT, 8, .rw, 0, .page, .any⟩,
   ⟨F.PMC_CNT_HI.COUNT, 8, .rw, 0, .page, .any⟩,
   ⟨F.PMC_SEL.EVENT, 8, .rw, 0, .page, .any⟩,
   ⟨F.PMC_SEL.EN, 8, .rw, 0, .page, .any⟩,
   ⟨F.PMC_SEL.THR_EN, 8, .rw, 0, .page, .any⟩,
   ⟨F.PMC_SEL.SAMPLE, 8, .rw, 0, .page, .any⟩,
   ⟨F.PMC_THR_LO.THR, 8, .rw, 0, .page, .any⟩,
   ⟨F.PMC_THR_HI.THR, 8, .rw, 0, .page, .any⟩,
   ⟨F.PMC_PCTL.FREEZE, 1, .rw, 0, .page, .any⟩,
   ⟨F.PMC_PCTL.FREEZE_ON_OVF, 1, .rw, 0, .page, .any⟩,
   ⟨F.PMC_PSTAT.OVF, 1, .w1c, 0, .page, .any⟩,
   ⟨F.PMC_PSTAT.THR, 1, .w1c, 0, .page, .any⟩,
   ⟨F.PMC_SAMP0.OID, 1, .ro, 0, .page, .any⟩,
   ⟨F.PMC_SAMP0.COUNTER, 1, .ro, 0, .page, .any⟩,
   ⟨F.PMC_SAMP0.VALID, 1, .w1c, 0, .page, .any⟩,
   ⟨F.PMC_SAMP0.SKID, 1, .ro, 0, .page, .any⟩,
   ⟨F.PMC_SAMP1.ADDR, 1, .ro, 0, .page, .any⟩,
   ⟨F.PMC_SAMP2.ADDR, 1, .ro, 0, .page, .any⟩]

/-- Field rows of the common page header but PAGE_ID and PAGE_CAPS: Tables 00-4, 00-6 and 00-7. -/
def rowsHeader : List Row :=
  [⟨F.UNIT_STATE.STATE, 1, .ro, 1, .page, .any⟩,
   ⟨F.UNIT_STATE.CAUSE_OPEN, 1, .ro, 0, .page, .any⟩,
   ⟨F.UNIT_STATE.EPOCH, 1, .ro, 0, .warm, .any⟩,
   ⟨F.UNIT_CMD.TARGET, 1, .rw, 0, .page, .any⟩,
   ⟨F.UNIT_CMD.PENDING, 1, .ro, 0, .page, .any⟩,
   ⟨F.UNIT_CMD.RESULT, 1, .ro, 0, .page, .any⟩,
   ⟨F.UNIT_CMD.EXP_EPOCH, 1, .rw, 0, .page, .any⟩,
   ⟨F.EVT_ROUTE.DEST, 1, .rw, 0, .page, .any⟩,
   ⟨F.EVT_ROUTE.HEAD, 1, .rw, 0, .page, .any⟩,
   ⟨F.EVT_ROUTE.QUEUE, 1, .rw, 0, .page, .any⟩,
   ⟨F.EVT_ROUTE.VECTOR, 1, .rw, 0, .page, .any⟩,
   ⟨F.ERR_INFO0.EVENT, 1, .ro, 0, .page, .any⟩,
   ⟨F.ERR_INFO0.CODE, 1, .ro, 0, .page, .any⟩,
   ⟨F.ERR_INFO0.DETAIL, 1, .ro, 0, .page, .any⟩,
   ⟨F.ERR_INFO0.FORCED, 1, .ro, 0, .page, .any⟩,
   ⟨F.ERR_INFO0.MORE, 1, .ro, 0, .page, .any⟩,
   ⟨F.ERR_INFO1.INFO, 1, .ro, 0, .page, .any⟩,
   ⟨F.ERR_INFO2.INFO, 1, .ro, 0, .page, .any⟩,
   ⟨F.ERR_INFO3.INFO, 1, .ro, 0, .page, .any⟩,
   ⟨F.PAGE_LOCK.LOCK, 1, .w1s, 0, .warm, .any⟩,
   ⟨F.PAGE_REJECT.CODE, 1, .rc, 0, .page, .any⟩,
   ⟨F.PAGE_REJECT.MORE, 1, .rc, 0, .page, .any⟩,
   ⟨F.PAGE_REJECT.PATH, 1, .rc, 0, .page, .any⟩,
   ⟨F.PAGE_REJECT.OFFSET, 1, .rc, 0, .page, .any⟩,
   ⟨F.EVT_STATUS.BITS, 1, .w1c, 0, .page, .any⟩,
   ⟨F.EVT_ENABLE.BITS, 1, .rw, 0, .page, .any⟩,
   ⟨F.EVT_FORCE.BITS, 1, .w1s, 0, .page, .any⟩]

/-- The rows of a block's own registers. -/
def blockRows : Block → List Row
  | .dev => rowsDev
  | .trv => rowsTrv
  | .seq0 => rowsSeq0
  | .seq1 => rowsSeq1
  | .rtm => rowsRtm
  | .thm => rowsThm
  | .pst => rowsPst
  | .mgt => rowsMgt
  | .sec => rowsSec
  | .key => rowsKey
  | .loop => rowsLoop
  | .qos => rowsQos
  | .pmc => rowsPmc
  | .evq => rowsEvq
  | .flt => rowsFlt
  | .pdr => rowsPdr
  | .hpt => rowsHpt
  | .shl => rowsShl
  | .shm => rowsShm
  | .xtn => rowsXtn
  | .fcc => rowsFcc
  | .fcm => rowsFcm
  | .vwn => rowsVwn
  | .mch => rowsMch
  | .map => rowsMap
  | .ptx => rowsPtx
  | .rcl => rowsRcl
  | .ckp => rowsCkp
  | .ptl => rowsPtl
  | .age => rowsAge
  | .hlt => rowsHlt
  | .wgv => rowsWgv
  | .cry => rowsCry
  | .rky => rowsRky
  | .cpe => rowsCpe
  | .cpd => rowsCpd
  | .cps => rowsCps

end Sys2Proof.Machine
end

