-- ==== Sys2Proof/Machine/Sparse.lean ====
section
/-! DEFINITION. Sparse maps in one canonical form: keys strictly rising, no entry equal to what an unlisted key reads as. Every
table, RAM and register file of the model is one of these. -/

namespace Sys2Proof.Machine

/-- The entry listed under `k`, if there is one. -/
def smFind {α : Type} (k : Nat) : SMap α → Option α
  | [] => none
  | (j, a) :: m => if j = k then some a else smFind k m

/-- What key `k` reads as: the listed entry, or the default of that key. -/
def smGet {α : Type} (d : Nat → α) (m : SMap α) (k : Nat) : α := (smFind k m).getD (d k)

/-- `m` with `a` listed under `k`, in key order. -/
def smPut {α : Type} (k : Nat) (a : α) : SMap α → SMap α
  | [] => [(k, a)]
  | (j, b) :: m => if k < j then (k, a) :: (j, b) :: m else if j = k then (k, a) :: m else (j, b) :: smPut k a m

/-- `m` with nothing listed under `k`. -/
def smDel {α : Type} (k : Nat) : SMap α → SMap α
  | [] => []
  | (j, b) :: m => if j = k then smDel k m else (j, b) :: smDel k m

/-- `m` with key `k` reading as `a`; an entry equal to the default is not listed. -/
def smSet {α : Type} [DecidableEq α] (d : Nat → α) (k : Nat) (a : α) (m : SMap α) : SMap α :=
  if a = d k then smDel k m else smPut k a m

/-- `m` without the entries that `p` rejects. -/
def smKeep {α : Type} (p : Nat → α → Bool) (m : SMap α) : SMap α := m.filter (fun e => p e.1 e.2)

/-- Every key of `m` is above `lo` (when there is a bound), they rise strictly, and no entry equals its default. -/
def smWfFrom {α : Type} [DecidableEq α] (d : Nat → α) : Option Nat → SMap α → Bool
  | _, [] => true
  | lo, (k, a) :: m => (match lo with | none => true | some l => decide (l < k)) && decide (a ≠ d k) && smWfFrom d (some k) m

/-- The canonical form. -/
def smWf {α : Type} [DecidableEq α] (d : Nat → α) (m : SMap α) : Bool := smWfFrom d none m

/-- A set of numbers in rising order: insertion. -/
def nsInsert (k : Nat) : List Nat → List Nat
  | [] => [k]
  | j :: m => if k < j then k :: j :: m else if j = k then k :: m else j :: nsInsert k m

/-- A set of numbers in rising order: removal. -/
def nsErase (k : Nat) (m : List Nat) : List Nat := m.filter (fun j => j ≠ k)

/-- Bits [lo+width-1:lo] of a word, as a number (R3). -/
def wordBits (w : Word) (lo width : Nat) : Nat := (w.toNat >>> lo) % 2 ^ width

/-- `w` with bits [lo+width-1:lo] replaced by the low bits of `v`. -/
def wordSet (w : Word) (lo width v : Nat) : Word :=
  (w &&& ~~~(BitVec.ofNat 32 ((2 ^ width - 1) <<< lo))) ||| BitVec.ofNat 32 ((v % 2 ^ width) <<< lo)

/-- The value of a Bool as a bit. -/
def bit (b : Bool) : Nat := if b then 1 else 0

/-- Bit `n` of a number. -/
def nbit (v n : Nat) : Bool := (v >>> n) % 2 = 1

/-- `v` with bit `n` set or cleared. -/
def nsetbit (v n : Nat) (b : Bool) : Nat := if nbit v n = b then v else if b then v + 2 ^ n else v - 2 ^ n

/-- The number of 1 bits among the low `n` bits of `v`. -/
def popcount (v : Nat) : Nat → Nat
  | 0 => 0
  | n + 1 => popcount v n + bit (nbit v n)

/-- A number below `n` has its bits, lowest first, as a list of positions. -/
def bitList (v n : Nat) : List Nat := (List.range n).filter (nbit v)

/-- The two's-complement reading of `v` in `w` bits. -/
def toSigned (w v : Nat) : Int := if v % 2 ^ w < 2 ^ (w - 1) then (v % 2 ^ w : Nat) else ((v % 2 ^ w : Nat) : Int) - (2 ^ w : Nat)

/-- The low `w` bits of an integer. -/
def ofSigned (w : Nat) (v : Int) : Nat := (v % (2 ^ w : Nat)).toNat

/-- `n` bytes of a number, lowest first (R3: little-endian). -/
def leBytes : Nat → Nat → List Byte
  | 0, _ => []
  | n + 1, v => BitVec.ofNat 8 v :: leBytes n (v / 256)

/-- The number that bytes spell, lowest first. -/
def ofBytes : List Byte → Nat
  | [] => 0
  | b :: bs => b.toNat + 256 * ofBytes bs

/-- Quotient rounded up. -/
def ceilDiv (a b : Nat) : Nat := (a + b - 1) / b

/-- Addition that stops at a ceiling. -/
def satAdd (cap a b : Nat) : Nat := min cap (a + b)

end Sys2Proof.Machine
end

