-- ==== Sys2Proof/Machine/PageMap.lean ====
section
/-! DEFINITION. The page map (Table 21-1, R487), the constants of the page headers (R14, Table 00-5) and what every register word
takes at reset (R12). -/

namespace Sys2Proof.Machine

/-- The block of a page, with its instance number (Table 21-1); none for an unimplemented page (R488). -/
def blockOf (page : Nat) : Option (Block × Nat) :=
  if page ≤ 0x00F then
    ([Block.dev, .trv, .seq0, .seq1, .rtm, .thm, .pst, .mgt, .sec, .key, .loop, .qos, .pmc, .evq, .flt, .pdr][page]?).map
      (fun b => (b, if page = 0x003 then 1 else 0))
  else if page ≤ 0x017 then some (.hpt, page - 0x010)
  else if page ≤ 0x019 then some (.shl, page - 0x018)
  else if page = 0x01A then some (.shm, 0)
  else if page = 0x01B then some (.xtn, 0)
  else if page < 0x020 then none
  else if page ≤ 0x023 then some (.fcc, page - 0x020)
  else if page = 0x024 then some (.fcm, 0)
  else if page = 0x025 then some (.vwn, 0)
  else if page < 0x030 then none
  else if page ≤ 0x03F then some (.mch, page - 0x030)
  else if page ≤ 0x049 then
    ([Block.map, .ptx, .rcl, .ckp, .ptl, .age, .hlt, .wgv, .cry, .rky][page - 0x040]?).map (fun b => (b, 0))
  else if page < 0x050 then none
  else if page = 0x050 then some (.cpe, 0)
  else if page ≤ 0x058 then some (.cpd, page - 0x051)
  else if page = 0x059 then some (.cps, 0)
  else none

/-- Is the page implemented (R487, R488)? -/
def implemented (page : Nat) : Bool := (blockOf page).isSome

/-- The implemented pages, in order. -/
def allPages : List Nat := (List.range 0x05A).filter implemented

/-- Block type codes (Table 21-1). -/
def blockType : Block → Nat
  | .dev => 0x01 | .trv => 0x02 | .seq0 => 0x03 | .seq1 => 0x03 | .rtm => 0x04 | .thm => 0x05 | .pst => 0x06 | .mgt => 0x07
  | .sec => 0x08 | .key => 0x09 | .loop => 0x0A | .qos => 0x0B | .pmc => 0x0C | .evq => 0x0D | .flt => 0x0E | .pdr => 0x0F
  | .hpt => 0x10 | .shl => 0x11 | .shm => 0x12 | .xtn => 0x13 | .fcc => 0x20 | .fcm => 0x21 | .vwn => 0x22 | .mch => 0x30
  | .map => 0x40 | .ptx => 0x41 | .rcl => 0x42 | .ckp => 0x43 | .ptl => 0x44 | .age => 0x45 | .hlt => 0x46 | .wgv => 0x47
  | .cry => 0x48 | .rky => 0x49 | .cpe => 0x50 | .cpd => 0x51 | .cps => 0x52

/-- The power domain of a page, as the n of PDn (Table 21-1). -/
def domainOf (page : Nat) : Nat :=
  match blockOf page with
  | none => 0
  | some (b, i) =>
    match b with
    | .dev | .trv | .seq0 | .seq1 | .rtm | .thm | .pst | .mgt | .flt | .pdr => 0
    | .sec | .key => 4
    | .evq => 2
    | .hpt => if i < 4 then 5 else 6
    | .shl => 7
    | .fcc => 8 + i
    | .mch => 12 + i / 4
    | _ => 1

/-- Access policies of Table 21-1: host and management, management only, read-only to the host. -/
inductive Policy
  | hm | m | hr
deriving DecidableEq, Repr

/-- The policy of a block's page (Table 21-1). -/
def blockPolicy : Block → Policy
  | .trv | .mgt | .flt => .hr
  | .seq0 | .seq1 | .sec => .m
  | _ => .hm

/-- PAGE_CAPS of a block: STATES, BLOCK_CAPS and EVT_COUNT (Table 00-5, each block's chapter). -/
def blockCaps : Block → Nat × Nat × Nat
  | .dev => (0b0000110, 0, 1)
  | .trv => (0b1010110, 32, 3)
  | .seq0 => (0b0010110, 0, 8)
  | .seq1 => (0b0000100, 0, 0)
  | .rtm => (0b1001110, 0, 5)
  | .thm => (0b0001110, 0, 5)
  | .pst => (0b1001110, 64, 5)
  | .mgt => (0b0000110, 0, 4)
  | .sec => (0b0010110, 0, 7)
  | .key => (0b1010110, 16, 5)
  | .loop => (0b0000110, 6, 2)
  | .qos => (0b0000110, 0, 3)
  | .pmc => (0b0000110, 32, 3)
  | .evq => (0b0000110, 64, 3)
  | .flt => (0b0000110, 0, 4)
  | .pdr => (0b0000110, 0, 6)
  | .hpt => (0b1011111, 32 + 8 * 256, 8)
  | .shl => (0b1011111, 8, 6)
  | .shm => (0b1011110, 32, 9)
  | .xtn => (0b1010110, 32 + 32 * 256, 8)
  | .fcc => (0b1111111, 32 + 48 * 256, 6)
  | .fcm => (0b1011110, 0, 4)
  | .vwn => (0b1011110, 4, 5)
  | .mch => (0b1111111, 8 + 16 * 256, 8)
  | .map => (0b1011110, 3 + 3 * 256, 6)
  | .ptx => (0b1011110, 64 + 4 * 256, 8)
  | .rcl => (0b1011110, 192, 6)
  | .ckp => (0b1011110, 0, 4)
  | .ptl => (0b1010110, 64, 6)
  | .age => (0b1001110, 8, 4)
  | .hlt => (0b1001110, 0, 4)
  | .wgv => (0b1000110, 0, 3)
  | .cry => (0b1010110, 0, 6)
  | .rky => (0b0000110, 0, 5)
  | .cpe => (0b1010110, 0, 0)
  | .cpd => (0b1010110, 0, 8)
  | .cps => (0b1010110, 0, 16)

/-- EVT_COUNT of a page. -/
def evtCount (page : Nat) : Nat := match blockOf page with | none => 0 | some (b, _) => (blockCaps b).2.2

/-- The rows of a page: the header, the block's own registers and the counters of every page (R487). -/
def pageRows (page : Nat) : List Row :=
  match blockOf page with
  | none => []
  | some (b, _) => rowsHeader ++ blockRows b ++ rowsCounters

/-- Does row `r` lie in the register at byte offset `off`? -/
def rowAt (r : Row) (off : Nat) : Bool :=
  decide (r.fld.off ≤ off) &&
    (if r.fld.step = 0 then decide (off = r.fld.off)
     else decide ((off - r.fld.off) % r.fld.step = 0) && decide ((off - r.fld.off) / r.fld.step < r.copies))

/-- The rows of the register at a byte offset of a page; none for a reserved offset (R9). -/
def rowsAt (page off : Nat) : List Row := (pageRows page).filter (rowAt · off)

/-- The word that a register takes at reset, as its field tables give it (R12). UNIT_STATE of a page outside PD00 reads OFF:
COLD leaves every other domain unpowered (Table 00-6). -/
def resetWord (page off : Nat) : Word :=
  match blockOf page with
  | none => 0
  | some (b, i) =>
    if off = 0x000 then BitVec.ofNat 32 (blockType b + i * 2 ^ 8 + 0x01 * 2 ^ 16)
    else if off = 0x004 then BitVec.ofNat 32 ((blockCaps b).1 + 2 ^ 7 + (blockCaps b).2.2 * 2 ^ 8 + (blockCaps b).2.1 * 2 ^ 16)
    else if off = 0x008 then BitVec.ofNat 32 (if domainOf page = 0 then 1 else 0)
    else (rowsAt page off).foldl (fun w r => wordSet w r.fld.lo r.fld.width r.rst) 0

/-- The key of a register in the register file: pages of 1,024 words. -/
def regKey (page off : Nat) : Nat := page * 1024 + off / 4

/-- What a register that is not listed in the register file reads as: its reset word. -/
def regDefault (k : Nat) : Word := resetWord (k / 1024) (4 * (k % 1024))

/-- The cause register of a block: its byte offset, the bits that set CAUSE_OPEN, and the bit of its INTERNAL cause
(R67, R476 and the chapters of HPT, FCC, MCH, SHL, SEC and SEQ). DOWN of SHL contains the unit and, like LINK_DOWN, opens
CAUSE_OPEN with it. -/
def causeReg : Block → Option (Nat × Nat × Option Nat)
  | .hpt => some (0x04C, 0b0111, some 2)
  | .fcc => some (0x044, 0b1011, some 3)
  | .mch => some (0x044, 0b1101, some 3)
  | .shl => some (0x048, 0b1111, some 3)
  | .sec => some (0x048, 0b1111, some 3)
  | .seq0 => some (0x04C, 0b1111, none)
  | _ => none

/-- Does the page have an INTERNAL cause (R476)? Those of XTN, MAP and the like have no register of their own. -/
def internalBit (b : Block) : Option Nat :=
  match causeReg b with
  | some (_, _, i) => i
  | none => none

end Sys2Proof.Machine
end

