-- ==== Sys2Proof/Machine/State.lean ====
section
/-! DEFINITION. The state of the part as plain data, the reasons a step can stop, and the state right after COLD reset. -/

namespace Sys2Proof.Machine

/-- One packet of an event queue (R448): its KIND, the LEN of its length word, TRUNCATED, the payload bytes stored, the cells it
holds, whether its length word is written (R449), whether its notice has been sent (R451), and the push port that still fills it (1 host, 2 management, 0 none). -/
structure Pkt where
  kind : Nat
  len : Nat
  trunc : Bool
  payload : List Byte
  cells : Nat
  written : Bool
  noticed : Bool
  port : Nat
deriving DecidableEq, Repr

/-- One of the 64 event queues: its configuration word (EVQ_QCFG), its 32-bit sequence and its packets, oldest first (R448, R449). -/
structure Queue where
  cfg : Word
  seq : Nat
  pkts : List Pkt
deriving DecidableEq, Repr

/-- A push port with a packet open (R453): the queue, the LEN of the START, the bytes received and when it was opened. The result of
the last START stays in EVQ_PUSH_STAT of that port. -/
structure PushPort where
  isOpen : Bool
  queue : Nat
  len : Nat
  bytes : List Byte
  openedAt : Nat
  result : Nat
  ctl : Word
deriving DecidableEq, Repr

/-- A queued in-band interrupt notice (Table 15-2): a unit state change (0xB1) or a page event (0xB2), with the time it was queued. -/
structure Notice where
  page : Nat
  a : Nat
  b : Nat
  epoch : Nat
  since : Nat
deriving DecidableEq, Repr

/-- One entry of the fault log (R472). -/
structure FaultEntry where
  page : Nat
  event : Nat
  cls : Nat
  fatal : Bool
  stall : Nat
  time : Nat
  info : Nat
deriving DecidableEq, Repr

/-- What leaves the part. -/
inductive Output
  /-- A register read on a path: control-space offset and the bytes returned, as a little-endian number of `size` bytes. -/
  | regRead (path : Path) (offset size value : Nat)
  /-- An MSI-X message of a head (R89). -/
  | msix (head vector : Nat)
  /-- An in-band interrupt, MDB first (R390). -/
  | ibi (bytes : List Byte)
  /-- A response of a head to the request `id`: data with or without poison (DRS), or none (NDR), and DevLoad (R73). -/
  | host (head id : Nat) (data : Option Line) (poison : Bool) (devLoad : Nat)
  /-- A mailbox response of a head: opcode, return code and payload (R82). -/
  | mailbox (head opcode code : Nat) (payload : List Byte)
  /-- A packet on the ring: link (0 EAST, 1 WEST), type, source, destination, its fields and its line (R300 and following). -/
  | ring (link type src dst : Nat) (args : List Nat) (data : Option Line)
  /-- An MCTP message sent by the part: message type, destination and body (R393). -/
  | mctp (type dest : Nat) (body : List Byte)
  /-- The answer of the HDM decoder `window` of a head to a commit: committed, or Error Not Committed (R40, R41). -/
  | decoder (head window : Nat) (committed : Bool)
  /-- The answer to an I3C command code (R380 and following): the code and the bytes. -/
  | i3c (ccc : Nat) (bytes : List Byte)
  /-- An SPDM response: over MCTP, or over the DOE of a head, with its code and what it carries (R413). -/
  | spdm (doe : Option Nat) (session code : Nat) (body : List Byte)
  /-- Bytes shifted out on JTAG (R416). -/
  | jtag (bytes : List Byte)
  /-- A flit header of an Orgevex link that acknowledges SEQ `ack`, with NAK or without (R307). -/
  | flit (link ack : Nat) (nak : Bool)
  /-- A level driven on a pin or signal. -/
  | pin (name : String) (level : Nat)
deriving DecidableEq, Repr

/-- What the pages share: the register file, the held captures, the causes that have no register, the event queues, the in-band
interrupt queues, the MSI-X state of the heads, the fault log, the pages in a reset (R13), the loops pinned since the last frame boundary, a fatal stop
that is due (page, event, class), what the page counters have still to count (page, code or 4,096 + offset, number), a snapshot that has been latched and not yet
shown (automatic, counts, missing entries, rack time), wrong bits of triplicated words that have no register of their own (word, value as written, bits), accepted UNIT_CMD targets by page, the ports that run split (R64), the time in µs since T0, rack time at the last frame boundary and when that was, when each periodic work was last done, and the
number of open values taken. -/
structure Board where
  regs : SMap Word
  held : List Nat
  causes : SMap Nat
  queues : SMap Queue
  pushHost : PushPort
  pushMgmt : PushPort
  stateQ : List Notice
  eventQ : List Notice
  resyncDue : Nat
  resyncQ : Option (Nat × Nat)
  msixMasked : List Nat
  msixPending : List Nat
  faultLog : List FaultEntry
  out : List Output
  resetting : List Nat
  pins : Nat
  fatal : Option (Nat × Nat × Nat)
  splits : Nat
  now : Nat
  rtBase : Nat
  rtAt : Nat
  marks : SMap Nat
  opens : Nat
  pmcDue : List (Nat × Nat × Nat)
  snap : Option (Bool × List Nat × Nat × Nat)
  trvErr : SMap (Nat × Nat)
  cmds : SMap Nat
deriving DecidableEq, Repr

/-! ### Extents and decoding (chapter *Pool addresses, extents and key indices*) -/

/-- An HXT entry (Table 02-8); `width` is W − 1. -/
structure Hxt where
  st : Nat
  head : Nat
  region : Nat
  unit : Nat
  width : Nat
  mirror : Bool
  perm : Nat
  forced : Bool
  xmbBase : Nat
  sxn : Nat
  length : Nat
deriving DecidableEq, Repr

/-- An XMB entry (Table 02-9). -/
structure Xmb where
  part : Nat
  lxn : Nat
  mirrorLxn : Nat
deriving DecidableEq, Repr

/-- An LXT entry (Table 02-10). -/
structure Lxt where
  st : Nat
  role : Nat
  key : Nat
  hint : Nat
  sxn : Nat
deriving DecidableEq, Repr

/-- A table access that has not completed (R62): its RESULT, and the data words of a read. -/
structure XtnAccess where
  result : Nat
  data : Option (List Nat)
deriving DecidableEq, Repr

/-- The extent tables, the erase epochs (R295), the DPA bases of the HDM decoders by window 8h + w, the extents whose unlisted map
entries read ZERO (R50), the access in progress and the entries whose RELEASING waits (R52). -/
structure Xtn where
  hxt : SMap Hxt
  xmb : SMap Xmb
  lxt : SMap Lxt
  eet : SMap Nat
  dpaBase : SMap Nat
  zeroed : List Nat
  access : Option XtnAccess
deriving DecidableEq, Repr

/-! ### Requests and heads -/

/-- What a request asks of its home. -/
inductive Ask
  /-- A read of the line. -/
  | read
  /-- A MemSpecRd hint (R68). -/
  | hint
  /-- A write of the bytes of `mask`, poisoned or not. -/
  | write
  /-- RESERVE of word `w` of the line (R271). -/
  | reserve
  /-- COND_WRITE of a word. -/
  | cond
  /-- RELEASE. -/
  | release
  /-- A whole-page zero fill by a copy engine (R55). -/
  | zeroPage
  /-- Poison of a line from a loss record (R270) or an Inject Poison (R82). -/
  | poison
deriving DecidableEq, Repr

/-- A request (R58, R250): its number at the ingress part, what it asks, its ordering identifier, the HPA, the logical line number at the
owner or the window line, the key index, the extent it was decoded through, the HXT entry plus 1 (0 none), the mirror copy, data, byte enables and poison; a reservation operation names its slot of the head (head × 4 + slot) in `rsv`. -/
structure Req where
  id : Nat
  ask : Ask
  oid : Nat
  rsv : Nat
  hpa : Nat
  volatile : Bool
  lln : Nat
  key : Nat
  sxn : Nat
  role : Nat
  hxt : Nat
  mirror : Bool
  mirrorLln : Nat
  word : Nat
  data : Line
  mask : Nat
  poison : Bool
deriving DecidableEq, Repr

/-- A write that a head has accepted (R69): its request, its owner, where it stands, and what became of it: tickets of the primary and
the mirror copy, held under R257, resolved (0 no, 1 DEGRADED, 2 LOST), persistent. -/
structure Wr where
  req : Req
  owner : Nat
  inBuf : Bool
  sent : Bool
  held : Bool
  tick1 : Bool
  tick2 : Bool
  res : Nat
  durable1 : Bool
  durable2 : Bool
deriving DecidableEq, Repr

/-- A read of a head, a copy channel or the management path that has not been answered. `over` and `overMask` are buffered bytes that it
returns over the data of the home (R256). -/
structure Rd where
  req : Req
  owner : Nat
  ovr : Line
  overMask : Nat
deriving DecidableEq, Repr

/-- A running fence (R260): the covered writes and reads by number, its start, and what it has found so far. -/
structure Fence where
  slot : Nat
  scope : Nat
  writes : List Nat
  reads : List Nat
  start : Nat
  losses : Nat
  lost : Bool
  degraded : Bool
  running : Bool
deriving DecidableEq, Repr

/-- A loss record (R269), as HPT_LOSS0 to 3 show it. -/
structure Loss where
  hpa : Nat
  lines : Nat
  head : Nat
  key : Nat
  owner : Nat
  cause : Nat
  oid : Nat
  fence : Nat
  fenced : Bool
  lln : Nat
deriving DecidableEq, Repr

/-- A reservation slot of a head: the word it holds a reservation on, the operation that waits for its answer (0 none) and its request number, and the
home's answer once given: RESULT, word read, LOSS_CAUSE. -/
structure Rsv where
  held : Option Nat
  op : Nat
  req : Nat
  ans : Option (Nat × Nat × Nat)
deriving DecidableEq, Repr

/-- An event record of a head (R77): its handle, kind (0 General Media, 1 Memory Module), HPA, DPA, cause, what the cause adds, and time. -/
structure HostRec where
  handle : Nat
  kind : Nat
  addr : Nat
  dpa : Nat
  cause : Nat
  info : Nat
  time : Nat
deriving DecidableEq, Repr

/-- An entry of a head's Dynamic Capacity log: 0 Add, 1 Release, 2 Forced Release, with the HXT entry and its extent. -/
structure DcRec where
  handle : Nat
  kind : Nat
  hxt : Nat
  sxn : Nat
  region : Nat
  unit : Nat
  length : Nat
deriving DecidableEq, Repr

/-- One of the four event logs with a record limit (R78): its records, the overflow count and the first and last overflow times. -/
structure EvLog where
  recs : List HostRec
  ovr : Nat
  first : Nat
  last : Nat
deriving DecidableEq, Repr

/-- A head: posted writes in acceptance order, reads, fences, loss log, reservation slots, event logs, mailbox state and links. -/
structure Head where
  writes : List Wr
  reads : List Rd
  fences : List Fence
  losses : List Loss
  rsv : List Rsv
  info : EvLog
  warn : EvLog
  fail : EvLog
  fatal : EvLog
  dc : List DcRec
  forced : List Nat
  nextHandle : Nat
  merges : List (Nat × Nat × Nat)
  poisonList : List Nat
  poisonOver : Bool
  poisonOverTime : Nat
  injected : List Nat
  evtPolicy : List Nat
  alert : List Nat
  shutdown : Nat
  attempts : Nat
  flr : Bool
  lanes : Nat
  resetting : Bool
deriving DecidableEq, Repr

/-! ### The home and the front cache (chapter *Front cache in HBM3E*) -/

/-- A line held in a frame (Table 04-2): VALID is 1. `slot` is its mirror slot while DIRTY; `since` when it became dirty; `writers` the
writes not yet persistent (ordering identifier and number); `packed` says that its staged patch has been packed (R189). -/
structure LineSt where
  data : Line
  dirty : Bool
  patched : Bool
  poison : Bool
  slot : Nat
  slot2 : Nat
  since : Nat
  packed : Bool
  writers : List (Nat × Nat)
deriving DecidableEq, Repr

/-- A cache frame: the page and key of its tag, its lines, and when it was last used. -/
structure Frame where
  page : Nat
  key : Nat
  lines : SMap LineSt
  used : Nat
deriving DecidableEq, Repr

/-- A maintenance operation (R119 to R122): the operation, the covered lines that are not yet persistent with their place in the range, the pages whose frames it
invalidates, the length of the range, pages skipped, its RESULT, and whether it was aborted. -/
structure MaintOp where
  op : Nat
  left : List (Nat × Nat)
  inv : List Nat
  total : Nat
  skipped : Nat
  code : Nat
  aborted : Bool
deriving DecidableEq, Repr

/-- A read reservation held at the home (R272): by slot number of the shelf, the word and the line, its time, and whether it is lost and why. -/
structure HomeRsv where
  word : Nat
  lln : Nat
  volatile : Bool
  since : Nat
  lost : Nat
deriving DecidableEq, Repr

/-- A frame whose alias access waits for write-back (R99). -/
structure AliasWait where
  req : Req
  frame : Nat
deriving DecidableEq, Repr

/-- What a copy channel or the management path of this part hears of a request: identifier, request number, STATUS (0 OK, 1 POISON, 2 STALE_OWNER, 3 SOLO,
4 UNREACHABLE as Table 11-3 has them, and 5 for a write that an empty key slot discards at this part's home), and data. A mirrored write has an answer per copy. -/
structure Answer where
  oid : Nat
  id : Nat
  status : Nat
  data : Line
deriving DecidableEq, Repr

/-- A write that the lead has ordered and that waits for ORDER_ACK (R323): its MON, the request with its merged data, whether the lead poisons the line,
and the merged line itself for a resend (R324). -/
structure MonWait where
  mon : Nat
  req : Req
  poison : Bool
deriving DecidableEq, Repr

/-- The mirrored-pair protocol of a part: next MON as a lead, writes that wait for ORDER_ACK, writes held for their ORDER in order of arrival, ORDER packets
whose write has not come (MON, ingress shelf ID, TAG, POISON), and the last MON applied as a partner. -/
structure Mirror where
  next : Nat
  waits : List MonWait
  held : List Req
  orders : List (Nat × Nat × Nat × Bool)
  done : Nat
  fills : List (Nat × Req)
deriving DecidableEq, Repr

/-- The home: requests in arrival order, the hold list (R257) and the held writes whose data it has called for, alias requests that wait (R99), requests
that wait for a key set (R278), requests counted in FCM_WB_STALL, the reservations it keeps by slot of the shelf, the cached key sets (slot, version,
extent, epoch), most recent first, the answers for requesters inside the part, and the next request number. -/
structure Home where
  queue : List Req
  holds : List Req
  called : List Req
  aliases : List AliasWait
  derive : List Req
  stalled : List Nat
  rsv : SMap HomeRsv
  keyCache : List (Nat × Nat × Nat × Nat)
  answers : List Answer
  nextId : Nat
  mirror : Mirror
deriving DecidableEq, Repr

/-- The cache: frames by set × 16 + way, lines staged while it is disabled by logical line number, occupied mirror slots (page, line,
key index, way), the recency clock; the volatile window: lines by window page × 64 + line, poison markers, bitmap, lost and remapped frame
groups (way × 32 + pseudo-channel), and the running resize and maintenance. -/
structure Cache where
  frames : SMap Frame
  staged : SMap LineSt
  slots : SMap (Nat × Nat × Nat × Nat)
  clock : Nat
  window : SMap Line
  markers : List Nat
  bitmap : List Nat
  lost : List Nat
  remap : SMap Nat
  op : Option MaintOp
  resize : Option (Nat × Nat)
  disableFrom : Nat
  scrubStart : SMap Nat
  scrubTold : List Nat
  parity : List (Nat × Nat)
  failures : List (Nat × Nat)
  trained : List Nat
  corrupt : SMap Nat
deriving DecidableEq, Repr

/-! ### Map, patch index and the miss pipeline (chapter *Page-and-patch map and the read path*) -/

/-- A map entry (Table 06-1); `fresh` says that a write has allocated a ZERO page that has no base page yet (log entry 16). -/
structure MapEntry where
  ppa : Nat
  gen : Nat
  patched : Bool
  poison : Bool
  zero : Bool
  unmapped : Bool
  stream : Nat
  heat : Nat
  fresh : Bool
deriving DecidableEq, Repr

/-- A patch-index slot (Table 06-3); VALID is 1. -/
structure Slot where
  staged : Bool
  disp : Nat
  rem : Nat
  poison : Bool
  loc : Nat
  pslot : Nat
  pseq : Nat
deriving DecidableEq, Repr

/-- A miss in flight (R171, R173): the line, the key index, the requests that take its outcome, the map entry and slot as looked up, the media read
it waits for, what it has tried, and the erase epoch and the time at which it began. -/
structure Miss where
  id : Nat
  lln : Nat
  key : Nat
  reqs : List Req
  entry : Option MapEntry
  slot : Option (Option Slot)
  needSlot : Bool
  base : Option Nat
  read : Option Nat
  ppa : Nat
  frame : Nat
  pseq : Nat
  predicted : Nat
  tried : List Nat
  toTry : List Nat
  recon : Bool
  reconBins : List Nat
  viaRecon : Bool
  overwritten : Bool
  retried : Bool
  partials : List Req
  erased : Bool
  verifying : Bool
  uncorr : Bool
  epoch : Nat
  since : Nat
deriving DecidableEq, Repr

/-- A read of a media frame or page in flight: for a miss, for patrol (`whole`), or squashed. -/
structure MRead where
  id : Nat
  ppa : Nat
  frame : Nat
  bin : Nat
  miss : Nat
  whole : Bool
  sent : Bool
  squashed : Bool
  since : Nat
deriving DecidableEq, Repr

/-- The map and the patch index, misses and media reads in flight, a rebuild in progress, inspections in progress, and segments loaded. -/
structure Mapx where
  map : SMap MapEntry
  slots : SMap Slot
  misses : List Miss
  reads : List MRead
  rebuild : List (Nat × Nat)
  loaded : List Nat
  loadedAll : Bool
  inspectMap : Option Nat
  inspectPtx : Option Nat
  inspectAge : Option Nat
  loadFrom : Nat
deriving DecidableEq, Repr

/-! ### Media (chapter *Brynuri media and media channels*) -/

/-- A frame as stored on media: FILLER, or a line with what its encryption and tag bind (R285 to R289): the content, the logical line number
(or metadata frame), generation, key index, key version, erase epoch, patch sequence,
KEY_EPOCH and the seed of its key slot. -/
structure MFrame where
  filler : Bool
  data : Line
  lln : Nat
  gen : Nat
  key : Nat
  ver : Nat
  epoch : Nat
  pseq : Nat
  keyEpoch : Nat
  seed : Nat
deriving DecidableEq, Repr

/-- A programmed page: its header (Table 05-4) and its frames; an unlisted frame is FILLER. -/
structure MPage where
  kind : Nat
  stream : Nat
  slc : Bool
  width : Nat
  page : Nat
  gen : Nat
  key : Nat
  seq : Nat
  time : Nat
  positions : Nat
  kindData : List Nat
  frames : SMap MFrame
deriving DecidableEq, Repr

/-- What a journal record says (Table 07-5). -/
structure JRec where
  jsn : Nat
  type : Nat
  index : Nat
  value : Nat
  flags : Nat
deriving DecidableEq, Repr

/-- A patch waiting to be packed, or packed (R191, R192, R292): the line, the mirror slot it is packed from, its PSEQ and GEN, the key index, and whether it
is a poison entry, when it was accepted, and, for a poison entry, the writes that wait for it. -/
structure PatchRef where
  lln : Nat
  slot : Nat
  pseq : Nat
  gen : Nat
  key : Nat
  poison : Bool
  since : Nat
  writers : List (Nat × Nat)
deriving DecidableEq, Repr

/-- Why a page is to be programmed. -/
inductive Purpose
  /-- A fold, by number. -/
  | fold (id : Nat)
  /-- A patch-log page with the patches in it. -/
  | patches (ps : List PatchRef)
  /-- A reclaim copy of a page out of a source PPA. -/
  | copy (src page : Nat)
  /-- A META segment at a version. -/
  | segment (n version : Nat)
  /-- Page `i` of a checkpoint object. -/
  | object (n i : Nat)
  /-- Page `i` of a directory. -/
  | directory (i : Nat)
  /-- A journal page with these records. -/
  | journal (rs : List JRec)
  /-- Nothing: a FILLER page. -/
  | none
deriving DecidableEq, Repr

/-- A page waiting for a stripe: its class in Table 12-2, its stream, its image, why, and when it was queued. -/
structure PageJob where
  cls : Nat
  stream : Nat
  page : MPage
  why : Purpose
  since : Nat
  ready : Bool
deriving DecidableEq, Repr

/-- A stripe in flight (R144): its sequence number, band, page index, class, and the job, state (0 running, 1 ended, 2 failed) of each channel. -/
structure Stripe where
  seq : Nat
  band : Nat
  g : Nat
  cls : Nat
  stream : Nat
  pages : SMap PageJob
  ends : SMap Nat
deriving DecidableEq, Repr

/-- An array operation of a partition (R153): a program of a stripe or a reset of a band's field; suspended or not; when it started, was last
suspended and resumed, and the time it has spent suspended. -/
structure MOp where
  reset : Bool
  stripe : Nat
  ppa : Nat
  susp : Bool
  start : Nat
  suspAt : Nat
  spent : Nat
deriving DecidableEq, Repr

/-- A band (Table 07-4): its state, stream, excluded channels, next page, first and last stripe sequence, the elapsed rack time of its close and the
channels whose reset is outstanding. -/
structure Band where
  st : Nat
  stream : Nat
  slc : Bool
  excluded : List Nat
  next : Nat
  first : Nat
  last : Nat
  closedAt : Nat
  logSeq : Nat
  resets : List Nat
  opening : Bool
  reset : Bool
  sinceJsn : Nat
  closing : Bool
deriving DecidableEq, Repr

/-- What the field table keeps for a field beyond its band (Table 08-1), and whether its reset verified. -/
structure Field where
  retired : Bool
  wear : Nat
  relocs : Nat
  old : Bool
  bias : Int
  stamp : Nat
  fillSpan : Nat
  closeTime : Nat
  awaitsTime : Bool
  sinceStart : Bool
  amplitude : Nat
deriving DecidableEq, Repr

/-- Media: programmed pages by PPA, bands, fields by number, frames that decode UNCORRECTABLE (PPA × 128 + frame, 64 for the header) with the mask
bits of an applied flip, operations by (channel × 8 + die) × 16 + partition, die IDs, the dies declared failed whose 10 µs have not
passed (die, time), dies recorded FAILED in the parameter store, pages of a die whose UNCORRECTABLE frames reconstruction recovered (die,
PPA, time), dies whose last command had no valid response, and command CRC errors (channel, time). -/
structure Media where
  pages : SMap MPage
  bands : SMap Band
  fields : SMap Field
  flips : SMap Nat
  ops : SMap MOp
  dieIds : SMap Nat
  dieNew : List (Nat × Nat)
  recorded : List Nat
  weak : List (Nat × Nat × Nat)
  silent : List Nat
  crcErrs : List (Nat × Nat)
  nextSeq : Nat
deriving DecidableEq, Repr

/-! ### Writes, folds, reclaim, checkpoint (chapter *Patch log, folding, reclaim and map recovery*) -/

/-- A running fold (R194): its page, cause, key index, the lines captured with the mirror slots of the dirty ones, the image that waits for its stripe,
once the stripe is programmed the PPA, and the lines written since their capture (R197). -/
structure Fold where
  id : Nat
  page : Nat
  cause : Nat
  key : Nat
  gen : Nat
  lines : SMap (Line × Nat × Bool)
  slots : List Nat
  poisoned : List Nat
  heat : Nat
  stream : Nat
  programmed : Option Nat
  rewritten : List Nat
  since : Nat
deriving DecidableEq, Repr

/-- A META segment in the index: the PPA and version of its current page. -/
structure SegRef where
  ppa : Nat
  version : Nat
deriving DecidableEq, Repr

/-- The write path: folds running and waiting, the last commit time of pages, patches staged in order of acceptance, lines that wait for a POISON
slot (line, key index, writes; R292), page jobs and stripes, journal
records not yet in a page, the journal sequence and how far it is journalled, the checkpoint objects (PPA, CAPTURE_JSN, CAPTURE_LSEQ), those that have changed
since their capture, the object being written (32,768 for a directory; number, CAPTURE_JSN, CAPTURE_LSEQ) with the PPA of its first page and its band, the
directory, the META index, the segments that wait and those programmed but not journalled (segment, PPA, version, JSN), the victims (band, item of R204), copies
that wait for their READ_HEADER (source, local page, destination, 1 where its position failed), the clean mark, the bucket position of LOAD folds, conditions whose event has been raised, and the start of replay. -/
structure Wp where
  folds : List Fold
  foldWait : List (Nat × Nat)
  lastCommit : SMap Nat
  nextFold : Nat
  patches : List PatchRef
  poisonWait : List (Nat × Nat × List (Nat × Nat))
  jobs : List PageJob
  stripes : List Stripe
  flushPatch : Bool
  overdue : Option Nat
  logSeq : Nat
  jrec : List JRec
  jpages : SMap (Nat × Nat)
  jsn : Nat
  journalled : Nat
  objects : SMap (Nat × Nat × Nat)
  dirtyObjs : SMap Nat
  objRun : Option (Nat × Nat × Nat)
  segDone : Nat
  dirPpa : Nat
  dirJsn : Nat
  ckptBands : List Nat
  objPpa : Nat
  objBand : Nat
  metaIdx : SMap SegRef
  metaDirty : List Nat
  metaDone : List (Nat × Nat × Nat × Nat)
  metaVersion : Nat
  victim : Option (Nat × Nat)
  victims : List (Nat × Nat)
  copied : Nat
  copies : List (Nat × Nat × Nat × Nat)
  cleanMark : Bool
  loadAt : Nat
  told : Nat
  replayFrom : Nat
deriving DecidableEq, Repr

/-! ### Keys and re-keying (chapter *Line encryption, integrity tags and re-keying*) -/

/-- A key slot (R275): state, version, seed, AGAIN and EXHAUSTED; the operation that waits for its sealed record (0 none, 1 IMPORT, 2 CLEAR). -/
structure KeySlot where
  st : Nat
  ver : Nat
  seed : Nat
  again : Bool
  exhausted : Bool
  op : Nat
deriving DecidableEq, Repr

/-- A re-key sweep (R299 to R301): its slot, the pages still to fold (1 once a fold is asked for), folds committed, its start, the trigger page, whether it is late, its
rate in pages per second, the saved cursor, and the JSN past its last MAP_SET record. -/
structure Sweep where
  slot : Nat
  left : List (Nat × Nat)
  done : Nat
  start : Nat
  first : Option Nat
  late : Bool
  rate : Nat
  cursor : Nat
  journalAt : Nat
deriving DecidableEq, Repr

/-- The key vault: slots, the draw behind the encapsulation key pair (R280), the operation in progress (slot, lines to write back, 0 while they are written back and 1
while the EMPTY record is written), sweeps, erases in progress in order (extent, start), whether the random bit generator fails its health test (R405), the draws
taken from it, and the draw behind the HBM key. -/
structure Keys where
  slots : SMap KeySlot
  ekDraw : Nat
  busy : Option (Nat × Nat × Nat)
  sweeps : List Sweep
  erases : List (Nat × Nat)
  rbgBad : Bool
  draws : Nat
  hbmKey : Nat
deriving DecidableEq, Repr

/-! ### Age, patrol and health -/

/-- Age and patrol: age clocks of the 16 channels in 2^-20 s (R217), the saved rack time (R228), the suspect queue (R237), pages read and relocation-grade
pages of the lap, the channel next to be read at the cursor, start amplitudes seen in the lap (sum, fields, highest, above CAP), whether LAP_LATE has been told, the lap's
extra time bound for a priority lap, the histograms of R245 in minutes and the time below a minute in ms, daily MEAN values (R247), and
the warnings of R244 that hold. -/
structure Age where
  clocks : List Nat
  savedTime : Nat
  suspects : List Nat
  lapReloc : Nat
  nextChan : Nat
  ampSum : Nat
  ampCount : Nat
  ampMax : Nat
  ampAbove : Nat
  lapTold : Bool
  hist : SMap Nat
  histMs : SMap Nat
  wearLog : List Nat
  warned : Nat
deriving DecidableEq, Repr

/-- Temperature: the readings of the last round in 0.125 °C units, the medians it judged against, rounds a suspect sensor has been judged good, rounds a sensor has been
missing, and rounds below the exit of the throttle level (R462 to R465). -/
structure Thm where
  temps : List (Option Int)
  medians : List (Option Int)
  good : SMap Nat
  missing : SMap Nat
  cool : Nat
deriving DecidableEq, Repr

/-! ### Parameter store (chapter *Parameter store*) -/

/-- What a page-write job completes. -/
inductive PstAfter
  /-- A store that nothing waits for. -/
  | store
  /-- A raw page write (R427). -/
  | raw
  /-- A counter command with the value it returns (R436). -/
  | counter (value code : Nat)
  /-- KEY_EPOCH under a tamper response (R417). -/
  | epoch
deriving DecidableEq, Repr

/-- Page writes asked for together (R423): their place in the order, the record they store (0 for none) and the pages still to write. -/
structure PstJob where
  prio : Nat
  record : Nat
  writes : List (Nat × Nat)
  after : PstAfter
deriving DecidableEq, Repr

/-- The parameter store: pages by number as 256-byte little-endian values (an unlisted page holds what a new part holds), the queue of page writes, the current
sequence of every record that has been loaded or stored, what the last load found of every record (PST_REC_STAT; bit 7: lost, and not stored since), and
the running body of every record as last loaded or stored (none: lost or absent; unlisted: the body of a new part). -/
structure Pst where
  pages : SMap Nat
  queue : List PstJob
  seqs : SMap Nat
  loads : SMap Nat
  bodies : SMap (Option (List Byte))
deriving DecidableEq, Repr

/-! ### Rack time and slots -/

/-- The slot scheduler: the mask in force, a held LO half (R341), whether the current slot is open to array work, and the units that all work, the governed work and
background reclaim have drawn in it (R342, R343). -/
structure Slots where
  mask : Nat
  heldLo : Option Nat
  isOpen : Bool
  used : Nat
  governed : Nat
  background : Nat
deriving DecidableEq, Repr

/-- Rack time: qualifying edges counted (R332), when the tick state was entered, and the armed value with its source (true: the ring). -/
structure Rtm where
  qual : Nat
  since : Nat
  armed : Option (Nat × Bool)
deriving DecidableEq, Repr

/-! ### Traffic, the shelf ring and power -/

/-- Bandwidth regulation and the way requests leave the part: lines issued by each master in the window, masters lowered in this window and in the one before
(R458), LOW requests (ordering identifier, number, points at which they have become NORMAL), the QOS registers in force by offset (R461), requests that wait at
their source for an owner (R258, R460), writes that have been counted as waiting, requests sent and not answered with the part they went to and whether it is
the lead copy, and the requests that an owner's former route still owes (R258). -/
structure Traffic where
  used : SMap Nat
  lowered : List Nat
  before : List Nat
  low : List (Nat × Nat × List Nat)
  force : SMap Word
  waits : List (Req × Nat)
  counted : List (Nat × Nat)
  flight : List (Req × Nat × Bool)
  routes : List (Nat × List (Nat × Nat))
deriving DecidableEq, Repr

/-- An Orgevex link (R303 to R310): whether it has reached UP since its power came, when it entered its phase, whether a HELLO failure brought it DOWN, the
keys issued to it (bit 0 to send, bit 1 to receive), when the last key change was, when it last saw a good flit, the times of MAC failures, the last SEQ acknowledged and
the last good SEQ received. -/
structure Link where
  everUp : Bool
  phaseAt : Nat
  helloFailed : Bool
  keys : Nat
  keyAt : Nat
  goodAt : Nat
  macFails : List Nat
  acked : Nat
  goodSeq : Nat
deriving DecidableEq, Repr

/-- A join message in reassembly (R315): MSG, LAST, total length, the next fragment and the bytes so far. -/
structure JoinMsg where
  msg : Nat
  last : Nat
  total : Nat
  next : Nat
  bytes : List Byte
deriving DecidableEq, Repr

/-- A join exchange with a peer (R314, R315): messages done, its start, and the message in reassembly. -/
structure JoinX where
  peer : Nat
  step : Nat
  since : Nat
  part : Option JoinMsg
deriving DecidableEq, Repr

/-- A member's last HEALTH summary at the manager (R328): its words, when it came, and whether HEALTH_STALE has been told. -/
structure MemberHealth where
  words : List Nat
  since : Nat
  told : Bool
deriving DecidableEq, Repr

/-- A grant in the manager's shelf map (R54): extent number, the ingress part, the HXT index and words there, the members' and partners' first local extents as (part, local
extent, role), key index and hint, and the state of `Sync.grant`. -/
structure Grant where
  sxn : Nat
  part : Nat
  hxt : Nat
  words : List Nat
  owners : List (Nat × Nat × Nat)
  key : Nat
  hint : Nat
  state : Nat
deriving DecidableEq, Repr

/-- The part on its shelf: links EAST and WEST, member states by shelf ID (Table 11-5), the last BEACON, DOWN reports (part, side, time), probes out (part, its
side, time), join exchanges, the cause a join was refused for, parts that left by LEAVE, loss records that wait for their owner or for a manager, health summaries,
manager changes that wait for SYNC_ACK, TAGs of the writes serialised for other parts in the last 100 µs (ingress, TAG, time), local extents written while SOLO, the failover in
progress (start, last good flit of the partner, requests held, writes ticketed SOLO, reads reissued here), extents still to resync with the resync's start, table writes to other
parts that wait for TBL_RSP (part, RESULT), and the manager's grants with its SXN counter. -/
structure Shelf where
  links : List Link
  members : SMap Nat
  beaconAt : Nat
  downs : List (Nat × Nat × Nat)
  probes : List (Nat × Nat × Nat)
  joins : List JoinX
  refused : Option Nat
  left : List Nat
  owed : List (Nat × List Nat)
  health : SMap MemberHealth
  syncs : List Sync
  recent : List (Nat × Nat × Nat)
  solo : List Nat
  failover : Option (Nat × Nat × List (Nat × Nat) × Nat × Nat)
  resync : List Nat
  resyncAt : Nat
  tables : List (Nat × Nat)
  grants : List Grant
  nextSxn : Nat
deriving DecidableEq, Repr

/-- The power sequence (R355 to R368): when the state was entered and whether it has settled, low samples of its inputs, the time of each state, when the way up
began, whether a start is allowed, whether the way up follows a reset, whether the attempt failed, what began the drain (0 nothing, 1 PFAIL_N, 3 RESET_N) and
when, when PFAIL_N was qualified, RESET_N low and held, the straps, when the part began to wait for SEQ_STEP, whether the
heads withhold credits (R371), and the map of dirty regions that PD00 holds while the front memory is down (R374), how far the start
has come (0 not in RUN, 1 HBM trained, 2 tables restored and replay due, 3 replay under way, 4 ready to enter service, 5 in service), the runs of the run area as the start found
them (R378), and regions whose poisoning waits for the join (R379). -/
structure Seq where
  enteredAt : Nat
  settled : Bool
  chatStep : SMap Nat
  stepUs : SMap Nat
  upFrom : Nat
  startAllowed : Bool
  fromReset : Bool
  failed : Bool
  drainBy : Nat
  drainFrom : Nat
  pfailAt : Nat
  resetLow : Bool
  resetHeld : Bool
  strapped : Bool
  shelfId : Nat
  role : Bool
  waitFrom : Nat
  creditsHeld : Bool
  regions : List Nat
  stage : Nat
  runs : List (Nat × Nat)
  deferred : List Nat
deriving DecidableEq, Repr

/-! ### The security island, the management path and the copy engines -/

/-- An SPDM session (R413, R415): its number, the head whose DOE carries it or none for MCTP, whether the requester is authenticated, and its last heartbeat. -/
structure Session where
  id : Nat
  doe : Option Nat
  auth : Bool
  last : Nat
deriving DecidableEq, Repr

/-- The security island (R404 to R418): image headers (0, 1 the runtime slots, 2 the staged BL1, 3, 4 the BL1 copies) as little-endian numbers of 2,048 bytes, the
chunks in the transfer buffer by offset, in order of arrival, sessions, the next session number, the debug nonce, TAMPER_N low, whether TAMPER has not closed yet, whether a WARM or COLD reset
has just been taken, the activation that runs (target, start), and KEY_EPOCH at the last provisioning. -/
structure Sec where
  images : SMap Nat
  xfer : List (Nat × List Byte)
  sessions : List Session
  nextSession : Nat
  nonce : Option Nat
  tamperLow : Bool
  tampered : Bool
  resetSeen : Bool
  act : Option (Nat × Nat)
  provEpoch : Nat
deriving DecidableEq, Repr

/-- An MCTP message in reassembly (R393): source, tag, the sequence number of the next packet, the bytes so far, and whether it is too long. -/
structure Assembly where
  src : Nat
  tag : Nat
  seq : Nat
  bytes : List Byte
  ovr : Bool
deriving DecidableEq, Repr

/-- A management-path request to the pool that has not been answered (R400): its code, the requester, whether it came in a session, the lines that wait (position,
request number, answers wanting), the lines read (position, poison, data), the number of lines, and whether a line failed decode or was lost. -/
structure MemReq where
  code : Nat
  eid : Nat
  session : Bool
  left : List (Nat × Nat × Nat)
  got : List (Nat × Bool × Line)
  total : Nat
  failed : Bool
  lost : Nat
deriving DecidableEq, Repr

/-- An FM API command under way (R401): the requester, the opcode, the extent, whether it releases, the table writes left as (part, table, index, words), and whether the first of
them has been sent. -/
structure FmOp where
  eid : Nat
  opcode : Nat
  sxn : Nat
  release : Bool
  todo : List (Nat × Nat × Nat × List Nat)
  sent : Bool
deriving DecidableEq, Repr

/-- The management path (R389 to R401): maximum write and read lengths, HDR-DDR entered, the message in reassembly, the event receiver, the last state of each PLDM sensor,
requests under way that have an answer to come, the long operation that runs and the last one with its RESULT, MCTP messages ready to be read, and FM API
commands under way. -/
structure Mgmt where
  mwl : Nat
  mrl : Nat
  hdr : Bool
  asm : Option Assembly
  receiver : Option Nat
  sensors : SMap Nat
  reqs : List MemReq
  running : Option (Nat × Nat)
  lastOp : Nat × Nat
  ready : Nat
  fm : List FmOp
deriving DecidableEq, Repr

/-- A line of a copy channel in flight (R440): its offset in the range, its bytes, 0 while it is read, 1 while it is written and 2 while it waits for a retry, the reads that want
an answer (number, half), the read data as two lines, the write's number and the tickets it wants, retries, poison, and when it last failed. -/
structure CopyLine where
  off : Nat
  size : Nat
  phase : Nat
  reads : List (Nat × Nat)
  lo : Line
  hi : Line
  id : Nat
  need : Nat
  tries : Nat
  poison : Bool
  since : Nat
deriving DecidableEq, Repr

/-- A copy channel (R437 to R447): the offset of its next line, its lines in flight, the end it is coming to (CAUSE, RESULT, ERR_ADDR), offsets of lines that failed, its writes not
yet persistent (number, owner, copies wanting with bit 2 for a mirrored one, HPA), and whether a write was ticketed on one copy, one was lost, or one was lost before it was persistent. -/
structure CopyChan where
  pos : Nat
  lines : List CopyLine
  stop : Option (Nat × Nat × Nat)
  failed : List Nat
  undurable : List (Nat × Nat × Nat × Nat)
  solo : Bool
  lost : Bool
  notDurable : Bool
deriving DecidableEq, Repr

/-- The copy engines: the channels that have something to do (0 to 31 descriptor channels, 32 to 39 simple channels), the one whose turn is next, and the bytes written
that do not yet make up a MiB of CPE_MIB. -/
structure Copy where
  chans : SMap CopyChan
  next : Nat
  moved : Nat
deriving DecidableEq, Repr

/-- The state of the part: the commands that wait, first in first out, and everything the spec gives the part. -/
structure State where
  pending : List Instr
  bd : Board
  xtn : Xtn
  heads : List Head
  home : Home
  cache : Cache
  mapx : Mapx
  media : Media
  wp : Wp
  keys : Keys
  age : Age
  thm : Thm
  rtm : Rtm
  slot : Slots
  pst : Pst
  traffic : Traffic
  shelf : Shelf
  seq : Seq
  sec : Sec
  mgmt : Mgmt
  copy : Copy
deriving DecidableEq, Repr

/-- Why a step of the part stops with a fault. The model raises none: every command of the table has an effect in every
state (the constructor keeps the type from being empty of names; nothing raises it; safe). -/
inductive Fault
  /-- Raised by nobody: the spec names no state in which the part itself stops for good. Safe. -/
  | stuck
deriving DecidableEq, Repr

/-- Why a command is refused. -/
inductive Refusal
  /-- Raised by exec alone, for a command that the model gives no meaning: by name. Safe. -/
  | notModelled (mnemonic : String)
deriving DecidableEq, Repr

/-! ### Reset -/

/-- An empty event log. -/
def EvLog.empty : EvLog := ⟨[], 0, 0, 0⟩

/-- A head with nothing in it. -/
def Head.empty : Head :=
  { writes := [], reads := [], fences := [], losses := [], rsv := List.replicate 4 ⟨none, 0, 0, none⟩, info := EvLog.empty, warn := EvLog.empty,
    fail := EvLog.empty, fatal := EvLog.empty, dc := [], forced := [], nextHandle := 1, merges := [], poisonList := [], poisonOver := false,
    poisonOverTime := 0, injected := [], evtPolicy := [0, 0, 0, 0, 0], alert := [0, 0, 0], shutdown := 0, attempts := 0, flr := false, lanes := 0,
    resetting := false }

/-- The home with nothing in it; requests are numbered from 1. -/
def Home.empty : Home :=
  { queue := [], holds := [], called := [], aliases := [], derive := [], stalled := [], rsv := [], keyCache := [], answers := [], nextId := 1,
    mirror := ⟨0, [], [], [], 2 ^ 32 - 1, []⟩ }

/-- The front memory as every power-up finds it: nothing written. -/
def Cache.empty : Cache :=
  { frames := [], staged := [], slots := [], clock := 0, window := [], markers := [], bitmap := [], lost := [], remap := [], op := none, resize := none,
    disableFrom := 0, scrubStart := [], scrubTold := [], parity := [], failures := [], trained := [], corrupt := [] }

/-- A push port with nothing open. -/
def PushPort.empty : PushPort := ⟨false, 0, 0, [], 0, 0, 0⟩

/-- The board right after COLD reset: every register at its reset value but those the load of the parameter store of a new part sets (PST_STAT.LOADED, and PDR_LEDGER
with the record of zeros) and SEQ_STAT.DRIVE, since the part holds SEQ_STEP low (R362, R430, R519). -/
def Board.reset : Board :=
  { regs := [(2 * 1024 + 17, 0x400), (6 * 1024 + 16, 4), (15 * 1024 + 25, 0)], held := [], causes := [], queues := [],
    pushHost := PushPort.empty, pushMgmt := PushPort.empty, stateQ := [], eventQ := [], resyncDue := 0, resyncQ := none,
    msixMasked := [], msixPending := [], faultLog := [], out := [], resetting := [], pins := 0, fatal := none, splits := 0, now := 0, rtBase := 0,
    rtAt := 0, marks := [], opens := 0, pmcDue := [], snap := none, trvErr := [], cmds := [] }

/-- The security island right after power-up: nothing held, no session. -/
def Sec.empty : Sec := ⟨[], [], [], 1, none, false, false, false, none, 0⟩

/-- The management path after a reset (Table 15-1: both lengths are 256 B). -/
def Mgmt.empty : Mgmt := ⟨256, 256, false, none, none, [], [], none, (0, 0), 0, []⟩

/-- The copy engines with no descriptor. -/
def Copy.empty : Copy := ⟨[], 0, 0⟩

/-- A link in DOWN. -/
def Link.down : Link := ⟨false, 0, false, 0, 0, 0, [], 0, 0⟩

/-- The part right after COLD reset, as it left manufacture (R12, R519): in sequence state 0, everything but PD00 unpowered, nothing on media, nothing stored. -/
def State.reset : State :=
  { pending := []
    bd := Board.reset
    xtn := { hxt := [], xmb := [], lxt := [], eet := [], dpaBase := [], zeroed := [], access := none }
    heads := List.replicate 8 Head.empty
    home := Home.empty
    cache := Cache.empty
    mapx := { map := [], slots := [], misses := [], reads := [], rebuild := [], loaded := [], loadedAll := false, inspectMap := none, inspectPtx := none,
              inspectAge := none, loadFrom := 0 }
    media := { pages := [], bands := [], fields := [], flips := [], ops := [], dieIds := [], dieNew := [], recorded := [], weak := [], silent := [],
               crcErrs := [], nextSeq := 1 }
    wp := { folds := [], foldWait := [], lastCommit := [], nextFold := 0, patches := [], poisonWait := [], jobs := [], stripes := [], flushPatch := false,
            overdue := none, logSeq := 1, jrec := [], jpages := [], jsn := 1, journalled := 1, objects := [], dirtyObjs := [], objRun := none, segDone := 0,
            dirPpa := 0, dirJsn := 0, ckptBands := [], objPpa := 0, objBand := 0, metaIdx := [], metaDirty := [], metaDone := [], metaVersion := 0,
            victim := none, victims := [], copied := 0, copies := [], cleanMark := false, loadAt := 0, told := 0, replayFrom := 0 }
    keys := { slots := [], ekDraw := 0, busy := none, sweeps := [], erases := [], rbgBad := false, draws := 0, hbmKey := 0 }
    age := { clocks := List.replicate 16 0, savedTime := 0, suspects := [], lapReloc := 0, nextChan := 0, ampSum := 0, ampCount := 0, ampMax := 0, ampAbove := 0,
             lapTold := false, hist := [], histMs := [], wearLog := [], warned := 0 }
    thm := { temps := [], medians := [], good := [], missing := [], cool := 0 }
    rtm := { qual := 0, since := 0, armed := none }
    slot := { mask := 2 ^ 64 - 1, heldLo := none, isOpen := false, used := 0, governed := 0, background := 0 }
    pst := { pages := [], queue := [], seqs := [], loads := (1, 48) :: (List.range 10).map (fun k => (k + 2, 3)), bodies := [] }
    traffic := { used := [], lowered := [], before := [], low := [], force := [], waits := [], counted := [], flight := [], routes := [] }
    shelf := { links := [Link.down, Link.down], members := [], beaconAt := 0, downs := [], probes := [], joins := [], refused := none, left := [], owed := [],
               health := [], syncs := [], recent := [], solo := [], failover := none, resync := [], resyncAt := 0, tables := [], grants := [], nextSxn := 1 }
    seq := { enteredAt := 0, settled := false, chatStep := [], stepUs := [], upFrom := 0, startAllowed := false, fromReset := true, failed := false, drainBy := 0,
             drainFrom := 0, pfailAt := 0, resetLow := false, resetHeld := false, strapped := false, shelfId := 0, role := false, waitFrom := 0,
             creditsHeld := false, regions := [], stage := 0, runs := [], deferred := [] }
    sec := Sec.empty
    mgmt := Mgmt.empty
    copy := Copy.empty }

end Sys2Proof.Machine
end

