-- ==== Sys2Proof/Machine/Ops.lean ====
section
/-! DEFINITION. The named operations over the register file, the page headers, events and their notices, the event queues, unit
states and causes, and the fault log. Every family uses these. -/

namespace Sys2Proof.Machine

/-! Pages that other pages name. -/

abbrev pDEV : Nat := 0x000
abbrev pTRV : Nat := 0x001
abbrev pSEQ0 : Nat := 0x002
abbrev pSEQ1 : Nat := 0x003
abbrev pRTM : Nat := 0x004
abbrev pTHM : Nat := 0x005
abbrev pPST : Nat := 0x006
abbrev pMGT : Nat := 0x007
abbrev pSEC : Nat := 0x008
abbrev pKEY : Nat := 0x009
abbrev pLOOP : Nat := 0x00A
abbrev pQOS : Nat := 0x00B
abbrev pPMC : Nat := 0x00C
abbrev pEVQ : Nat := 0x00D
abbrev pFLT : Nat := 0x00E
abbrev pPDR : Nat := 0x00F
abbrev pHPT (h : Nat) : Nat := 0x010 + h
abbrev pSHL (k : Nat) : Nat := 0x018 + k
abbrev pSHM : Nat := 0x01A
abbrev pXTN : Nat := 0x01B
abbrev pFCC (k : Nat) : Nat := 0x020 + k
abbrev pFCM : Nat := 0x024
abbrev pVWN : Nat := 0x025
abbrev pMCH (c : Nat) : Nat := 0x030 + c
abbrev pMAP : Nat := 0x040
abbrev pPTX : Nat := 0x041
abbrev pRCL : Nat := 0x042
abbrev pCKP : Nat := 0x043
abbrev pPTL : Nat := 0x044
abbrev pAGE : Nat := 0x045
abbrev pHLT : Nat := 0x046
abbrev pWGV : Nat := 0x047
abbrev pCRY : Nat := 0x048
abbrev pRKY : Nat := 0x049
abbrev pCPE : Nat := 0x050
abbrev pCPD (k : Nat) : Nat := 0x051 + k
abbrev pCPS : Nat := 0x059

/-! State codes of Table 00-8. -/

abbrev stOFF : Nat := 0
abbrev stINIT : Nat := 1
abbrev stSERVICE : Nat := 2
abbrev stDEGRADED : Nat := 3
abbrev stCONTAINED : Nat := 4
abbrev stRETIRED : Nat := 5
abbrev stTEST : Nat := 6

/-! ### Registers and fields -/

/-- The word stored for the register at byte offset `off` of a page. -/
def Board.rd (b : Board) (page off : Nat) : Word := smGet regDefault b.regs (regKey page off)

/-- The board with the word of a register replaced. -/
def Board.wr (b : Board) (page off : Nat) (w : Word) : Board :=
  { b with regs := smSet regDefault (regKey page off) w b.regs }

/-- Does a counter of the page count (R467)? -/
def Board.pmcOn (b : Board) (page : Nat) : Bool := (List.range 8).any (fun n => nbit (b.rd page (0xC40 + 4 * n)).toNat 8)

/-- What a page's counters have to count: `n` events of a code, or, from 4,096 up, of the counter register at that offset. -/
def Board.tally (b : Board) (page code n : Nat) : Board :=
  if n = 0 ∨ b.pmcOn page = false then b else { b with pmcDue := b.pmcDue ++ [(page, code, n)] }

/-- The value of a field. -/
def Board.get (b : Board) (page : Nat) (f : Fld) : Nat := wordBits (b.rd page f.off) f.lo f.width

/-- The board with a field set to the low bits of `v`. -/
def Board.put (b : Board) (page : Nat) (f : Fld) (v : Nat) : Board :=
  b.wr page f.off (wordSet (b.rd page f.off) f.lo f.width v)

/-- Is a one-bit field 1? -/
def Board.on (b : Board) (page : Nat) (f : Fld) : Bool := decide (b.get page f = 1)

/-- A counter advanced by `n`; it saturates at the largest value of its field (Table 00-10, EXHAUSTED). -/
def Board.count (b : Board) (page : Nat) (f : Fld) (n : Nat) : Board :=
  (b.put page f (min (2 ^ f.width - 1) (b.get page f + n))).tally page (4096 + f.off) n

/-- A counter moved down by `n`, not below 0. -/
def Board.uncount (b : Board) (page : Nat) (f : Fld) (n : Nat) : Board := b.put page f (b.get page f - n)

/-- A high-water field raised to `v` where `v` is above it. -/
def Board.raiseTo (b : Board) (page : Nat) (f : Fld) (v : Nat) : Board := b.put page f (max (b.get page f) v)

/-- A 64-bit value kept in a LO and a HI register. -/
def Board.get64 (b : Board) (page : Nat) (lo hi : Fld) : Nat := b.get page lo + 2 ^ 32 * b.get page hi

/-- Writes a 64-bit value to a LO and a HI register. -/
def Board.put64 (b : Board) (page : Nat) (lo hi : Fld) (v : Nat) : Board := (b.put page lo v).put page hi (v / 2 ^ 32)

/-- What a triplicated word that has no register of its own reads as, `v` being the value its owner has written (R480, R483). -/
def Board.voted (b : Board) (word v : Nat) : Nat :=
  match (b.trvErr.find? (fun (e : Nat × (Nat × Nat)) => e.1 == word)).map Prod.snd with
  | some (raw, wrong) => if raw = v then Nat.xor v wrong else v
  | none => v

/-- Sends something out of the part. -/
def Board.emit (b : Board) (o : Output) : Board := { b with out := b.out ++ [o] }

/-- The next open value (log entry 2). -/
def Board.openVal (b : Board) : Nat := Config.free b.opens

/-- The board after one open value has been taken. -/
def Board.useOpen (b : Board) : Board := { b with opens := b.opens + 1 }

/-! ### Power, service and rack time -/

/-- Is domain PDn powered (SEQ_DOM_PG, R356)? PD00 always is. -/
def Board.domainOn (b : Board) (n : Nat) : Bool := decide (n = 0) || nbit (b.get pSEQ1 F.SEQ_DOM_PG.PG) n

/-- Is the page's domain powered? -/
def Board.powered (b : Board) (page : Nat) : Bool := b.domainOn (domainOf page)

/-- UNIT_STATE.STATE of a page. -/
def Board.unit (b : Board) (page : Nat) : Nat := b.get page F.UNIT_STATE.STATE

/-- Does the unit serve: SERVICE or DEGRADED (Table 00-8)? -/
def Board.serves (b : Board) (page : Nat) : Bool :=
  decide (b.unit page = stSERVICE) || decide (b.unit page = stDEGRADED)

/-- Rack time in µs (R334, R335): that of the last boundary and the time since, at most 999 µs; 0 before it has arrived. -/
def Board.rackTime (b : Board) : Nat := if b.on pRTM F.RTM_STAT.VALID then (b.rtBase + min 999 (b.now - b.rtAt)) % 2 ^ 64 else 0

/-- A period of `us` µs of the periodic work `k` has passed: the clock moves to its end (log entry 43). -/
def Board.elapse (b : Board) (k us : Nat) : Board :=
  let t := max b.now (smGet (fun _ => 0) b.marks k + us)
  { b with now := t, marks := smSet (fun _ => 0) k t b.marks }

/-- PAGE_CAPS.STATES of a page: that of its block, and OFF alone for an unused head (R64): an odd head of a port that is not split. -/
def Board.states (b : Board) (page : Nat) : Nat :=
  match blockOf page with
  | none => 0
  | some (.hpt, i) =>
    if i % 2 = 1 ∧ nbit b.splits (i / 2) = false then 0b0000001 else (blockCaps .hpt).1
  | some (k, _) => (blockCaps k).1

/-! ### Events, captures and notices (R18 to R20, R450 to R452, R391, R89) -/

/-- An event of a page: its bit, CODE and DETAIL, ERR_INFO1 to 3, and whether EVT_FORCE made it. -/
structure Ev where
  bit : Nat
  code : Nat
  detail : Nat
  i1 : Nat
  i2 : Nat
  i3 : Nat
  forced : Bool
deriving DecidableEq, Repr

/-- An event with CODE OK (R515). -/
def ev (bit detail i1 i2 i3 : Nat) : Ev := ⟨bit, 0, detail, i1, i2, i3, false⟩

/-- Work that an event leaves to be done. -/
inductive Act
  /-- Events of one page in one cycle, lowest bit first. -/
  | events (page : Nat) (evs : List Ev)
  /-- The page's notice to EVT_ROUTE.DEST (R19), for the event bit given. -/
  | notice (page bit : Nat)
  /-- A notice for a head's MSI-X vector, with the page it comes from (R89). -/
  | msix (head vector source : Nat)
  /-- A page event notice on I3C (R391). -/
  | pageEvent (page bit code : Nat)
  /-- A whole packet offered to a queue (R449). -/
  | packet (queue kind : Nat) (payload : List Byte)
  /-- Send the notices of packets that have become visible (R451). -/
  | announce (queue : Nat)
deriving DecidableEq, Repr

/-- The event queue a queue number names; an untouched queue has the reset configuration. -/
def queueDefault : Nat → Queue := fun _ => ⟨BitVec.ofNat 32 (512 * 2 ^ 16), 0, []⟩

/-- Queue `q`. -/
def Board.queue (b : Board) (q : Nat) : Queue := smGet queueDefault b.queues q

/-- The board with queue `q` replaced. -/
def Board.setQueue (b : Board) (q : Nat) (v : Queue) : Board := { b with queues := smSet queueDefault q v b.queues }

/-- Cells that a queue holds. -/
def Queue.cells (q : Queue) : Nat := (q.pkts.map Pkt.cells).sum

/-- Free cells of the pool (R448). -/
def Board.freeCells (b : Board) : Nat := 32768 - (b.queues.map (fun e => e.2.cells)).sum

/-- EVQ_QCFG.EN of a queue. -/
def Queue.en (q : Queue) : Bool := decide (wordBits q.cfg 0 1 = 1)

/-- EVQ_QCFG.MAX_CELLS of a queue. -/
def Queue.maxCells (q : Queue) : Nat := wordBits q.cfg 16 16

/-- Captures events of one cycle into ERR_INFO0 to 3 and EVT_STATUS (R18). -/
def Board.capture (b : Board) (page : Nat) (evs : List Ev) : Board :=
  match evs with
  | [] => b
  | e :: rest =>
    let status := evs.foldl (fun w x => wordSet w x.bit 1 1) (b.rd page 0x010)
    let b := (b.wr page 0x010 status).tally page 2 (evs.filter (fun x => !x.forced)).length
    if page ∈ b.held then b.put page F.ERR_INFO0.MORE 1
    else
      let low := rest.foldl (fun m x => if x.bit < m.bit then x else m) e
      let info0 := low.bit + low.code % 2 ^ 8 * 2 ^ 8 + low.detail % 2 ^ 14 * 2 ^ 16 + bit low.forced * 2 ^ 30
        + bit (decide (rest ≠ [])) * 2 ^ 31
      let b := b.wr page 0x020 (BitVec.ofNat 32 info0)
      let b := b.wr page 0x024 (BitVec.ofNat 32 low.i1)
      let b := b.wr page 0x028 (BitVec.ofNat 32 low.i2)
      let b := b.wr page 0x02C (BitVec.ofNat 32 low.i3)
      { b with held := nsInsert page b.held }

/-- EVT_STATUS AND EVT_ENABLE of a page. -/
def Board.enabledStatus (b : Board) (page : Nat) : Word := b.rd page 0x010 &&& b.rd page 0x014

/-- The lowest bit set in a word, 0 when none is. -/
def lowestBit (w : Word) : Nat := ((List.range 32).find? (fun n => w.getLsbD n)).getD 0

/-- An event record (Table 18-2, KIND 0), from the capture as it stands. -/
def Board.eventRecord (b : Board) (page evBit seq : Nat) : List Byte :=
  leBytes 2 page ++ leBytes 1 evBit ++ leBytes 1 (b.get page F.ERR_INFO0.FORCED)
    ++ leBytes 4 (b.rd page 0x020).toNat ++ leBytes 4 (b.rd page 0x024).toNat ++ leBytes 4 (b.rd page 0x028).toNat
    ++ leBytes 4 (b.rd page 0x02C).toNat ++ leBytes 8 b.rackTime ++ leBytes 4 (b.rd page 0x008).toNat
    ++ leBytes 4 seq ++ leBytes 24 0

/-- Sends the notices of the written packets at the front of a queue that have had none (R449, R451); answers the queue and how many. -/
def announcePkts : List Pkt → List Pkt × Nat
  | [] => ([], 0)
  | p :: ps =>
    if p.written then
      let (ps', n) := announcePkts ps
      ({ p with noticed := true } :: ps', if p.noticed then n else n + 1)
    else (p :: ps, 0)

/-- The payload with the queue sequence written into the sequence bytes of a record (Table 18-2, bytes 36 to 39). -/
def withSeq (payload : List Byte) (seq : Nat) : List Byte :=
  if payload.length = 60 then payload.take 32 ++ leBytes 4 seq ++ payload.drop 36 else payload

/-- One piece of event work, and what it leaves to be done. -/
def Board.act (b : Board) : Act → Board × List Act
  | .events page evs =>
    let before := b.enabledStatus page
    let b := b.capture page evs
    let after := b.enabledStatus page
    (b, if before = 0 ∧ after ≠ 0 then [.notice page (lowestBit after)] else [])
  | .notice page evBit =>
    match b.get page F.EVT_ROUTE.DEST with
    | 1 => (b, [.msix (b.get page F.EVT_ROUTE.HEAD) (b.get page F.EVT_ROUTE.VECTOR) page])
    | 2 => (b, [.pageEvent page evBit (b.get page F.ERR_INFO0.CODE)])
    | 3 =>
      let q := b.get page F.EVT_ROUTE.QUEUE
      (b, [.packet q 0 (b.eventRecord page evBit 0)])
    | _ => (b, [])
  | .msix head vector source =>
    if b.unit (pHPT head) = stOFF ∨ b.unit (pHPT head) = stINIT ∨ b.unit (pHPT head) = stCONTAINED then
      (b.count (pHPT head) F.HPT_MSI_DROP.COUNT 1,
        [.events (pHPT head) [ev E.HPT.MSI_DROPPED (vector % 256) source 0 0]])
    else if head * 256 + vector ∈ b.msixMasked then
      ({ b with msixPending := nsInsert (head * 256 + vector) b.msixPending }, [])
    else (b.emit (.msix head vector), [])
  | .pageEvent page evBit code =>
    if b.eventQ.length < 256 then ({ b with eventQ := b.eventQ ++ [⟨page, evBit, code, 0, b.now⟩] }, [])
    else ({ b.count pMGT F.MGT_IBI_DROP.COUNT 1 with resyncDue := b.resyncDue ||| 2 }, [])
  | .packet qn kind payload =>
    let q := b.queue qn
    let seq := (q.seq + 1) % 2 ^ 32
    let need := ceilDiv (payload.length + 4) 64
    if q.en ∧ q.cells < q.maxCells ∧ 0 < b.freeCells then
      let room := min need (min (q.maxCells - q.cells) b.freeCells)
      let whole := decide (room = need)
      let data := withSeq payload seq
      let kept := if whole then data else data.take (room * 64 - 4)
      let freeBefore := b.freeCells
      let b := b.setQueue qn { q with seq := seq, pkts := q.pkts ++ [⟨kind, kept.length, !whole, kept, room, true, false, 0⟩] }
      let low := b.get pEVQ F.EVQ_POOL.LOW_MARK
      let poolLow : List Act :=
        if low ≤ freeBefore ∧ b.freeCells < low then [.events pEVQ [ev E.EVQ.POOL_LOW 0 b.freeCells 0 0]] else []
      let trunc : List Act :=
        if whole then [] else [.events pEVQ [ev E.EVQ.TRUNCATED (qn % 64) seq kept.length 0]]
      let b := if whole then b else b.count pEVQ F.EVQ_TRUNC.COUNT 1
      (b, .announce qn :: (trunc ++ poolLow))
    else
      ((b.setQueue qn { q with seq := seq }).count pEVQ F.EVQ_DROPPED.COUNT 1,
        [.events pEVQ [ev E.EVQ.OVERRUN (qn % 64 + bit (!q.en) * 64) seq b.freeCells 0]])
  | .announce qn =>
    let q := b.queue qn
    let (pkts, n) := announcePkts q.pkts
    let dest : Act := if wordBits q.cfg 1 2 = 1 then .msix (wordBits q.cfg 3 3) (wordBits q.cfg 8 8) pEVQ
      else .pageEvent pEVQ (0x80 + qn) 0
    (b.setQueue qn { q with pkts := pkts },
      if wordBits q.cfg 1 2 = 1 ∨ wordBits q.cfg 1 2 = 2 then List.replicate n dest else [])

/-- Runs event work; each page passes from no enabled status to some at most once, so the work ends long before the fuel does. -/
def Board.run : Nat → List Act → Board → Board
  | 0, _, b => b
  | _ + 1, [], b => b
  | n + 1, a :: rest, b => let (b', more) := b.act a; Board.run n (more ++ rest) b'

/-- Events of one page in one cycle (R18, R19). -/
def Board.raises (b : Board) (page : Nat) (evs : List Ev) : Board := Board.run 256 [.events page evs] b

/-- One event of a page. -/
def Board.raise (b : Board) (page : Nat) (e : Ev) : Board := b.raises page [e]

/-- One event of a page with a CODE other than OK. -/
def Board.raiseCode (b : Board) (page : Nat) (c : Code) (e : Ev) : Board := b.raises page [{ e with code := c.num }]

/-- Offers a whole packet to an event queue. -/
def Board.offer (b : Board) (queue kind : Nat) (payload : List Byte) : Board := Board.run 256 [.packet queue kind payload] b

/-! ### Rejected writes (R10) -/

/-- Records a rejected write in PAGE_REJECT. -/
def Board.reject (b : Board) (page : Nat) (p : Path) (off : Nat) (c : Code) : Board :=
  let w := b.rd page 0x034
  let more := if w = 0 then 0 else 1
  b.wr page 0x034 (BitVec.ofNat 32 (c.num + more * 2 ^ 8 + (match p with | .host _ => 0 | .mgmt => 1) * 2 ^ 9
    + off % 2 ^ 12 * 2 ^ 12))

/-! ### Unit states (R16, R17, R24) and causes (R476) -/

/-- The causes of a page that set CAUSE_OPEN: from its cause register, or from those that have no register. -/
def Board.openCauses (b : Board) (page : Nat) : Nat :=
  match blockOf page with
  | none => 0
  | some (k, _) =>
    match causeReg k with
    | some (off, mask, _) => ((b.rd page off).toNat &&& mask)
    | none => smGet (fun _ => 0) b.causes page

/-- The unit of a page takes a state and a CAUSE_OPEN. A change of either advances the epoch once (R16) and queues one notice (R17). -/
def Board.move (b : Board) (page st co : Nat) : Board :=
  if b.get page F.UNIT_STATE.STATE = st ∧ b.get page F.UNIT_STATE.CAUSE_OPEN = co then b
  else
    let epoch := (b.get page F.UNIT_STATE.EPOCH + 1) % 2 ^ 16
    let b := (b.wr page 0x008 (BitVec.ofNat 32 (st + co * 2 ^ 4 + epoch * 2 ^ 16))).tally page 3 1
    if b.stateQ.length < 1024 then { b with stateQ := b.stateQ ++ [⟨page, st, co, epoch, b.now⟩] }
    else { b.count pMGT F.MGT_IBI_DROP.COUNT 1 with resyncDue := b.resyncDue ||| 1 }

/-- The unit of a page takes a state; CAUSE_OPEN follows its causes. -/
def Board.toState (b : Board) (page st : Nat) : Board :=
  b.move page st (if b.openCauses page = 0 then 0 else 1)

/-- CAUSE_OPEN follows the causes; the state stays. -/
def Board.followCauses (b : Board) (page : Nat) : Board := b.toState page (b.unit page)

/-- Data-path containment: from SERVICE and DEGRADED the unit becomes CONTAINED; in INIT and TEST only CAUSE_OPEN rises (R24); a unit
in OFF runs no checker. -/
def Board.contain (b : Board) (page : Nat) : Board :=
  b.toState page (if b.serves page then stCONTAINED else b.unit page)

/-- SERVICE and DEGRADED follow the redundancy; other states stay. -/
def Board.serviceLevel (b : Board) (page : Nat) (reduced : Bool) : Board :=
  if b.serves page then b.toState page (if reduced then stDEGRADED else stSERVICE) else b

/-- Opens a cause that has a register bit. -/
def Board.openCause (b : Board) (page : Nat) (f : Fld) : Board := (b.put page f 1).contain page

/-- Closes a cause that has a register bit; the unit stays where it is. -/
def Board.closeCause (b : Board) (page : Nat) (f : Fld) : Board := (b.put page f 0).followCauses page

/-- Opens cause `n` of a page whose causes have no register. -/
def Board.openHidden (b : Board) (page n : Nat) : Board :=
  let old := smGet (fun _ => 0) b.causes page
  ({ b with causes := smSet (fun _ => 0) page (nsetbit old n true) b.causes }).contain page

/-- Closes cause `n` of a page whose causes have no register. -/
def Board.closeHidden (b : Board) (page n : Nat) : Board :=
  let old := smGet (fun _ => 0) b.causes page
  ({ b with causes := smSet (fun _ => 0) page (nsetbit old n false) b.causes }).followCauses page

/-! ### The fault log (R472, R473) -/

/-- Logs one fault: reporting page, event bit, class, longest stall in ns, ERR_INFO1, and whether a fatal stop follows. An entry that a full log discards
raises no FAULT_LOGGED (log entry 151). -/
def Board.logFault (b : Board) (page event cls stall info : Nat) (fatal : Bool) : Board :=
  let e : FaultEntry := ⟨page, event, cls, fatal, stall, b.rackTime, info⟩
  let wasFull := decide (256 ≤ b.faultLog.length)
  let wrap := b.on pFLT F.FLT_CFG.WRAP
  let log := if wasFull then (if wrap then b.faultLog.drop 1 ++ [e] else b.faultLog) else b.faultLog ++ [e]
  let b := { b with faultLog := log }
  let b := b.put pFLT F.FLT_STAT.ENTRIES log.length
  let b := b.count pFLT F.FLT_SEQ.COUNT 1
  let seq := b.get pFLT F.FLT_SEQ.COUNT
  let b := if 1 ≤ cls ∧ cls ≤ 10 then b.count pFLT F.FLT_CATALOGUE.COUNT 1
    else if cls = 12 ∨ cls = 13 then b.count pFLT F.FLT_OUTSIDE.COUNT 1 else b
  let b := if 1 ≤ cls ∧ cls ≤ 8 then b.raiseTo pFLT F.FLT_BOUND.NS stall else b
  let b := if wasFull && !wrap then b else b.raise pFLT (ev E.FLT.FAULT_LOGGED (cls + page * 16) seq stall 0)
  let b := if 1 ≤ cls ∧ cls ≤ 8 ∧ 40000 < stall then
      (b.count pFLT F.FLT_BOUND_MISS.COUNT 1).raise pFLT (ev E.FLT.BOUND_MISS (cls + page * 16) stall seq 0)
    else b
  if wasFull then b.raise pFLT (ev E.FLT.LOG_FULL (bit wrap) seq 0 0) else b

/-- The entry of an automatic containment to which Tables 20-1 and 20-2 give no class: class 0, once per fault (R472, R476). `was`: its cause was open before. -/
def Board.logContained (b : Board) (was : Bool) (page event info : Nat) : Board :=
  if was then b else b.logFault page event 0 0 info false

/-- A ROLE strap on a shelf ID other than 0 (R30): a cause of SHM opens, which only a COLD reset closes, so each power-up and reset of the unit opens it again; as the
domain powers up (`tell`), SHM raises JOIN_REFUSED with reason 2 (Table 11-14) and the containment is logged. -/
def Board.strapCheck (b : Board) (tell : Bool) : Board :=
  let id := b.get pSHM F.SHM_SELF.SHELF_ID
  if !b.on pSHM F.SHM_SELF.ROLE ∨ id = 0 then b
  else
    let b := b.openHidden pSHM 4
    if tell then (b.raiseCode pSHM .conflict (ev E.SHM.JOIN_REFUSED 2 id (b.get pSHM F.SHM_MEMBERS.PARTS) 0)).logContained false pSHM E.SHM.JOIN_REFUSED id else b

/-- The state with its board changed. -/
def State.on (s : State) (f : Board → Board) : State := { s with bd := f s.bd }

end Sys2Proof.Machine
end

