-- ==== Sys2Proof/Machine/Gate.lean ====
section
/-! DEFINITION. What stands between a path and a register: pages in reset (R13), unpowered domains (R491), the access policies of Table 21-1
(R489, R490) and the register-level restrictions of Table 21-2. -/

namespace Sys2Proof.Machine

/-- The policy of a page. -/
def pagePolicy (page : Nat) : Policy := match blockOf page with | none => .m | some (b, _) => blockPolicy b

/-- What a write meets before it reaches the register: `some b` when it is discarded, with the board it leaves (R13, R489 to R491); `none` when it
goes on. `hostNo` and `mgmtNo` are the restrictions of Table 21-2 on that register. -/
def Board.gate (b : Board) (p : Path) (page off : Nat) (hostNo mgmtNo : Bool) : Option Board :=
  if page ∈ b.resetting ∨ b.powered page = false then some b
  else
    let denied : Bool := match p with
      | .host h => decide (pagePolicy page ≠ .hm) || (decide (0x010 ≤ page ∧ page ≤ 0x017) && decide (page ≠ 0x010 + h.val)) || hostNo
      | .mgmt => mgmtNo
    if denied then some (b.reject page p off .denied) else none

/-- A write of a register of a page, with what it does when nothing discards it. -/
def State.written (s : State) (p : Path) (page off : Nat) (hostNo mgmtNo : Bool) (f : State → State) : State :=
  match s.bd.gate p page off hostNo mgmtNo with
  | some b => { s with bd := b }
  | none => f s

/-- The state with a write rejected (R10). -/
def State.rejects (s : State) (p : Path) (page off : Nat) (c : Code) : State := { s with bd := s.bd.reject page p off c }

/-- The state with an output added. -/
def State.say (s : State) (o : Output) : State := { s with bd := s.bd.emit o }

end Sys2Proof.Machine
end

