-- ==== Sys2Proof/Machine/Pmc.lean ====
section
/-! DEFINITION. The counters of every page and their snapshots (chapter *Regulation, thermal control and counters*, R467 to R470). What they have to count is noted
as it happens (Board.tally) and counted here at the end of the step. -/

namespace Sys2Proof.Machine

/-- The RC counter registers of a page's register map, in ascending offset (R467). -/
def rcRegs (page : Nat) : List Nat :=
  ((pageRows page).filter (fun (r : Row) => r.acc == Acc.rc)).foldl
    (fun l (r : Row) => (List.range r.copies).foldl (fun l k => nsInsert (r.fld.ix k).off l) l) []

/-- The event code that counts the source of the counter register at `off` (R467). -/
def rcCode (page off : Nat) : Option Nat := ((rcRegs page).findIdx? (fun o => o == off)).map (fun k => 4 + k)

/-- The highest event code of a page (R467). -/
def pmcTop (page : Nat) : Nat := 3 + (rcRegs page).length

/-- Counter `n` of a page. -/
def Board.pmc (b : Board) (page n : Nat) : Nat := b.get page (F.PMC_CNT_LO.COUNT.ix n) + 2 ^ 32 * b.get page (F.PMC_CNT_HI.COUNT.ix n)

/-- The board with counter `n` of a page at `v`. -/
def Board.setPmc (b : Board) (page n v : Nat) : Board :=
  (b.put page (F.PMC_CNT_LO.COUNT.ix n) v).put page (F.PMC_CNT_HI.COUNT.ix n) (v / 2 ^ 32)

/-- Do the requests of a block carry an address (R469)? -/
def carriesAddress : Block → Bool
  | .hpt | .shl | .xtn | .fcc | .fcm | .vwn | .mch | .map | .ptx | .rcl | .ckp | .ptl | .cry | .rky | .cpd | .cps => true
  | _ => false

/-- A wrap captures a request that the block handled soon after: which one is open (R469; log entry 104). -/
def Board.sample (b : Board) (page n : Nat) : Board :=
  let oid := b.openVal % 2 ^ 16
  let b := b.useOpen
  let skid := b.openVal % 65
  let b := b.useOpen
  let addr := match blockOf page with
    | some (k, _) => if carriesAddress k then b.openVal % 2 ^ 64 else 0
    | none => 0
  let b := b.useOpen
  let b := b.wr page 0xCA8 (BitVec.ofNat 32 (oid + n * 2 ^ 16 + 2 ^ 19 + skid * 2 ^ 20))
  (b.put page F.PMC_SAMP1.ADDR addr).put page F.PMC_SAMP2.ADDR (addr / 2 ^ 32)

/-- Counter `n` of a page advances by `k`: its wrap and its threshold (R468). -/
def Board.advancePmc (b : Board) (page n k : Nat) : Board :=
  let old := b.pmc page n
  let new := old + k
  let thr := b.get page (F.PMC_THR_LO.THR.ix n) + 2 ^ 32 * b.get page (F.PMC_THR_HI.THR.ix n)
  let crossed := b.on page (F.PMC_SEL.THR_EN.ix n) && decide (old < thr) && decide (thr ≤ new)
  let wrapped := decide (2 ^ 48 ≤ new)
  let b := b.setPmc page n (new % 2 ^ 48)
  let newThr := crossed && !nbit (b.get page F.PMC_PSTAT.THR) n
  let newOvf := wrapped && !nbit (b.get page F.PMC_PSTAT.OVF) n
  let b := if newThr then b.put page F.PMC_PSTAT.THR (nsetbit (b.get page F.PMC_PSTAT.THR) n true) else b
  let b := if newOvf then b.put page F.PMC_PSTAT.OVF (nsetbit (b.get page F.PMC_PSTAT.OVF) n true) else b
  let b := if wrapped && b.on page F.PMC_PCTL.FREEZE_ON_OVF then b.put page F.PMC_PCTL.FREEZE 1 else b
  let takes := wrapped && b.on page (F.PMC_SEL.SAMPLE.ix n) && !b.on page F.PMC_SAMP0.VALID
  let b := if takes then b.sample page n else b
  b.raises pPMC ((if newThr then [ev E.PMC.THRESHOLD (page + n * 2 ^ 9) (new % 2 ^ 32) 0 0] else [])
    ++ (if newOvf then [ev E.PMC.OVERFLOW (page + n * 2 ^ 9 + bit takes * 2 ^ 12) 0 0 0] else []))

/-- Does counter `n` of a page count events of `code` (R467)? -/
def Board.pmcCounts (b : Board) (page n code : Nat) : Bool :=
  b.on page (F.PMC_SEL.EN.ix n) && decide (b.get page (F.PMC_SEL.EVENT.ix n) = code) && !b.on page F.PMC_PCTL.FREEZE && !b.on pPMC F.PMC_CTL.FREEZE_ALL

/-- The counters of a page count `k` events of `code`. -/
def Board.countCode (b : Board) (page code k : Nat) : Board :=
  (List.range 8).foldl (fun b n => if b.pmcCounts page n code then b.advancePmc page n k else b) b

/-- Counts what is due, oldest first; what counting itself raises is counted after it. -/
def Board.countDue : Nat → Board → Board
  | 0, b => b
  | fuel + 1, b =>
    match b.pmcDue with
    | [] => b
    | (page, c, k) :: rest =>
      let b := { b with pmcDue := rest }
      let code := if c < 4096 then some c else rcCode page (c - 4096)
      Board.countDue fuel (match code with | none => b | some code => b.countCode page code k)

/-- The powered pages with a counter that counts core clock cycles. -/
def Board.clockPages (b : Board) : List Nat :=
  (b.regs.filter (fun (e : Nat × Word) =>
    decide (0x310 ≤ e.1 % 1024) && decide (e.1 % 1024 < 0x318) && decide (wordBits e.2 0 9 = 0x101))).foldl
    (fun l (e : Nat × Word) => if b.powered (e.1 / 1024) then nsInsert (e.1 / 1024) l else l) []

/-- The counting at the end of a step. How many core clock cycles pass in it is open: the spec gives the core clock no rate (log entry 104). -/
def Board.followCounters (b : Board) : Board :=
  let b := Board.countDue 4096 b
  let pages := b.clockPages
  if pages.isEmpty then b
  else
    let cycles := b.openVal
    Board.countDue 4096 (pages.foldl (fun b p => b.countCode p 1 cycles) b.useOpen)

/-- The entries of PMC_LIST: entry j names a page, where it is valid (R470). -/
def Board.listed (b : Board) (j : Nat) : Option Nat :=
  let i := j / 2
  if j % 2 = 0 then (if b.on pPMC (F.PMC_LIST.VALID_A.ix i) then some (b.get pPMC (F.PMC_LIST.PAGE_A.ix i)) else none)
  else if b.on pPMC (F.PMC_LIST.VALID_B.ix i) then some (b.get pPMC (F.PMC_LIST.PAGE_B.ix i)) else none

/-- A snapshot is latched (R470): the listed counters plus 1 in the order of PMC_SNAP, 0 where no page is listed. -/
def Board.latchSnap (b : Board) (auto : Bool) : Board :=
  let has := fun (page : Nat) => implemented page && b.powered page
  let counts := (List.range 256).map (fun k =>
    match b.listed (k / 8) with
    | none => 0
    | some page => if has page then b.pmc page (k % 8) + 1 else 1)
  let missing := ((List.range 32).map (fun j => match b.listed j with | none => 0 | some page => if has page then 0 else 2 ^ j)).sum
  let clear := b.on pPMC F.PMC_CTL.CLEAR_ON_SNAP
  let b' := { b with snap := some (auto, counts, missing, b.rackTime) }
  let b' := if clear then
      (List.range 32).foldl (fun c j =>
        match b.listed j with
        | none => c
        | some page => if has page then (List.range 8).foldl (fun c n => c.setPmc page n 0) c else c) b'
    else b'
  b'.put pPMC F.PMC_STAT.BUSY 1

/-- SNAP written (R470). -/
def Board.snapNow (b : Board) (p : Path) : Board := if b.snap.isSome then b.reject pPMC p 0x040 .busy else b.latchSnap false

/-- SNAP on a path. -/
def State.snap (s : State) (p : Path) : State := s.written p pPMC 0x040 false false (fun s => s.on (·.snapNow p))

/-- PMC_AUTO_SNAP (R470): the period of PMC_PERIOD has passed. -/
def State.autoSnap (s : State) : State :=
  if s.bd.powered pPMC && s.bd.on pPMC F.PMC_PERIOD.AUTO then
    s.on (fun b =>
      let b := b.elapse 14 (b.get pPMC F.PMC_PERIOD.MS * 1000)
      if b.snap.isSome then b.count pPMC F.PMC_SKIPPED.COUNT 1 else b.latchSnap true)
  else s

/-- SNAP_DONE (R470): the latched counters are shown. -/
def State.snapDone (s : State) : State :=
  match s.bd.snap with
  | none => s
  | some (auto, counts, missing, time) =>
    s.on (fun b =>
      let b := { b with snap := none }
      let b := counts.zipIdx.foldl (fun b (e : Nat × Nat) =>
        if e.1 = 0 then b
        else (b.put pPMC (F.PMC_SNAP.COUNT.ix (2 * e.2)) (e.1 - 1)).put pPMC (F.PMC_SNAP.COUNT.ix (2 * e.2 + 1)) ((e.1 - 1) / 2 ^ 32)) b
      let b := b.put64 pPMC F.PMC_SNAP_TIME_LO.TIME F.PMC_SNAP_TIME_HI.TIME time
      let b := (b.put pPMC F.PMC_MISSING.ENTRIES missing).put pPMC F.PMC_STAT.BUSY 0
      let b := (b.put pPMC F.PMC_STAT.RESULT 0).count pPMC F.PMC_STAT.COUNT 1
      b.raise pPMC (ev E.PMC.SNAP_DONE (bit auto) (b.get pPMC F.PMC_STAT.COUNT) missing 0))

end Sys2Proof.Machine
end

