-- ==== Sys2Proof/Machine/Extents.lean ====
section
/-! DEFINITION. Extents and decoding (chapter *Pool addresses, extents and key indices*): the HXT, XMB and LXT tables and their checks (R48 to R53),
the HDM decoders (R40, R41), the translation of an HPA (R46, R47) and the outcome of an address that does not translate (R60). -/

namespace Sys2Proof.Machine

/-- A FREE HXT entry. -/
def hxtDefault : Nat → Hxt := fun _ => ⟨0, 0, 0, 0, 0, false, 0, false, 0, 0, 0⟩

/-- An XMB entry that nothing has written. -/
def xmbDefault : Nat → Xmb := fun _ => ⟨0, 0, 0⟩

/-- A FREE LXT entry. -/
def lxtDefault : Nat → Lxt := fun _ => ⟨0, 0, 0, 0, 0⟩

/-- HXT entry `i`. -/
def State.hxt (s : State) (i : Nat) : Hxt := smGet hxtDefault s.xtn.hxt i

/-- XMB entry `i`. -/
def State.xmb (s : State) (i : Nat) : Xmb := smGet xmbDefault s.xtn.xmb i

/-- LXT entry `x`. -/
def State.lxt (s : State) (x : Nat) : Lxt := smGet lxtDefault s.xtn.lxt x

/-- The erase epoch of local extent `x` (R295). -/
def State.eet (s : State) (x : Nat) : Nat := smGet (fun _ => 0) s.xtn.eet x

/-- Replaces HXT entry `i`. -/
def State.setHxt (s : State) (i : Nat) (e : Hxt) : State := { s with xtn := { s.xtn with hxt := smSet hxtDefault i e s.xtn.hxt } }

/-- Replaces XMB entry `i`. -/
def State.setXmb (s : State) (i : Nat) (e : Xmb) : State := { s with xtn := { s.xtn with xmb := smSet xmbDefault i e s.xtn.xmb } }

/-- Replaces LXT entry `x`. -/
def State.setLxt (s : State) (x : Nat) (e : Lxt) : State := { s with xtn := { s.xtn with lxt := smSet lxtDefault x e s.xtn.lxt } }

/-- A META segment whose content has changed waits to be written (R213). -/
def State.dirtySegment (s : State) (n : Nat) : State := { s with wp := { s.wp with metaDirty := nsInsert n s.wp.metaDirty } }

/-- This part's shelf ID. -/
def Board.selfId (b : Board) : Nat := b.get pXTN F.XTN_SELF.SHELF_ID

/-- The number of parts of the ring: one more than the highest shelf ID known in any state (R31). -/
def Board.shelfSize (b : Board) : Nat :=
  ((bitList (Nat.lor (b.get pSHM F.SHM_MEMBERS.PARTS) (Nat.lor (b.get pSHM F.SHM_FAILED.PARTS) (b.get pSHM F.SHM_UNREACH.PARTS))) 32).map (fun n => n + 1)).foldl max (b.selfId + 1)

/-- Hops EAST from this part to part `p`. -/
def Board.hopsEast (b : Board) (p : Nat) : Nat := (p + b.shelfSize - b.selfId) % b.shelfSize

/-- Is link `n`, from part n EAST, broken? -/
def Board.broken (b : Board) (n : Nat) : Bool :=
  (b.on pSHM F.SHM_TOPO.BREAK0_VALID && decide (b.get pSHM F.SHM_TOPO.BREAK0 = n))
    || (b.on pSHM F.SHM_TOPO.BREAK1_VALID && decide (b.get pSHM F.SHM_TOPO.BREAK1 = n))

/-- Is the way EAST to part `p` whole? -/
def Board.eastWhole (b : Board) (p : Nat) : Bool :=
  (List.range (b.hopsEast p)).all (fun k => !b.broken ((b.selfId + k) % b.shelfSize))

/-- Is the way WEST to part `p` whole? -/
def Board.westWhole (b : Board) (p : Nat) : Bool :=
  (List.range (b.shelfSize - b.hopsEast p)).all (fun k => !b.broken ((p + k) % b.shelfSize))

/-- Is link `k` of this part UP or in RECOVER? -/
def Board.linkUp (b : Board) (k : Nat) : Bool := decide (b.get (pSHL k) F.SHL_STAT.PHASE = 4) || decide (b.get (pSHL k) F.SHL_STAT.PHASE = 5)

/-- Is this part CUT or ISOLATED (R317)? -/
def Board.apart (b : Board) : Bool := b.on pSHM F.SHM_SELF.CUT || b.on pSHM F.SHM_SELF.ISOLATED

/-- Can a request reach part `p`: this part, or a member that is not PARTITIONED; while CUT, one on this part's side of its down links; while ISOLATED, none (R317, R318)? -/
def Board.reaches (b : Board) (p : Nat) : Bool :=
  decide (p = b.selfId) || (nbit (b.get pSHM F.SHM_MEMBERS.PARTS) p && !nbit (b.get pSHM F.SHM_UNREACH.PARTS) p && !b.on pSHM F.SHM_SELF.ISOLATED
    && (!b.on pSHM F.SHM_SELF.CUT || (b.linkUp 0 && b.eastWhole p) || (b.linkUp 1 && b.westWhole p)))

/-- Does SHM_SELF show the part as MEMBER or as holding manager duties (R387)? -/
def Board.joined (b : Board) : Bool := nbit (b.get pSHM F.SHM_MEMBERS.PARTS) b.selfId || b.on pSHM F.SHM_SELF.MANAGER

/-- Has part `p` a mirror partner on the shelf (R34)? -/
def Board.hasPartner (b : Board) (p : Nat) : Bool := decide (Nat.xor p 1 < b.shelfSize)

/-! ### Entries as words (Tables 02-8 to 02-10) -/

/-- Bits of a word given as a number. -/
def nbits (w lo width : Nat) : Nat := (w >>> lo) % 2 ^ width

/-- The HXT entry that four data words spell; FORCED is read-only. -/
def Hxt.ofWords (d0 d1 d2 d3 : Nat) : Hxt :=
  ⟨nbits d0 0 2, nbits d0 2 3, nbits d0 5 3, nbits d0 8 21, nbits d1 0 4, nbit d1 4, nbits d1 5 2, false, nbits d1 8 15, nbits d2 0 21, nbits d3 0 20⟩

/-- An HXT entry as four data words. -/
def Hxt.words (e : Hxt) : List Nat :=
  [e.st + e.head * 2 ^ 2 + e.region * 2 ^ 5 + e.unit * 2 ^ 8,
   e.width + bit e.mirror * 2 ^ 4 + e.perm * 2 ^ 5 + bit e.forced * 2 ^ 7 + e.xmbBase * 2 ^ 8, e.sxn, e.length]

/-- The XMB entry that two data words spell. -/
def Xmb.ofWords (d0 d1 : Nat) : Xmb := ⟨nbits d0 0 5, nbits d0 8 16, nbits d1 0 16⟩

/-- An XMB entry as data words; unused words read zero. -/
def Xmb.words (e : Xmb) : List Nat := [e.part + e.lxn * 2 ^ 8, e.mirrorLxn, 0, 0]

/-- The LXT entry that two data words spell. -/
def Lxt.ofWords (d0 d1 : Nat) : Lxt := ⟨nbits d0 0 2, nbits d0 2 1, nbits d0 4 12, nbits d0 16 2, nbits d1 0 21⟩

/-- An LXT entry as data words. -/
def Lxt.words (e : Lxt) : List Nat := [e.st + e.role * 2 ^ 2 + e.key * 2 ^ 4 + e.hint * 2 ^ 16, e.sxn, 0, 0]

/-! ### Windows (R40 to R45) -/

/-- The volatile window's size in bytes that decodes now: ways of 8 GiB (R125, R127). -/
def Board.vwnSize (b : Board) : Nat := b.get pVWN F.VWN_STAT.CURRENT * 2 ^ 33

/-- The number of HPA bytes a window covers. -/
def Board.winSize (b : Board) (hw : Nat) : Nat := b.get pXTN (F.WIN_SIZE.SIZE.ix hw) * 2 ^ 28

/-- The HPA base of a window. -/
def Board.winBase (b : Board) (hw : Nat) : Nat :=
  b.get pXTN (F.WIN_BASE_LO.BASE_LO.ix hw) * 2 ^ 28 + b.get pXTN (F.WIN_BASE_HI.BASE_HI.ix hw) * 2 ^ 32

/-- Is window `hw` committed? -/
def Board.committed (b : Board) (hw : Nat) : Bool := b.on pXTN (F.WIN_CTL.COMMITTED.ix hw)

/-- The committed window of head `h` that holds an HPA. -/
def Board.windowAt (b : Board) (h hpa : Nat) : Option Nat :=
  (List.range 8).find? (fun w =>
    b.committed (8 * h + w) && decide (b.winBase (8 * h + w) ≤ hpa) && decide (hpa < b.winBase (8 * h + w) + b.winSize (8 * h + w)))

/-- The DPA offset of an HPA offset with `2^iw` ways of `256 × 2^ig` bytes: the interleave bits are removed, as CXL 3.1 defines for ways that are a
power of two (R40). -/
def deinterleave (iw ig off : Nat) : Nat := (off >>> (8 + ig + iw)) * 2 ^ (8 + ig) + off % 2 ^ (8 + ig)

/-- The DPA of an HPA in a window. -/
def State.dpaOf (s : State) (hw hpa : Nat) : Nat :=
  smGet (fun _ => 0) s.xtn.dpaBase hw
    + deinterleave (s.bd.get pXTN (F.WIN_CTL.IW.ix hw)) (s.bd.get pXTN (F.WIN_CTL.IG.ix hw)) (hpa - s.bd.winBase hw)

/-! ### Decoding -/

/-- What an HPA decodes to (R46, R47, R57, R60). -/
inductive Decoded
  /-- A failure of Table 02-5 (0 NO_WINDOW, 1 VW_RANGE, 2 NO_EXTENT, 3 PERM, 4 UNREACHABLE), with the window where there is one. -/
  | fail (cause : Nat) (window : Option Nat)
  /-- A byte of the volatile window. -/
  | volatile (dpa : Nat)
  /-- A line of a part: logical line number, key index, SXN, HXT entry, and the line of the mirror copy where there is one. -/
  | route (part lln key sxn hxt : Nat) (mirror : Option Nat)
deriving DecidableEq, Repr

/-- Does the XTN unit translate (R61)? -/
def Board.translates (b : Board) : Bool := b.serves pXTN

/-- The HXT entry that decodes a region offset of a head (R52, R53). -/
def State.extentAt (s : State) (h region roff : Nat) : Option (Nat × Hxt) :=
  s.xtn.hxt.find? (fun e =>
    decide (e.2.head = h) && decide (e.2.region = region) && (decide (e.2.st = 2) || (decide (e.2.st = 3) && !e.2.forced))
      && decide (e.2.unit * 2 ^ 28 ≤ roff) && decide (roff < (e.2.unit + e.2.length) * 2 ^ 28))

/-- The line of an extent offset in an HXT entry (R46), with that of its mirror copy (R47). -/
def State.extentLine (s : State) (e : Hxt) (o : Nat) : Nat × Nat × Option Nat :=
  let w := e.width + 1
  let q := o / 2 ^ 12
  let mb := s.xmb (e.xmbBase + q % w)
  let r := q / w
  let line := o / 64 % 64
  (mb.part, (mb.lxn * 2 ^ 16 + r) * 64 + line, if e.mirror then some ((mb.mirrorLxn * 2 ^ 16 + r) * 64 + line) else none)

/-- The page of a Dynamic Capacity DPA of a head under a key, before reachability is asked. -/
def State.decodeDc (s : State) (h dpa key : Nat) (write : Bool) (w : Option Nat) : Decoded :=
  let region := dpa / 2 ^ 49 - 1
  let roff := dpa - (region + 1) * 2 ^ 49
  match s.extentAt h region roff with
  | none => .fail 2 w
  | some (i, e) =>
    if write ∧ e.perm = 1 then .fail 3 w
    else
      let o := roff - e.unit * 2 ^ 28
      let (part, lln, mirror) := s.extentLine e o
      let copies := part :: (match mirror with | some _ => [Nat.xor part 1] | none => [])
      if copies.any s.bd.reaches ∧ (s.bd.apart = false ∨ copies.all s.bd.reaches) then .route part lln key e.sxn i mirror else .fail 4 w

/-- Decoding at the ingress part (chapter 02, `decode`; R57, R60, R61); `key?` is the key index of a copy descriptor (R58). -/
def State.decode (s : State) (h hpa : Nat) (write : Bool) (key? : Option Nat) : Decoded :=
  match s.bd.windowAt h hpa with
  | none => .fail 0 none
  | some w =>
    let hw := 8 * h + w
    let dpa := s.dpaOf hw hpa
    if s.bd.get pXTN (F.WIN_CTL.TYPE.ix hw) = 2 then
      if s.bd.translates ∧ dpa < s.bd.vwnSize then .volatile dpa else .fail 1 (some w)
    else if !s.bd.translates ∨ !s.bd.joined then .fail 2 (some w)
    else s.decodeDc h dpa (key?.getD (s.bd.get pXTN (F.WIN_CTL.KEY.ix hw))) write (some w)

/-- Is a page of a Dynamic Capacity DPA reachable on this part (R120)? -/
def State.localPageOf (s : State) (h dpa : Nat) : Option Nat :=
  if dpa < 2 ^ 49 then none
  else match s.decodeDc h dpa 0 false none with
    | .route part lln _ _ _ _ => if part = s.bd.selfId then some (lln / 64) else none
    | _ => none

/-- The CODE of a decode failure (Table 02-5). -/
def decodeCode : Nat → Code
  | 1 => .length
  | 3 => .denied
  | _ => .conflict

/-- A decode failure is counted and raises its event (R60). A failure without a window reports an open window number (log entry 2). -/
def State.decodeFailed (s : State) (h cause : Nat) (w : Option Nat) (write : Bool) (hpa len : Nat) : State :=
  s.on (fun b =>
    let win := w.getD (b.openVal % 8)
    let b := if w.isNone then b.useOpen else b
    (b.count pXTN (F.XTN_DCNT.COUNT.ix cause) 1).raiseCode pXTN (decodeCode cause)
      (ev cause (h + win * 8 + bit write * 64) hpa (hpa / 2 ^ 32) len))

/-- A request that an owner turns away with STALE_OWNER is counted and raises its event at the owner (R49, R56, R60). -/
def State.staleOwner (s : State) (ingress lln sxn : Nat) (write : Bool) : State :=
  s.on (fun b =>
    let pool := b.selfId * 2 ^ 44 + lln * 64
    (b.count pXTN (F.XTN_DCNT.COUNT.ix 5) 1).raiseCode pXTN .conflict
      (ev E.XTN.STALE_OWNER (ingress + bit write * 64) pool (pool / 2 ^ 32) sxn))

/-- Does the owner accept a request (R49)? -/
def State.accepts (s : State) (lln sxn role : Nat) : Bool :=
  let x := s.lxt (lln / 2 ^ 22)
  decide (x.st = 1) && decide (x.sxn = sxn) && decide (x.role = role)

/-! ### Checks of table writes -/

/-- Is an XMB index named by an HXT entry that is not FREE (R48)? -/
def State.xmbInUse (s : State) (i : Nat) : Bool :=
  s.xtn.hxt.any (fun e => decide (e.2.st ≠ 0) && decide (e.2.xmbBase ≤ i) && decide (i ≤ e.2.xmbBase + e.2.width))

/-- Do two HXT entries agree in every field that a write of a non-FREE entry may not change? -/
def Hxt.sameFixed (e o : Hxt) : Bool :=
  decide (e.head = o.head) && decide (e.region = o.region) && decide (e.unit = o.unit) && decide (e.width = o.width)
    && decide (e.mirror = o.mirror) && decide (e.perm = o.perm) && decide (e.xmbBase = o.xmbBase) && decide (e.sxn = o.sxn)
    && decide (e.length = o.length)

/-- Has a head's Dynamic Capacity log no room (R79)? -/
def State.dcFull (s : State) (h : Nat) : Bool :=
  match s.heads[h]? with
  | some d => decide (256 ≤ d.dc.length)
  | none => false

/-- The check of an HXT write (R48, R53, R79), in the order listed. -/
def State.checkHxt (s : State) (i : Nat) (n : Hxt) : Code :=
  let o := s.hxt i
  let w := n.width + 1
  let parts := (List.range w).map (fun k => (s.xmb (n.xmbBase + k)).part)
  if 8192 ≤ i then .length
  else if n.perm = 0 ∨ n.perm = 2 then .unsupported
  else if o.st ≠ 0 then
    if !n.sameFixed o then .conflict
    else if n.st = o.st ∨ (o.st = 1 ∧ n.st = 0) ∨ (o.st = 2 ∧ n.st = 3) then .ok
    else .conflict
  else if 1 < n.st then .conflict
  else if n.length = 0 then .empty
  else if n.length % w ≠ 0 then .conflict
  else if 49152 < n.length / w then .length
  else if 2 ^ 21 < n.unit + n.length then .length
  else if 32768 < n.xmbBase + w then .length
  else if s.xtn.hxt.any (fun e => decide (e.1 ≠ i) && decide (e.2.st ≠ 0) && decide (e.2.head = n.head) && decide (e.2.region = n.region)
      && decide (e.2.unit < n.unit + n.length) && decide (n.unit < e.2.unit + e.2.length)) then .conflict
  else if ¬ parts.Nodup then .conflict
  else if n.mirror ∧ ¬ parts.all s.bd.hasPartner then .conflict
  else if n.st = 1 ∧ s.dcFull n.head then .busy
  else .ok

/-- The check of an XMB write (R48, Table 02-9). -/
def State.checkXmb (s : State) (i : Nat) (n : Xmb) : Code :=
  if 32768 ≤ i then .length
  else if 49151 < n.lxn then .length
  else if s.xmbInUse i then .conflict
  else .ok

/-- The check of an LXT write (R50, R295, R296, chapter 10 on CRY). -/
def State.checkLxt (s : State) (x : Nat) (n : Lxt) : Code :=
  let o := s.lxt x
  if 49152 ≤ x then .length
  else if n.st = 3 ∨ n.hint = 3 then .unsupported
  else if o.st = 0 then (if n.st ≤ 1 then .ok else .conflict)
  else if n.role ≠ o.role ∨ n.key ≠ o.key ∨ n.sxn ≠ o.sxn then .conflict
  else if n.st = o.st then .ok
  else if o.st = 1 ∧ n.st = 2 then
    if s.bd.unit pCRY = stCONTAINED ∨ s.bd.unit pCRY = stTEST then .busy
    else if s.eet x = 2 ^ 64 - 1 then .exhausted
    else .ok
  else .conflict

/-! ### Dynamic Capacity records (R77, R79) -/

/-- Changes head `h`. -/
def State.onHead (s : State) (h : Nat) (f : Head → Head) : State := { s with heads := s.heads.modify h f }

/-- Head `h`; a number that names no head reads as the first. -/
def State.head? (s : State) (h : Nat) : Option Head := s.heads[h]?

/-- Queues a record in a head's Dynamic Capacity log: 0 Add, 1 Release, 2 Forced Release. -/
def State.dcRecord (s : State) (kind i : Nat) (e : Hxt) : State :=
  let vec := ((s.head? e.head).map (fun d => if d.dc = [] ∧ d.evtPolicy.getD 4 0 % 4 = 1 then some (d.evtPolicy.getD 4 0 / 16) else none)).getD none
  let s := s.onHead e.head (fun h =>
    { h with dc := h.dc ++ [⟨h.nextHandle, kind, i, e.sxn, e.region, e.unit, e.length⟩], nextHandle := h.nextHandle % 0xFFFF + 1 })
  match vec with
  | some v => s.on (fun b => Board.run 256 [.msix e.head v (pHPT e.head)] b)
  | none => s

/-- A forced-release notice enters the log, or is held while the log is full (R79). -/
def State.forcedNotice (s : State) (i : Nat) (e : Hxt) : State :=
  if !s.dcFull e.head then s.dcRecord 2 i e
  else s.onHead e.head (fun h => { h with forced := nsInsert i h.forced })

/-! ### The effect of an accepted table write -/

/-- An accepted HXT write (R52, R53): an offer queues an Add Capacity event; a forced release sets FORCED and queues its notice. -/
def State.putHxt (s : State) (i : Nat) (n : Hxt) : State :=
  let o := s.hxt i
  let s := s.dirtySegment (4096 + i / 256)
  if o.st = 0 then
    let s := s.setHxt i n
    if n.st = 1 then s.dcRecord 0 i n else s
  else if o.st = 2 ∧ n.st = 3 then (s.setHxt i { o with st := 3, forced := true }).forcedNotice i o
  else s.setHxt i { o with st := n.st }

/-- FREE to ACTIVE: every map entry of the local extent reads ZERO and keeps its generation (R50, Table 02-3). -/
def State.zeroExtent (s : State) (x : Nat) : State :=
  { s with
    xtn := { s.xtn with zeroed := nsInsert x s.xtn.zeroed }
    mapx := { s.mapx with map := s.mapx.map.map (fun (e : Nat × MapEntry) =>
      if e.1 / 2 ^ 16 = x then (e.1, { e.2 with ppa := 0, patched := false, poison := false, zero := true, unmapped := false, fresh := false }) else e) } }

/-- ERASING to FREE: every map entry of the local extent reads UNMAPPED (Table 02-3). -/
def State.unmapExtent (s : State) (x : Nat) : State :=
  let s := { s with
    xtn := { s.xtn with zeroed := nsErase x s.xtn.zeroed }
    mapx := { s.mapx with map := s.mapx.map.map (fun (e : Nat × MapEntry) =>
      if e.1 / 2 ^ 16 = x then (e.1, { e.2 with ppa := 0, patched := false, poison := false, zero := false, unmapped := true, fresh := false }) else e) } }
  (s.setLxt x { s.lxt x with st := 0 }).dirtySegment (4192 + x / 512)

/-- An accepted LXT write (R50): FREE to ACTIVE zeroes the extent's pages; ACTIVE to ERASING starts the crypto erase, whose epoch moves at once (R295). -/
def State.putLxt (s : State) (x : Nat) (n : Lxt) : State :=
  let o := s.lxt x
  let s := (s.setLxt x n).dirtySegment (4192 + x / 512)
  if o.st = 0 ∧ n.st = 1 then s.zeroExtent x
  else if o.st = 1 ∧ n.st = 2 then
    let s := { s with
      xtn := { s.xtn with eet := smSet (fun _ => 0) x (s.eet x + 1) s.xtn.eet }
      keys := { s.keys with erases := s.keys.erases ++ [(x, s.bd.now)] } }
    s.on (fun b => b.put pCRY F.CRY_ERASE_STAT.ACTIVE 1)
  else s

/-- A write of table `t` with data words: its RESULT, and the state it leaves (R48, R50, R62, R296). -/
def State.tableWrite (s : State) (t i d0 d1 d2 d3 : Nat) : Code × State :=
  match t with
  | 0 =>
    let n := Hxt.ofWords d0 d1 d2 d3
    let c := s.checkHxt i n
    (c, if c = .ok then s.putHxt i n else s)
  | 1 =>
    let n := Xmb.ofWords d0 d1
    let c := s.checkXmb i n
    (c, if c = .ok then (s.setXmb i n).dirtySegment (4128 + i / 512) else s)
  | 2 =>
    let n := Lxt.ofWords d0 d1
    let c := s.checkLxt i n
    let s' := if c = .ok then s.putLxt i n
      else if c = .exhausted then
        s.on (fun b => b.raiseCode pCRY .exhausted (ev E.CRY.EPOCH_EXHAUSTED 0 i (s.lxt i).sxn 0))
      else s
    (c, s')
  | _ => (.unsupported, s)

/-- The data words of a table entry, or the RESULT that refuses the read. -/
def State.tableRead (s : State) (t i : Nat) : Code × List Nat :=
  match t with
  | 0 => if i < 8192 then (.ok, (s.hxt i).words) else (.length, [0, 0, 0, 0])
  | 1 => if i < 32768 then (.ok, (s.xmb i).words) else (.length, [0, 0, 0, 0])
  | 2 => if i < 49152 then (.ok, (s.lxt i).words) else (.length, [0, 0, 0, 0])
  | _ => (.unsupported, [0, 0, 0, 0])

/-! ### Table accesses through XTN_ACC_CMD (R62) -/

/-- A data register of the access. -/
def Board.accData (b : Board) (k : Nat) : Nat := b.get pXTN (F.XTN_ACC_DATA.DATA.ix k)

/-- A write of XTN_ACC_CMD: refused while BUSY; otherwise the command is shown, BUSY rises and the access is serialised at once. The reserved TABLE
encoding leaves the register unchanged (R10). -/
def State.xtnCommand (s : State) (p : Path) (t i : Nat) (write : Bool) : State :=
  s.written p pXTN 0x044 write false (fun s =>
    if t = 3 then s.rejects p pXTN 0x044 .unsupported
    else if s.bd.on pXTN F.XTN_ACC_STAT.BUSY then s.rejects p pXTN 0x044 .busy
    else
      let s := s.on (fun b => (b.wr pXTN 0x044 (BitVec.ofNat 32 (t + bit write * 4 + i % 2 ^ 16 * 16))).put pXTN F.XTN_ACC_STAT.BUSY 1)
      if write then
        let r := s.tableWrite t i (s.bd.accData 0) (s.bd.accData 1) (s.bd.accData 2) (s.bd.accData 3)
        { r.2 with xtn := { r.2.xtn with access := some ⟨r.1.num, none⟩ } }
      else
        let r := s.tableRead t i
        { s with xtn := { s.xtn with access := some ⟨r.1.num, some r.2⟩ } })

/-- The access under way completes (R62): BUSY clears, RESULT is set, and a read shows its data. -/
def State.xtnDone (s : State) : State :=
  match s.xtn.access with
  | none => s
  | some a =>
    let s := { s with xtn := { s.xtn with access := none } }
    s.on (fun b =>
      let b := (b.put pXTN F.XTN_ACC_STAT.BUSY 0).put pXTN F.XTN_ACC_STAT.RESULT a.result
      match a.data with
      | none => b
      | some d => (List.range 4).foldl (fun b k => b.put pXTN (F.XTN_ACC_DATA.DATA.ix k) (d.getD k 0)) b)

/-- Requests decoded through an HXT entry that have not completed (R52): reads without an answer and writes not ticketed on every copy nor resolved. -/
def State.openThrough (s : State) (i : Nat) : Nat :=
  (s.heads.map (fun h =>
    (h.reads.filter (fun r => decide (r.req.hxt = i + 1))).length
      + (h.writes.filter (fun w => decide (w.req.hxt = i + 1) && decide (w.res = 0) && !(w.tick1 && (w.tick2 || !w.req.mirror)))).length
      + (h.writes.filter (fun w => w.inBuf && !w.sent &&
          (match s.decode (w.req.oid / 2 ^ 8 % 8) w.req.hpa true none with | .route _ _ _ _ j _ => decide (j = i) | _ => false))).length)).sum

/-- RELEASE_DONE (R52): a RELEASING entry with no uncompleted request becomes FREE and the event is raised. -/
def State.releaseDone (s : State) (i : Nat) : State :=
  let e := s.hxt i
  if e.st = 3 ∧ s.openThrough i = 0 then
    ((s.setHxt i { e with st := 0, forced := false }).dirtySegment (4096 + i / 256)).on (fun b =>
      b.raise pXTN (ev E.XTN.RELEASE_DONE e.head e.sxn e.unit i))
  else s

/-! ### Decoder commit (R40, R41) -/

/-- The ways code of a supported number of ways (R40). -/
def waysCode : Nat → Option Nat
  | 1 => some 0 | 2 => some 1 | 4 => some 2 | 8 => some 3
  | _ => none

/-- The TYPE and REGION of a DPA range (R41): 2 VOLATILE inside the window, 1 DC inside one region; none for a range that fails the commit. -/
def Board.windowType (b : Board) (dpa len : Nat) : Option (Nat × Nat) :=
  if len = 0 then none
  else if dpa + len ≤ b.vwnSize then some (2, 0)
  else
    let r := dpa / 2 ^ 49
    if 1 ≤ r ∧ r ≤ 8 ∧ dpa + len ≤ (r + 1) * 2 ^ 49 then some (1, r - 1) else none

/-- Host software commits decoder `w` of head `h`: an HPA base, a size in bytes, ways, granularity code and DPA base. -/
def State.commitDecoder (s : State) (h w base size ways ig dpa : Nat) : State :=
  let hw := 8 * h + w
  match waysCode ways with
  | none => s.say (.decoder h w false)
  | some iw =>
    match s.bd.windowType dpa (size / ways) with
    | none => s.say (.decoder h w false)
    | some (ty, r) =>
      if 6 < ig ∨ size % 2 ^ 28 ≠ 0 ∨ base % 2 ^ 28 ≠ 0 ∨ s.bd.committed hw
          ∨ (ty = 1 ∧ s.bd.get pXTN (F.WIN_CTL.KEY_VALID.ix hw) = 0) then s.say (.decoder h w false)
      else
        let s := { s with xtn := { s.xtn with dpaBase := smSet (fun _ => 0) hw dpa s.xtn.dpaBase } }
        let s := s.on (fun b =>
          let b := (((b.put pXTN (F.WIN_CTL.COMMITTED.ix hw) 1).put pXTN (F.WIN_CTL.TYPE.ix hw) ty).put pXTN (F.WIN_CTL.REGION.ix hw) r)
          let b := (b.put pXTN (F.WIN_CTL.IW.ix hw) iw).put pXTN (F.WIN_CTL.IG.ix hw) ig
          let b := (b.put pXTN (F.WIN_BASE_LO.BASE_LO.ix hw) (base / 2 ^ 28)).put pXTN (F.WIN_BASE_HI.BASE_HI.ix hw) (base / 2 ^ 32)
          b.put pXTN (F.WIN_SIZE.SIZE.ix hw) (size / 2 ^ 28))
        s.say (.decoder h w true)

/-- A HEAD reset uncommits the head's windows and leaves KEY and KEY_VALID (R44). -/
def Board.uncommit (b : Board) (h : Nat) : Board :=
  (List.range 8).foldl (fun b w =>
    let hw := 8 * h + w
    let k := b.get pXTN (F.WIN_CTL.KEY.ix hw)
    let v := b.get pXTN (F.WIN_CTL.KEY_VALID.ix hw)
    let b := b.wr pXTN (F.WIN_CTL.COMMITTED.ix hw).off 0
    let b := (b.put pXTN (F.WIN_CTL.KEY.ix hw) k).put pXTN (F.WIN_CTL.KEY_VALID.ix hw) v
    ((b.wr pXTN (F.WIN_BASE_LO.BASE_LO.ix hw).off 0).wr pXTN (F.WIN_BASE_HI.BASE_HI.ix hw).off 0).wr pXTN (F.WIN_SIZE.SIZE.ix hw).off 0) b

end Sys2Proof.Machine
end

