-- ==== Sys2Proof/Machine/Lines.lean ====
section
/-! DEFINITION. Where a line lives: map entries (Table 06-1), patch-index slots (R167 to R169), cache frames and mirror slots (R97, R105), the dirty
limit (R107), and the ordering identifiers and host event records that the data path shares. -/

namespace Sys2Proof.Machine

/-! ### Ordering identifiers (Table 09-1) -/

/-- The OID of a class and instance on a part. -/
def oidOf (shelf cls inst : Nat) : Nat := shelf % 32 + cls % 8 * 2 ^ 5 + inst % 64 * 2 ^ 8

/-- The shelf ID of an OID. -/
def oidShelf (o : Nat) : Nat := o % 32

/-- The class of an OID: 0 head, 1 descriptor channel, 2 simple channel, 3 management path, 4 internal. -/
def oidClass (o : Nat) : Nat := o / 2 ^ 5 % 8

/-- The instance of an OID. -/
def oidInst (o : Nat) : Nat := o / 2 ^ 8 % 64

/-- The OID of head `h` of this part. -/
def Board.headOid (b : Board) (h : Nat) : Nat := oidOf b.selfId 0 h

/-! ### The map -/

/-- The map entry of a local page. An unlisted entry has generation 0 and reads ZERO in an extent that has been activated and UNMAPPED otherwise. -/
def State.mapEntry (s : State) (p : Nat) : MapEntry :=
  (smFind p s.mapx.map).getD
    (if p / 2 ^ 16 ∈ s.xtn.zeroed then ⟨0, 0, false, false, true, false, 0, 0, false⟩ else ⟨0, 0, false, false, false, true, 0, 0, false⟩)

/-- Replaces a map entry. -/
def State.setMap (s : State) (p : Nat) (e : MapEntry) : State := { s with mapx := { s.mapx with map := smPut p e s.mapx.map } }

/-- A map entry as a word (Table 06-1). -/
def MapEntry.word (e : MapEntry) : Nat :=
  e.ppa + e.gen * 2 ^ 32 + bit e.patched * 2 ^ 56 + bit e.poison * 2 ^ 57 + bit e.zero * 2 ^ 58 + bit e.unmapped * 2 ^ 59
    + e.stream * 2 ^ 60 + e.heat * 2 ^ 62

/-- Are the flags one of the combinations of Table 06-2 (R165)? -/
def MapEntry.legal (e : MapEntry) : Bool :=
  decide (bit e.patched + bit e.poison + bit e.zero + bit e.unmapped ≤ 1)

/-- Does the entry name a base page? -/
def MapEntry.hasBase (e : MapEntry) : Bool := !e.poison && !e.zero && !e.unmapped && !e.fresh

/-! ### The patch index (R167 to R169) -/

/-- The hash of a key (R167). -/
def ptxHash (k : Nat) : Nat := k * 0x278DDE6E51 % 2 ^ 38

/-- The home bucket of a key. -/
def ptxBucket (k : Nat) : Nat := ptxHash k / 2 ^ 11

/-- The remainder of a key. -/
def ptxRem (k : Nat) : Nat := ptxHash k % 2 ^ 11

/-- The key that a slot in bucket `b` with displacement and remainder names: the multiplier is undone by its inverse modulo 2^38. -/
def ptxKey (b disp rem : Nat) : Nat := (((b + 2 ^ 27 - disp) % 2 ^ 27) * 2 ^ 11 + rem) * 0x391a099ab1 % 2 ^ 38

/-- The slot at an index, bucket × 8 + place. -/
def State.slotAt (s : State) (i : Nat) : Option Slot := smFind i s.mapx.slots

/-- Do all 8 slots of a bucket hold a patch? -/
def State.bucketFull (s : State) (b : Nat) : Bool := (List.range 8).all (fun i => (s.slotAt (b * 8 + i)).isSome)

/-- A place of bucket `b` that matches a displacement and remainder. -/
def State.matchIn (s : State) (b disp rem : Nat) : Option Nat :=
  ((List.range 8).map (b * 8 + ·)).find? (fun i =>
    match s.slotAt i with | some x => decide (x.disp = disp) && decide (x.rem = rem) | none => false)

/-- The lookup of R169 from displacement `j` with `n` more buckets allowed: buckets read, and the slot index. -/
def State.probeFrom (s : State) (b rem : Nat) : Nat → Nat → Nat × Option Nat
  | 0, j => (j, none)
  | n + 1, j =>
    let bk := (b + j) % 2 ^ 27
    match s.matchIn bk j rem with
    | some i => (j + 1, some i)
    | none => if s.bucketFull bk ∧ 0 < n then s.probeFrom b rem n (j + 1) else (j + 1, none)

/-- The lookup of a line (R169). -/
def State.probe (s : State) (lln : Nat) : Nat × Option Nat := s.probeFrom (ptxBucket lln) (ptxRem lln) 4 0

/-- The slot of a line. -/
def State.slotOf (s : State) (lln : Nat) : Option Slot := (s.probe lln).2.bind s.slotAt

/-- Is a slot invalid (chapter 06, Table 06-11)? -/
def Slot.invalid (x : Slot) : Bool :=
  (x.poison && (x.staged || decide (x.loc ≠ 0))) || (x.staged && decide (x.pslot ≠ 0)) || decide (55 < x.pslot)

/-- A slot as a word (Table 06-3). -/
def Slot.word (x : Slot) : Nat :=
  1 + bit x.staged * 2 + x.disp * 2 ^ 2 + x.rem * 2 ^ 4 + bit x.poison * 2 ^ 15 + x.loc * 2 ^ 16 + x.pslot * 2 ^ 48 + x.pseq * 2 ^ 54

/-- Replaces the slots. -/
def State.setSlots (s : State) (m : SMap Slot) : State := { s with mapx := { s.mapx with slots := m } }

/-- The first free place for a line: buckets b to b + 3 in turn. -/
def State.freePlace (s : State) (lln : Nat) : Option (Nat × Nat) :=
  ((List.range 4).flatMap (fun j => (List.range 8).map (fun i => (j, (ptxBucket lln + j) % 2 ^ 27 * 8 + i)))).find?
    (fun p => (s.slotAt p.2).isNone)

/-- The state with a line's slot written: its own slot where it has one, else the first free place; none when four buckets are full (R169). -/
def State.putSlot (s : State) (lln : Nat) (staged poison : Bool) (loc pslot pseq : Nat) : Option State :=
  match (s.probe lln).2 with
  | some i =>
    (s.slotAt i).map (fun x =>
      s.setSlots (smPut i { x with staged := staged, poison := poison, loc := loc, pslot := pslot, pseq := pseq } s.mapx.slots))
  | none =>
    (s.freePlace lln).map (fun p =>
      s.setSlots (smPut p.2 ⟨staged, p.1, ptxRem lln, poison, loc, pslot, pseq⟩ s.mapx.slots))

/-- A slot that may fill a hole in bucket `b`: one in bucket b + 1 to b + 3 whose displacement reaches back to `b` (R169). -/
def State.filler (s : State) (b : Nat) : Option (Nat × Nat × Slot) :=
  ((List.range 3).flatMap (fun d => (List.range 8).map (fun i => (d + 1, (b + d + 1) % 2 ^ 27 * 8 + i)))).findSome?
    (fun p => (s.slotAt p.2).bind (fun x => if p.1 ≤ x.disp then some (p.1, p.2, x) else none))

/-- Restores the invariant of R169 after a hole has opened at place `i`. -/
def State.closeHole (s : State) : Nat → Nat → State
  | 0, _ => s
  | n + 1, i =>
    match s.filler (i / 8) with
    | none => s
    | some (d, j, x) =>
      (s.setSlots (smPut i { x with disp := x.disp - d } (smDel j s.mapx.slots))).closeHole n j

/-- Frees the slot of a line (R169). -/
def State.freeSlot (s : State) (lln : Nat) : State :=
  match (s.probe lln).2 with
  | none => s
  | some i => (s.setSlots (smDel i s.mapx.slots)).closeHole (s.mapx.slots.length) i

/-- Does a page have a slot? -/
def State.pageHasSlot (s : State) (page : Nat) : Bool := (List.range 64).any (fun n => (s.slotOf (page * 64 + n)).isSome)

/-- PATCHED follows the slots of the page; ZERO and POISON give way to PATCHED only where the caller has cleared them. -/
def State.refreshPatched (s : State) (page : Nat) : State :=
  let e := s.mapEntry page
  let v := s.pageHasSlot page
  if e.patched = v then s else s.setMap page { e with patched := v }

/-- Live slots (PTX_LIVE). -/
def State.live (s : State) : Nat := s.mapx.slots.length

/-- Staged slots (PTX_STAGED). -/
def State.stagedSlots (s : State) : Nat := (s.mapx.slots.filter (fun e => e.2.staged)).length

/-- Poisoned slots (PTX_POISONED). -/
def State.poisonSlots (s : State) : Nat := (s.mapx.slots.filter (fun e => e.2.poison)).length

/-! ### Frames (R97 to R100) -/

/-- The set of a local page (R97). -/
def setOf (page : Nat) : Nat := Nat.xor (page % 2 ^ 21) (page / 2 ^ 21)

/-- Window ways in use (VWN_STAT.CURRENT). -/
def Board.windowWays (b : Board) : Nat := b.get pVWN F.VWN_STAT.CURRENT

/-- Has stack `k` failed? -/
def Board.stackLost (b : Board) (k : Nat) : Bool := b.on (pFCC k) F.FCC_CAUSE.STACK_LOST

/-- Has pseudo-channel `p` of stack `k` failed? -/
def Board.pcLost (b : Board) (k p : Nat) : Bool := b.stackLost k || nbit (b.get (pFCC k) F.FCC_PC_FAIL.PC_FAIL) p

/-- Is the frame of a set in a way an enabled cache frame: not of the window, not lost, not given to the window by REMAP? -/
def State.cacheFrame (s : State) (t w : Nat) : Bool :=
  let joining := match s.cache.resize with | some (_, n) => decide (12 - n ≤ w) | none => false
  decide (w < 12 - s.bd.windowWays) && !joining && !s.bd.pcLost (w % 4) (t % 32) && !(s.cache.remap.any (fun e => decide (e.2 = w) && decide (e.1 % 32 = t % 32)))

/-- Is the cache in use (FCM_STAT.ENABLED)? -/
def Board.cacheOn (b : Board) : Bool := b.on pFCM F.FCM_STAT.ENABLED

/-- The frame that holds a page, by set × 16 + way. -/
def State.frameOf (s : State) (page : Nat) : Option (Nat × Frame) :=
  ((List.range 12).map (fun w => setOf page * 16 + w)).findSome? (fun i =>
    match smFind i s.cache.frames with
    | some f => if f.page = page then some (i, f) else none
    | none => none)

/-- Replaces a frame. -/
def State.setFrame (s : State) (i : Nat) (f : Frame) : State := { s with cache := { s.cache with frames := smPut i f s.cache.frames } }

/-- Drops a frame. -/
def State.dropFrame (s : State) (i : Nat) : State := { s with cache := { s.cache with frames := smDel i s.cache.frames } }

/-- A frame becomes the most recently used. -/
def State.touch (s : State) (i : Nat) : State :=
  match smFind i s.cache.frames with
  | none => s
  | some f => { (s.setFrame i { f with used := s.cache.clock + 1 }) with cache := { (s.setFrame i { f with used := s.cache.clock + 1 }).cache with clock := s.cache.clock + 1 } }

/-- Dirty lines of a frame. -/
def Frame.dirtyLines (f : Frame) : List Nat := (f.lines.filter (fun e => e.2.dirty)).map Prod.fst

/-- Does a frame hold a dense line (DIRTY = 1, PATCHED = 0)? -/
def Frame.hasDense (f : Frame) : Bool := f.lines.any (fun e => e.2.dirty && !e.2.patched)

/-- Dirty lines of the part (R106). -/
def State.dirty (s : State) : Nat := (s.cache.frames.map (fun e => e.2.dirtyLines.length)).sum + s.cache.staged.length

/-- Is hold-up declared (PDR_CFG.DECLARED)? -/
def Board.declared (b : Board) : Bool := b.on pPDR F.PDR_CFG.DECLARED

/-- A of R107, in lines. -/
def Board.slotsAvailable (b : Board) : Nat :=
  let a := ((List.range 4).filter (fun k => b.serves (pFCC k))).length * 58720256
  if b.cacheOn then a else a / 2

/-- DL as its owner computes it (R107). -/
def Board.rawLimit (b : Board) : Nat :=
  if b.declared then min (b.get pPDR F.PDR_HOLDUP_US.US * 40000 * 8 / 640) b.slotsAvailable else b.slotsAvailable

/-- The dirty limit, as word 7 of the triplicated words shows it (R107, R479). -/
def Board.dirtyLimit (b : Board) : Nat := b.voted 7 b.rawLimit

/-- Is the part at its dirty limit (R108)? -/
def State.atLimit (s : State) : Bool := decide (s.bd.dirtyLimit ≤ s.dirty)

/-- FCM_STAT.AT_LIMIT follows the limit; DIRTY_LIMIT is raised each time it begins (R108). With a limit of 0 and no dirty line, as before the stacks have trained,
it reads 0, its reset value (log entry 154). -/
def State.followLimit (s : State) : State :=
  let now := bit (s.atLimit && decide (0 < s.dirty ∨ 0 < s.bd.dirtyLimit))
  let old := s.bd.get pFCM F.FCM_STAT.AT_LIMIT
  let s' := s.on (fun b => b.put pFCM F.FCM_STAT.AT_LIMIT now)
  if old = 0 ∧ now = 1 then s'.on (fun b => b.raise pFCM (ev E.FCM.DIRTY_LIMIT 0 s.dirty b.dirtyLimit 0)) else s'

/-! ### Mirror slots (R105, R115, R116) -/

/-- Slots of one stack. -/
abbrev slotsPerStack : Nat := 58720256

/-- The pseudo-channel of data slot `n` of a stack's mirror area: blocks of 512 B with seven slots each (R93, R105). -/
def slotPc (n : Nat) : Nat := n / 56 % 32

/-- The first slot number at or above `n` that is neither occupied nor in a failed pseudo-channel. -/
def State.gapFrom (s : State) (stack : Nat) : Nat → Nat → Option Nat
  | 0, _ => none
  | k + 1, n =>
    if slotsPerStack ≤ n then none
    else if s.bd.pcLost stack (slotPc n) then s.gapFrom stack k ((n / 56 + 1) * 56)
    else if (smFind (stack * slotsPerStack + n) s.cache.slots).isSome then s.gapFrom stack k (n + 1)
    else some (stack * slotsPerStack + n)

/-- The lowest free slot of a stack's mirror area (log entry 14). -/
def State.freeMirror (s : State) (stack : Nat) : Option Nat :=
  if s.bd.stackLost stack then none else s.gapFrom stack (s.cache.slots.length + 64) 0

/-- The stack that mirrors a frame of set `t` in way `w` (R105): the pair partner, or, when it has failed, the other pair, even sets to the lower-numbered
stack (R116). -/
def Board.mirrorStack (b : Board) (t w : Nat) : Nat :=
  let k := w % 4
  let m := Nat.xor k 2
  if b.stackLost m then (if t % 2 = 0 then min (Nat.xor k 1) (Nat.xor k 3) else max (Nat.xor k 1) (Nat.xor k 3)) else m

/-- Takes a mirror slot of a stack for a line; the header names page, line, key index and way. -/
def State.takeSlot (s : State) (stack page line key way : Nat) : Option (Nat × State) :=
  (s.freeMirror stack).map (fun n =>
    (n, { s with cache := { s.cache with slots := smPut n (page, line, key, way) s.cache.slots } }))

/-- Frees a mirror slot. -/
def State.freeMirrorSlot (s : State) (n : Nat) : State := { s with cache := { s.cache with slots := smDel n s.cache.slots } }

/-! ### Host event records (R76 to R78) -/

/-- An event log with a record offered to it: kept, or dropped and counted (R78). -/
def EvLog.add (l : EvLog) (r : HostRec) : EvLog :=
  if l.recs.length < 64 then { l with recs := l.recs ++ [r] }
  else { l with ovr := l.ovr + 1, first := if l.ovr = 0 then r.time else l.first, last := r.time }

/-- The log of a head by number: 0 Informational, 1 Warning, 2 Failure, 3 Fatal. -/
def Head.log (h : Head) : Nat → EvLog
  | 0 => h.info
  | 1 => h.warn
  | 2 => h.fail
  | _ => h.fatal

/-- A head with one of its logs replaced. -/
def Head.setLog (h : Head) (n : Nat) (l : EvLog) : Head :=
  match n with
  | 0 => { h with info := l }
  | 1 => { h with warn := l }
  | 2 => { h with fail := l }
  | _ => { h with fatal := l }

/-- Causes that a General Media record carries, numbered by the model (log entry 15). -/
inductive MediaCause
  | decode (n : Nat) | staleOwner | poison | unrecoverable | integrity | aliasKey | partialWrite | noKey | window | contained | corrected | lineLost | fold
deriving DecidableEq, Repr

/-- The number of a cause. -/
def MediaCause.num : MediaCause → Nat
  | .decode n => n
  | .staleOwner => 5
  | .poison => 8
  | .unrecoverable => 9
  | .integrity => 10
  | .aliasKey => 11
  | .partialWrite => 12
  | .noKey => 13
  | .window => 14
  | .contained => 15
  | .corrected => 16
  | .lineLost => 17
  | .fold => 18

/-- The interrupt that a head's policy asks for when a log takes its first record (R82): mode 1 is MSI-X, with the vector above it. -/
def Head.logVector (d : Head) (log : Nat) : Option Nat :=
  let v := d.evtPolicy.getD log 0
  if v % 4 = 1 then some (v / 16) else none

/-- The DPA of an HPA of a head, where a window covers it. -/
def State.recordDpa (s : State) (h hpa : Nat) : Nat := ((s.bd.windowAt h hpa).map (fun w => s.dpaOf (8 * h + w) hpa)).getD 0

/-- A record offered to a log of a head; EVLOG_OVERFLOW is raised when the log has passed to full with it (R78). Kind 0 is General Media, 1 Memory Module. -/
def State.hostRecord (s : State) (h log kind addr cause info : Nat) : State :=
  match s.head? h with
  | none => s
  | some d =>
    let l := d.log log
    let r : HostRec := ⟨d.nextHandle, kind, addr, if kind = 0 ∧ info = 0 then s.recordDpa h addr else 0, cause, info, s.bd.rackTime⟩
    let l' := l.add r
    let s := s.onHead h (fun d => { (d.setLog log l') with nextHandle := d.nextHandle % 0xFFFF + 1 })
    let s := match d.logVector log with
      | some v => if l.recs = [] then s.on (fun b => Board.run 256 [.msix h v (pHPT h)] b) else s
      | none => s
    if l.recs.length < 64 ∧ l'.recs.length = 64 then
      s.on (fun b => b.raise (pHPT h) (ev E.HPT.EVLOG_OVERFLOW log l'.ovr 0 0))
    else s

/-- The poison list of a head keeps the DPA of a line met poisoned, up to 256, with the overflow flag and its time (R82). -/
def State.retainPoison (s : State) (h hpa : Nat) : State :=
  match s.head? h, s.bd.windowAt h hpa with
  | some d, some _ =>
    let dpa := s.recordDpa h hpa / 64 * 64
    if dpa ∈ d.poisonList then s
    else if d.poisonList.length < 256 then s.onHead h (fun d => { d with poisonList := nsInsert dpa d.poisonList })
    else if d.poisonOver then s
    else s.onHead h (fun d => { d with poisonOver := true, poisonOverTime := s.bd.rackTime })
  | _, _ => s

/-- Does a cause name a poisoned line, rather than a request that could not be served? -/
def MediaCause.retained : MediaCause → Bool
  | .poison | .unrecoverable | .integrity | .window | .partialWrite | .lineLost => true
  | _ => false

/-- A General Media record of a poisoned read (R76): merged with one for the same line and cause less than 1 ms old. -/
def State.poisonRecord (s : State) (h hpa : Nat) (c : MediaCause) : State :=
  match s.head? h with
  | none => s
  | some d =>
    let line := hpa / 64
    let s := if c.retained then s.retainPoison h hpa else s
    if d.merges.any (fun m => decide (m.1 = line) && decide (m.2.1 = c.num) && decide (s.bd.now < m.2.2 + 1000)) then
      s.on (fun b => b.count (pHPT h) F.HPT_EVLOG_MERGE.COUNT 1)
    else
      let s := s.onHead h (fun d =>
        { d with merges := (d.merges.filter (fun m => decide (s.bd.now < m.2.2 + 1000))) ++ [(line, c.num, s.bd.now)] })
      s.hostRecord h 2 0 hpa c.num 0

/-- The heads that hold an extent ACTIVE (R195, R234). -/
def State.headsOf (s : State) (sxn : Nat) : List Nat :=
  (List.range 8).filter (fun h => s.xtn.hxt.any (fun e => decide (e.2.head = h) && decide (e.2.sxn = sxn) && decide (e.2.st = 2)))

/-- The DPA of a line of an extent on a head, for a record that names a line met by an internal engine; 0 where the head has no such extent. -/
def State.recordLine (s : State) (lln : Nat) (c : MediaCause) : State :=
  let sxn := (s.lxt (lln / 2 ^ 22)).sxn
  (s.headsOf sxn).foldl (fun s h => s.hostRecord h 2 0 (s.bd.selfId * 2 ^ 44 + lln * 64) c.num 1) s

/-! ### QoS telemetry (R73) -/

/-- Posted-write buffer entries in use. -/
def Head.occupied (h : Head) : Nat := (h.writes.filter (fun w => w.inBuf)).length

/-- FILL of a head (R73). -/
def Head.fill (h : Head) : Nat := max (ceilDiv (64 * h.occupied) 256) (ceilDiv (64 * h.reads.length) 1024)

/-- DevLoad of a head (Table 03-3). -/
def State.devLoad (s : State) (h : Nat) : Nat :=
  match s.head? h with
  | none => 0
  | some d =>
    if d.fill < s.bd.get (pHPT h) F.HPT_QOS_CFG.T_OPT then 0
    else if d.fill < s.bd.get (pHPT h) F.HPT_QOS_CFG.T_MOD then 1
    else if d.fill < s.bd.get (pHPT h) F.HPT_QOS_CFG.T_SEV then 2
    else 3

/-! ### Routes (R35) -/

/-- The link on which a packet for part `p` leaves (R35): 0 EAST, 1 WEST; fewer hops, EAST on a tie, and the only whole way where one is broken. -/
def Board.linkTo (b : Board) (p : Nat) : Nat :=
  let e := b.hopsEast p
  let eastOk := b.eastWhole p
  let westOk := b.westWhole p
  if eastOk ∧ ¬ westOk then 0 else if westOk ∧ ¬ eastOk then 1 else if e ≤ b.shelfSize - e then 0 else 1

/-- Sends a packet to part `p`: opcode, fields in the order of Tables 11-3 and 11-4, and a line. -/
def State.send (s : State) (op p : Nat) (args : List Nat) (data : Option Line) : State :=
  s.say (.ring (s.bd.linkTo p) op s.bd.selfId p args data)

end Sys2Proof.Machine
end

