-- ==== Sys2Proof/Machine/Store.lean ====
section
/-! DEFINITION. The parameter store (chapter *Parameter store*): pages, the page-write queue, records in two copies and their load, monotonic counters,
and raw page access. Bodies that R522 calls private are lists of 32-bit words in the model's own order (log entry 17). -/

namespace Sys2Proof.Machine

/-! ### CRC-32C and record copies (R428) -/

/-- One bit step of CRC-32C, reflected. -/
def crcBit (c : Nat) : Nat := if c % 2 = 1 then Nat.xor (c / 2) 0x82F63B78 else c / 2

/-- One byte of CRC-32C. -/
def crcByte (c : Nat) (b : Byte) : Nat :=
  crcBit (crcBit (crcBit (crcBit (crcBit (crcBit (crcBit (crcBit (Nat.xor c b.toNat))))))))

/-- CRC-32C of bytes. -/
def crc32c (bs : List Byte) : Nat := Nat.xor (bs.foldl crcByte 0xFFFFFFFF) 0xFFFFFFFF

/-- Offset and pages of a record (Table 17-4). -/
def recInfo : Nat → Option (Nat × Nat)
  | 0x01 => some (0, 1) | 0x02 => some (1, 1) | 0x03 => some (2, 1) | 0x04 => some (3, 1) | 0x05 => some (4, 1) | 0x06 => some (5, 1)
  | 0x07 => some (6, 1) | 0x08 => some (7, 1) | 0x09 => some (8, 8) | 0x0A => some (16, 8) | 0x0B => some (24, 129)
  | _ => none

/-- The records, in order. -/
def allRecords : List Nat := [1, 2, 3, 4, 5, 6, 7, 8, 9, 10, 11]

/-- The bytes of one copy of a record (Table 17-3), without the zeros that fill its pages. -/
def copyBytes (id copy pages seq : Nat) (body : List Byte) : List Byte :=
  let head := leBytes 2 id ++ leBytes 1 copy ++ leBytes 1 pages ++ leBytes 4 seq ++ leBytes 2 body.length ++ leBytes 2 0 ++ body
  head ++ leBytes 4 (crc32c head)

/-- Words as little-endian bytes. -/
def wordBytes (ws : List Nat) : List Byte := ws.flatMap (leBytes 4)

/-- Little-endian bytes as words. -/
def bytesWords : List Byte → List Nat
  | a :: b :: c :: d :: rest => ofBytes [a, b, c, d] :: bytesWords rest
  | _ => []

/-- The configuration fields that CONFIG keeps (Table 17-4). -/
def configFields : List (Nat × Fld) :=
  [(pSEQ0, F.SEQ_CFG.RETRIES), (pSEQ0, F.SEQ_CFG.SHARED), (pSEQ0, F.SEQ_CFG.AUTO), (pPDR, F.PDR_CFG.DECLARED), (pPDR, F.PDR_HOLDUP_US.US),
   (pRTM, F.RTM_CFG.SOURCE), (pRTM, F.RTM_SLOT_MASK_LO.MASK), (pRTM, F.RTM_SLOT_MASK_HI.MASK), (pRTM, F.RTM_SLOT_CFG.UNITS),
   (pRTM, F.RTM_SLOT_CFG.RESET_COST), (pVWN, F.VWN_CFG.SIZE), (pHPT 0, F.HPT_PORT_CFG.SPLIT), (pHPT 2, F.HPT_PORT_CFG.SPLIT),
   (pHPT 4, F.HPT_PORT_CFG.SPLIT), (pHPT 6, F.HPT_PORT_CFG.SPLIT), (pMGT, F.MGT_CFG.SESSION_REQ), (pMGT, F.MGT_CFG.SDA_EN),
   (pMGT, F.MGT_CFG.ALERT_EN), (pSEC, F.SEC_CFG.MUTUAL), (pSEC, F.SEC_CFG.DEBUG_EN), (pHLT, F.HLT_WARN.SPARE_WARN),
   (pHLT, F.HLT_WARN.LIFE_WARN), (pHLT, F.HLT_WARN.TEMP_WARN), (pAGE, F.AGE_CFG.OFF_TEMP), (pWGV, F.WGV_CFG.MODE),
   (pWGV, F.WGV_CFG.TARGET_YEARS), (pWGV, F.WGV_CFG.WINDOW_DAYS), (pLOOP, F.LOOP_AMP.CAP_MLC), (pLOOP, F.LOOP_AMP.CAP_SLC),
   (pLOOP, F.LOOP_BIN.MIN_BIN), (pLOOP, F.LOOP_BIN.MAX_BIN), (pLOOP, F.LOOP_WRATE.MIN_PCT), (pLOOP, F.LOOP_WRATE.MAX_PCT),
   (pLOOP, F.LOOP_PLACE.DEFAULT), (pLOOP, F.LOOP_PATROL.MAX_RATE)]

/-- The reset value of a field. -/
def fieldReset (p : Nat) (f : Fld) : Nat := wordBits (resetWord p f.off) f.lo f.width

/-- The body of a record of a new part (R519): CONFIG with the values of the field tables, HLT_WARN among them; the others zero. -/
def factoryBody (id : Nat) : List Byte :=
  if id = 6 then wordBytes (configFields.map (fun c => fieldReset c.1 c.2) ++ List.replicate 8 0)
  else if id = 2 then List.replicate 64 0
  else []

/-- Splits bytes into the little-endian values of 256 B pages. -/
def pageValues : Nat → List Byte → List Nat
  | 0, _ => []
  | n + 1, bs => ofBytes (bs.take 256) :: pageValues n (bs.drop 256)

/-- A counter cell (R432). -/
def cellValue (n half value stamp : Nat) : Nat :=
  let head := leBytes 4 value ++ leBytes 2 stamp ++ leBytes 1 n ++ leBytes 1 half
  ofBytes (head ++ leBytes 4 (crc32c head))

/-- What a page that nothing has written reads as: the content with which a part leaves manufacture (R519). -/
def pstDefault (page : Nat) : Nat :=
  if page < 2048 then
    let q := page / 1024
    let o := page % 1024
    match allRecords.find? (fun id => match recInfo id with | some (a, n) => decide (id ≠ 1) && decide (a ≤ o) && decide (o < a + n) | none => false) with
    | none => 0
    | some id =>
      match recInfo id with
      | some (a, n) => (pageValues n (copyBytes id q n 0 (factoryBody id))).getD (o - a) 0
      | none => 0
  else if page < 2176 then cellValue ((page - 2048) / 2) (page % 2) 0 0
  else 0

/-- A page of the store. -/
def Pst.page (t : Pst) (n : Nat) : Nat := smGet pstDefault t.pages n

/-- The bytes of a copy of a record as stored. -/
def Pst.copy (t : Pst) (id copy : Nat) : List Byte :=
  match recInfo id with
  | none => []
  | some (a, n) => (List.range n).flatMap (fun k => leBytes 256 (t.page (copy * 1024 + a + k)))

/-- Does a copy verify (R428)? Its SEQ and body when it does. -/
def verifyCopy (id copy : Nat) (bs : List Byte) : Option (Nat × List Byte) :=
  match recInfo id with
  | none => none
  | some (_, n) =>
    let len := ofBytes ((bs.drop 8).take 2)
    let head := bs.take (12 + len)
    if ofBytes (bs.take 2) = id ∧ ofBytes ((bs.drop 2).take 1) = copy ∧ ofBytes ((bs.drop 3).take 1) = n ∧ len ≤ 256 * n - 16
        ∧ ofBytes ((bs.drop (12 + len)).take 4) = crc32c head then
      some (ofBytes ((bs.drop 4).take 4), (bs.drop 12).take len)
    else none

/-- Is `x` newer than `y` in serial-number arithmetic of `w` bits (R430)? -/
def serialNewer (w x y : Nat) : Bool :=
  let d := (x + 2 ^ w - y % 2 ^ w) % 2 ^ w
  decide (1 ≤ d) && decide (d < 2 ^ (w - 1))

/-! ### The queue (R422 to R424, R429) -/

/-- The next job: KEY_EPOCH first, then ledger pages, then the rest in order of request (R423). -/
def nextJob (q : List PstJob) : Option PstJob :=
  (q.find? (fun j => j.prio = 0)).or ((q.find? (fun j => j.prio = 1)).or q.head?)

/-- A page write starts when none runs, the supply is stable and work is queued (R422, R424). -/
def State.pstKick (s : State) : State :=
  if s.bd.on pPST F.PST_STAT.WRITING ∨ s.bd.on pPST F.PST_STAT.AON_LOW then s
  else
    match nextJob s.pst.queue with
    | none => s
    | some j =>
      let s := { s with pst := { s.pst with queue := j :: s.pst.queue.erase j } }
      s.on (fun b => b.put pPST F.PST_STAT.WRITING 1)

/-- Queues page writes. -/
def State.pstQueue (s : State) (j : PstJob) : State :=
  ({ s with pst := { s.pst with queue := s.pst.queue ++ [j] } }).pstKick

/-- Is the first job of the queue the one being written? -/
def State.pstRunning (s : State) : Bool := s.bd.on pPST F.PST_STAT.WRITING

/-- The pages of a store of a record (R429): copy A, then copy B. -/
def storeWrites (id seq : Nat) (body : List Byte) : List (Nat × Nat) :=
  match recInfo id with
  | none => []
  | some (a, n) => (List.range 2).flatMap (fun q =>
      ((pageValues n (copyBytes id q n seq body)).zipIdx.map (fun v => (q * 1024 + a + v.2, v.1))))

/-- Stores a record (R429): a store of the same record that is still queued takes the new contents and keeps its place and sequence. -/
def State.store (s : State) (id : Nat) (body : List Byte) : State :=
  let s := { s with pst := { s.pst with bodies := smPut id (some body) s.pst.bodies } }
  let waiting := if s.pstRunning then s.pst.queue.drop 1 else s.pst.queue
  let cur := smGet (fun _ => 0) s.pst.seqs id
  if waiting.any (fun j => j.record = id) then
    let w := waiting.map (fun j => if j.record = id then { j with writes := storeWrites id cur body } else j)
    { s with pst := { s.pst with queue := (if s.pstRunning then s.pst.queue.take 1 else []) ++ w } }
  else
    let seq := (cur + 1) % 2 ^ 32
    let s := { s with pst := { s.pst with seqs := smSet (fun _ => 0) id seq s.pst.seqs } }
    s.pstQueue ⟨if id = 2 then 1 else 2, id, storeWrites id seq body, .store⟩

/-- Stores a record whose body is a list of words. -/
def State.storeWords (s : State) (id : Nat) (ws : List Nat) : State := s.store id (wordBytes ws)

/-- Stores CONFIG with the values of the registers as they stand (Table 17-4). -/
def State.storeConfig (s : State) : State :=
  s.storeWords 6 (configFields.map (fun c => s.bd.get c.1 c.2) ++ s.heads.map Head.shutdown)

/-- CKP_ROOT (R210, R216): directory PPA and JSN, the clean mark, and the CKPT bands opened since. -/
def State.storeRoot (s : State) : State :=
  s.storeWords 1 (s.wp.dirPpa :: s.wp.dirJsn % 2 ^ 32 :: s.wp.dirJsn / 2 ^ 32 :: bit s.wp.cleanMark :: s.wp.ckptBands)

/-! ### Load at COLD reset (R430, R431, R519) -/

/-- The choice of Table 17-5 for a record: the row, which copy is used, its SEQ and body, and the writes of the repair. -/
def Pst.choose (t : Pst) (id : Nat) : Nat × Option (Bool × Nat × List Byte) × List (Nat × Nat) :=
  let ba := t.copy id 0
  let bb := t.copy id 1
  let one := fun (copy seq : Nat) (body : List Byte) =>
    match recInfo id with
    | none => []
    | some (a, n) => (pageValues n (copyBytes id copy n seq body)).zipIdx.map (fun v => (copy * 1024 + a + v.2, v.1))
  match verifyCopy id 0 ba, verifyCopy id 1 bb with
  | some (sa, da), some (sb, db) =>
    if sa = sb then
      if da = db then (0, some (false, sa, da), [])
      else (1, some (false, sa, da), storeWrites id ((sa + 1) % 2 ^ 32) da)
    else if serialNewer 32 sa sb then (2, some (false, sa, da), one 1 sa da)
    else if serialNewer 32 sb sa then (2, some (true, sb, db), one 0 sb db)
    else (3, some (false, sa, da), storeWrites id ((sa + 1) % 2 ^ 32) da)
  | some (sa, da), none => (4, some (false, sa, da), one 1 sa da)
  | none, some (sb, db) => (4, some (true, sb, db), one 0 sb db)
  | none, none => if ba.all (· = 0) ∧ bb.all (· = 0) then (6, none, []) else (5, none, [])

/-- The running body of a record: as last loaded or stored, whatever the array has come to hold since (R427, R431). -/
def State.recordBody (s : State) (id : Nat) : Option (List Byte) :=
  match smFind id s.pst.bodies with
  | some b => b
  | none => if id = 1 then none else some (factoryBody id)

/-- The words of a record. -/
def State.recordWords (s : State) (id : Nat) : List Nat := ((s.recordBody id).map bytesWords).getD []

/-- Loads one record: counts, events and the queued repair of Table 17-5. A repaired conflict takes SEQ + 1. -/
def State.loadRecord (s : State) (id : Nat) : State :=
  let (row, used, fix) := s.pst.choose id
  let seq := match used with
    | some (_, q, _) => if row = 1 ∨ row = 3 then (q + 1) % 2 ^ 32 else q
    | none => 0
  let bad := match used with | some (true, _, _) => 0 | _ => 1
  let okA := decide (row ≤ 3) || (decide (row = 4) && decide (bad = 1))
  let okB := decide (row ≤ 3) || (decide (row = 4) && decide (bad = 0))
  let found := bit okA + bit okB * 2 + bit (decide (bad = 0)) * 4 + row * 8 + bit (decide (fix ≠ [])) * 64 + bit (decide (row = 5)) * 128
  let s := { s with pst := { s.pst with
    seqs := smSet (fun _ => 0) id seq s.pst.seqs
    loads := smSet (fun _ => 0) id found s.pst.loads
    bodies := smPut id (used.map (fun (c : Bool × Nat × List Byte) => c.2.2)) s.pst.bodies } }
  let s := if fix = [] then s else s.pstQueue ⟨2, id, fix, .store⟩
  s.on (fun b =>
    match row with
    | 1 | 3 => (b.count pPST F.PST_TWIN.COUNT 1).raise pPST (ev E.PST.PST_TWIN_CONFLICT id seq 0 0)
    | 2 => b.count pPST F.PST_TORN.COUNT 1
    | 4 =>
      ((b.count pPST F.PST_COPY_BAD.COUNT 1).raise pPST (ev E.PST.COPY_FAILED (id + bad * 256) seq 0 0)).logFault pPST E.PST.COPY_FAILED 10 0 seq false
    | 5 => (b.raise pPST (ev E.PST.RECORD_LOST id 0 0 0)).logFault pPST E.PST.RECORD_LOST 13 0 0 false
    | _ => b)

/-- Is a record lost: the load found neither copy to verify, nor were they wholly zero, and nothing has stored it since? -/
def State.recordLost (s : State) (id : Nat) : Bool := (s.recordBody id).isNone && decide (smGet (fun _ => 0) s.pst.loads id / 8 % 8 = 5)

/-- Is the redundancy of the store reduced (R431): the repair of a failed copy is not yet written, or a record is lost? -/
def State.pstReduced (s : State) : Bool :=
  s.pst.loads.any (fun e => decide (e.2 / 8 % 8 = 4 ∧ e.2 / 64 % 2 = 1) || decide (e.2 / 128 % 2 = 1))

/-- A store of a record is complete: a repair of it that was due is written, and it is no longer lost (R429, R431). -/
def Pst.stored (t : Pst) (id : Nat) : Pst := { t with loads := smSet (fun _ => 0) id (smGet (fun _ => 0) t.loads id % 64) t.loads }

/-! ### Counters (R432 to R436) -/

/-- A cell of a counter: VALUE and STAMP when its CRC holds. -/
def Pst.cell (t : Pst) (n half : Nat) : Option (Nat × Nat) :=
  let v := t.page (2048 + 2 * n + half)
  if v = cellValue n half (v % 2 ^ 32) (v / 2 ^ 32 % 2 ^ 16) then some (v % 2 ^ 32, v / 2 ^ 32 % 2 ^ 16) else none

/-- A page as it will read once the queue is written: the last queued write of it, else the page itself. -/
def Pst.pending (t : Pst) (n : Nat) : Nat :=
  ((t.queue.flatMap PstJob.writes).foldl (fun v w => if w.1 = n then w.2 else v) (t.page n))

/-- The running value of a counter: both cells as last written or asked to be; none when a cell fails its CRC. -/
def Pst.counter (t : Pst) (n : Nat) : Option Nat :=
  let lo := t.pending (2048 + 2 * n)
  let hi := t.pending (2049 + 2 * n)
  if lo = cellValue n 0 (lo % 2 ^ 32) (lo / 2 ^ 32 % 2 ^ 16) ∧ hi = cellValue n 1 (hi % 2 ^ 32) (hi / 2 ^ 32 % 2 ^ 16) then
    some (lo % 2 ^ 32 + hi % 2 ^ 32 * 2 ^ 32)
  else none

/-- KEY_EPOCH as its counter holds it (Table 16-4); an unreadable counter reads 0 here, and the security island has contained itself (R411). -/
def State.rawEpoch (s : State) : Nat := (s.pst.counter 2).getD 0

/-- KEY_EPOCH; its low half is word 19 of the triplicated words (R479). -/
def State.keyEpoch (s : State) : Nat := s.rawEpoch / 2 ^ 32 * 2 ^ 32 + s.bd.voted 19 (s.rawEpoch % 2 ^ 32)

/-- The page writes of an increment of counter `n` by `d`, its new value and code (R433, R435). -/
def Pst.increment (t : Pst) (n d : Nat) : Nat × Code × List (Nat × Nat) :=
  match t.counter n with
  | none => (0, .integrity, [])
  | some v =>
    let stamp := t.pending (2049 + 2 * n) / 2 ^ 32 % 2 ^ 16
    let top := 2 ^ 64 - 1
    let w := min top (v + d)
    let code : Code := if top < v + d then .exhausted else .ok
    if v = top then (top, .exhausted, [])
    else if w / 2 ^ 32 = v / 2 ^ 32 then (w, code, [(2048 + 2 * n, cellValue n 0 (w % 2 ^ 32) stamp)])
    else
      let st := (stamp + 1) % 2 ^ 16
      (w, code, [(2049 + 2 * n, cellValue n 1 (w / 2 ^ 32) st), (2048 + 2 * n, cellValue n 0 (w % 2 ^ 32) st)])

/-- The part increments a counter on its own account (Table 17-6). -/
def State.bumpCounter (s : State) (n prio : Nat) (after : PstAfter) : State :=
  let (_, _, ws) := s.pst.increment n 1
  if ws = [] then s else s.pstQueue ⟨prio, 0, ws, after⟩

/-- A counter command ends: value, RESULT, and PST_EXHAUSTED for each such result (R435, R436). -/
def Board.counterDone (b : Board) (value code : Nat) : Board :=
  let b := (b.put pPST F.PST_CTR_STAT.BUSY 0).put pPST F.PST_CTR_STAT.RESULT code
  let b := if code = Code.ok.num ∨ code = Code.exhausted.num then b.put64 pPST F.PST_CTR_LO.VALUE F.PST_CTR_HI.VALUE value else b
  if code = Code.exhausted.num then
    b.raiseCode pPST .exhausted (ev E.PST.PST_EXHAUSTED (b.get pPST F.PST_CTR_CMD.COUNTER) (b.get pPST F.PST_CTR_DELTA.DELTA) 0 0)
  else b

/-- A write of PST_CTR_CMD with a non-zero OP. -/
def State.counterCommand (s : State) (p : Path) (n op : Nat) (f : State → State) : State :=
  s.written p pPST 0x050 true false (fun s =>
    if s.bd.on pPST F.PST_CTR_STAT.BUSY then s.rejects p pPST 0x050 .busy
    else f (s.on (fun b => (b.put pPST F.PST_CTR_CMD.COUNTER n).put pPST F.PST_CTR_CMD.OP op)))

/-- A read of a counter whose cells differ in STAMP sets its PST_SKIP bit, writes the low cell again and raises COUNTER_SKIP (R434). -/
def State.repairSkip (s : State) (n : Nat) : State :=
  match s.pst.cell n 0, s.pst.cell n 1 with
  | some (lo, st), some (hi, sh) =>
    if st = sh ∨ s.pst.pending (2048 + 2 * n) ≠ s.pst.page (2048 + 2 * n) then s
    else
      let s := s.pstQueue ⟨2, 0, [(2048 + 2 * n, cellValue n 0 lo sh)], .store⟩
      s.on (fun b =>
        let f := if n < 32 then F.PST_SKIP_LO.SKIP else F.PST_SKIP_HI.SKIP
        (b.put pPST f (nsetbit (b.get pPST f) (n % 32) true)).raise pPST (ev E.PST.COUNTER_SKIP n hi lo 0))
  | _, _ => s

/-- Every record is loaded (R430); so are the counters, and one whose cells differ in STAMP is read and repaired (R434, log entry 156). -/
def State.loadAll (s : State) : State :=
  let s := allRecords.foldl State.loadRecord s
  let s := ((List.range 64).filter (fun n => s.pst.pages.any (fun e => decide (e.1 / 2 = 1024 + n)))).foldl State.repairSkip s
  s.on (fun b => b.put pPST F.PST_STAT.LOADED 1)

/-- COUNTER_READ (R434, R436). -/
def State.counterRead (s : State) (p : Path) (n : Nat) : State :=
  s.counterCommand p n 1 (fun s =>
    match s.pst.counter n with
    | none => s.on (fun b => b.counterDone 0 Code.integrity.num)
    | some v => (s.repairSkip n).on (fun b => b.counterDone v Code.ok.num))

/-- COUNTER_INCREMENT (R433, R435, R436): DENIED on counters 0 to 7, EMPTY for DELTA = 0, INTEGRITY for an unreadable counter. -/
def State.counterIncrement (s : State) (p : Path) (n : Nat) : State :=
  s.counterCommand p n 2 (fun s =>
    let d := s.bd.get pPST F.PST_CTR_DELTA.DELTA
    if n < 8 then s.on (fun b => b.counterDone 0 Code.denied.num)
    else if d = 0 then s.on (fun b => b.counterDone 0 Code.empty.num)
    else
      let (v, c, ws) := s.pst.increment n d
      if ws = [] then s.on (fun b => b.counterDone v c.num)
      else (s.on (fun b => b.put pPST F.PST_CTR_STAT.BUSY 1)).pstQueue ⟨2, 0, ws, .counter v c.num⟩)

/-! ### Raw pages (R427) -/

/-- Does a set protect bit cover a page (R426)? -/
def Board.protects (b : Board) (page : Nat) : Bool :=
  b.on pPST F.PST_PROTECT.WHOLE || (b.on pPST F.PST_PROTECT.HALF && decide (2048 ≤ page))
    || (b.on pPST F.PST_PROTECT.QUARTER && decide (3072 ≤ page))

/-- PST_ACC_DATA filled from a page. -/
def Board.showPage (b : Board) (v : Nat) : Board :=
  (List.range 64).foldl (fun b j => b.put pPST (F.PST_ACC_DATA.DATA.ix j) (v / 2 ^ (32 * j))) b

/-- PST_ACC_DATA as a page. -/
def Board.pageData (b : Board) : Nat :=
  (List.range 64).foldr (fun j v => b.get pPST (F.PST_ACC_DATA.DATA.ix j) + v * 2 ^ 32) 0

/-- A raw access ends. -/
def Board.rawDone (b : Board) (c : Code) : Board := (b.put pPST F.PST_ACC_STAT.BUSY 0).put pPST F.PST_ACC_STAT.RESULT c.num

/-- A write of PST_ACC_CMD (R427). -/
def State.rawCommand (s : State) (p : Path) (page : Nat) (write : Bool) : State :=
  s.written p pPST 0x048 true false (fun s =>
    if s.bd.on pPST F.PST_ACC_STAT.BUSY then s.rejects p pPST 0x048 .busy
    else
      let s := s.on (fun b => (b.put pPST F.PST_ACC_CMD.PAGE page).put pPST F.PST_ACC_CMD.WRITE (bit write))
      if write then
        if s.bd.unit pPST ≠ stTEST ∨ s.bd.protects page then s.on (fun b => b.rawDone .denied)
        else (s.on (fun b => b.put pPST F.PST_ACC_STAT.BUSY 1)).pstQueue ⟨2, 0, [(page, s.bd.pageData)], .raw⟩
      else if 3072 ≤ page then s.on (fun b => b.rawDone .denied)
      else
        let inWrite := match s.pst.queue with
          | j :: _ => if s.pstRunning then (j.writes.head?).bind (fun w => if w.1 = page then some w.2 else none) else none
          | [] => none
        s.on (fun b => (b.showPage (inWrite.getD (s.pst.page page))).rawDone .ok))

/-! ### A page write ends -/

/-- What a job that has written its last page completes. -/
def State.pstAfter (s : State) : PstAfter → State
  | .store => s
  | .raw => s.on (fun b => b.rawDone .ok)
  | .counter v c => s.on (fun b => b.counterDone v c)
  | .epoch => s

/-- The store's unit follows its redundancy (R431). -/
def State.followPst (s : State) : State := s.on (fun b => b.serviceLevel pPST s.pstReduced)

/-- PST_PAGE_WRITE_DONE (R422): the page takes its content, PST_WRITES counts, and the next queued write starts. -/
def State.pageWriteDone (s : State) : State :=
  if !s.pstRunning then s
  else
    match s.pst.queue with
    | [] => s.on (fun b => b.put pPST F.PST_STAT.WRITING 0)
    | j :: q =>
      match j.writes with
      | [] => (({ s with pst := { s.pst with queue := q } }).on (fun b => b.put pPST F.PST_STAT.WRITING 0)).pstKick
      | w :: ws =>
        let s := { s with pst := { s.pst with
          pages := smSet pstDefault w.1 w.2 s.pst.pages
          queue := if ws = [] then q else { j with writes := ws } :: q } }
        let s := s.on (fun b => (b.put pPST F.PST_STAT.WRITING 0).count pPST F.PST_WRITES.COUNT 1)
        let s := if ws = [] then ({ s with pst := s.pst.stored j.record }).pstAfter j.after else s
        (s.followPst).pstKick

end Sys2Proof.Machine
end

