-- ==== Sys2Proof/Machine/Bins.lean ====
section
/-! DEFINITION. Physical page addresses (R133), fields and bands, the age of a field and the predicted bin (R217 to R227), and the policy contract's
pins and overrides (R348, R349). -/

namespace Sys2Proof.Machine

/-! ### Physical page addresses (R133) -/

/-- Die (and band group) of a PPA. -/
def ppaDie (p : Nat) : Nat := p / 2 ^ 29 % 8

/-- Channel of a PPA. -/
def ppaChan (p : Nat) : Nat := p / 2 ^ 25 % 16

/-- Field F of a PPA. -/
def ppaF (p : Nat) : Nat := p / 2 ^ 12 % 2 ^ 13

/-- Page g of a PPA. -/
def ppaPage (p : Nat) : Nat := p % 2 ^ 12

/-- Field number FN of a PPA. -/
def ppaField (p : Nat) : Nat := p / 2 ^ 12 % 2 ^ 20

/-- Band number d × 8,192 + F of a PPA. -/
def ppaBand (p : Nat) : Nat := ppaDie p * 8192 + ppaF p

/-- The PPA of page `g` of a band on channel `c`. -/
def ppaOf (band c g : Nat) : Nat := band / 8192 % 8 * 2 ^ 29 + c % 16 * 2 ^ 25 + band % 8192 * 2 ^ 12 + g % 4096

/-- The partition of a PPA on its die (R132). -/
def ppaPart (p : Nat) : Nat := ppaF p % 16

/-- The key of a partition's operation: (channel × 8 + die) × 16 + partition. -/
def partKey (p : Nat) : Nat := (ppaChan p * 8 + ppaDie p) * 16 + ppaPart p

/-! ### Fields and bands -/

/-- A field that nothing has reset. -/
def fieldDefault : Nat → Field := fun _ => ⟨false, 0, 0, false, 0, 0, 0, 0, false, false, 0⟩

/-- A FREE band. -/
def bandDefault : Nat → Band := fun _ => ⟨0, 0, false, [], 0, 0, 0, 0, 0, [], false, false, 0, false⟩

/-- Field `n`. -/
def State.field (s : State) (n : Nat) : Field := smGet fieldDefault s.media.fields n

/-- Band `b`. -/
def State.band (s : State) (b : Nat) : Band := smGet bandDefault s.media.bands b

/-- Replaces a field. -/
def State.setField (s : State) (n : Nat) (f : Field) : State :=
  { s with media := { s.media with fields := smSet fieldDefault n f s.media.fields } }

/-- Replaces a band. -/
def State.setBand (s : State) (b : Nat) (v : Band) : State :=
  { s with media := { s.media with bands := smSet bandDefault b v s.media.bands } }

/-- Field number of a band's member on channel `c`. -/
def fieldOf (band c : Nat) : Nat := band / 8192 * 131072 + c * 8192 + band % 8192

/-- The state code of a field-table entry (Table 08-1). -/
def State.fieldState (s : State) (n : Nat) : Nat :=
  if (s.field n).retired then 7 else (s.band (n / 131072 * 8192 + n % 8192)).st

/-! ### The policy contract (R347 to R350) -/

/-- A loop saturates against its bound (R349). -/
def Board.pinLoop (b : Board) (n bound sought : Nat) : Board :=
  let b := (b.put pLOOP F.LOOP_PINNED.LATCHED (nsetbit (b.get pLOOP F.LOOP_PINNED.LATCHED) n true)).count pLOOP (F.LOOP_PIN.COUNT.ix n) 1
  { b with pins := nsetbit b.pins n true }.raise pLOOP (ev E.LOOP.LOOP_PINNED n bound sought 0)

/-- A loop crosses its bound for one operation (R348). -/
def Board.overrideLoop (b : Board) (n what bound applied : Nat) : Board :=
  ((b.count pLOOP F.LOOP_OVERRIDE_COUNT.COUNT 1).count pLOOP (F.LOOP_OVR.COUNT.ix n) 1).raise pLOOP (ev E.LOOP.LOOP_OVERRIDE n what bound applied)

/-! ### Ages and bins -/

/-- The visible stamp of an age clock kept in 2^-20 s: units of 1/16 s, modulo 2^32 (R217). -/
def stampOf (clock : Nat) : Nat := clock / 2 ^ 16 % 2 ^ 32

/-- AGE_CLK of a channel. -/
def State.stamp (s : State) (c : Nat) : Nat := stampOf (s.age.clocks.getD c 0)

/-- D of R221. -/
def State.ageD (s : State) (n : Nat) : Nat :=
  let d := (s.stamp (n / 8192 % 16) + 2 ^ 32 - (s.field n).stamp) % 2 ^ 32
  if 2 ^ 31 ≤ d then 0 else d

/-- The age of a field in units of 1/32 s (R221). -/
def State.age32 (s : State) (n : Nat) : Nat :=
  if s.fieldState n = 1 then s.ageD n else 2 * s.ageD n + 256 * (s.field n).fillSpan

/-- The base bin of an age in 1/32 s (Table 08-2). -/
def baseBin (a : Nat) : Nat := ((List.range 7).filter (fun k => 32 * 10 ^ k ≤ a)).length

/-- The base bin of a field (R223). -/
def State.fieldBin (s : State) (n : Nat) : Nat := if (s.field n).old then 7 else baseBin (s.age32 n)

/-- Does R226 govern a field: rack time has not arrived and its STAMP was taken before the start? -/
def State.prestart (s : State) (n : Nat) : Bool := !s.bd.on pAGE F.AGE_STAT.RT_APPLIED && !(s.field n).sinceStart

/-- Is the bin forced (R227)? -/
def Board.binForced (b : Board) : Bool := decide (b.unit pAGE = stTEST) && b.on pAGE F.AGE_CFG.FORCE_EN

/-- The sum of base bin and BIAS, limited to 0 to 7. -/
def State.biasedBin (s : State) (n : Nat) : Nat := (max 0 (min 7 ((s.fieldBin n : Int) + (s.field n).bias))).toNat

/-- The bin predicted for a field (R224, R226, R227). -/
def State.predicted (s : State) (n : Nat) : Nat :=
  if s.bd.binForced then s.bd.get pAGE F.AGE_CFG.FORCE_BIN
  else if s.prestart n then 7
  else max (s.bd.get pLOOP F.LOOP_BIN.MIN_BIN) (min (s.bd.get pLOOP F.LOOP_BIN.MAX_BIN) (s.biasedBin n))

/-- The prediction of a read: its bin, with AGE_BIN_HIST, AGE_PRESTART and a pin of loop 1 counted (R224, R226). -/
def State.predict (s : State) (ppa : Nat) : Nat × State :=
  let n := ppaField ppa
  let p := s.predicted n
  let free := !s.bd.binForced && !s.prestart n
  (p, s.on (fun b =>
    let b := b.count pAGE (F.AGE_BIN_HIST.COUNT.ix p) 1
    let b := if !s.bd.binForced && s.prestart n then b.count pAGE F.AGE_PRESTART.COUNT 1 else b
    if free ∧ p ≠ s.biasedBin n then b.pinLoop 1 p (s.biasedBin n) else b))

/-- The first `r` values of b + 1, b − 1, b + 2, b − 2, … that lie in 0 to 7 (R171). -/
def retryBins (b r : Nat) : List Nat :=
  (((List.range 7).flatMap (fun k => (if b + k + 1 ≤ 7 then [b + k + 1] else []) ++ (if k + 1 ≤ b then [b - k - 1] else []))).take r)

/-- A retry or reconstruction at a bin outside the LOOP limit counts as one override (R224); under R226 none is counted. -/
def State.offBound (s : State) (ppa bin : Nat) : State :=
  let lo := s.bd.get pLOOP F.LOOP_BIN.MIN_BIN
  let hi := s.bd.get pLOOP F.LOOP_BIN.MAX_BIN
  if s.prestart (ppaField ppa) ∨ (lo ≤ bin ∧ bin ≤ hi) then s
  else s.on (fun b => b.overrideLoop 1 ppa (if bin < lo then lo else hi) bin)

/-- The bin that decoded a read after bin retries moves BIAS (R225). -/
def State.learnBin (s : State) (ppa predicted bin : Nat) : State :=
  let n := ppaField ppa
  let f := s.field n
  if s.bd.binForced ∨ s.prestart n ∨ s.bd.get pAGE F.AGE_CFG.BIAS_EN = 0 ∨ bin = predicted then s
  else
    let d : Int := if predicted < bin then 1 else -1
    let v := max (-3) (min 3 (f.bias + d))
    let s := s.setField n { f with bias := v }
    s.on (fun b =>
      let b := if v = f.bias then b else b.count pAGE F.AGE_BIAS_CHG.COUNT 1
      if v ≠ f.bias ∧ (v = 3 ∨ v = -3) then b.raise pAGE (ev E.AGE.BIAS_LIMIT (ofSigned 3 v) n 0 0) else b)

/-- A page joins the suspect queue (R237). -/
def State.suspect (s : State) (ppa : Nat) : State :=
  if ppa ∈ s.age.suspects then s
  else if s.age.suspects.length < 4096 then { s with age := { s.age with suspects := s.age.suspects ++ [ppa] } }
  else s.on (fun b => (b.count pPTL F.PTL_SUSP_DROP.COUNT 1).raise pPTL (ev E.PTL.SUSPECT_DROP 0 ppa 0 0))

end Sys2Proof.Machine
end

