-- ==== Sys2Proof/Machine/Cache.lean ====
section
/-! DEFINITION. The home's store: lines and words, key slots in use, the journal queue, HBM locations and parity (R91 to R96, R110 to R112), the loss of
a pseudo-channel or a stack (R114 to R118), frames and their victims (R100), dirty lines (R105, R188, R189) and POISON slots (R292). -/

namespace Sys2Proof.Machine

/-! ### Lines and words -/

/-- Byte enables of a whole line. -/
def allBytes : Nat := 2 ^ 64 - 1

/-- The bits of the bytes that a 64-bit mask enables. -/
def byteMask (m : Nat) : Line :=
  (List.range 64).foldl (fun l i => if nbit m i then l ||| ((255 : Line) <<< (8 * i)) else l) 0

/-- `old` with the enabled bytes of `data` (R252). -/
def mergeLine (old data : Line) (m : Nat) : Line :=
  if m % 2 ^ 64 = allBytes then data else (old &&& ~~~(byteMask m)) ||| (data &&& byteMask m)

/-- The 16 B word `w` of a line. -/
def lineWord (l : Line) (w : Nat) : Nat := (l.toNat >>> (128 * w)) % 2 ^ 128

/-- A 16 B word as the data and byte enables of a write. -/
def wordWrite (w v : Nat) : Line × Nat := (BitVec.ofNat 512 (v <<< (128 * w)), (2 ^ 16 - 1) <<< (16 * w))

/-- What a poisoned response carries (R72). -/
def poisonLine : Line := BitVec.allOnes 512

/-! ### Key slots (R275, R283, R289) -/

/-- An EMPTY slot. -/
def keySlotDefault : Nat → KeySlot := fun _ => ⟨0, 0, 0, false, false, 0⟩

/-- Key slot `k`. -/
def State.keySlot (s : State) (k : Nat) : KeySlot := smGet keySlotDefault s.keys.slots k

/-- Replaces a key slot. -/
def State.setKeySlot (s : State) (k : Nat) (v : KeySlot) : State :=
  { s with keys := { s.keys with slots := smSet keySlotDefault k v s.keys.slots } }

/-- Does a slot hold a usable seed: neither EMPTY nor CLEARING (R283)? -/
def State.keyUsable (s : State) (k : Nat) : Bool := decide ((s.keySlot k).st ≠ 0) && decide ((s.keySlot k).st ≠ 5)

/-- The live versions of a slot, newest first (Table 10-1). -/
def KeySlot.live (v : KeySlot) : List Nat :=
  match v.st with
  | 1 | 2 => [v.ver]
  | 3 | 4 => [v.ver, v.ver - 1]
  | _ => []

/-- LXT.KEY of the local extent of a page. -/
def State.homeKey (s : State) (page : Nat) : Nat := (s.lxt (page / 2 ^ 16)).key

/-! ### The journal (R211) -/

/-- Queues a journal record with the next JSN. -/
def State.journal (s : State) (type index value flags : Nat) : State :=
  { s with wp := { s.wp with jrec := s.wp.jrec ++ [⟨s.wp.jsn, type, index, value, flags⟩], jsn := s.wp.jsn + 1 } }

/-- A map segment or patch-index object has changed since its capture: it keeps the JSN and LOG_SEQ of the first change (R209). -/
def State.dirtyObject (s : State) (n : Nat) : State :=
  if (smFind n s.wp.dirtyObjs).isSome then s else { s with wp := { s.wp with dirtyObjs := smPut n s.wp.jsn s.wp.dirtyObjs } }

/-- A MAP_SET record clears the clean mark of CKP_ROOT (R216). -/
def State.clearMark (s : State) : State := if s.wp.cleanMark then ({ s with wp := { s.wp with cleanMark := false } }).storeRoot else s

/-- A map change that MAP_SET records (R196, R211). -/
def State.mapSet (s : State) (page : Nat) (e : MapEntry) (genChanged : Bool) : State :=
  (((s.setMap page e).dirtyObject (page / 2 ^ 17)).journal 1 page e.word (bit genChanged)).clearMark

/-! ### Where lines lie in HBM (R91 to R93, R97) -/

/-- Line index in its stack of line `n` of a frame. -/
def frameIndex (idx n : Nat) : Nat := (24 * 2 ^ 30 + idx % 16 / 4 * 2 ^ 33 + idx / 16 * 4096) / 64 + n

/-- Line index in its stack of a mirror slot: data slots lie ahead of the header slot of their block (log entry 29). -/
def slotIndex (n : Nat) : Nat := 20 * 2 ^ 30 / 64 + n % slotsPerStack / 7 * 8 + n % slotsPerStack % 7

/-- The stack of a mirror slot. -/
def slotStack (n : Nat) : Nat := n / slotsPerStack

/-- The stacks that hold block `b` of a mirrored structure (R92). -/
def blockStacks (b : Nat) : List Nat := [b % 2, b % 2 + 2]

/-- Line index, in each stack of its pair, of line `n` of block `b` of a structure that begins at `base` GiB. -/
def blockIndex (base b n : Nat) : Nat := (base * 2 ^ 30 + b / 2 * 4096) / 64 + n

/-- Keys of the corruption that a flip has stored (R112). -/
def frameCell (idx n : Nat) : Nat := 2 ^ 40 + idx * 64 + n
def slotCell (n : Nat) : Nat := 2 ^ 41 + n
def blockCell (stack index : Nat) : Nat := 2 ^ 42 + stack * 2 ^ 32 + index
def windowCell (l : Nat) : Nat := 2 ^ 43 + l

/-- The pseudo-channel of a line index (R93). -/
def indexPc (i : Nat) : Nat := i / 64 % 32

/-- A line write to a stack: an armed flip whose region matches corrupts its parity, once; any other write stores good parity (R112). -/
def State.wrote (s : State) (stack region index cell : Nat) : State :=
  let page := pFCC stack
  let target := s.bd.get page F.FCC_FLIP_CTL.TARGET
  if s.bd.on page F.FCC_FLIP_CTL.ARM ∧ (target = 0 ∨ target = region) then
    let mask := s.bd.get64 page F.FCC_FLIP_LO.MASK F.FCC_FLIP_HI.MASK
    ({ s with cache := { s.cache with corrupt := smPut cell mask s.cache.corrupt } }).on (fun b =>
      (b.put page F.FCC_FLIP_CTL.ARM 0).raise page (ev E.FCC.FLIP_APPLIED target index 0 0))
  else { s with cache := { s.cache with corrupt := smDel cell s.cache.corrupt } }

/-- A write to line `n` of block `b` of a mirrored structure: both copies. -/
def State.wroteBlock (s : State) (base b n : Nat) : State :=
  (blockStacks b).foldl (fun s k => s.wrote k 3 (blockIndex base b n) (blockCell k (blockIndex base b n))) s

/-- Parity bits that a stored line fails. -/
def State.corruptMask (s : State) (cell : Nat) : Nat := smGet (fun _ => 0) s.cache.corrupt cell

/-! ### Folds asked for -/

/-- A fold of a page is wanted for a cause of Table 07-2; a cause that already waits is not added again (R194). -/
def State.wantFold (s : State) (page cause : Nat) : State :=
  if s.wp.foldWait.any (fun w => decide (w.1 = page)) then s
  else { s with wp := { s.wp with foldWait := s.wp.foldWait ++ [(page, cause)] } }

/-- Dirty lines of a page that lie outside its frame: staged while the cache is disabled, or left in their mirror slots by a lost frame (R115, R123). -/
def State.stagedOf (s : State) (page : Nat) : List (Nat × LineSt) := s.cache.staged.filter (fun (e : Nat × LineSt) => decide (e.1 / 64 = page))

/-- Writes back the dirty lines of a page: dense lines by a fold with cause DENSE, patches with the next PATCH stripe (R190, R191). -/
def State.writeBack (s : State) (page : Nat) : State :=
  let lines := (match s.frameOf page with | some (_, f) => f.lines | none => []) ++ s.stagedOf page
  let s := if lines.any (fun (e : Nat × LineSt) => e.2.dirty && !e.2.patched) then s.wantFold page 1 else s
  if lines.any (fun (e : Nat × LineSt) => e.2.dirty && e.2.patched) then { s with wp := { s.wp with flushPatch := true } } else s

/-- Dirty lines of a page, in its frame or outside. -/
def State.pageDirty (s : State) (page : Nat) : Nat :=
  (match s.frameOf page with | some (_, f) => f.dirtyLines.length | none => 0) + (s.stagedOf page).length

/-! ### Loss of a pseudo-channel or a stack (R114 to R118) -/

/-- The VWN unit and LOST_FRAMES follow the lost frame groups that have no replacement (R131). -/
def State.followWindow (s : State) : State :=
  let n := (s.cache.lost.filter (fun g => (smFind g s.cache.remap).isNone)).length
  s.on (fun b => (b.put pVWN F.VWN_STAT.LOST_FRAMES (n * 65536)).serviceLevel pVWN (decide (0 < n)))

/-- FCM is DEGRADED while any FCC is DEGRADED or CONTAINED. -/
def State.followFcm (s : State) : State :=
  let bad := (List.range 4).any (fun k => decide (s.bd.unit (pFCC k) = stDEGRADED) || decide (s.bd.unit (pFCC k) = stCONTAINED))
  (s.on (fun b => b.serviceLevel pFCM bad)).followLimit

/-- A frame of a failed place: clean lines are dropped; dirty lines stay in their mirror slots and leave ahead of all others (R115, R116). -/
def State.loseFrame (s : State) (i : Nat) : State :=
  match smFind i s.cache.frames with
  | none => s
  | some f =>
    let dirty := f.lines.filter (fun (e : Nat × LineSt) => e.2.dirty)
    let s := s.dropFrame i
    let held := dirty.foldl (fun m (e : Nat × LineSt) => smPut (f.page * 64 + e.1) e.2 m) s.cache.staged
    let s := { s with cache := { s.cache with staged := held } }
    s.writeBack f.page

/-- Frames of the window that lie in a failed place are lost: groups way × 32 + pseudo-channel. -/
def State.loseWindow (s : State) (stack : Nat) (groups : List Nat) : State :=
  let mine := groups.filter (fun g => decide (12 - s.bd.windowWays ≤ g / 32) && decide (g ∉ s.cache.lost))
  let moved := s.cache.remap.filter (fun (e : Nat × Nat) => decide (e.2 * 32 + e.1 % 32 ∈ groups))
  let n := mine.length + moved.length
  if n = 0 then s
  else
    let s := { s with cache := { s.cache with
      lost := mine.foldl (fun l g => nsInsert g l) s.cache.lost
      remap := moved.foldl (fun m (e : Nat × Nat) => smDel e.1 m) s.cache.remap
      window := s.cache.window.filter (fun (e : Nat × Line) =>
        decide (((11 - e.1 / 64 / 2 ^ 21) * 32 + e.1 / 64 % 32) ∉ mine)) } }
    (s.on (fun b => b.raise pVWN (ev E.VWN.FRAMES_LOST stack (n * 65536) 0 0))).followWindow

/-- Moves the mirror data of slots that a failed place held: each line takes another slot of `to`, or is written back first where there is none. -/
def State.remirror (s : State) (slots : List Nat) (tgt : Nat → Nat) : State :=
  slots.foldl (fun s n =>
    match smFind n s.cache.slots with
    | none => s
    | some (page, line, key, way) =>
      let s0 := s.freeMirrorSlot n
      let swap := fun (l : LineSt) (m : Nat) => if l.slot = n then { l with slot := m } else if l.slot2 = n + 1 then { l with slot2 := m + 1 } else l
      match s0.takeSlot (tgt page) page line key way with
      | none => s.writeBack page
      | some (m, s1) =>
        let s1 := match s1.frameOf page with
          | some (i, f) => s1.setFrame i { f with lines := f.lines.map (fun (e : Nat × LineSt) => (e.1, if e.1 = line then swap e.2 m else e.2)) }
          | none => s1
        let s1 := { s1 with cache := { s1.cache with
          staged := s1.cache.staged.map (fun (e : Nat × LineSt) => (e.1, if e.1 = page * 64 + line then swap e.2 m else e.2)) } }
        let s1 := match s1.slotOf (page * 64 + line) with
          | some x => if x.staged ∧ x.loc = n then (s1.putSlot (page * 64 + line) true false m 0 x.pseq).getD s1 else s1
          | none => s1
        { s1 with wp := { s1.wp with patches := s1.wp.patches.map (fun p => if p.slot = n ∧ !p.poison then { p with slot := m } else p) } }) s

/-- A stack has failed (R116): condition 0 PHY lock, 1 pseudo-channel count. -/
def State.stackFail (s : State) (k cond : Nat) : State :=
  if s.bd.stackLost k then s
  else
    let partner := Nat.xor k 2
    let fatal := decide (s.seq.stage ≠ 0) && (s.bd.stackLost partner || decide (s.bd.get (pFCC partner) F.FCC_PC_FAIL.PC_FAIL ≠ 0))
    let dirty := s.dirty
    let s := s.on (fun b =>
      let b := (b.put (pFCC k) F.FCC_CAUSE.STACK_LOST 1).contain (pFCC k)
      let b := (b.put (pFCC partner) F.FCC_CAUSE.PARTNER_LOSS 1).serviceLevel (pFCC partner) true
      let wait := b.openVal
      let b := b.useOpen
      let b := b.raise (pFCC k) (ev E.FCC.STACK_LOST (if cond = 0 then 1 else 2) (b.get (pFCC k) F.FCC_PC_FAIL.PC_FAIL) dirty wait)
      let b := b.logFault (pFCC k) E.FCC.STACK_LOST (if fatal then 12 else 2) wait (b.get (pFCC k) F.FCC_PC_FAIL.PC_FAIL) fatal
      if fatal then { b with fatal := some (pFCC k, E.FCC.STACK_LOST, 12) } else b)
    let mine := (s.cache.frames.filter (fun (e : Nat × Frame) => decide (e.1 % 16 % 4 = k))).map Prod.fst
    let s := mine.foldl State.loseFrame s
    let s := s.loseWindow k ((List.range 3).flatMap (fun q => (List.range 32).map (fun p => (4 * q + k) * 32 + p)))
    let held := (s.cache.slots.filter (fun (e : Nat × Nat × Nat × Nat × Nat) => decide (slotStack e.1 = k))).map Prod.fst
    let s := s.remirror held (fun page => if setOf page % 2 = 0 then min (Nat.xor k 1) (Nat.xor k 3) else max (Nat.xor k 1) (Nat.xor k 3))
    s.followFcm

/-- A pseudo-channel has failed (R114, R115). Four in 10 µs fail the stack. -/
def State.pcFail (s : State) (k p : Nat) (timeout : Bool) : State :=
  if s.bd.pcLost k p then s
  else
    let partner := Nat.xor k 2
    let fatal := decide (s.seq.stage ≠ 0) && (s.bd.stackLost partner || decide (s.bd.get (pFCC partner) F.FCC_PC_FAIL.PC_FAIL ≠ 0))
    let dirty := s.dirty
    let s := s.on (fun b =>
      let b := b.put (pFCC k) F.FCC_PC_FAIL.PC_FAIL (nsetbit (b.get (pFCC k) F.FCC_PC_FAIL.PC_FAIL) p true)
      let b := ((b.put (pFCC k) F.FCC_CAUSE.PC_LOST 1).followCauses (pFCC k)).serviceLevel (pFCC k) true
      let b := (b.put (pFCC partner) F.FCC_CAUSE.PARTNER_LOSS 1).serviceLevel (pFCC partner) true
      let wait := b.openVal
      let b := b.useOpen
      let b := b.raise (pFCC k) (ev E.FCC.PC_LOST (p + bit timeout * 32 + bit (!timeout) * 64) (b.get (pFCC k) F.FCC_PC_FAIL.PC_FAIL) dirty wait)
      let b := b.logFault (pFCC k) E.FCC.PC_LOST (if fatal then 12 else 1) wait (b.get (pFCC k) F.FCC_PC_FAIL.PC_FAIL) fatal
      if fatal then { b with fatal := some (pFCC k, E.FCC.PC_LOST, 12) } else b)
    let s := { s with cache := { s.cache with failures := (s.cache.failures.filter (fun (e : Nat × Nat) => decide (s.bd.now < e.2 + 10))) ++ [(k, s.bd.now)] } }
    if 4 ≤ (s.cache.failures.filter (fun (e : Nat × Nat) => decide (e.1 = k))).length then s.stackFail k 1
    else
      let mine := (s.cache.frames.filter (fun (e : Nat × Frame) => decide (e.1 % 16 % 4 = k) && decide (e.1 / 16 % 32 = p))).map Prod.fst
      let s := mine.foldl State.loseFrame s
      let s := s.loseWindow k ((List.range 3).map (fun q => (4 * q + k) * 32 + p))
      let held := (s.cache.slots.filter (fun (e : Nat × Nat × Nat × Nat × Nat) => decide (slotStack e.1 = k) && decide (slotPc (e.1 % slotsPerStack) = p))).map Prod.fst
      (s.remirror held (fun _ => k)).followFcm

/-! ### Parity errors (R110) -/

/-- One parity error of a line of a stack: its count and event; the eighth distinct block of a pseudo-channel in 1 ms fails it (R114). -/
def State.parityError (s : State) (k region index mask : Nat) (corrected : Bool) : State :=
  let page := pFCC k
  let s := s.on (fun b =>
    if corrected then
      (b.count page F.FCC_PAR_CORR.COUNT 1).raise page (ev E.FCC.PAR_CORRECTED (indexPc index + region * 32) index mask (mask / 2 ^ 32))
    else
      (b.count page F.FCC_PAR_UNCORR.COUNT 1).raise page (ev E.FCC.PAR_UNCORRECTED (indexPc index + region * 32) index mask (mask / 2 ^ 32)))
  let block := k * 2 ^ 24 + index / 64
  let recent := (s.cache.parity.filter (fun (e : Nat × Nat) => decide (s.bd.now < e.2 + 1000) && decide (e.1 ≠ block))) ++ [(block, s.bd.now)]
  let s := { s with cache := { s.cache with parity := recent } }
  if 8 ≤ (recent.filter (fun (e : Nat × Nat) => decide (e.1 / 2 ^ 24 = k) && decide (e.1 % 32 = indexPc index))).length then s.pcFail k (indexPc index) false
  else s

/-- A read of block `b` of a mirrored structure (R92, R110): `bad` are the parity bits that the environment adds in the first and the second
copy. Answers whether a copy verifies. A copy that fails while the other verifies is corrected and written again. -/
def State.readBlock (s : State) (base b n bad0 bad1 : Nat) : Bool × State :=
  let index := blockIndex base b n
  let sts := blockStacks b
  let k0 := sts.getD 0 0
  let k1 := sts.getD 1 0
  let lost := fun k => s.bd.pcLost k (indexPc index)
  let m0 := bad0 ||| s.corruptMask (blockCell k0 index)
  let m1 := bad1 ||| s.corruptMask (blockCell k1 index)
  let fix := fun (s : State) (k m : Nat) =>
    ({ s with cache := { s.cache with corrupt := smDel (blockCell k index) s.cache.corrupt } }).parityError k 3 index m true
  if lost k0 then (if m1 = 0 ∧ lost k1 = false then (true, s) else (false, if lost k1 then s else s.parityError k1 3 index m1 false))
  else if lost k1 then (if m0 = 0 then (true, s) else (false, s.parityError k0 3 index m0 false))
  else if m0 = 0 ∧ m1 = 0 then (true, s)
  else if m1 = 0 then (true, fix s k0 m0)
  else if m0 = 0 then (true, s)
  else (false, (s.parityError k0 3 index m0 false).parityError k1 3 index m1 false)

/-! ### Frames (R97, R100) -/

/-- The recency of frame candidates: the least recently used clean frame of a set among ways `ws`. -/
def State.cleanVictim (s : State) (t : Nat) (ws : List Nat) : Option Nat :=
  let held := ws.filterMap (fun w => (smFind (t * 16 + w) s.cache.frames).bind (fun f => if f.dirtyLines = [] then some (f.used, t * 16 + w) else none))
  (held.foldl (fun (m : Option (Nat × Nat)) e => match m with | none => some e | some x => if e.1 < x.1 then some e else some x) none).map Prod.snd

/-- The least recently used frame of a set among ways `ws`. -/
def State.lruFrame (s : State) (t : Nat) (ws : List Nat) : Option (Nat × Frame) :=
  let held := ws.filterMap (fun w => (smFind (t * 16 + w) s.cache.frames).map (fun f => (t * 16 + w, f)))
  held.foldl (fun (m : Option (Nat × Frame)) e => match m with | none => some e | some x => if e.2.used < x.2.used then some e else some x) none

/-- A frame for a page under a key: the page's own, or one allocated under R100. None when every candidate holds a dirty line. -/
def State.takeFrame (s : State) (page key : Nat) : Option (Nat × State) :=
  match s.frameOf page with
  | some (i, _) => some (i, s)
  | none =>
    let t := setOf page
    let ws := (List.range 12).filter (s.cacheFrame t)
    let i? := match ws.find? (fun w => (smFind (t * 16 + w) s.cache.frames).isNone) with
      | some w => some (t * 16 + w)
      | none => s.cleanVictim t ws
    i?.map (fun i => (i, s.setFrame i ⟨page, key, [], 0⟩))

/-- A request among those counted in FCM_WB_STALL: its ordering identifier and number. -/
def Req.mark (r : Req) : Nat := r.oid + 2 ^ 16 * r.id

/-- A request waits for a frame (R100): counted once, and the least recently used frame of the set is written back. -/
def State.stall (s : State) (id page : Nat) : State :=
  let s := if id ∈ s.home.stalled then s
    else ({ s with home := { s.home with stalled := nsInsert id s.home.stalled } }).on (fun b => b.count pFCM F.FCM_WB_STALL.COUNT 1)
  let t := setOf page
  match s.lruFrame t ((List.range 12).filter (s.cacheFrame t)) with
  | some (_, f) => s.writeBack f.page
  | none => s

/-! ### Patch-index load (R188, R203) -/

/-- LOAD_HIGH and LOAD_FULL are raised when PTX_LIVE passes the threshold or reaches its limit. -/
def State.loadMoved (s : State) (before : Nat) : State :=
  let after := s.live
  let mark := 2 ^ 30 * s.bd.get pPTX F.PTX_LOAD_CFG.LOAD_HIGH / 100
  let s := if before ≤ mark ∧ mark < after then s.on (fun b => b.raise pPTX (ev E.PTX.LOAD_HIGH 0 after 0 0)) else s
  if before < 805306368 ∧ 805306368 ≤ after then s.on (fun b => b.raise pPTX (ev E.PTX.LOAD_FULL 0 after 0 0)) else s

/-- A line of a page that a write has reached: a ZERO page is allocated, with no base page yet (R55, log entry 16). -/
def State.allocatePage (s : State) (page : Nat) : State :=
  let e := s.mapEntry page
  if e.zero then s.setMap page { e with zero := false, fresh := true } else s

/-! ### Writes that have become persistent (R263) -/

/-- Is a write held by every copy that it goes to? -/
def Wr.ticketed (w : Wr) : Bool := w.tick1 && (w.tick2 || !w.req.mirror)

/-- Is a write persistent on every copy that holds it? -/
def Wr.persistent (w : Wr) : Bool :=
  if w.res = 1 then w.durable1 || w.durable2 else w.durable1 && (w.durable2 || !w.req.mirror)

/-- Changes the record of write `id` of head `h`; a record that nothing waits for is dropped. -/
def State.onWrite (s : State) (h id : Nat) (f : Wr → Wr) : State :=
  s.onHead h (fun d => { d with writes :=
    (d.writes.map (fun w => if w.req.id = id then f w else w)).filter (fun w => w.inBuf || !(w.res = 2 || w.persistent)) })

/-- A COND_WRITE of head `h` has ended (R273): one that was written is from now on a ticketed write of the head that becomes persistent as any other; one that was not
leaves nothing behind. -/
def State.condEnded (s : State) (h id result : Nat) : State :=
  if result ≤ 1 then s.onWrite h id (fun w => if w.req.ask = .cond then { w with req := { w.req with ask := .write }, tick1 := true, tick2 := true, inBuf := false, held := false, res := result } else w)
  else s.onHead h (fun d => { d with writes := d.writes.filter (fun w => !(decide (w.req.id = id) && decide (w.req.ask = .cond))) })

/-- A write of a copy channel of this part is persistent on a copy: bit 0 of what it wants stands for the primary copy, bit 1 for the mirror (R263, R442). -/
def State.copyDurable (s : State) (oid id copy : Nat) : State :=
  { s with copy := { s.copy with chans := s.copy.chans.map (fun (c : Nat × CopyChan) =>
    if (oidClass oid = 1 ∧ c.1 = oidInst oid) ∨ (oidClass oid = 2 ∧ c.1 = 32 + oidInst oid) then
      (c.1, { c.2 with undurable := (c.2.undurable.map (fun (u : Nat × Nat × Nat × Nat) =>
        if u.1 % 2 ^ 16 = id % 2 ^ 16 then (u.1, u.2.1, nsetbit u.2.2.1 copy false, u.2.2.2) else u)).filter (fun u => u.2.2.1 % 4 ≠ 0) })
    else c) } }

/-- Reports writes as persistent to the parts that sent them: `copy` of the line. -/
def State.durable (s : State) (ws : List (Nat × Nat)) (copy : Nat) (lln : Nat) : State :=
  ws.foldl (fun s (w : Nat × Nat) =>
    if oidClass w.1 = 0 then
      if oidShelf w.1 = s.bd.selfId then
        s.onWrite (oidInst w.1) w.2 (fun x => if copy = 0 then { x with durable1 := true } else { x with durable2 := true })
      else s.send 0x15 (oidShelf w.1) [w.1, w.2, copy, lln] none
    else if oidShelf w.1 = s.bd.selfId then s.copyDurable w.1 w.2 copy
    else s.send 0x15 (oidShelf w.1) [w.1, w.2, copy, lln] none) s

/-- The copy role of a local line. -/
def State.roleOf (s : State) (lln : Nat) : Nat := (s.lxt (lln / 2 ^ 22)).role

/-! ### Dirty lines (R98, R105, R188, R189) -/

/-- Is line `lln` held dirty outside a frame? -/
def State.stagedLine (s : State) (lln : Nat) : Option LineSt := smFind lln s.cache.staged

/-- A mirror slot, or, while the cache is disabled, a slot on each stack of the pair, for a line of a page (R105, R123). -/
def State.takeMirror (s : State) (i page n key : Nat) : Option (Nat × Nat × State) :=
  if s.bd.cacheOn then
    (s.takeSlot (s.bd.mirrorStack (i / 16) (i % 16)) page n key (i % 16)).map (fun (x : Nat × State) => (x.1, 0, x.2))
  else
    let k := setOf page % 4
    match s.takeSlot k page n key 0 with
    | none => none
    | some (a, s) => (s.takeSlot (Nat.xor k 2) page n key 0).map (fun (x : Nat × State) => (a, x.1 + 1, x.2))

/-- The parity of what a write to a dirty line stores: the frame line, its mirror slots and the cache metadata of the set. -/
def State.wroteLine (s : State) (i page n slot slot2 : Nat) : State :=
  let s := if s.bd.cacheOn then s.wrote (i % 16 % 4) 1 (frameIndex i n) (frameCell i n) else s
  let s := s.wrote (slotStack slot) 2 (slotIndex slot) (slotCell slot)
  let s := if slot2 = 0 then s else s.wrote (slotStack (slot2 - 1)) 2 (slotIndex (slot2 - 1)) (slotCell (slot2 - 1))
  s.wroteBlock 16 (setOf page / 64) (setOf page % 64)

/-- How a dirty line is held: dense or as a staged patch under R188, with the patch index, the staged patches and the folds that follow. The slot, the age and
the earlier state of the line are given. -/
def State.placeDirty (s : State) (hasDense : Bool) (old : Option LineSt) (lln slot key : Nat) : Bool × State :=
  let page := lln / 64
  let cur := s.slotOf lln
  let live := s.live
  let s := match cur with
    | some x => if x.poison then s.on (fun b => b.count pCRY F.CRY_POISON_CLEAR.COUNT 1) else s
    | none => s
  let waiting : Bool := match old with | some l => l.dirty && l.patched && !l.packed | none => false
  let next := match cur with
    | none => 1
    | some x => if x.staged ∧ waiting then x.pseq else x.pseq + 1
  let dense := hasDense || decide (805306368 ≤ live) || decide (16777216 ≤ s.bd.get pPTX F.PTX_LOG_USED.PAGES) || decide (1023 < next) || !s.bd.cacheOn
  let drop := fun (s : State) =>
    { s with wp := { s.wp with patches := s.wp.patches.filter (fun p => p.lln ≠ lln) } }
  let asDense := fun (s : State) =>
    let s := drop s
    match cur with
    | some x => if x.staged ∨ x.poison then (s.freeSlot lln).refreshPatched page else s
    | none => s
  if dense then
    let s := asDense s
    (false, if 1023 < next then s.wantFold page 2 else s)
  else
    match s.putSlot lln true false slot 0 next with
    | none => (false, (asDense s).wantFold page 3)
    | some s =>
      let e := s.mapEntry page
      let s := if e.patched then s else s.setMap page { e with patched := true }
      let s := (s.dirtyObject (24576 + ptxBucket lln / 2 ^ 14)).wroteBlock 12 (ptxBucket lln / 64) (ptxBucket lln % 64)
      let s := s.loadMoved live
      if waiting then (true, s)
      else
        let s := drop s
        (true, { s with wp := { s.wp with patches := s.wp.patches ++ [⟨lln, slot, next, e.gen, key, false, s.bd.now, []⟩] } })

/-- The frame of a page becomes dense: every staged patch that is not packed becomes a dense line (R189). -/
def State.densify (s : State) (i : Nat) : State :=
  match smFind i s.cache.frames with
  | none => s
  | some f =>
    let turn := (f.lines.filter (fun (e : Nat × LineSt) => e.2.dirty && e.2.patched && !e.2.packed)).map Prod.fst
    let s := s.setFrame i { f with lines := f.lines.map (fun (e : Nat × LineSt) => (e.1, if e.1 ∈ turn then { e.2 with patched := false } else e.2)) }
    let s := turn.foldl (fun s n => s.freeSlot (f.page * 64 + n)) s
    ({ s with wp := { s.wp with patches := s.wp.patches.filter (fun p => !(decide (p.lln / 64 = f.page) && decide (p.lln % 64 ∈ turn) && !p.poison)) } }).refreshPatched f.page

/-- A line of a page has been written since a running fold captured it (R197). -/
def State.noteWrite (s : State) (lln : Nat) : State :=
  { s with wp := { s.wp with folds := s.wp.folds.map (fun (f : Fold) => if f.page = lln / 64 then { f with rewritten := nsInsert (lln % 64) f.rewritten } else f) } }

/-- A line becomes dirty at the home with the data given (R105): none when it needs a mirror slot and none is free. -/
def State.dirtyLine (s : State) (page n key : Nat) (data : Line) (writers : List (Nat × Nat)) : Option State :=
  let lln := page * 64 + n
  let s := s.noteWrite lln
  if s.bd.cacheOn then
    match s.frameOf page with
    | none => none
    | some (i, f) =>
      let orphan := s.stagedLine lln
      let old := smFind n f.lines
      let room := match old with
        | some l => if l.dirty then some (l.slot, l.slot2, s) else s.takeMirror i page n key
        | none => s.takeMirror i page n key
      room.map (fun (x : Nat × Nat × State) =>
        let s := x.2.2.allocatePage page
        let s := match orphan with
          | some l => ({ s with cache := { s.cache with staged := smDel lln s.cache.staged } }).freeMirrorSlot l.slot
          | none => s
        let prev := old.or orphan
        let was := match old with | some l => if l.dirty then some l else orphan | none => orphan
        let (patched, s) := s.placeDirty f.hasDense was lln x.1 key
        let since := match was with | some l => l.since | none => s.bd.now
        let ws := (match prev with | some l => l.writers | none => []) ++ writers
        let f' := (smFind i s.cache.frames).getD f
        let s := s.setFrame i { f' with lines := smPut n ⟨data, true, patched, false, x.1, x.2.1, since, false, ws⟩ f'.lines }
        let s := (s.wroteLine i page n x.1 x.2.1).touch i
        let f'' := (smFind i s.cache.frames).getD f'
        let s := if s.bd.get pPTX F.PTX_FOLD_CFG.DENSE_LINES ≤ f''.dirtyLines.length then s.densify i else s
        let s := if f''.dirtyLines.length = 64 then s.wantFold page 1 else s
        s.followLimit)
  else
    let old := s.stagedLine lln
    let room := match old with
      | some l => some (l.slot, l.slot2, s)
      | none => s.takeMirror 0 page n key
    room.map (fun (x : Nat × Nat × State) =>
      let s := x.2.2.allocatePage page
      let (_, s) := s.placeDirty true old lln x.1 key
      let since := match old with | some l => l.since | none => s.bd.now
      let ws := (match old with | some l => l.writers | none => []) ++ writers
      let s := { s with cache := { s.cache with staged := smPut lln ⟨data, true, false, false, x.1, x.2.1, since, false, ws⟩ s.cache.staged } }
      let s := s.wroteLine 0 page n x.1 x.2.1
      let s := if 64 ≤ (s.stagedOf page).length then s.wantFold page 1 else s
      s.followLimit)

/-- A dirty line leaves: its bits change as given, its mirror slots are freed and its writes are persistent. -/
def State.cleanLine (s : State) (lln : Nat) (patched : Bool) : State :=
  let page := lln / 64
  let n := lln % 64
  let finish := fun (s : State) (l : LineSt) =>
    let s := s.freeMirrorSlot l.slot
    let s := if l.slot2 = 0 then s else s.freeMirrorSlot (l.slot2 - 1)
    (s.durable l.writers (s.roleOf lln) lln).followLimit
  match s.stagedLine lln with
  | some l => finish { s with cache := { s.cache with staged := smDel lln s.cache.staged } } l
  | none =>
    match s.frameOf page with
    | none => s
    | some (i, f) =>
      match smFind n f.lines with
      | none => s
      | some l =>
        if !l.dirty then s
        else finish (s.setFrame i { f with lines := smPut n { l with dirty := false, patched := patched, packed := false, writers := [] } f.lines }) l

/-- A line is dropped from the home whatever it held: VALID clears and its mirror slots are freed; answers the writes that had not become persistent. -/
def State.dropLine (s : State) (lln : Nat) : List (Nat × Nat) × State :=
  let free := fun (s : State) (l : LineSt) =>
    if l.dirty then
      let s := s.freeMirrorSlot l.slot
      if l.slot2 = 0 then s else s.freeMirrorSlot (l.slot2 - 1)
    else s
  let (w1, s) := match s.stagedLine lln with
    | some l => (l.writers, free { s with cache := { s.cache with staged := smDel lln s.cache.staged } } l)
    | none => ([], s)
  match s.frameOf (lln / 64) with
  | none => (w1, s.followLimit)
  | some (i, f) =>
    match smFind (lln % 64) f.lines with
    | none => (w1, s.followLimit)
    | some l => (w1 ++ l.writers, (free (s.setFrame i { f with lines := smDel (lln % 64) f.lines }) l).followLimit)

/-! ### POISON slots (R292) -/

/-- Does a line read as poison: its page, its slot, or a slot that it waits for? -/
def State.poisoned (s : State) (lln : Nat) : Bool :=
  (s.mapEntry (lln / 64)).poison || (match s.slotOf lln with | some x => x.poison | none => false)
    || s.wp.poisonWait.any (fun p => decide (p.1 = lln))

/-- Queues the poison entry of a line for the next PATCH stripe. -/
def State.packPoison (s : State) (lln key : Nat) (ws : List (Nat × Nat)) : State :=
  { s with wp := { s.wp with
    patches := s.wp.patches.filter (fun p => p.lln ≠ lln)
      ++ [⟨lln, 0, 0, (s.mapEntry (lln / 64)).gen, key, true, s.bd.now, ws ++ (s.wp.patches.filter (fun p => p.lln = lln)).flatMap PatchRef.writers⟩] } }

/-- A line takes its POISON slot, when there is a place for one. -/
def State.insertPoison (s : State) (lln key : Nat) (ws : List (Nat × Nat)) : Option State :=
  let page := lln / 64
  let pseq := match s.slotOf lln with
    | none => 0
    | some x => if x.staged then x.pseq - 1 else x.pseq
  let live := s.live
  (s.putSlot lln false true 0 0 pseq).map (fun s =>
    let e := s.mapEntry page
    let s := if e.patched then s else s.setMap page { e with patched := true }
    ((s.dirtyObject (24576 + ptxBucket lln / 2 ^ 14)).packPoison lln key ws).loadMoved live)

/-- The places of the four buckets of a line. -/
def ptxPlaces (lln : Nat) : List Nat := (List.range 4).flatMap (fun j => (List.range 8).map (fun i => (ptxBucket lln + j) % 2 ^ 27 * 8 + i))

/-- The line that a slot at a place names. -/
def slotLine (place : Nat) (x : Slot) : Nat := ptxKey (place / 8) x.disp x.rem

/-- All 32 neighbours of a line are POISON: the page takes map POISON, its other slots are freed and its other lines are lost (R292). -/
def State.poisonPage (s : State) (page bucket : Nat) : State :=
  let s := (List.range 64).foldl (fun s n => (s.dropLine (page * 64 + n)).2.freeSlot (page * 64 + n)) s
  let s := { s with wp := { s.wp with
    patches := s.wp.patches.filter (fun p => p.lln / 64 ≠ page)
    poisonWait := s.wp.poisonWait.filter (fun p => decide (p.1 / 64 ≠ page)) } }
  let e := s.mapEntry page
  (s.mapSet page { e with ppa := 0, patched := false, zero := false, poison := true, fresh := false } false).on (fun b =>
    (b.count pCRY F.CRY_POISON_PAGE.COUNT 1).raiseCode pCRY .integrity (ev E.CRY.POISON_PAGE 0 page bucket 63))

/-- Places a POISON slot, folds the page of a programmed slot in the way, or poisons the page (R292). The programmed slot at the lowest place stands for the oldest
(log entry 30). -/
def State.placePoison (s : State) (lln key : Nat) (ws : List (Nat × Nat)) : State :=
  if (s.mapEntry (lln / 64)).poison then s
  else
    match s.insertPoison lln key ws with
    | some s => { s with wp := { s.wp with poisonWait := s.wp.poisonWait.filter (fun p => decide (p.1 ≠ lln)) } }
    | none =>
      let there := (ptxPlaces lln).filterMap (fun p => (s.slotAt p).map (fun x => (p, x)))
      if there.all (fun (e : Nat × Slot) => e.2.poison) then s.poisonPage (lln / 64) (ptxBucket lln)
      else
        let s := if s.wp.poisonWait.any (fun p => decide (p.1 = lln)) then s
          else { s with wp := { s.wp with poisonWait := s.wp.poisonWait ++ [(lln, key, ws)] } }
        match there.find? (fun (e : Nat × Slot) => !e.2.poison) with
        | some (p, x) => if x.staged then s.writeBack (slotLine p x / 64) else s.wantFold (slotLine p x / 64) 3
        | none => s

/-- A line is poisoned (R75, R291, R292): what the home held of it is dropped and it takes a POISON slot. With hold-up declared the write is persistent at once (R263). -/
def State.poisonLine (s : State) (lln key : Nat) (ws : List (Nat × Nat)) : State :=
  let (old, s) := (s.noteWrite lln).dropLine lln
  let s := s.allocatePage (lln / 64)
  let s := s.placePoison lln key (old ++ ws)
  let s := s.on (fun b => b.count pHLT F.HLT_LIFE_POISON.COUNT 1)
  if s.bd.declared then s.durable ws (s.roleOf lln) lln else s

end Sys2Proof.Machine
end

