-- ==== Sys2Proof/Machine/Home.lean ====
section
/-! DEFINITION. The home: answers and tickets (R72, R76, R257, R263, R322), reservations (R271 to R273), the volatile window (R126 to R131), writes at the home
(R105, R188, R291, R293, R323), holds, and reads at the home up to the start of a miss (R101, R171). -/

namespace Sys2Proof.Machine

/-! ### Answers -/

/-- The head of a request of this part. -/
def Req.head (r : Req) : Nat := oidInst r.oid

/-- Does a request come from this part? -/
def Board.isLocal (b : Board) (r : Req) : Bool := decide (oidShelf r.oid = b.selfId)

/-- A head's read is answered (R72, R76, R256): buffered bytes of the head lie over the data of the home. An abandoned read is not answered. -/
def State.hostAnswer (s : State) (h id : Nat) (line : Line) (poison : Bool) (c : MediaCause) : State :=
  match (s.head? h).bind (fun d => d.reads.find? (fun x => decide (x.req.id = id))) with
  | none => s
  | some x =>
    let bad := poison && decide (x.overMask ≠ allBytes)
    let s := if bad then s.poisonRecord h x.req.hpa c else s
    let s := s.say (.host h id (some (if bad then Sys2Proof.Machine.poisonLine else mergeLine line x.ovr x.overMask)) bad (s.devLoad h))
    s.onHead h (fun d => { d with reads := d.reads.filter (fun y => decide (y.req.id ≠ id)) })

/-- A reservation operation is answered: RESULT, the word, LOSS_CAUSE (R273). -/
def State.rsvAnswer (s : State) (r : Req) (result word loss : Nat) : State :=
  if s.bd.isLocal r then
    let s := if r.ask = .cond then s.condEnded (r.rsv / 4) r.id result else s
    s.onHead (r.rsv / 4) (fun d => { d with rsv := d.rsv.modify (r.rsv % 4) (fun v => if v.req = r.id then { v with ans := some (result, word, loss) } else v) })
  else s.send 0x16 (oidShelf r.oid) [r.oid, r.id, result, loss, word] none

/-- The home's reservation entry of a request: by slot of the shelf (R272). -/
def Req.rsvKey (r : Req) : Nat := oidShelf r.oid * 32 + r.rsv

/-- Drops the reservation of a slot. -/
def State.dropRsv (s : State) (k : Nat) : State := { s with home := { s.home with rsv := smDel k s.home.rsv } }

/-- Reservations on a line are lost for a cause (Table 09-5), but for the slot `keep`. -/
def State.breakRsv (s : State) (lln : Nat) (volatile : Bool) (cause : Nat) (keep : Option Nat) : State :=
  { s with home := { s.home with rsv := s.home.rsv.map (fun (e : Nat × HomeRsv) =>
    if e.2.lln = lln ∧ e.2.volatile = volatile ∧ e.2.lost = 0 ∧ some e.1 ≠ keep then (e.1, { e.2 with lost := cause }) else e) } }

/-- A read is answered with data or poison: to a head, to the ring (STATUS of Table 11-3), to a reservation slot, or inside the part. -/
def State.answerRead (s : State) (r : Req) (line : Line) (poison : Bool) (status : Nat) (c : MediaCause) : State :=
  if r.ask = .reserve then
    if poison then (s.dropRsv r.rsvKey).rsvAnswer r (if status = 2 then 5 else 4) 0 0
    else s.rsvAnswer r 0 (lineWord line r.word) 0
  else if r.ask = .hint then s
  else if !s.bd.isLocal r then s.send 0x10 (oidShelf r.oid) [r.oid, r.id, status] (some (if poison then Sys2Proof.Machine.poisonLine else line))
  else if oidClass r.oid = 0 then s.hostAnswer r.head r.id line poison c
  else { s with home := { s.home with answers := s.home.answers ++ [⟨r.oid, r.id, if poison ∧ status = 0 then 1 else status, line⟩] } }

/-- A write is ticketed on this copy (R257, R323): 0 OK, 2 STALE_OWNER, 3 SOLO. -/
def State.ticket (s : State) (r : Req) (status : Nat) : State :=
  let copy := r.role
  if !s.bd.isLocal r then s.send 0x11 (oidShelf r.oid) [r.oid, r.id, copy, status] none
  else if oidClass r.oid = 0 then
    if r.ask = .cond then s
    else s.onWrite r.head r.id (fun w =>
      let w := if copy = 0 then { w with tick1 := true } else { w with tick2 := true }
      let w := if status = 3 then { w with tick1 := true, tick2 := true, res := 1 } else w
      let w := if r.volatile then { w with durable1 := true, durable2 := true } else w
      { w with inBuf := w.held || !w.ticketed })
  else { s with home := { s.home with answers := s.home.answers ++ [⟨r.oid, r.id, status, 0⟩] } }

/-- A write that leaves nothing behind completes normally: ticketed, and with nothing to make persistent. -/
def State.discard (s : State) (r : Req) (status : Nat) : State := (s.ticket r status).durable [(r.oid, r.id)] r.role r.lln

/-- The writes that a line's persistence is reported to: those of heads and of copy channels. -/
def Req.writers (r : Req) : List (Nat × Nat) := if oidClass r.oid ≤ 2 then [(r.oid, r.id)] else []

/-- The home reports that it holds a write (R257). -/
def State.tellHold (s : State) (r : Req) : State :=
  if !s.bd.isLocal r then s.send 0x12 (oidShelf r.oid) [r.oid, r.id] none
  else if oidClass r.oid = 0 then s.onWrite r.head r.id (fun w => { w with held := true, inBuf := true })
  else s

/-- A write enters the hold list in its place in the line's order, and is ticketed (R257). -/
def State.hold (s : State) (r : Req) : State :=
  if s.home.holds.any (fun x => decide (x.oid = r.oid) && decide (x.id = r.id)) then s
  else (({ s with home := { s.home with holds := s.home.holds ++ [r] } }).tellHold r).ticket r 0

/-- A General Media record about a write, in the Failure log of its head where that head is of this part (R283, R291). -/
def State.writeRecord (s : State) (r : Req) (c : MediaCause) : State :=
  if s.bd.isLocal r ∧ oidClass r.oid = 0 then s.hostRecord r.head 2 0 r.hpa c.num 0 else s

/-- The head number that an event of CRY carries. -/
def Req.headBits (r : Req) : Nat := oidInst r.oid % 8

/-! ### The volatile window (R126 to R131) -/

/-- The frame group of a window page: way × 32 + pseudo-channel. -/
def windowGroup (v : Nat) : Nat := (11 - v / 2 ^ 21) * 32 + v % 2 ^ 21 % 32

/-- The way that serves a window page: its own, or its replacement (R131). -/
def State.windowWay (s : State) (v : Nat) : Nat := (smFind (windowGroup v) s.cache.remap).getD (11 - v / 2 ^ 21)

/-- Is the frame of a window page lost and not replaced? -/
def State.windowLost (s : State) (v : Nat) : Bool :=
  decide (windowGroup v ∈ s.cache.lost) && (smFind (windowGroup v) s.cache.remap).isNone

/-- Is the bitmap bypassed (R129)? -/
def Board.bypass (b : Board) : Bool := decide (b.unit pVWN = stTEST) || decide (b.unit pVWN = stINIT)

/-- Line index in its stack of a window line. -/
def State.windowIndex (s : State) (l : Nat) : Nat := frameIndex (l / 64 % 2 ^ 21 * 16 + s.windowWay (l / 64)) (l % 64)

/-- Stores a window line with its parity. -/
def State.putWindow (s : State) (l : Nat) (d : Line) : State :=
  let s := { s with cache := { s.cache with window := smPut l d s.cache.window, markers := nsErase l s.cache.markers } }
  let s := s.wrote (s.windowWay (l / 64) % 4) 4 (s.windowIndex l) (windowCell l)
  if s.corruptMask (windowCell l) = allBytes then { s with cache := { s.cache with markers := nsInsert l s.cache.markers } } else s

/-- Stores a poison marker (R96). -/
def State.putMarker (s : State) (l : Nat) : State :=
  { s with cache := { s.cache with window := smDel l s.cache.window, markers := nsInsert l s.cache.markers, corrupt := smDel (windowCell l) s.cache.corrupt } }

/-- A window line as HBM returns it: its data, or poison. `bad` are parity bits that the environment adds (R110). -/
def State.readWindow (s : State) (l bad : Nat) : Option Line × State :=
  if l ∈ s.cache.markers then (none, s.on (fun b => b.count pVWN F.VWN_POISON_READ.COUNT 1))
  else
    let mask := bad ||| s.corruptMask (windowCell l)
    match smFind l s.cache.window with
    | some d =>
      if mask = 0 then (some d, s)
      else
        let k := s.windowWay (l / 64) % 4
        let s := (s.parityError k 4 (s.windowIndex l) mask false).putMarker l
        (none, s.on (fun b => b.raise pVWN (ev E.VWN.PAR_POISONED (indexPc (s.windowIndex l)) (l / 64) (l % 64) 0)))
    | none =>
      let k := s.windowWay (l / 64) % 4
      let s := (s.parityError k 4 (s.windowIndex l) s.bd.openVal false).putMarker l
      (none, s.on (fun b => b.useOpen.raise pVWN (ev E.VWN.PAR_POISONED (indexPc (s.windowIndex l)) (l / 64) (l % 64) 0)))

/-- A read of the window at the home. -/
def State.windowRead (s : State) (r : Req) (bad : Nat) : State :=
  let v := r.lln / 64
  if s.windowLost v then s.answerRead r 0 true 1 .window
  else if !s.bd.bypass ∧ v ∉ s.cache.bitmap then s.answerRead r 0 false 0 .window
  else
    match s.readWindow r.lln bad with
    | (some d, s) => s.answerRead r d false 0 .window
    | (none, s) => s.answerRead r 0 true 1 .window

/-- The first write to a window page fills its lines with zeros and sets its bit (R128); with the bitmap bypassed it sets the bit alone (R129). -/
def State.openWindowPage (s : State) (v : Nat) : State :=
  if v ∈ s.cache.bitmap then s
  else
    let s := { s with cache := { s.cache with bitmap := nsInsert v s.cache.bitmap } }
    if s.bd.bypass then s
    else
      let w : SMap Line := (List.range 64).foldl (fun w n => smPut (v * 64 + n) 0 w) s.cache.window
      let ms : List Nat := s.cache.markers.filter (fun l => decide (l / 64 ≠ v))
      { s with cache := { s.cache with window := w, markers := ms } }

/-- A write of the window at the home (R128 to R131). Answers whether it was written. -/
def State.windowWrite (s : State) (r : Req) (bad : Nat) : Bool × State :=
  let v := r.lln / 64
  let full := decide (r.mask = allBytes)
  if s.windowLost v then (false, (s.on (fun b => b.count pVWN F.VWN_LOST_WRITE.COUNT 1)))
  else
    let s := s.openWindowPage v
    if r.poison then (true, s.putMarker r.lln)
    else if full then (true, s.putWindow r.lln r.data)
    else if r.lln ∈ s.cache.markers then
      (false, s.on (fun b => (b.count pVWN F.VWN_PARTIAL_DROP.COUNT 1).raise pVWN (ev E.VWN.PARTIAL_DROPPED 0 v (r.lln % 64) 0)))
    else
      match s.readWindow r.lln bad with
      | (some d, s) => (true, s.putWindow r.lln (mergeLine d r.data r.mask))
      | (none, s) => (false, s.on (fun b => (b.count pVWN F.VWN_PARTIAL_DROP.COUNT 1).raise pVWN (ev E.VWN.PARTIAL_DROPPED 0 v (r.lln % 64) 0)))

/-! ### Mirrored pairs (R323, R325) -/

/-- SHM_PAIR.STATE. -/
def Board.pairState (b : Board) : Nat := b.get pSHM F.SHM_PAIR.STATE

/-- Does this part lead the copy that a request names (Table 11-7)? -/
def Board.leads (b : Board) (role : Nat) : Bool :=
  match b.pairState with
  | 0 => true
  | 1 | 6 => decide (role = 0)
  | 2 | 4 => true
  | _ => false

/-- Must a mirrored write of this part's lead be ordered at the partner: NORMAL, RESYNC_SRC and HANDBACK? -/
def Board.orders (b : Board) (r : Req) : Bool := r.mirror && b.leads r.role && (b.pairState = 1 || b.pairState = 4 || b.pairState = 6)

/-- STATUS of a ticket of this part: SOLO for a mirrored write that one copy alone holds (R325). -/
def Board.ticketStatus (b : Board) (r : Req) : Nat := if r.mirror && (b.pairState = 2 || b.pairState = 0) then 3 else 0

/-! ### Misses (R171, R173) -/

/-- The miss of a line, if one is in flight. -/
def State.missOf (s : State) (lln : Nat) : Option Miss := s.mapx.misses.find? (fun m => decide (m.lln = lln))

/-- Changes the miss `id`. -/
def State.onMiss (s : State) (id : Nat) (f : Miss → Miss) : State :=
  { s with mapx := { s.mapx with misses := s.mapx.misses.map (fun m => if m.id = id then f m else m) } }

/-- Entries held by background reads (R184). -/
def State.bgInFlight (s : State) : Nat := (s.mapx.reads.filter (fun r => r.whole && !r.squashed)).length

/-- Entries held (MAP_RD_STAT.IN_FLIGHT). -/
def State.inFlight (s : State) : Nat := s.mapx.misses.length + s.bgInFlight

/-- FULL follows the entries held; INFLIGHT_FULL is raised each time it begins (R184). -/
def State.followFull (s : State) (waits : Bool) : State :=
  let full := decide (4096 ≤ s.inFlight) && waits
  let old := s.bd.on pMAP F.MAP_RD_STAT.FULL
  s.on (fun b =>
    let b := b.put pMAP F.MAP_RD_STAT.FULL (bit (full || (old && decide (4096 ≤ s.inFlight))))
    if full ∧ old = false then b.raise pMAP (ev E.MAP.INFLIGHT_FULL 0 s.bgInFlight 0 0) else b)

/-- Starts a miss for a line, or joins the one in flight. None while every entry is held. -/
def State.startMiss (s : State) (r : Req) (isPart : Bool) : Option State :=
  match s.missOf r.lln with
  | some m => some (s.onMiss m.id (fun m => if isPart then { m with partials := m.partials ++ [r] } else { m with reqs := m.reqs ++ [r] }))
  | none =>
    if 4096 ≤ s.inFlight then none
    else
      let m : Miss := {
        id := s.home.nextId, lln := r.lln, key := r.key, reqs := if isPart then [] else [r], entry := none, slot := none, needSlot := false,
        base := none, read := none, ppa := 0, frame := 0, pseq := 0, predicted := 0, tried := [], toTry := [], recon := false, reconBins := [],
        viaRecon := false, overwritten := false, retried := false, partials := if isPart then [r] else [], erased := false, verifying := false,
        uncorr := false, epoch := s.eet (r.lln / 2 ^ 22), since := s.bd.now }
      let s := { s with home := { s.home with nextId := s.home.nextId + 1 }, mapx := { s.mapx with misses := s.mapx.misses ++ [m] } }
      some (s.on (fun b => b.raiseTo pMAP F.MAP_RD_HWM.HIGH_WATER s.inFlight))

/-! ### Writes (R105, R188, R291, R293, R323) -/

/-- The line that the home holds now, in a frame or staged. -/
def State.lineHeld (s : State) (lln : Nat) : Option Line :=
  match s.stagedLine lln with
  | some l => some l.data
  | none =>
    if s.bd.cacheOn then (s.frameOf (lln / 64)).bind (fun (f : Nat × Frame) => (smFind (lln % 64) f.2.lines).map LineSt.data) else none

/-- Does a line read zero without media: a ZERO page, or an unwritten line of a page with no base page yet? -/
def State.readsZero (s : State) (lln : Nat) : Bool :=
  let e := s.mapEntry (lln / 64)
  e.zero || (e.fresh && (s.slotOf lln).isNone)

/-- A write to a poisoned line or page is discarded (R293). -/
def State.dropPartial (s : State) (r : Req) : State :=
  s.on (fun b => (b.count pCRY F.CRY_PARTIAL_DROP.COUNT 1).raiseCode pCRY .integrity
    (ev E.CRY.PARTIAL_DROPPED (r.headBits + bit (s.mapEntry (r.lln / 64)).poison * 8) (r.lln / 64) r.hpa (r.lln % 64)))

/-- A write under an EMPTY or CLEARING slot is discarded (R283). -/
def State.noKeyWrite (s : State) (r : Req) : State :=
  let s := (s.on (fun b => (b.count pCRY F.CRY_NOKEY_WR.COUNT 1).raiseCode pCRY .denied
    (ev E.CRY.NOKEY_WRITE (r.headBits + bit (decide (r.mask ≠ allBytes)) * 8) r.hpa (r.hpa / 2 ^ 32) r.key))).writeRecord r .noKey
  if r.ask = .cond then (s.dropRsv r.rsvKey).rsvAnswer r 4 0 0
  else s.discard r (if s.bd.isLocal r ∧ oidClass r.oid ≠ 0 then 5 else 0)

/-- Sends the next MON to the partner for a write of the lead whose merged line is `line` (R323, R324): the write stays invisible here until ORDER_ACK. -/
def State.order (s : State) (r : Req) (line : Line) (poison : Bool) : State :=
  let mon := s.home.mirror.next
  let partner := Nat.xor s.bd.selfId 1
  let w : MonWait := ⟨mon, { r with data := line, mask := allBytes }, poison⟩
  let s := { s with home := { s.home with mirror := { s.home.mirror with next := (mon + 1) % 2 ^ 32, waits := s.home.mirror.waits ++ [w] } } }
  let s := if r.ask = .cond then s.send 0x05 partner [r.oid, r.id % 2 ^ 16, 1 - r.role, r.mirrorLln, r.key, r.sxn, r.mask, 0] (some r.data) else s
  s.send 0x20 partner [mon, oidShelf r.oid, r.id % 2 ^ 16, bit poison] none

/-- A write to a local extent while SOLO sets the extent's bit (R325). -/
def State.followSolo (s : State) (r : Req) : State :=
  if r.mirror ∧ s.bd.pairState = 2 then { s with shelf := { s.shelf with solo := nsInsert (r.lln / 2 ^ 22) s.shelf.solo } } else s

/-- A write of the whole line becomes visible at the home: dirty in its frame, its mirror slot taken, its writes noted. None when it must wait: no
frame (`stall`), or no mirror slot. -/
def State.commitLine (s : State) (r : Req) (line : Line) : Option State :=
  let page := r.lln / 64
  let framed := if s.bd.cacheOn then (s.takeFrame page r.key).map Prod.snd else some s
  framed.bind (fun s =>
    (s.dirtyLine page (r.lln % 64) r.key line r.writers).map (fun s =>
      let s := s.onMiss ((s.missOf r.lln).map Miss.id |>.getD 0) (fun m => { m with overwritten := true })
      let s := (s.breakRsv r.lln false 1 none).followSolo r
      if s.bd.declared then s.durable r.writers r.role r.lln else s))

/-- A write of a line whose outcome is known is written: SUCCESS for a COND_WRITE, a ticket for the rest. -/
def State.written' (s : State) (r : Req) : State :=
  if r.ask = .cond then s.rsvAnswer r (if s.bd.ticketStatus r = 3 then 1 else 0) 0 0 else s.ticket r (s.bd.ticketStatus r)

/-- Is the line already dirty, so that a write to it needs no new mirror slot (R108)? -/
def State.lineDirty (s : State) (lln : Nat) : Bool :=
  (s.stagedLine lln).isSome || (match s.frameOf (lln / 64) with
    | some (_, f) => (match smFind (lln % 64) f.lines with | some l => l.dirty | none => false)
    | none => false)

/-- Must a write that needs a new mirror slot be held: at the dirty limit, behind an overdue stripe (R345), or while the homes admit no write (R371)? -/
def State.holdsWrites (s : State) (lln : Nat) : Bool :=
  s.bd.on pPDR F.PDR_STAT.HELD || (!s.lineDirty lln && (s.atLimit || s.wp.overdue.isSome))

/-- The merged write of a request over a line. -/
def Req.ovr (r : Req) (old : Line) : Line := mergeLine old r.data r.mask

/-- A write whose data is whole is applied: ordered at the partner first where the pair says so, or written. `ticketed` when the home has given its place
already (a hold, or a fill). None when it must wait. -/
def State.applyWhole (s : State) (r : Req) (line : Line) (ticketed : Bool) : Option State :=
  if s.bd.orders r then some (s.order r line false)
  else (s.commitLine r line).map (fun s => if ticketed ∧ r.ask ≠ .cond then s else s.written' r)

/-- A write that carries poison: the line takes its POISON slot (R75). -/
def State.applyPoison (s : State) (r : Req) (ticketed : Bool) : State :=
  if s.bd.orders r then s.order r r.data true
  else
    let s := (s.breakRsv r.lln false 1 none).followSolo r
    let s := s.onMiss ((s.missOf r.lln).map Miss.id |>.getD 0) (fun m => { m with overwritten := true })
    let s := if (s.mapEntry (r.lln / 64)).poison then s.durable r.writers r.role r.lln else s.poisonLine r.lln r.key r.writers
    if ticketed then s else s.ticket r (s.bd.ticketStatus r)

/-- What becomes of a write whose turn has come. -/
inductive Turn
  /-- It is done. -/
  | done (s : State)
  /-- It needs a frame. -/
  | frame
  /-- It needs a mirror slot, or a unit that does not serve: it is held. -/
  | slot
  /-- It needs a fill, and no entry is free. -/
  | full

/-- A write at the home whose turn has come (R102, R105, R188, R291, R293). -/
def State.applyWrite (s : State) (r : Req) (ticketed : Bool) : Turn :=
  let page := r.lln / 64
  let full := decide (r.mask = allBytes)
  if (s.mapEntry page).poison ∨ (full = false ∧ r.poison = false ∧ s.poisoned r.lln) then
    if r.ask = .cond then .done ((s.dropRsv r.rsvKey).rsvAnswer r 4 0 0)
    else
      let s := (s.dropPartial r).breakRsv r.lln false 1 none
      .done (if ticketed then s.durable r.writers r.role r.lln else s.discard r 0)
  else if r.poison then .done (s.applyPoison r ticketed)
  else if s.holdsWrites r.lln then .slot
  else
    let whole := if full then some r.data else match s.lineHeld r.lln with
      | some d => some (r.ovr d)
      | none => if s.readsZero r.lln then some (r.ovr 0) else none
    match whole with
    | some line =>
      match s.applyWhole r line ticketed with
      | some s => .done s
      | none => if s.bd.cacheOn ∧ (s.takeFrame page r.key).isNone then .frame else .slot
    | none =>
      let mapOut := decide (s.bd.unit pMAP = stCONTAINED) || decide (s.bd.unit pMAP = stTEST)
      let ptxOut := decide (s.bd.unit pPTX = stCONTAINED) || decide (s.bd.unit pPTX = stTEST)
      if mapOut ∨ (ptxOut ∧ (s.mapEntry page).patched) then .slot
      else
        match s.startMiss r true with
        | none => .full
        | some s => .done (if ticketed ∨ s.bd.orders r ∨ r.ask = .cond then s else s.ticket r (s.bd.ticketStatus r))

/-! ### Holds (R257) -/

/-- The data of the oldest held writes is taken as mirror slots free: a head of this part holds its data here; another part is asked with PULL. -/
def State.releaseHolds : Nat → State → State
  | 0, s => s
  | n + 1, s =>
    match s.home.holds with
    | [] => s
    | r :: rest =>
      if s.holdsWrites r.lln then s
      else if !s.bd.isLocal r then
        let s := { s with home := { s.home with holds := rest, called := s.home.called ++ [r] } }
        (s.send 0x13 (oidShelf r.oid) [r.oid, r.id] none).releaseHolds n
      else
        let s0 := { s with home := { s.home with holds := rest } }
        let freed := fun (s : State) => s.onWrite r.head r.id (fun w => { w with held := false, inBuf := !w.ticketed })
        match s0.applyWrite r true with
        | .done s => (if oidClass r.oid = 0 ∧ r.ask ≠ .cond then freed s else s).releaseHolds n
        | .frame => s.stall r.mark (r.lln / 64)
        | _ => s

/-! ### Requests in turn (R255, R257, R99, R174) -/

/-- Must a request wait behind another: an earlier one of its OID, a held write or a mirrored write of its line, an alias on its page, a partial write that waits
for the fill of its line, or a miss of its page under another key? -/
def State.blocked (s : State) (r : Req) (earlier : List Req) : Bool :=
  let sameOid := fun (x : Req) => decide (x.oid = r.oid)
  let sameLine := fun (x : Req) => decide (x.lln = r.lln) && decide (x.volatile = r.volatile)
  earlier.any sameOid || s.home.derive.any sameOid || s.home.aliases.any (fun a => sameOid a.req)
    || s.home.holds.any sameLine || s.home.called.any sameLine
    || s.home.mirror.waits.any (fun w => sameLine w.req || (sameOid w.req && !(s.bd.orders r && decide (r.ask ≠ .read) && decide (r.ask ≠ .reserve))))
    || (!r.volatile && (s.home.aliases.any (fun a => decide (a.req.lln / 64 = r.lln / 64))
      || s.mapx.misses.any (fun m => (decide (m.lln / 64 = r.lln / 64) && decide (m.key ≠ r.key))
        || (decide (m.lln = r.lln) && decide (m.partials ≠ []) && (decide (r.ask = .read) || decide (r.ask = .reserve) || decide (r.ask = .cond) || s.bd.orders r)))))

/-- The cached key set that a request needs (R278). -/
def State.keySet (s : State) (r : Req) : Nat × Nat × Nat × Nat := (r.key, (s.keySlot r.key).ver, r.lln / 2 ^ 22, s.eet (r.lln / 2 ^ 22))

/-- Puts a key set first among the 8,192 cached. -/
def State.cacheKey (s : State) (k : Nat × Nat × Nat × Nat) : State :=
  { s with home := { s.home with keyCache := (k :: s.home.keyCache.filter (fun x => x ≠ k)).take 8192 } }

/-- The outcome of a read under a slot that is EMPTY or CLEARING, and of the same kind elsewhere (R181, R283): ALIAS when the key differs from LXT.KEY, INTEGRITY otherwise. -/
def State.keyFailure (s : State) (r : Req) : State :=
  let page := r.lln / 64
  let home := s.homeKey page
  let line := r.lln % 64 + r.key * 64
  if r.key ≠ home then
    (s.on (fun b => (b.count pMAP F.MAP_ALIAS.COUNT 1).raiseCode pMAP .integrity
      (ev E.MAP.ALIAS_READ (r.headBits + oidShelf r.oid * 8) page home line))).answerRead r 0 true 1 .aliasKey
  else
    (s.on (fun b => (b.count pMAP F.MAP_TAG_FAIL.COUNT 1).raiseCode pMAP .integrity
      (ev E.MAP.INTEGRITY 0 page (s.mapEntry page).ppa line))).answerRead r 0 true 1 .integrity

/-- A read hit (R101, R110): `bad` are the parity bits that the frame line fails beyond a stored flip. None when a clean line was lost and the read misses. -/
def State.readHit (s : State) (i : Nat) (f : Frame) (n bad : Nat) (l : LineSt) : Option Line × State :=
  let mask := bad ||| s.corruptMask (frameCell i n)
  if mask = 0 then (some l.data, s.touch i)
  else
    let s := { s with cache := { s.cache with corrupt := smDel (frameCell i n) s.cache.corrupt } }
    if l.dirty then (some l.data, (s.touch i).parityError (i % 16 % 4) 1 (frameIndex i n) mask true)
    else (none, (s.setFrame i { f with lines := smDel n f.lines }).parityError (i % 16 % 4) 1 (frameIndex i n) mask true)

/-- The turn of a read or a reservation's read at the home: done, or it waits. -/
def State.readTurn (s : State) (r : Req) (bad : Nat) : Turn :=
  let page := r.lln / 64
  let miss := fun (s : State) =>
    if s.bd.unit pMAP = stCONTAINED ∨ s.bd.unit pMAP = stTEST then
      Turn.done ((s.on (fun b => b.count pMAP F.MAP_POISON_RD.COUNT 1)).answerRead r 0 true 1 .contained)
    else if s.poisoned r.lln ∧ s.wp.poisonWait.any (fun p => decide (p.1 = r.lln)) then
      Turn.done ((s.on (fun b => b.count pMAP F.MAP_POISON_RD.COUNT 1)).answerRead r 0 true 1 .poison)
    else if s.bd.cacheOn ∧ (s.takeFrame page r.key).isNone then Turn.frame
    else match s.startMiss r false with
      | some s => Turn.done s
      | none => Turn.full
  match s.stagedLine r.lln with
  | some l => .done (s.answerRead r l.data false 0 .poison)
  | none =>
    if !s.bd.cacheOn then miss s
    else
      match s.frameOf page with
      | none => miss s
      | some (i, f) =>
        match smFind (r.lln % 64) f.lines with
        | none => miss s
        | some l =>
          match s.readHit i f (r.lln % 64) bad l with
          | (some d, s) => .done (s.answerRead r d false 0 .poison)
          | (none, s) => miss s

/-- Places the reservation of a RESERVE at its serialisation (R271, R272). -/
def State.placeRsv (s : State) (r : Req) : State :=
  if r.ask = .reserve then
    { s with home := { s.home with rsv := smPut r.rsvKey ⟨r.word, r.lln, r.volatile, s.bd.now, 0⟩ s.home.rsv } }
  else s

/-- The check of a COND_WRITE (R271 to R273): none when the reservation is held on that word, else RESULT and LOSS_CAUSE. -/
def State.condFails (s : State) (r : Req) : Option (Nat × Nat) :=
  match smFind r.rsvKey s.home.rsv with
  | none => some (if r.mirror ∧ s.bd.pairState = 2 then (2, 5) else (3, 0))
  | some v =>
    if v.word ≠ r.word ∨ v.lln ≠ r.lln ∨ v.volatile ≠ r.volatile then some (3, 0)
    else if v.lost ≠ 0 then some (2, v.lost)
    else none

/-- Takes a request out of the queue. -/
def State.dequeue (s : State) (r : Req) : State :=
  { s with home := { s.home with queue := s.home.queue.erase r, stalled := nsErase r.mark s.home.stalled } }

/-- A request that stands in an alias with the frame of its page: write-back, and a wait while a line is dirty (R99). Answers the state when it goes on at once. -/
def State.alias (s : State) (r : Req) : Option State × State :=
  match s.frameOf (r.lln / 64) with
  | none =>
    if (s.stagedOf (r.lln / 64)).any (fun (e : Nat × LineSt) =>
        match smFind e.2.slot s.cache.slots with | some x => decide (x.2.2.1 ≠ r.key) | none => false) then
      let a : AliasWait := ⟨r, 0⟩
      (none, (({ s with home := { s.home with aliases := s.home.aliases ++ [a] } }).dequeue r).writeBack (r.lln / 64))
    else (some s, s)
  | some (i, f) =>
    if f.key = r.key then (some s, s)
    else if s.pageDirty f.page = 0 then (some (s.dropFrame i), s)
    else
      let a : AliasWait := ⟨r, i⟩
      (none, (({ s with home := { s.home with aliases := s.home.aliases ++ [a] } }).dequeue r).writeBack f.page)

/-- The turn of a request ends: it leaves the queue, waits for a frame, or is held. -/
def State.endTurn (s : State) (r : Req) (t : Turn) : State :=
  match t with
  | .done s' => s'.dequeue r
  | .frame => s.stall r.mark (r.lln / 64)
  | .slot => (s.hold r).dequeue r
  | .full => s.followFull true

/-- A request turned away with STALE_OWNER (R49, R56, R60). -/
def State.turnAway (s : State) (r : Req) : State :=
  let isWrite := decide (r.ask = .write) || decide (r.ask = .cond) || decide (r.ask = .zeroPage)
  let s := (s.staleOwner (oidShelf r.oid) r.lln r.sxn isWrite).dequeue r
  match r.ask with
  | .read | .reserve | .hint => s.answerRead r 0 true 2 .staleOwner
  | .cond => (s.dropRsv r.rsvKey).rsvAnswer r 5 0 0
  | .release => s.rsvAnswer r 5 0 0
  | _ => s.discard r 2

/-- The crossing of a window request. -/
def State.windowTurn (s : State) (r : Req) (bad : Nat) : State :=
  let s := s.dequeue r
  match r.ask with
  | .read | .hint => s.windowRead r bad
  | .reserve => (s.placeRsv r).windowRead r bad
  | .release => (s.dropRsv r.rsvKey).rsvAnswer r (if (smFind r.rsvKey s.home.rsv).isSome then 0 else 3) 0 0
  | .cond =>
    match s.condFails r with
    | some (res, loss) => (s.dropRsv r.rsvKey).rsvAnswer r res 0 loss
    | none =>
      let (ok, s) := (s.dropRsv r.rsvKey).windowWrite r bad
      if ok then (s.breakRsv r.lln true 1 none).rsvAnswer r 0 0 0 else s.rsvAnswer r 4 0 0
  | _ =>
    let (ok, s) := s.windowWrite r bad
    (if ok then s.breakRsv r.lln true 1 none else s).discard r 0

/-- A whole-page zero fill (R55): the page's frame, slots, patches and POISON go, ZERO is set and the media page is released. -/
def State.zeroPage (s : State) (page : Nat) : List (Nat × Nat) × State :=
  let (ws, s) := (List.range 64).foldl (fun (x : List (Nat × Nat) × State) n =>
    let (w, s) := x.2.dropLine (page * 64 + n)
    (x.1 ++ w, (s.freeSlot (page * 64 + n)).breakRsv (page * 64 + n) false 1 none)) ([], s)
  let s := match s.frameOf page with | some (i, _) => s.dropFrame i | none => s
  let gone := s.wp.patches.filter (fun p => decide (p.lln / 64 = page))
  let s := { s with wp := { s.wp with
    patches := s.wp.patches.filter (fun p => decide (p.lln / 64 ≠ page))
    poisonWait := s.wp.poisonWait.filter (fun p => decide (p.1 / 64 ≠ page))
    folds := s.wp.folds.filter (fun f => decide (f.page ≠ page))
    foldWait := s.wp.foldWait.filter (fun f => decide (f.1 ≠ page)) } }
  let s := { s with mapx := { s.mapx with misses := s.mapx.misses.map (fun (m : Miss) => if m.lln / 64 = page then { m with overwritten := true } else m) } }
  let e := s.mapEntry page
  (ws ++ gone.flatMap PatchRef.writers, s.mapSet page { e with ppa := 0, patched := false, poison := false, zero := true, fresh := false } false)

/-- The turn of a request to a local line whose key set is at hand. -/
def State.lineTurn (s : State) (r : Req) (bad : Nat) : State :=
  match s.alias r with
  | (none, s) => s
  | (some s, _) =>
    match r.ask with
    | .read | .hint => s.endTurn r (s.readTurn r bad)
    | .reserve =>
      let old := smFind r.rsvKey s.home.rsv
      match (s.placeRsv r).readTurn r bad with
      | .done s => s.dequeue r
      | t => (match old with | some v => { s with home := { s.home with rsv := smPut r.rsvKey v s.home.rsv } } | none => s).endTurn r t
    | .release =>
      ((s.dropRsv r.rsvKey).rsvAnswer r (if (smFind r.rsvKey s.home.rsv).isSome then 0 else 3) 0 0).dequeue r
    | .cond =>
      match s.condFails r with
      | some (res, loss) => ((s.dropRsv r.rsvKey).rsvAnswer r res 0 loss).dequeue r
      | none =>
        match (s.dropRsv r.rsvKey).applyWrite r false with
        | .done s => s.dequeue r
        | .slot => { (s.dropRsv r.rsvKey).dequeue r with home := { ((s.dropRsv r.rsvKey).dequeue r).home with holds := s.home.holds ++ [r] } }
        | t => s.endTurn r t
    | .poison =>
      let s := (s.breakRsv r.lln false 1 none).dequeue r
      if (s.mapEntry (r.lln / 64)).poison then s else s.poisonLine r.lln r.key []
    | .zeroPage =>
      let (ws, s) := (s.dequeue r).zeroPage (r.lln / 64)
      (s.durable ws r.role r.lln).discard r 0
    | .write => s.endTurn r (s.applyWrite r false)

/-- A request in its turn at the home: accepted at the owner (R49), its key slot (R283) and key set (R278), then its line. -/
def State.turn (s : State) (r : Req) (bad : Nat) : State :=
  if r.volatile then s.windowTurn r bad
  else if r.ask ≠ .poison ∧ s.accepts r.lln r.sxn r.role = false then s.turnAway r
  else if r.ask = .release then s.lineTurn r bad
  else if r.ask ≠ .poison ∧ s.keyUsable r.key = false then
    let s := s.dequeue r
    match r.ask with
    | .read | .reserve => s.keyFailure r
    | .hint => s
    | _ => s.noKeyWrite r
  else if r.ask ≠ .poison ∧ s.keySet r ∉ s.home.keyCache then
    ({ s.dequeue r with home := { (s.dequeue r).home with derive := s.home.derive ++ [r] } }).on (fun b => b.count pCRY F.CRY_KCACHE_MISS.COUNT 1)
  else (if r.ask = .poison then s else s.cacheKey (s.keySet r)).lineTurn r bad

/-- A request is serialised if nothing that stands before it makes it wait (R251, R255). -/
def State.serialise (s : State) (r : Req) (bad : Nat) : State :=
  if s.blocked r (s.home.queue.takeWhile (fun x => x ≠ r)) then s else s.turn r bad

/-- A request arrives at the home. -/
def State.arrive (s : State) (r : Req) : State := { s with home := { s.home with queue := s.home.queue ++ [r] } }

/-- A request that arrives from the ring is serialised at once where it can be. -/
def State.arriveNow (s : State) (r : Req) : State := (s.arrive r).serialise r 0

end Sys2Proof.Machine
end

