-- ==== Sys2Proof/Machine/Slots.lean ====
section
/-! DEFINITION. Units of the current slot (R342, R343, R346), partitions and their suspension (R153 to R155), and dies and channels as a read
or a program meets them (R145, R160). -/

namespace Sys2Proof.Machine

/-! ### Units -/

/-- The program share T (Table 19-3, R465). -/
def Board.programShare (b : Board) : Nat :=
  let t := match b.get pTHM F.THM_STAT.LEVEL with | 0 => 100 | 1 => 50 | 2 => 25 | _ => 10
  if b.on pTHM F.THM_STAT.MEDIA_THROTTLE then min 50 t else t

/-- Draws units from the current slot: none when the slot is closed to array work or the units do not fit. `gov` work also draws on G, unless it may cross it; `bg`
work also draws on the share of R203. During a drain the units of R346 stand instead. -/
def State.claim (s : State) (n : Nat) (gov bg cross : Bool) : Option State :=
  let drain := s.bd.on pRTM F.RTM_STAT.DRAIN
  let total := if drain then s.bd.get pRTM F.RTM_SLOT_CFG.UNITS * s.bd.programShare / 100 else s.bd.get pRTM F.RTM_BUDGET.B
  let g := s.bd.get pRTM F.RTM_BUDGET.G
  let share := total * s.bd.get pRCL F.RCL_CFG.BG_SHARE / 100
  if !s.slot.isOpen then none
  else if total < s.slot.used + n then none
  else if gov && !cross && !drain && decide (g < s.slot.governed + n) then none
  else if bg && !drain && decide (share < s.slot.background + n) then none
  else
    let k : Slots := { s.slot with
      used := s.slot.used + n
      governed := s.slot.governed + (if gov then n else 0)
      background := s.slot.background + (if bg then n else 0) }
    some { s with slot := k }

/-! ### Dies and channels -/

/-- MCH_DIE_STATE of a die: 0 OFF, 1 INIT, 2 ACTIVE, 3 FAILED. -/
def Board.dieState (b : Board) (c d : Nat) : Nat := nbits (b.get (pMCH c) F.MCH_DIE_STATE.DIE) (4 * d) 4

/-- Sets the state of a die. -/
def Board.setDie (b : Board) (c d v : Nat) : Board :=
  let w := b.get (pMCH c) F.MCH_DIE_STATE.DIE
  b.put (pMCH c) F.MCH_DIE_STATE.DIE (w - nbits w (4 * d) 4 * 2 ^ (4 * d) + v * 2 ^ (4 * d))

/-- Is a channel out of use for reads and programs: CONTAINED (R160)? -/
def Board.channelOut (b : Board) (c : Nat) : Bool := decide (b.unit (pMCH c) = stCONTAINED) || b.on (pMCH c) F.MCH_CAUSE.CHAN_FAULT

/-- Can a page be read at its own place: its die ACTIVE and its channel not contained? -/
def Board.readable (b : Board) (ppa : Nat) : Bool :=
  decide (b.dieState (ppaChan ppa) (ppaDie ppa) = 2) && !b.channelOut (ppaChan ppa)

/-- Must a position be left out of a band that is reset now (R145)? -/
def Board.excludes (b : Board) (c d : Nat) : Bool := decide (b.dieState c d = 3) || b.channelOut c

/-! ### Partitions (R153 to R155) -/

/-- The operation that runs in the partition of a page. -/
def State.opAt (s : State) (ppa : Nat) : Option MOp := smFind (partKey ppa) s.media.ops

/-- Replaces the operation of a partition. -/
def State.setOp (s : State) (ppa : Nat) (o : MOp) : State := { s with media := { s.media with ops := smPut (partKey ppa) o s.media.ops } }

/-- The suspended time an operation may take, in µs (Table 05-8). -/
def MOp.budget (o : MOp) : Nat := if o.reset then 4000 else 100

/-- The time an operation has to run after its start or last resume before it may be suspended, in µs (t_RUN). -/
def MOp.run (o : MOp) : Nat := if o.reset then 10 else 2

/-- A read is queued for the partition of a page (R154): a running operation is suspended where that is permitted and its budget lasts. Answers whether the
read can be sent. -/
def State.reach (s : State) (ppa : Nat) : Bool × State :=
  match s.opAt ppa with
  | none => (true, s)
  | some o =>
    let page := pMCH (ppaChan ppa)
    if o.susp then (true, s)
    else if s.bd.on page F.MCH_CFG.SUSP_EN ∧ o.spent < o.budget then
      (true, (s.setOp ppa { o with susp := true, suspAt := s.bd.now }).on (fun b => b.count page F.MCH_SUSP.COUNT 1))
    else (false, s.on (fun b => b.count page F.MCH_SUSP_WAIT.COUNT 1))

/-- The units that an operation costs (R340). -/
def State.opCost (s : State) (reset : Bool) : Nat := if reset then s.bd.get pRTM F.RTM_SLOT_CFG.RESET_COST else 1

/-- Operations that run in a die, suspended ones aside (R155). -/
def State.activeIn (s : State) (c d : Nat) : Nat :=
  (s.media.ops.filter (fun (e : Nat × MOp) => decide (e.1 / 16 = c * 8 + d) && !e.2.susp)).length

/-- Has a die room for one more array operation (R155)? -/
def State.dieRoom (s : State) (c d : Nat) : Bool := decide (s.activeIn c d < s.bd.get (pMCH c) F.MCH_CFG.MAX_ACTIVE)

/-- RESUME is sent to a suspended partition, when the slot permits it; otherwise the operation stays suspended (R155). -/
def State.resumeOp (s : State) (ppa : Nat) : State :=
  match s.opAt ppa with
  | none => s
  | some o =>
    if !o.susp ∨ s.dieRoom (ppaChan ppa) (ppaDie ppa) = false then s
    else
      match s.claim (s.opCost o.reset) false false false with
      | none => s
      | some s => s.setOp ppa { o with susp := false, spent := o.spent + (s.bd.now - o.suspAt) }

/-- Reads sent or waiting in a partition. -/
def State.readsIn (s : State) (ppa : Nat) : List MRead := s.mapx.reads.filter (fun r => decide (partKey r.ppa = partKey ppa))

/-- The last read of a suspended partition has been collected (R154). -/
def State.resumeIfIdle (s : State) (ppa : Nat) : State := if s.readsIn ppa = [] then s.resumeOp ppa else s

end Sys2Proof.Machine
end

