-- ==== Sys2Proof/Machine/Miss.lean ====
section
/-! DEFINITION. The miss pipeline (chapter *Page-and-patch map and the read path*): lookups, media reads, the ladder of retries and reconstructions,
verification, and the outcomes of Table 06-4; fills and the partial writes that wait for them (R174, R291). -/

namespace Sys2Proof.Machine

/-! ### What media holds -/

/-- The page programmed at a PPA. -/
def State.mediaPage (s : State) (ppa : Nat) : Option MPage := smFind ppa s.media.pages

/-- Bits of a frame (64 the header) that media holds wrong: an applied flip, or the whole page (frame 127) of a failed program. -/
def State.flipped (s : State) (ppa frame : Nat) : Nat :=
  max (smGet (fun _ => 0) s.media.flips (ppa * 128 + frame)) (smGet (fun _ => 0) s.media.flips (ppa * 128 + 127))

/-- How a frame decodes (R139, R141). -/
inductive Sensed
  /-- UNCORRECTABLE. -/
  | lost
  /-- The page is erased. -/
  | erased
  /-- A frame, with the bits corrected. -/
  | good (f : MFrame) (bits : Nat)

/-- A frame that carries no data (R288). -/
def fillerFrame : MFrame := ⟨true, 0, 0, 0, 0, 0, 0, 0, 0, 0⟩

/-- Frame `n` of a page. -/
def MPage.frame (p : MPage) (n : Nat) : MFrame := (smFind n p.frames).getD fillerFrame

/-- A frame as a read decodes it, with `bits` more wrong bits than media holds (13 or more: UNCORRECTABLE). -/
def State.sense (s : State) (ppa frame bits : Nat) : Sensed :=
  match s.mediaPage ppa with
  | none => .erased
  | some p => if 12 < s.flipped ppa frame + bits then .lost else .good (p.frame frame) (s.flipped ppa frame + bits)

/-- The channels of a band whose positions a reconstruction of a page reads (R146). -/
def State.peers (s : State) (ppa : Nat) : List Nat :=
  (List.range 16).filter (fun c => decide (c ≠ ppaChan ppa) && decide (c ∉ (s.band (ppaBand ppa)).excluded))

/-- A frame as reconstruction recovers it (R146), when the frames of the channels in `bad` are UNCORRECTABLE beside what media holds. -/
def State.reconstruct (s : State) (ppa frame bad : Nat) : Option MFrame :=
  let ok := (s.peers ppa).all (fun c =>
    let q := ppaOf (ppaBand ppa) c (ppaPage ppa)
    s.bd.readable q && !nbit bad c && (match s.sense q frame 0 with | .good _ _ => true | _ => false))
  if ok then (s.mediaPage ppa).map (fun p => p.frame frame) else none

/-- The result of verification under the live versions of a slot (R289): none when it fails, else whether the older version matched. -/
def State.verify (s : State) (f : MFrame) (lln gen key pseq epoch : Nat) : Option Bool :=
  let v := s.keySlot key
  if f.filler ∨ f.lln ≠ lln ∨ f.gen ≠ gen ∨ f.key ≠ key ∨ f.pseq ≠ pseq ∨ f.epoch ≠ epoch ∨ f.keyEpoch ≠ s.keyEpoch ∨ f.seed ≠ v.seed then none
  else if f.ver ∈ v.live then some (decide (f.ver ≠ v.ver)) else none

/-! ### Fills -/

/-- How a read miss ends (Table 06-4). -/
inductive Outcome
  /-- A line of media, with its bytes. -/
  | line (d : Line)
  /-- A line that holds no media: a ZERO page or an unwritten line of a fresh page. -/
  | zero
  /-- PAGE_POISON, LINE_POISON, or a unit that does not serve. -/
  | poison
  | unrecoverable
  | integrity
  | aliasKey

/-- A verified line enters its frame (R101, Table 04-2), unless the line has been written since or no frame is to be had (log entry 33). -/
def State.fillLine (s : State) (m : Miss) (d : Line) (patched : Bool) : State :=
  if m.overwritten ∨ !s.bd.cacheOn ∨ (s.stagedLine m.lln).isSome then s
  else
    match s.takeFrame (m.lln / 64) m.key with
    | none => s
    | some (i, s) =>
      match smFind i s.cache.frames with
      | none => s
      | some f =>
        if f.key ≠ m.key ∨ (smFind (m.lln % 64) f.lines).isSome then s
        else
          let l : LineSt := ⟨d, false, patched, false, 0, 0, s.bd.now, false, []⟩
          ((s.setFrame i { f with lines := smPut (m.lln % 64) l f.lines }).wrote (i % 16 % 4) 1 (frameIndex i (m.lln % 64)) (frameCell i (m.lln % 64))).touch i

/-- Adds writes to those that wait for a line's persistence; with nothing dirty they are persistent. -/
def State.addWriters (s : State) (lln : Nat) (ws : List (Nat × Nat)) : State :=
  match s.stagedLine lln with
  | some l => { s with cache := { s.cache with staged := smPut lln { l with writers := l.writers ++ ws } s.cache.staged } }
  | none =>
    match s.frameOf (lln / 64) with
    | none => s.durable ws (s.roleOf lln) lln
    | some (i, f) =>
      match smFind (lln % 64) f.lines with
      | some l => if l.dirty then s.setFrame i { f with lines := smPut (lln % 64) { l with writers := l.writers ++ ws } f.lines } else s.durable ws (s.roleOf lln) lln
      | none => s.durable ws (s.roleOf lln) lln

/-- A partial write merges into the line its fill gave (R102, R174). -/
def State.mergePartial (s : State) (r : Req) (fill : Line) (overwritten : Bool) : State :=
  if overwritten ∧ !s.bd.orders r ∧ r.ask ≠ .cond then s.addWriters r.lln r.writers
  else
    let line := r.ovr ((s.lineHeld r.lln).getD fill)
    if s.holdsWrites r.lln then
      let h : Req := { r with data := line, mask := allBytes }
      ({ s with home := { s.home with holds := s.home.holds ++ [h] } }).tellHold r
    else
      match s.applyWhole r line true with
      | some s => s
      | none =>
        let h : Req := { r with data := line, mask := allBytes }
        ({ s with home := { s.home with holds := s.home.holds ++ [h] } }).tellHold r

/-- The partial writes of a fill that did not verify (R291): the first poisons the line, the rest meet a poisoned line (R293). A COND_WRITE ends in POISON and leaves the line
alone (log entry 35). -/
def State.poisonPartials (s : State) (m : Miss) (outcome : Nat) : State :=
  m.partials.foldl (fun s r =>
    if r.ask = .cond then (s.dropRsv r.rsvKey).rsvAnswer r 4 0 0
    else if m.overwritten then s.addWriters r.lln r.writers
    else if s.poisoned r.lln then (s.dropPartial r).durable r.writers r.role r.lln
    else
      let s := s.writeRecord r .partialWrite
      let s := s.on (fun b => (b.count pCRY F.CRY_POISON_SET.COUNT 1).raiseCode pCRY .integrity
        (ev E.CRY.POISON_CREATED (r.headBits + bit (decide (r.key ≠ s.homeKey (r.lln / 64))) * 8 + outcome * 16) (r.lln / 64) r.hpa (r.lln % 64 + r.key * 64)))
      if s.bd.orders r then s.order r r.data true else (s.breakRsv r.lln false 1 none).poisonLine r.lln r.key r.writers) s

/-- The partial writes of a fill of a poisoned line are discarded (R293). -/
def State.dropPartials (s : State) (m : Miss) : State :=
  m.partials.foldl (fun s r =>
    if r.ask = .cond then (s.dropRsv r.rsvKey).rsvAnswer r 4 0 0
    else if m.overwritten then s.addWriters r.lln r.writers
    else (s.dropPartial r).durable r.writers r.role r.lln) s

/-! ### The end of a miss (R181, R182, R518) -/

/-- Every request of the miss is answered with a line. -/
def State.answerAll (s : State) (m : Miss) (d : Line) : State := m.reqs.foldl (fun s r => s.answerRead r d false 0 .poison) s

/-- Every request of the miss is answered with poison. -/
def State.poisonAll (s : State) (m : Miss) (c : MediaCause) : State := m.reqs.foldl (fun s r => s.answerRead r 0 true 1 c) s

/-- Informational records of a line that a retry or a reconstruction recovered, for the heads that asked (Table 06-4). -/
def State.correctedRecords (s : State) (m : Miss) : State :=
  (m.reqs ++ m.partials).foldl (fun s r =>
    if s.bd.isLocal r ∧ oidClass r.oid = 0 ∧ r.ask ≠ .hint then s.hostRecord r.head 0 0 r.hpa MediaCause.corrected.num 0 else s) s

/-- Was the line of the miss read from a patch? -/
def Miss.fromPatch (m : Miss) : Bool := decide (m.pseq ≠ 0)

/-- The MCH UNCORRECTABLE event of a miss, once its ladder has ended (log entry 38): 0 recovered, 1 failed, 2 not tried. -/
def State.ladderEvent (s : State) (m : Miss) (result : Nat) : State :=
  if m.uncorr then
    s.on (fun b => b.raiseCode (pMCH (ppaChan m.ppa)) .integrity
      (ev E.MCH.UNCORRECTABLE (ppaDie m.ppa + m.predicted * 8 + m.frame * 64) m.ppa result 0))
  else s

/-- A miss ends. `bin` is the bin that decoded. -/
def State.finish (s : State) (m : Miss) (o : Outcome) (bin : Nat) : State :=
  let page := m.lln / 64
  let info3 := m.lln % 64 + m.key * 64
  let s := { s with mapx := { s.mapx with
    misses := s.mapx.misses.filter (fun x => decide (x.id ≠ m.id))
    reads := s.mapx.reads.filter (fun r => decide (r.miss ≠ m.id) || r.whole || r.squashed) } }
  let s := s.followFull false
  let s := s.ladderEvent m (if m.viaRecon then (match o with | .unrecoverable => 1 | _ => 0) else 2)
  match o with
  | .zero => m.partials.foldl (fun s r => s.mergePartial r 0 m.overwritten) (((s.fillLine m 0 false).answerAll m 0))
  | .line d =>
    let s := if m.viaRecon then
        s.on (fun b => (b.count pMAP F.MAP_DEEP_OK.COUNT 1).raise pMAP (ev E.MAP.RECOVERED_DEEP (bin + bit m.fromPatch * 8) page m.ppa info3))
      else if m.retried then s.on (fun b => b.count pMAP F.MAP_RETRY_OK.COUNT 1)
      else s
    let s := if m.viaRecon ∨ m.retried then s.correctedRecords m else s
    m.partials.foldl (fun s r => s.mergePartial r d m.overwritten) (((s.fillLine m d m.fromPatch).answerAll m d))
  | .poison => ((s.on (fun b => b.count pMAP F.MAP_POISON_RD.COUNT 1)).poisonAll m .poison).dropPartials m
  | .unrecoverable =>
    let s := s.on (fun b => (b.count pMAP F.MAP_UNRECOV.COUNT 1).raiseCode pMAP .integrity
      (ev E.MAP.UNRECOVERABLE (m.predicted + bit m.fromPatch * 8 + bit m.erased * 16) page m.ppa info3))
    (s.poisonAll m .unrecoverable).poisonPartials m 2
  | .integrity =>
    let s := s.on (fun b => (b.count pMAP F.MAP_TAG_FAIL.COUNT 1).raiseCode pMAP .integrity
      (ev E.MAP.INTEGRITY (bit m.fromPatch * 8 + bit m.viaRecon * 16) page m.ppa info3))
    (s.poisonAll m .integrity).poisonPartials m 0
  | .aliasKey =>
    let r := (m.reqs ++ m.partials).head?
    let who := match r with | some r => r.headBits + oidShelf r.oid * 8 | none => 0
    let s := s.on (fun b => (b.count pMAP F.MAP_ALIAS.COUNT 1).raiseCode pMAP .integrity (ev E.MAP.ALIAS_READ who page (s.homeKey page) info3))
    (s.poisonAll m .aliasKey).poisonPartials m 1

/-! ### Media reads of a miss -/

/-- Retires a read that the part no longer needs (R176): one already sent is collected as squashed work, one not sent is dropped. -/
def State.squash (s : State) (rid : Nat) : State :=
  { s with mapx := { s.mapx with reads := (s.mapx.reads.filter (fun r => decide (r.id ≠ rid) || r.sent)).map (fun r => if r.id = rid then { r with squashed := true } else r) } }

/-- A reconstruction of the miss's frame at a bin begins (R146, R518). -/
def State.startRecon (s : State) (m : Miss) (bins : List Nat) (verifying : Bool) : State :=
  let s := if m.viaRecon then s else s.on (fun b => b.count pMAP F.MAP_DEEP.COUNT 1)
  let s := s.on (fun b => (b.count (pMCH (ppaChan m.ppa)) F.MCH_RECON.COUNT 1).count pHLT F.HLT_LIFE_RECON.COUNT 1)
  let s := (s.peers m.ppa).foldl (fun s c => (s.reach (ppaOf (ppaBand m.ppa) c (ppaPage m.ppa))).2) s
  s.onMiss m.id (fun x => { x with recon := true, viaRecon := true, reconBins := bins, verifying := verifying, read := none })

/-- Issues a line read for a miss at a bin (R171); it is sent at once where its partition can serve it (R154). -/
def State.issueRead (s : State) (m : Miss) (bin : Nat) : State :=
  let (ready, s) := s.reach m.ppa
  let r : MRead := ⟨s.home.nextId, m.ppa, m.frame, bin, m.id, false, ready, false, s.bd.now⟩
  let s := { s with home := { s.home with nextId := s.home.nextId + 1 }, mapx := { s.mapx with reads := s.mapx.reads ++ [r] } }
  s.onMiss m.id (fun x => { x with read := some r.id, tried := x.tried ++ [bin] })

/-- The first read of a frame for a miss: at the predicted bin, or by reconstruction from the start on a failed die or a contained channel (R160, R179). -/
def State.readFrame (s : State) (m : Miss) (ppa frame pseq : Nat) : State :=
  let (bin, s) := s.predict ppa
  let more := retryBins bin (s.bd.get pMAP F.MAP_CFG.RETRY_MAX)
  let m : Miss := { m with ppa := ppa, frame := frame, pseq := pseq, predicted := bin, toTry := more, tried := [] }
  let s := s.onMiss m.id (fun _ => m)
  if s.bd.readable ppa then s.issueRead m bin else s.startRecon m (bin :: more) false

/-! ### Lookups -/

/-- Is a map segment loaded (R386)? -/
def State.segLoaded (s : State) (j : Nat) : Bool := s.mapx.loadedAll || decide (j ∈ s.mapx.loaded)

/-- The key of a structure that is being rebuilt: a map segment, or a patch-index block. -/
def segKey (map : Bool) (n : Nat) : Nat := if map then n else 2 ^ 20 + n

/-- Is a structure being rebuilt? -/
def State.rebuilding (s : State) (k : Nat) : Bool := s.mapx.rebuild.any (fun e => decide (e.1 / 2 = k))

/-- A structure is to be rebuilt from media (R110, R165, R187): `why` 0 uncorrected parity, 1 an illegal entry. -/
def State.rebuild (s : State) (k why : Nat) : State :=
  if s.rebuilding k then s else { s with mapx := { s.mapx with rebuild := s.mapx.rebuild ++ [(k * 2 + why, s.bd.now)] } }

/-- The patch lookup of a miss has answered: poison, the mirror slot, the patch, or the base page. -/
def State.withSlot (s : State) (m : Miss) (e : MapEntry) (x? : Option Slot) : State :=
  match x? with
  | none =>
    if e.fresh then s.finish m .zero 0
    else match m.base with
      | some _ => s
      | none => s.readFrame m e.ppa (m.lln % 64) 0
  | some x =>
    let s := match m.base with
      | some rid => (s.squash rid).on (fun b => b.count pMAP F.MAP_SQUASH.COUNT 1)
      | none => s
    let m : Miss := { m with base := none, read := none, recon := false, viaRecon := false, retried := false, uncorr := false, erased := false, tried := [], toTry := [], reconBins := [] }
    let s := s.onMiss m.id (fun _ => m)
    if x.poison then s.finish m .poison 0
    else if x.staged then
      match s.lineHeld m.lln with
      | some d => s.finish m (.line d) 0
      | none => s.readFrame m e.ppa (m.lln % 64) 0
    else s.readFrame m x.loc x.pslot x.pseq

/-- The map entry of a miss has returned (R171, R172, R185). -/
def State.withEntry (s : State) (m : Miss) (e : MapEntry) : State :=
  let s := s.onMiss m.id (fun x => { x with entry := some e })
  let m : Miss := { m with entry := some e }
  if e.poison then s.finish m .poison 0
  else if e.zero then s.finish m .zero 0
  else if e.unmapped then s.finish m .poison 0
  else if !e.patched then
    s.withSlot m e none
  else if s.bd.unit pPTX = stCONTAINED ∨ s.bd.unit pPTX = stTEST then s.finish m .poison 0
  else
    match m.slot with
    | some x? => s.withSlot m e x?
    | none =>
      let s := s.onMiss m.id (fun x => { x with needSlot := true })
      if s.bd.on pMAP F.MAP_CFG.SPEC_EN ∧ !e.fresh then
        let s := s.readFrame { m with needSlot := true } e.ppa (m.lln % 64) 0
        s.onMiss m.id (fun x => { x with base := some (x.read.getD 0) })
      else s

/-- A map lookup returns (R166, R110, R165): `bad0` and `bad1` are the parity bits that the two copies fail. -/
def State.mapLookup (s : State) (i bad0 bad1 : Nat) : State :=
  match s.mapx.misses[i]? with
  | none => s
  | some m =>
    let page := m.lln / 64
    let seg := page / 2 ^ 17
    if m.entry.isSome ∨ !s.segLoaded seg ∨ s.rebuilding (segKey true seg) then s
    else
      let (ok, s) := s.readBlock 0 (page / 512) (page % 512 / 8) bad0 bad1
      if !ok then s.rebuild (segKey true seg) 0
      else
        let e := s.mapEntry page
        if !e.legal then s.rebuild (segKey true seg) 1 else s.withEntry m e

/-- A patch-index lookup returns (R169, R187). -/
def State.ptxLookup (s : State) (i bad0 bad1 : Nat) : State :=
  match s.mapx.misses[i]? with
  | none => s
  | some m =>
    let b := ptxBucket m.lln
    if m.slot.isSome ∨ !s.segLoaded (24576 + b / 2 ^ 14) ∨ s.rebuilding (segKey false (b / 64)) then s
    else
      let (ok, s) := s.readBlock 12 (b / 64) (b % 64) bad0 bad1
      if !ok then s.rebuild (segKey false (b / 64)) 0
      else
        let (n, place) := s.probe m.lln
        let x? := place.bind s.slotAt
        let s := s.on (fun bd => (bd.count pPTX (F.PTX_PROBE_HIST.COUNT.ix (n - 1)) 1).count pPTX
          (if x?.isSome then F.PTX_LOOKUP_HIT.COUNT else F.PTX_LOOKUP_NONE.COUNT) 1)
        match place, x? with
        | some p, some x =>
          if x.invalid then
            (s.on (fun bd => bd.raiseCode pPTX .integrity (ev E.PTX.SLOT_INVALID (p % 8) (p / 8) x.word (x.word / 2 ^ 32)))).rebuild (segKey false (b / 64)) 1
          else
            let s := s.onMiss m.id (fun y => { y with slot := some (some x) })
            let s := if m.base.isSome then s.on (fun bd => bd.count pPTX F.PTX_SPEC_LATE.COUNT 1) else s
            (match m.entry with | some e => s.withSlot { m with slot := some (some x) } e (some x) | none => s)
        | _, _ =>
          let s := s.onMiss m.id (fun y => { y with slot := some none, base := if m.entry.isSome then none else y.base, needSlot := false })
          let s := if m.base.isSome then s.on (fun bd => bd.count pPTX F.PTX_SPEC_LATE.COUNT 1) else s
          (match m.entry with | some e => s.withSlot { m with slot := some none } e none | none => s)

/-- A rebuild of a map segment or patch-index block from media ends (R110): the structure verifies again, and what waits goes on. -/
def State.segRebuilt (s : State) (i : Nat) : State :=
  match s.mapx.rebuild[i]? with
  | none => s
  | some (kw, since) =>
    let k := kw / 2
    let s := { s with mapx := { s.mapx with rebuild := s.mapx.rebuild.eraseIdx i } }
    let map := decide (k < 2 ^ 20)
    let blocks : List Nat := if map then (List.range 256).map (k * 256 + ·) else [k - 2 ^ 20]
    let base := if map then 0 else 12
    let cells := blocks.flatMap (fun b => (blockStacks b).map (fun st => (st, blockIndex base b 0)))
    let s := { s with cache := { s.cache with corrupt := s.cache.corrupt.filter (fun (e : Nat × Nat) =>
      !(cells.any (fun (c : Nat × Nat) => decide (blockCell c.1 c.2 ≤ e.1) && decide (e.1 < blockCell c.1 c.2 + 64)))) } }
    let detail := if kw % 2 = 0 then 1 else 2
    let lost := decide (kw % 2 = 0) && (blockStacks (if map then k * 256 else k - 2 ^ 20)).all (fun st => !s.bd.stackLost st)
    s.on (fun b =>
      if map then
        let b := (b.count pMAP F.MAP_SEG_REBUILD.COUNT 1).raiseCode pMAP .integrity (ev E.MAP.SEG_REBUILD detail k (s.bd.now - since) 0)
        if lost then b.logFault pMAP E.MAP.SEG_REBUILD 13 0 k false else b
      else
        let b := b.raiseCode pPTX .integrity (ev E.PTX.BLOCK_REBUILD detail (k - 2 ^ 20) (s.bd.now - since) 0)
        if lost then b.logFault pPTX E.PTX.BLOCK_REBUILD 13 0 (k - 2 ^ 20) false else b)

/-! ### The ladder (R178 to R181) -/

/-- A frame of the miss has been sensed: `viaRecon` when reconstruction gave it. Verified, or the step after a failure. -/
def State.judge (s : State) (m : Miss) (f? : Option MFrame) (bin : Nat) (viaRecon : Bool) : State :=
  let e := m.entry.getD (s.mapEntry (m.lln / 64))
  let verified := match f? with
    | none => none
    | some f => (s.verify f m.lln e.gen m.key m.pseq m.epoch).map (fun old => (f, old))
  match verified with
  | some (f, old) =>
    let s := if old then s.on (fun b => b.count pCRY F.CRY_VER_OLD.COUNT 1) else s
    s.finish m (.line f.data) bin
  | none =>
    if m.key ≠ s.homeKey (m.lln / 64) then s.finish m .aliasKey bin
    else if !viaRecon ∧ s.bd.on pMAP F.MAP_CFG.DEEP_EN then s.startRecon m [bin] true
    else s.finish m .integrity bin

/-- A die whose UNCORRECTABLE frames reconstruction recovers in 16 distinct pages within 1 ms (R158): the pages so far. -/
def State.noteWeak (s : State) (ppa : Nat) : State :=
  let die := ppaChan ppa * 8 + ppaDie ppa
  let old := s.media.weak.filter (fun (w : Nat × Nat × Nat) => decide (s.bd.now < w.2.2 + 1000) && !(decide (w.1 = die) && decide (w.2.1 = ppa)))
  { s with media := { s.media with weak := old ++ [(die, ppa, s.bd.now)] } }

/-- Distinct pages of a die that `noteWeak` has noted in the last 1 ms. -/
def State.weakPages (s : State) (c d : Nat) : Nat :=
  (s.media.weak.filter (fun (w : Nat × Nat × Nat) => decide (w.1 = c * 8 + d) && decide (s.bd.now < w.2.2 + 1000))).length

/-- Counts a frame that decoded with corrections, and queues its page as a suspect at 8 or more (R180). -/
def State.corrected (s : State) (ppa bits : Nat) : State :=
  if bits = 0 then s
  else
    let s := s.on (fun b => (b.count (pMCH (ppaChan ppa)) F.MCH_CORR.COUNT 1).count pHLT F.HLT_LIFE_CORR.COUNT 1)
    if 8 ≤ bits then s.suspect ppa else s

/-- Counts an UNCORRECTABLE frame. -/
def State.uncorrected (s : State) (ppa : Nat) : State :=
  s.on (fun b => (b.count (pMCH (ppaChan ppa)) F.MCH_UNCORR.COUNT 1).count pHLT F.HLT_LIFE_UNCORR.COUNT 1)

/-- A squashed read is collected (R176, R177). -/
def State.squashedData (s : State) (r : MRead) (bits : Nat) : State :=
  match s.sense r.ppa r.frame bits with
  | .erased => s
  | .lost =>
    let s := (s.uncorrected r.ppa).on (fun b => (b.count pHLT F.HLT_LIFE_SQUASH.COUNT 1).raiseCode (pMCH (ppaChan r.ppa)) .integrity
      (ev E.MCH.UNCORRECTABLE (ppaDie r.ppa + r.bin * 8 + r.frame * 64 + 2 ^ 13) r.ppa 2 0))
    s.suspect r.ppa
  | .good _ n =>
    let s := if n = 0 then s else s.on (fun b => (b.count (pMCH (ppaChan r.ppa)) F.MCH_CORR.COUNT 1).count pHLT F.HLT_LIFE_CORR.COUNT 1)
    if 8 ≤ n then (s.on (fun b => b.count pHLT F.HLT_LIFE_SQUASH.COUNT 1)).suspect r.ppa else s

/-- The frame of a miss is collected (R171, R178 to R180). -/
def State.missData (s : State) (r : MRead) (m : Miss) (bits : Nat) : State :=
  match s.sense r.ppa r.frame bits with
  | .erased => (s.onMiss m.id (fun x => { x with erased := true })).judge { m with erased := true } none r.bin false
  | .good f n =>
    let s := s.corrected r.ppa n
    let s := s.on (fun b => b.count pAGE (if r.bin = m.predicted then F.AGE_PRED_OK.COUNT else if m.predicted < r.bin then F.AGE_PRED_UP.COUNT else F.AGE_PRED_DOWN.COUNT) 1)
    let s := if m.retried then s.learnBin r.ppa m.predicted r.bin else s
    s.judge m (some f) r.bin false
  | .lost =>
    let s := s.uncorrected r.ppa
    let m : Miss := { m with uncorr := true }
    match m.toTry with
    | b :: bs =>
      let s := if m.retried then s else s.on (fun bd => bd.count pMAP F.MAP_RETRY.COUNT 1)
      let s := (s.on (fun bd => bd.count pHLT F.HLT_LIFE_RETRY.COUNT 1)).offBound r.ppa b
      let m : Miss := { m with toTry := bs, retried := true }
      let s := s.onMiss m.id (fun _ => m)
      if s.bd.readable m.ppa then s.issueRead m b else s.startRecon m (m.predicted :: retryBins m.predicted (s.bd.get pMAP F.MAP_CFG.RETRY_MAX)) false
    | [] =>
      let s := s.onMiss m.id (fun _ => m)
      if s.bd.on pMAP F.MAP_CFG.DEEP_EN then s.startRecon m m.tried false
      else s.finish m .unrecoverable r.bin

/-- The frames of a reconstruction are collected (R146): `fixed` and `bad` are the channels whose frame needed corrections, and was UNCORRECTABLE. -/
def State.reconstructed (s : State) (i fixed bad : Nat) : State :=
  match s.mapx.misses[i]? with
  | none => s
  | some m =>
    match m.recon, m.reconBins with
    | true, bin :: bins =>
      let s := (s.peers m.ppa).foldl (fun s c =>
        let q := ppaOf (ppaBand m.ppa) c (ppaPage m.ppa)
        if nbit bad c then
          (s.uncorrected q).on (fun b => b.raiseCode (pMCH c) .integrity (ev E.MCH.UNCORRECTABLE (ppaDie q + bin * 8 + m.frame * 64) q 2 0))
        else if nbit fixed c then s.corrected q 1 else s) s
      let s := (s.peers m.ppa).foldl (fun s c => s.resumeIfIdle (ppaOf (ppaBand m.ppa) c (ppaPage m.ppa))) s
      match s.reconstruct m.ppa m.frame bad with
      | some f =>
        let s := if m.uncorr then (s.suspect m.ppa).noteWeak m.ppa else s.suspect m.ppa
        (s.onMiss m.id (fun x => { x with recon := false })).judge { m with recon := false } (some f) bin true
      | none =>
        if m.verifying then s.finish m .integrity bin
        else match bins with
          | [] => s.finish m .unrecoverable bin
          | b :: _ => (s.offBound m.ppa b).startRecon m bins false
    | _, _ => s

/-- Squashes the reads of requests that have been abandoned (R85, R88, R176): misses that no request and no partial write waits for. -/
def State.dropIdleMisses (s : State) : State :=
  let idle := s.mapx.misses.filter (fun m => decide (m.reqs = []) && decide (m.partials = []))
  idle.foldl (fun s m =>
    let s := match m.read with | some rid => (s.squash rid).on (fun b => b.count pMAP F.MAP_SQUASH.COUNT 1) | none => s
    { s with mapx := { s.mapx with misses := s.mapx.misses.filter (fun x => decide (x.id ≠ m.id)) } }) s

/-- A head abandons its reads (R85, R88): nothing answers them, and what they had under way is squashed. -/
def State.abandonReads (s : State) (h : Nat) : State :=
  let oid := s.bd.headOid h
  let gone := fun (r : Req) => decide (r.oid = oid) && (decide (r.ask = .read) || decide (r.ask = .hint))
  let s := s.onHead h (fun d => { d with reads := [] })
  let s := { s with
    home := { s.home with
      queue := s.home.queue.filter (fun r => !gone r)
      derive := s.home.derive.filter (fun r => !gone r)
      aliases := s.home.aliases.filter (fun a => !gone a.req) }
    mapx := { s.mapx with misses := s.mapx.misses.map (fun (m : Miss) => { m with reqs := m.reqs.filter (fun r => !gone r) }) } }
  s.dropIdleMisses

/-! ### Inspections (R186, R187) -/

/-- A write of MAP_ACC_PAGE. -/
def State.mapAccPage (s : State) (p : Path) (page : Nat) : State :=
  s.written p pMAP 0x050 false false (fun s =>
    if s.bd.on pMAP F.MAP_ACC_STAT.BUSY then s.rejects p pMAP 0x050 .busy
    else
      let s := s.on (fun b => (b.put pMAP F.MAP_ACC_PAGE.PAGE page).put pMAP F.MAP_ACC_STAT.BUSY 1)
      { s with mapx := { s.mapx with inspectMap := some page } })

/-- A write of PTX_ACC_CMD. -/
def State.ptxAccStart (s : State) (p : Path) (line : Nat) : State :=
  s.written p pPTX 0x068 false false (fun s =>
    if s.bd.on pPTX F.PTX_ACC_STAT.BUSY then s.rejects p pPTX 0x068 .busy
    else
      let s := s.on (fun b => ((b.put pPTX F.PTX_ACC_CMD.LINE line).put pPTX F.PTX_ACC_CMD.START 1).put pPTX F.PTX_ACC_STAT.BUSY 1)
      { s with mapx := { s.mapx with inspectPtx := some (s.bd.get pPTX F.PTX_ACC_PAGE.PAGE * 64 + line) } })

/-- Pages of the part. -/
abbrev localPages : Nat := 3 * 2 ^ 30

/-- A map inspection completes; it waits for the segment's load. -/
def State.mapInspected (s : State) : State :=
  match s.mapx.inspectMap with
  | none => s
  | some page =>
    if page < localPages ∧ !s.segLoaded (page / 2 ^ 17) then s
    else
      let s := { s with mapx := { s.mapx with inspectMap := none } }
      s.on (fun b =>
        let b := (b.put pMAP F.MAP_ACC_STAT.BUSY 0).put pMAP F.MAP_ACC_STAT.RESULT (if page < localPages then 0 else Code.length.num)
        if page < localPages then (b.put pMAP F.MAP_ACC_LO.ENTRY_LO (s.mapEntry page).word).put pMAP F.MAP_ACC_HI.ENTRY_HI ((s.mapEntry page).word / 2 ^ 32) else b)

/-- A patch-index inspection completes; an invalid slot starts a rebuild first. -/
def State.ptxInspected (s : State) : State :=
  match s.mapx.inspectPtx with
  | none => s
  | some k =>
    let ended := fun (s : State) => ({ s with mapx := { s.mapx with inspectPtx := none } }).on (fun b => (b.put pPTX F.PTX_ACC_STAT.BUSY 0).put pPTX F.PTX_ACC_CMD.START 0)
    if localPages ≤ k / 64 then (ended s).on (fun b => b.put pPTX F.PTX_ACC_STAT.RESULT Code.length.num)
    else if !s.segLoaded (24576 + ptxBucket k / 2 ^ 14) ∨ s.rebuilding (segKey false (ptxBucket k / 64)) then s
    else
      let (n, place) := s.probe k
      let w := match place.bind s.slotAt with | some x => x.word | none => 0
      let bad := match place.bind s.slotAt with | some x => x.invalid | none => false
      if bad then
        (s.on (fun b => b.raiseCode pPTX .integrity (ev E.PTX.SLOT_INVALID (place.getD 0 % 8) (place.getD 0 / 8) w (w / 2 ^ 32)))).rebuild (segKey false (ptxBucket k / 64)) 1
      else
        (ended s).on (fun b =>
          let b := (b.put pPTX F.PTX_ACC_STAT.RESULT 0).put pPTX F.PTX_ACC_STAT.FOUND (bit place.isSome)
          let b := b.put pPTX F.PTX_ACC_STAT.PROBED (n - 1)
          (b.put pPTX F.PTX_ACC_LO.SLOT_LO w).put pPTX F.PTX_ACC_HI.SLOT_HI (w / 2 ^ 32))

end Sys2Proof.Machine
end

