-- ==== Sys2Proof/Machine/Bands.lean ====
section
/-! DEFINITION. Bands and fields (R143, R145, R199 to R202, R208, R220, R241): which positions a stripe takes, band opening, closing, failing, resets, retirement, and
what FREE bands raise (R203). -/

namespace Sys2Proof.Machine

/-! ### Positions of a band (R143, R145) -/

/-- Channels of a band that are not excluded. -/
def Band.included (v : Band) : List Nat := (List.range 16).filter (fun c => decide (c ∉ v.excluded))

/-- Included channels of a band in order upward, modulo 16, from (F + d) mod 16: the first is the parity channel, the rest are the data positions. -/
def Band.order (v : Band) (band : Nat) : List Nat :=
  ((List.range 16).map (fun k => (band % 8192 + band / 8192 + k) % 16)).filter (fun c => decide (c ∉ v.excluded))

/-- The parity channel. -/
def Band.parity (v : Band) (band : Nat) : Option Nat := (v.order band).head?

/-- The data channels, in position order. -/
def Band.dataChans (v : Band) (band : Nat) : List Nat := (v.order band).drop 1

/-- Pages of a field of the band. -/
def Band.pages (v : Band) : Nat := if v.slc then 2048 else 4096

/-- The mode of a stream: CKPT is SLC (Table 07-3). -/
def streamSlc (stream : Nat) : Bool := decide (stream = 5)

/-- The open-band count of a stream (R199). -/
def Board.openCount (b : Board) : Nat → Nat
  | 0 => b.get pRCL F.RCL_OPEN0.HOT
  | 1 => b.get pRCL F.RCL_OPEN0.COLD
  | 2 => b.get pRCL F.RCL_OPEN0.RELOC
  | 3 => b.get pRCL F.RCL_OPEN0.META
  | 4 => b.get pRCL F.RCL_OPEN1.PATCH
  | _ => b.get pRCL F.RCL_OPEN1.CKPT

/-- Positions that a band must leave out now: failed dies, channels that are out, retired fields. -/
def State.excludedNow (s : State) (band : Nat) : List Nat :=
  (List.range 16).filter (fun c => s.bd.excludes c (band / 8192) || (s.field (fieldOf band c)).retired)

/-! ### FREE bands (R203) -/

/-- FREE bands. -/
def State.freeBands (s : State) : Nat := 65536 - (s.media.bands.filter (fun (e : Nat × Band) => decide (e.2.st ≠ 0))).length

/-- OUT bands. -/
def State.outBands (s : State) : Nat := (s.media.bands.filter (fun (e : Nat × Band) => decide (e.2.st = 6))).length

/-- A condition with an event of its own begins or ends: told bit `n`. Answers whether it begins. -/
def State.tell (s : State) (n : Nat) (now : Bool) : Bool × State :=
  (now && !nbit s.wp.told n, { s with wp := { s.wp with told := nsetbit s.wp.told n now } })

/-- RCL_FREE and RCL_OUT follow the bands; FREE_LOW, FREE_CRIT and RESERVE are raised as the thresholds are passed. -/
def State.followFree (s : State) : State :=
  let free := s.freeBands
  let s := s.on (fun b => (b.put pRCL F.RCL_FREE.BANDS free).put pRCL F.RCL_OUT.BANDS s.outBands)
  let (low, s) := s.tell 0 (decide (free < s.bd.get pRCL F.RCL_CFG.FREE_LOW))
  let (crit, s) := s.tell 1 (decide (free ≤ s.bd.get pRCL F.RCL_CFG.FREE_CRIT))
  let (reserve, s) := s.tell 2 (decide (free ≤ 32))
  let evs := (if low then [ev E.RCL.FREE_LOW 0 free 0 0] else []) ++ (if crit then [ev E.RCL.FREE_CRIT 0 free 0 0] else [])
    ++ (if reserve then [ev E.RCL.RESERVE 0 free s.wp.foldWait.length 0] else [])
  if evs = [] then s else s.on (fun b => b.raises pRCL evs)

/-! ### Retirement (R202, R208) -/

/-- The FAULT record: units RETIRED, failed dies and the last 256 retired fields (Table 17-4). -/
def State.storeFaults (s : State) : State :=
  let old := s.recordWords 10
  let old := (old.drop 1).take (old.headD 0)
  let units := allPages.filter (fun p => decide (s.bd.unit p = stRETIRED) || decide (p ∈ old))
  let fields := ((s.media.fields.filter (fun (e : Nat × Field) => e.2.retired)).map Prod.fst)
  s.storeWords 10 ((units.length :: units) ++ (s.media.recorded.length :: s.media.recorded) ++ fields.drop (fields.length - 256))

/-- A band with a second excluded position is OUT (R202); two lost positions are a fault outside the catalogue (R474; log entry 51). -/
def State.toOut (s : State) (band : Nat) : State :=
  let v := s.band band
  if v.st = 6 then s
  else
    let s := (s.setBand band { v with st := 6, opening := false }).followFree
    let s := s.on (fun b => b.raise pRCL (ev E.RCL.BAND_OUT 0 band s.outBands 0))
    let lost := (List.range 16).filter (fun c => s.bd.excludes c (band / 8192))
    if 2 ≤ lost.length then s.on (fun b => b.logFault pRCL E.RCL.BAND_OUT 13 0 band false) else s

/-- A field is retired: its reset failed, or would pass its rating. -/
def State.retireField (s : State) (n : Nat) (byReset : Bool) : State :=
  let f := s.field n
  if f.retired then s
  else
    let band := n / 131072 * 8192 + n % 8192
    let c := n / 8192 % 16
    let v := s.band band
    let s := (s.setField n { f with retired := true }).setBand band { v with excluded := nsInsert c v.excluded, resets := nsErase c v.resets }
    let s := ((s.journal 5 band c 0).dirtySegment (n / 256)).storeFaults
    let s := s.on (fun b => (b.count pRCL F.RCL_RETIRED.COUNT 1).raise pRCL
      (ev E.RCL.FIELD_RETIRED (c + bit byReset * 16 + bit (!byReset) * 32) band f.wear 0))
    if 2 ≤ (nsInsert c v.excluded).length then s.toOut band else s

/-! ### Resets (R142, R205, R241) -/

/-- The wear of a reset (R241). -/
def resetWear (slc : Bool) : Nat := if slc then 1 else 3

/-- Does a read in flight forbid the reset of a field (R175, R231)? -/
def State.fieldRead (s : State) (n : Nat) : Bool := s.mapx.reads.any (fun r => decide (ppaField r.ppa = n)) || s.mapx.misses.any (fun m => decide (m.recon ∧ ppaBand m.ppa = n / 131072 * 8192 + n % 8192))

/-- Everything programmed in a field is gone. -/
def State.eraseField (s : State) (n : Nat) : State :=
  { s with media := { s.media with
    pages := s.media.pages.filter (fun (e : Nat × MPage) => decide (ppaField e.1 ≠ n))
    flips := s.media.flips.filter (fun (e : Nat × Nat) => decide (ppaField (e.1 / 128) ≠ n)) } }

/-- RESET_FIELD is sent to one member of a band, when its partition is idle, its die has room and the slot has the units; a field at its rating is retired instead (R208). -/
def State.sendReset (s : State) (band c : Nat) (gov bg : Bool) : State :=
  let v := s.band band
  let n := fieldOf band c
  let ppa := ppaOf band c 0
  let f := s.field n
  if (s.opAt ppa).isSome ∨ s.fieldRead n ∨ s.dieRoom c (band / 8192) = false ∨ s.bd.dieState c (band / 8192) ≠ 2 then s
  else if 30000000 < f.wear + resetWear v.slc then s.retireField n false
  else
    match s.claim (s.opCost true) gov bg false with
    | none => s
    | some s =>
      let s := (s.eraseField n).setField n { f with wear := f.wear + resetWear v.slc }
      (s.setOp ppa ⟨true, 0, ppa, false, s.bd.now, 0, 0⟩).dirtySegment (n / 256)

/-- Sends what resets of a band can be sent in this slot. -/
def State.sendResets (s : State) (band : Nat) (gov bg : Bool) : State :=
  (s.band band).resets.foldl (fun s c => s.sendReset band c gov bg) s

/-! ### Opening (R199, R200, R220) -/

/-- The field-table segments of a band's members have changed. -/
def State.dirtyFields (s : State) (band : Nat) : State :=
  (List.range 16).foldl (fun s c => s.dirtySegment (fieldOf band c / 256)) s

/-- The highest wear of a band's members. -/
def State.bandWear (s : State) (band : Nat) : Nat := ((List.range 16).map (fun c => (s.field (fieldOf band c)).wear)).foldl max 0

/-- Open bands of a stream in a band group. -/
def State.openIn (s : State) (stream d : Nat) : Nat :=
  (s.media.bands.filter (fun (e : Nat × Band) => decide (e.2.st = 1) && decide (e.2.stream = stream) && decide (e.1 / 8192 = d))).length

/-- Open bands of a stream. -/
def State.openOf (s : State) (stream : Nat) : List (Nat × Band) :=
  s.media.bands.filter (fun (e : Nat × Band) => decide (e.2.st = 1) && decide (e.2.stream = stream))

/-- The FREE band of a group with the least wear, ties to the lower F (R200), that has at most one position to exclude. Nothing lies below a wear of 0. -/
def State.pickFree (s : State) (d : Nat) : Option Nat :=
  let out := (List.range 16).filter (fun c => s.bd.excludes c d)
  let fit := fun f => decide ((s.band (d * 8192 + f)).st = 0) &&
    decide (((List.range 16).filter (fun c => out.contains c || (s.field (fieldOf (d * 8192 + f) c)).retired)).length ≤ 1)
  match (List.range 8192).find? (fun f => fit f && decide (s.bandWear (d * 8192 + f) = 0)) with
  | some f => some (d * 8192 + f)
  | none =>
    (((List.range 8192).filter fit).foldl (fun (best : Option (Nat × Nat)) f =>
      let wear := s.bandWear (d * 8192 + f)
      match best with
      | none => some (wear, d * 8192 + f)
      | some x => if wear < x.1 then some (wear, d * 8192 + f) else some x) none).map Prod.snd

/-- A band group that a stream opens its next band in: the one with fewest open bands of the stream (log entry 27). -/
def State.pickGroup (s : State) (stream : Nat) : Nat :=
  ((List.range 8).foldl (fun (best : Nat × Nat) d => if s.openIn stream d < best.1 then (s.openIn stream d, d) else best) (1000, 0)).2

/-- A band begins to open for a stream: its members are to be reset (R200). At 32 FREE bands or fewer only META, CKPT and reclaim destinations open (R203). -/
def State.beginOpen (s : State) (stream : Nat) (reclaim : Bool) : State :=
  let reserve := decide (s.freeBands ≤ 32) && !reclaim && (decide (stream ≤ 1) || decide (stream = 4))
  if reserve ∨ s.bd.openCount stream ≤ (s.openOf stream).length ∨ (s.openOf stream).any (fun (e : Nat × Band) => e.2.opening) then s
  else
    match s.pickFree (s.pickGroup stream) with
    | none => s
    | some band =>
      let ex := s.excludedNow band
      let v : Band := ⟨1, stream, streamSlc stream, ex, 0, s.media.nextSeq, 0, 0, 0, (List.range 16).filter (fun c => decide (c ∉ ex)), true, false, s.wp.jsn, false⟩
      ((s.setBand band v).dirtyFields band).followFree

/-- Every member of a band has been reset for its opening: the band is OPEN (R200, R220). -/
def State.opened (s : State) (band : Nat) : State :=
  let v := s.band band
  let s := s.setBand band { v with opening := false, next := 0, first := s.media.nextSeq, reset := true }
  let s := v.included.foldl (fun s c =>
    let n := fieldOf band c
    let f := s.field n
    s.setField n { f with stamp := s.stamp c, old := false, bias := 0, relocs := 0, sinceStart := true }) s
  let s := (s.journal 2 band s.media.nextSeq v.stream).dirtyFields band
  if v.stream = 5 then { s with wp := { s.wp with ckptBands := s.wp.ckptBands ++ [band] } } else s

/-! ### Closing (R201, R207, R220) -/

/-- What a close leaves in the member fields. -/
def State.stampClose (s : State) (band : Nat) : State :=
  let valid := s.bd.on pRTM F.RTM_STAT.VALID
  (s.band band).included.foldl (fun s c =>
    let n := fieldOf band c
    let f := s.field n
    let d := (s.stamp c + 2 ^ 32 - f.stamp) % 2 ^ 32
    let v : Field := { f with
      fillSpan := min 65535 (d / 256)
      stamp := s.stamp c
      closeTime := s.bd.rackTime / 60000000
      awaitsTime := !valid }
    s.setField n v) s

/-- A CLOSED band is to be emptied: EVACUATE. A band in FAILING, VICTIM, EVACUATE or OUT stays. -/
def State.evacuate (s : State) (band : Nat) : State :=
  let v := s.band band
  if v.st = 2 then (s.setBand band { v with st := 4 }).dirtyFields band else s

/-- A field has weakened too often, or holds a weak PATCH or CKPT page (R232, R233): its band, when CLOSED, is evacuated. -/
def State.evacuateFor (s : State) (n : Nat) (log : Bool) : State :=
  let band := n / 131072 * 8192 + n % 8192
  if (s.band band).st ≠ 2 then s
  else
    (s.evacuate band).on (fun b => (b.count pPTL F.PTL_EVAC.COUNT 1).raise pPTL (ev E.PTL.BAND_EVACUATE (bit log) band n (s.field n).relocs))

/-- A band closes: CLOSED, or FAILING after a program failure. A move to EVACUATE that waited for the close follows (R233). -/
def State.closeBand (s : State) (band : Nat) (failing : Bool) : State :=
  let v := s.band band
  if v.st ≠ 1 then s
  else
    let s := (s.stampClose band).setBand band { v with st := if failing then 3 else 2, closing := false, opening := false, resets := [], closedAt := s.bd.rackTime }
    let s := (s.journal 3 band v.last 0).dirtyFields band
    match v.included.find? (fun c => decide (s.bd.get pPTL F.PTL_CFG.EVAC_RELOCS ≤ (s.field (fieldOf band c)).relocs)) with
    | some c => s.evacuateFor (fieldOf band c) false
    | none => s

/-- Bands whose last stripe is programmed close once the MAP_SET records of their pages are journalled (R201). -/
def State.closeReady (s : State) : State :=
  (s.media.bands.filter (fun (e : Nat × Band) => e.2.closing && decide (e.2.sinceJsn ≤ s.wp.journalled))).foldl (fun s e => s.closeBand e.1 false) s

/-- Every member of a victim (or an OUT band) has been reset: FREE, with BAND_FREE journalled, or OUT when a second position is retired or lost (R201, R205). -/
def State.freed (s : State) (band : Nat) : State :=
  let v := s.band band
  let ex := s.excludedNow band
  if 2 ≤ ex.length then (s.setBand band { v with resets := [], excluded := ex }).toOut band
  else
    let mask := ((List.range 16).filter (fun c => decide (c ∉ ex))).foldl (fun m c => m + 2 ^ c) 0
    let s := s.setBand band { bandDefault 0 with stream := v.stream }
    ((s.journal 4 band mask 0).dirtyFields band).followFree

/-- A reset of a member has ended (R205, R208). -/
def State.resetEnded (s : State) (ppa : Nat) (fail : Bool) : State :=
  let band := ppaBand ppa
  let c := ppaChan ppa
  let v := s.band band
  let s := s.on (fun b => b.count pRCL F.RCL_RESETS.COUNT 1)
  let s := if fail then
      (s.on (fun b => ((b.count (pMCH c) F.MCH_RST_FAIL.COUNT 1).count pHLT F.HLT_LIFE_RFAIL.COUNT 1).raise (pMCH c)
        (ev E.MCH.RST_FAIL (ppaDie ppa + bit v.slc * 8) ppa (s.field (ppaField ppa)).wear 0))).retireField (ppaField ppa) true
    else s.setBand band { v with resets := nsErase c v.resets }
  let v := s.band band
  if v.resets ≠ [] ∨ v.st = 6 ∧ v.opening then s
  else if v.opening then (if 2 ≤ v.excluded.length then s.toOut band else s.opened band)
  else if v.st = 5 ∨ v.st = 6 then s.freed band
  else s

end Sys2Proof.Machine
end

