-- ==== Sys2Proof/Machine/Keys.lean ====
section
/-! DEFINITION. Key slots and their transitions (R275, R276, R279 to R284), re-key triggers and sweeps (R298 to R302), crypto erase (R295), and the content of META
segments (R213, Table 07-17). -/

namespace Sys2Proof.Machine

/-! ### Draws (R405) -/

/-- A fresh draw of the random bit generator (log entry 3). -/
def State.draw (s : State) : Nat × State := (Config.draw s.keys.draws, { s with keys := { s.keys with draws := s.keys.draws + 1 } })

/-- The import nonce is drawn again (R280). -/
def State.drawNonce (s : State) : State :=
  let (v, s) := s.draw
  s.on (fun b => b.put64 pKEY F.KEY_NONCE_LO.NONCE F.KEY_NONCE_HI.NONCE v)

/-! ### Sealed records and META segments (R213, R279) -/

/-- The sealed record of a slot as it is to be written: state and version (Table 10-2). A slot in CLEARING whose write-back is complete is sealed EMPTY. -/
def State.sealing (s : State) (k : Nat) : Nat × Nat :=
  let v := s.keySlot k
  match v.st with
  | 2 => (3, v.ver + 1)
  | 4 => (1, v.ver)
  | 5 => if s.keys.busy.any (fun b => decide (b.1 = k) && decide (b.2.2 = 1)) then (0, 0) else (1, v.ver)
  | st => (st, v.ver)

/-- Entries of a table between two indices. -/
def smRange {α : Type} (m : SMap α) (lo n : Nat) : SMap α := m.filter (fun e => decide (lo ≤ e.1) && decide (e.1 < lo + n))

/-- The content of META segment `n` (Table 07-17) in the model's own words: index and words of every entry that is not the default. -/
def State.segmentWords (s : State) (n : Nat) : List Nat :=
  if n < 4096 then (smRange s.media.fields (n * 256) 256).flatMap (fun e => [e.1, e.2.wear])
  else if n < 4128 then (smRange s.xtn.hxt ((n - 4096) * 256) 256).flatMap (fun e => e.1 :: e.2.words)
  else if n < 4192 then (smRange s.xtn.xmb ((n - 4128) * 512) 512).flatMap (fun e => e.1 :: e.2.words)
  else if n < 4288 then (smRange s.xtn.lxt ((n - 4192) * 512) 512).flatMap (fun e => e.1 :: e.2.words)
  else if n < 4384 then (smRange s.xtn.eet ((n - 4288) * 512) 512).flatMap (fun e => [e.1, e.2])
  else if n < 4512 then (smRange s.keys.slots ((n - 4384) * 32) 32).flatMap (fun e =>
    let r := s.sealing e.1
    [e.1, r.1, r.2, bit e.2.again, e.2.seed, s.keyEpoch])
  else s.recordWords 9

/-- Splits words into entries of `w` words. -/
def chunks (w : Nat) : Nat → List Nat → List (List Nat)
  | 0, _ => []
  | _ + 1, [] => []
  | n + 1, ws => ws.take w :: chunks w n (ws.drop w)

/-- The entries of a segment that hold `w` words each. -/
def entriesOf (w : Nat) (ws : List Nat) : List (List Nat) := chunks w ws.length ws

/-- The sealed record of a slot in the words of its segment: state, version, AGAIN, seed, KEY_EPOCH. -/
def sealedIn (ws : List Nat) (k : Nat) : Option (List Nat) := ((entriesOf 6 ws).find? (fun e => decide (e.getD 0 0 = k))).map (fun e => e.drop 1)

/-! ### Transitions of a slot (Table 10-2, R298, R302) -/

/-- A slot's sealed record is to be written again. -/
def State.seal (s : State) (k : Nat) : State := s.dirtySegment (4384 + k / 32)

/-- The sweep of a slot, if one is under way. -/
def State.sweepOf (s : State) (k : Nat) : Option Sweep := s.keys.sweeps.find? (fun w => decide (w.slot = k))

/-- Changes the sweep of a slot. -/
def State.onSweep (s : State) (k : Nat) (f : Sweep → Sweep) : State :=
  { s with keys := { s.keys with sweeps := s.keys.sweeps.map (fun (w : Sweep) => if w.slot = k then f w else w) } }

/-- LOADED passes to PREPARE. -/
def State.prepare (s : State) (k : Nat) (page : Option Nat) : State :=
  let w : Sweep := ⟨k, [], 0, s.bd.now, page, false, 0, 0, 0⟩
  let s := s.setKeySlot k { s.keySlot k with st := 2 }
  ({ s with keys := { s.keys with sweeps := s.keys.sweeps.filter (fun (x : Sweep) => decide (x.slot ≠ k)) ++ [w] } }).seal k

/-- A trigger of slot `k` (R298, R302): for a page at its last generation, or by RKY_CMD. -/
def State.trigger (s : State) (k : Nat) (page : Option Nat) : State :=
  let v := s.keySlot k
  let pg := page.getD 0
  let s := match v.st with
    | 1 => if v.ver = 2 ^ 32 - 1 then
        (s.setKeySlot k { v with exhausted := true }).on (fun b => b.raise pRKY (ev E.RKY.VERSION_EXHAUSTED k pg 0 0))
      else s.prepare k page
    | 3 | 4 =>
      if v.again then s
      else (s.setKeySlot k { v with again := true }).on (fun b => b.raise pRKY (ev E.RKY.AGAIN_SET k pg v.ver 0))
    | _ => s
  match page with
  | none => s
  | some pg =>
    let newV := if v.st = 1 ∨ v.st = 2 then min (2 ^ 32 - 1) (v.ver + 1) else v.ver
    s.on (fun b => b.raise pRKY (ev E.RKY.GEN_EXHAUSTED (k + bit (s.keySlot k).again * 4096) pg newV 0))

/-- The pages that a sweep of slot `k` covers: of its ACTIVE local extents, those with a base page or live patches, the trigger page first (R299). -/
def State.sweepPages (s : State) (k : Nat) (first : Option Nat) : List (Nat × Nat) :=
  let mine := (s.mapx.map.filter (fun (e : Nat × MapEntry) =>
    let x := s.lxt (e.1 / 2 ^ 16)
    decide (x.st = 1) && decide (x.key = k) && !e.2.zero && !e.2.poison && !e.2.unmapped)).map Prod.fst
  let head := match first with | some p => if p ∈ mine then [p] else [] | none => []
  (head ++ mine.filter (fun p => some p ≠ first)).map (fun p => (p, 0))

/-- PREPARE passes to SWEEP: V advances and the pages of the sweep are known. -/
def State.beginSweep (s : State) (k : Nat) : State :=
  let v := s.keySlot k
  let first := (s.sweepOf k).bind Sweep.first
  let s := s.setKeySlot k { v with st := 3, ver := v.ver + 1 }
  s.onSweep k (fun w => { w with left := s.sweepPages k first, start := s.bd.now, journalAt := s.wp.jsn })

/-- RETIRE passes to LOADED, or to PREPARE where AGAIN is set. -/
def State.endSweep (s : State) (k : Nat) : State :=
  let v := s.keySlot k
  let s := { s.setKeySlot k { v with st := 1, again := false } with
    keys := { (s.setKeySlot k { v with st := 1, again := false }).keys with sweeps := s.keys.sweeps.filter (fun (x : Sweep) => decide (x.slot ≠ k)) } }
  if v.again then (if v.ver = 2 ^ 32 - 1 then s.setKeySlot k { s.keySlot k with exhausted := true } else s.prepare k none) else s

/-- Every page of a sweep is folded and its record journalled: SWEEP passes to RETIRE (R276). -/
def State.sweepReady (s : State) : State :=
  (s.keys.sweeps.filter (fun (w : Sweep) => decide ((s.keySlot w.slot).st = 3) && decide (w.left = []) && decide (w.journalAt ≤ s.wp.journalled))).foldl (fun s w =>
    let v := s.keySlot w.slot
    let s := (s.setKeySlot w.slot { v with st := 4 }).seal w.slot
    s.on (fun b => (b.count pRKY F.RKY_SWEEPS.COUNT 1).raise pRKY (ev E.RKY.SWEEP_DONE w.slot w.done ((b.now - w.start) / 1000000) v.ver))) s

/-- A page has been folded under the current version of its slot: the sweep has it behind it. -/
def State.swept (s : State) (page k : Nat) : State :=
  match s.sweepOf k with
  | none => s
  | some w =>
    if (s.keySlot k).st = 3 ∧ w.left.any (fun e => decide (e.1 = page)) then
      s.onSweep k (fun w => { w with left := w.left.filter (fun e => decide (e.1 ≠ page)), done := w.done + 1, journalAt := s.wp.jsn })
    else s

/-! ### Operations of KEY_CMD (R281, R282, R284) -/

/-- A key operation ends with a result. -/
def Board.keyDone (b : Board) (c : Code) : Board := (b.put pKEY F.KEY_STAT.BUSY 0).put pKEY F.KEY_STAT.RESULT c.num

/-- KEY_BLOB is cleared and a nonce drawn after every IMPORT (R281). -/
def State.clearBlob (s : State) : State :=
  ((List.range 407).foldl (fun s j => s.on (fun b => b.put pKEY (F.KEY_BLOB.DATA.ix j) 0)) s).drawNonce

/-- An IMPORT ends without a seed. -/
def State.importFailed (s : State) (k : Nat) (c : Code) : State :=
  (s.on (fun b => ((b.count pKEY F.KEY_IMPORT_FAIL.COUNT 1).raiseCode pKEY c (ev E.KEY.IMPORT_FAILED k c.num 0 0)).keyDone c)).clearBlob

/-- An import of a blob into slot `k`: `seed` is what decapsulation and unwrapping give, none where the GCM tag fails (R281). BUSY while the random bit generator fails
(R405); DENIED in CONTAINED and TEST. -/
def State.importSeed (s : State) (k : Nat) (seed : Option Nat) : State :=
  if s.bd.unit pKEY = stCONTAINED ∨ s.bd.unit pKEY = stTEST then s.importFailed k .denied
  else if s.keys.rbgBad then s.on (fun b => b.keyDone .busy)
  else if (s.keySlot k).st ≠ 0 then s.importFailed k .conflict
  else match seed with
    | none => s.importFailed k .integrity
    | some v => (s.setKeySlot k ⟨1, 0, v, false, false, 1⟩).seal k

/-- Dirty lines under a key: of frames, and staged. -/
def State.dirtyUnder (s : State) (k : Nat) : List Nat :=
  (s.cache.frames.filter (fun (e : Nat × Frame) => decide (e.2.key = k))).flatMap (fun e => e.2.dirtyLines.map (fun n => e.2.page * 64 + n))
    ++ (s.cache.staged.filter (fun (e : Nat × LineSt) => match smFind e.2.slot s.cache.slots with | some x => decide (x.2.2.1 = k) | none => false)).map Prod.fst

/-- A clear of slot `k` (R282). -/
def State.clearSlot (s : State) (k : Nat) : State :=
  let v := s.keySlot k
  let named := s.xtn.lxt.any (fun e => decide (e.2.key = k) && (decide (e.2.st = 1) || decide (e.2.st = 2)))
    || (List.range 64).any (fun hw => s.bd.committed hw && decide (s.bd.get pXTN (F.WIN_CTL.KEY.ix hw) = k) && s.bd.on pXTN (F.WIN_CTL.KEY_VALID.ix hw))
  if s.bd.unit pKEY = stCONTAINED ∨ s.bd.unit pKEY = stTEST then s.on (fun b => b.keyDone .denied)
  else if v.st = 0 then s.on (fun b => b.keyDone .ok)
  else if v.st = 5 then s.on (fun b => b.keyDone .busy)
  else if named then s.on (fun b => b.keyDone .conflict)
  else if v.st ≠ 1 then s.on (fun b => b.keyDone .busy)
  else
    let lines := s.dirtyUnder k
    let s := { s.setKeySlot k { v with st := 5, op := 2 } with keys := { (s.setKeySlot k { v with st := 5, op := 2 }).keys with busy := some (k, lines.length, 0) } }
    ((lines.map (· / 64)).foldl (fun l p => nsInsert p l) []).foldl (fun s p => s.writeBack p) s

/-- The write-back of a slot in CLEARING is complete: the EMPTY record is written. -/
def State.clearReady (s : State) : State :=
  match s.keys.busy with
  | some (k, n, 0) => if s.dirtyUnder k = [] then ({ s with keys := { s.keys with busy := some (k, n, 1) } }).seal k else s
  | _ => s

/-- KEY_INFO of a slot (R284). -/
def State.inspect (s : State) (k : Nat) : State :=
  let v := s.keySlot k
  let extents := (s.xtn.lxt.filter (fun e => decide (e.2.key = k) && (decide (e.2.st = 1) || decide (e.2.st = 2)))).length
  let windows := ((List.range 64).filter (fun hw => s.bd.committed hw && s.bd.on pXTN (F.WIN_CTL.KEY_VALID.ix hw) && decide (s.bd.get pXTN (F.WIN_CTL.KEY.ix hw) = k))).length
  s.on (fun b =>
    let b := b.wr pKEY 0x050 (BitVec.ofNat 32 (v.st + bit v.again * 8 + bit v.exhausted * 16))
    let b := (b.put pKEY F.KEY_INFO1.VERSION v.ver).wr pKEY 0x058 (BitVec.ofNat 32 (extents + windows * 2 ^ 16))
    b.keyDone .ok)

/-- A write of KEY_CMD with a non-zero OP (R284). -/
def State.keyCommand (s : State) (p : Path) (op k : Nat) (f : State → State) : State :=
  s.written p pKEY 0x040 true false (fun s =>
    if s.bd.on pKEY F.KEY_STAT.BUSY then s.rejects p pKEY 0x040 .busy
    else f (s.on (fun b => ((b.put pKEY F.KEY_CMD.OP op).put pKEY F.KEY_CMD.SLOT k).put pKEY F.KEY_STAT.BUSY 1)))

/-- RKY_CMD with START = 1 (R302). -/
def State.rkyStart (s : State) (p : Path) (k : Nat) : State :=
  s.written p pRKY 0x044 true false (fun s =>
    let s := s.on (fun b => b.put pRKY F.RKY_CMD.KEY k)
    let v := s.keySlot k
    if v.st = 0 ∨ v.st = 5 then s.on (fun b => b.put pRKY F.RKY_CMD.RESULT Code.conflict.num)
    else if v.ver = 2 ^ 32 - 1 then s.on (fun b => b.put pRKY F.RKY_CMD.RESULT Code.exhausted.num)
    else (s.trigger k none).on (fun b => b.put pRKY F.RKY_CMD.RESULT 0))

/-! ### A META segment is complete (R213, R276, R295) -/

/-- What the completed write of a sealed record does for its slot. -/
def State.sealedDone (s : State) (k : Nat) (r : Option (List Nat)) : State :=
  let v := s.keySlot k
  let st := match r with | some w => w.getD 0 0 | none => 0
  let ver := match r with | some w => w.getD 1 0 | none => 0
  if v.st = 2 ∧ st = 3 ∧ ver = v.ver + 1 then s.beginSweep k
  else if v.st = 4 ∧ st = 1 ∧ ver = v.ver then s.endSweep k
  else if v.st = 5 ∧ st = 0 ∧ s.keys.busy.any (fun b => decide (b.1 = k) && decide (b.2.2 = 1)) then
    let n := match s.keys.busy with | some b => b.2.1 | none => 0
    ({ s.setKeySlot k (keySlotDefault 0) with keys := { (s.setKeySlot k (keySlotDefault 0)).keys with busy := none } }).on (fun b =>
      (b.raise pKEY (ev E.KEY.CLEARED k n 0 0)).keyDone .ok)
  else if v.st = 1 ∧ v.op = 1 ∧ st = 1 then
    ((s.setKeySlot k { v with op := 0 }).on (fun b =>
      ((b.count pKEY F.KEY_IMPORT_OK.COUNT 1).raise pKEY (ev E.KEY.IMPORTED k 0 0 0)).keyDone .ok)).clearBlob
  else s

/-- A META segment with content `ws` has become current. -/
def State.segmentDone (s : State) (n : Nat) (ws : List Nat) : State :=
  if 4384 ≤ n ∧ n < 4512 then
    (List.range 32).foldl (fun s i => s.sealedDone ((n - 4384) * 32 + i) (sealedIn ws ((n - 4384) * 32 + i))) s
  else if 4288 ≤ n ∧ n < 4384 then
    (entriesOf 2 ws).foldl (fun s e =>
      let x := e.getD 0 0
      if (s.lxt x).st = 2 ∧ s.eet x = e.getD 1 0 ∧ s.keys.erases.all (fun q => decide (q.1 ≠ x)) then s.unmapExtent x else s) s
  else s

/-! ### Crypto erase (R295) -/

/-- Does a line lie in local extent `x`? -/
def inExtent (x lln : Nat) : Bool := decide (lln / 2 ^ 22 = x)

/-- Steps 1 to 3 of the erase at the head of the queue end: frames go without write-back, slots and folds of the extent are dropped. The writes of the lines dropped
are reported persistent (log entry 40). -/
def State.eraseDone (s : State) : State :=
  match s.keys.erases with
  | [] => s
  | (x, since) :: rest =>
    let frames := s.cache.frames.filter (fun (e : Nat × Frame) => decide (e.2.page / 2 ^ 16 = x))
    let lines := frames.flatMap (fun (e : Nat × Frame) => e.2.lines.map (fun (l : Nat × LineSt) => e.2.page * 64 + l.1))
      ++ (s.cache.staged.filter (fun (e : Nat × LineSt) => inExtent x e.1)).map Prod.fst
    let s := lines.foldl (fun s lln =>
      let (ws, s) := s.dropLine lln
      s.durable ws (s.roleOf lln) lln) s
    let s := frames.foldl (fun s (e : Nat × Frame) => s.dropFrame e.1) s
    let gone := s.wp.patches.filter (fun p => inExtent x p.lln)
    let s := gone.foldl (fun s p => s.durable p.writers (s.roleOf p.lln) p.lln) s
    let here := (s.mapx.slots.filter (fun (e : Nat × Slot) => inExtent x (slotLine e.1 e.2))).map (fun (e : Nat × Slot) => slotLine e.1 e.2)
    let s := here.foldl (fun s lln => s.freeSlot lln) s
    let s := { s with
      wp := { s.wp with
        patches := s.wp.patches.filter (fun p => !inExtent x p.lln)
        poisonWait := s.wp.poisonWait.filter (fun p => !inExtent x p.1)
        folds := s.wp.folds.filter (fun (f : Fold) => decide (f.page / 2 ^ 16 ≠ x))
        foldWait := s.wp.foldWait.filter (fun f => decide (f.1 / 2 ^ 16 ≠ x)) }
      home := { s.home with keyCache := s.home.keyCache.filter (fun k => !(decide (k.2.2.1 = x) && decide (k.2.2.2 ≠ s.eet x))) }
      keys := { s.keys with
        erases := rest
        sweeps := s.keys.sweeps.map (fun (w : Sweep) => { w with left := w.left.filter (fun e => decide (e.1 / 2 ^ 16 ≠ x)) }) } }
    let ns := (s.bd.now - since) * 1000
    let s := s.on (fun b =>
      let b := (b.count pCRY F.CRY_ERASES.COUNT 1).put pCRY F.CRY_ERASE_STAT.LAST_NS (min 65535 ns)
      let b := (b.put pCRY F.CRY_ERASE_STAT.ACTIVE (bit (decide (rest ≠ [])))).put pCRY F.CRY_ERASE_STAT.QUEUED (rest.length - 1)
      b.raise pCRY (ev E.CRY.ERASE_DONE 0 x ns (s.eet x)))
    (s.dirtySegment (4288 + x / 512)).followLimit

end Sys2Proof.Machine
end

