-- ==== Sys2Proof/Machine/Folds.lean ====
section
/-! DEFINITION. Folds (R194 to R198, R297, R298) and patch-log pages (R191 to R193): what they capture, the images they build, and their commits. -/

namespace Sys2Proof.Machine

/-! ### Reads of the engines (R104, R171, log entry 28) -/

/-- Does a frame verify for an engine: as R289, where the write-back of a slot in CLEARING counts its version as live (R282)? -/
def State.verifyFor (s : State) (f : MFrame) (lln gen key pseq : Nat) : Bool :=
  let v := s.keySlot key
  (s.verify f lln gen key pseq (s.eet (lln / 2 ^ 22))).isSome
    || (decide (v.st = 5) && !f.filler && decide (f.lln = lln) && decide (f.gen = gen) && decide (f.key = key) && decide (f.pseq = pseq)
      && decide (f.epoch = s.eet (lln / 2 ^ 22)) && decide (f.keyEpoch = s.keyEpoch) && decide (f.seed = v.seed) && decide (f.ver = v.ver))

/-- A read has decoded at a bin: counted against its prediction. -/
def State.decodedAt (s : State) (predicted bin : Nat) : State :=
  s.on (fun b => b.count pAGE (if bin = predicted then F.AGE_PRED_OK.COUNT else if predicted < bin then F.AGE_PRED_UP.COUNT else F.AGE_PRED_DOWN.COUNT) 1)

/-- A frame that is UNCORRECTABLE as the media stand fails at its first bin and at every retry bin (R178). -/
def State.allBinsFail (s : State) (ppa bin : Nat) : State :=
  (retryBins bin (s.bd.get pMAP F.MAP_CFG.RETRY_MAX)).foldl (fun s b =>
    ((s.on (fun bd => bd.count pHLT F.HLT_LIFE_RETRY.COUNT 1)).offBound ppa b).uncorrected ppa) (s.uncorrected ppa)

/-- How a ladder ends for frame `frame` (64 the header) of a page that read UNCORRECTABLE: 0 recovered, 1 failed, 2 not tried. -/
def State.ladderEnds (s : State) (ppa frame bin result : Nat) : State :=
  s.on (fun b => b.raiseCode (pMCH (ppaChan ppa)) .integrity
    (ev E.MCH.UNCORRECTABLE (ppaDie ppa + bin * 8 + frame % 64 * 64 + bit (decide (frame = 64)) * 2 ^ 12) ppa result 0))

/-- The reconstruction of an engine's ladder (R179), where the die and channel are out or DEEP_EN permits it. -/
def State.engineRecon (s : State) (ppa frame : Nat) : Option MFrame × State :=
  let s := s.on (fun b => (b.count (pMCH (ppaChan ppa)) F.MCH_RECON.COUNT 1).count pHLT F.HLT_LIFE_RECON.COUNT 1)
  match s.reconstruct ppa frame 0 with
  | some g => (some g, s.suspect ppa)
  | none => (none, s)

/-- A line of media for an engine, under the ladder of R171: the frame that verifies, or none. -/
def State.readLine (s : State) (ppa frame lln gen key pseq : Nat) : Option MFrame × State :=
  let (bin, s) := s.predict ppa
  let deep := s.bd.on pMAP F.MAP_CFG.DEEP_EN
  let ok := fun (x : Option MFrame × State) => (x.1.filter (fun f => x.2.verifyFor f lln gen key pseq), x.2)
  let again := fun (s : State) => if key ≠ s.homeKey (lln / 64) ∨ !deep then (none, s) else ok (s.engineRecon ppa frame)
  if !s.bd.readable ppa then ok (s.engineRecon ppa frame)
  else
    match s.sense ppa frame 0 with
    | .erased => again s
    | .good f n =>
      let s := (s.corrected ppa n).decodedAt bin bin
      if s.verifyFor f lln gen key pseq then (some f, s) else again s
    | .lost =>
      let s := s.allBinsFail ppa bin
      if !deep then (none, s.ladderEnds ppa frame bin 2)
      else
        let (g, s) := s.engineRecon ppa frame
        match g with
        | some _ => ok (g, (s.ladderEnds ppa frame bin 0).noteWeak ppa)
        | none => (none, s.ladderEnds ppa frame bin 1)

/-- A frame of media for a line, under the version of its key slot current now (R290). -/
def State.lineFrame (s : State) (lln gen key pseq : Nat) (d : Line) : MFrame :=
  ⟨false, d, lln, gen, key, (s.keySlot key).ver, s.eet (lln / 2 ^ 22), pseq, s.keyEpoch, (s.keySlot key).seed⟩

/-! ### When a fold may start (R194, R203, R298, R300) -/

/-- Is the journal at its cap (R212)? -/
def State.journalFull (s : State) : Bool := s.bd.on pCKP F.CKP_STAT.JOURNAL_FULL

/-- Has a page anything that a fold of a cause would do? -/
def State.foldUseful (s : State) (page cause : Nat) : Bool :=
  let e := s.mapEntry page
  let live := (s.lxt (page / 2 ^ 16)).st = 1
  decide live && !e.poison && !e.unmapped &&
    (match cause with
    | 4 | 5 => (List.range 64).any (fun n => match s.slotOf (page * 64 + n) with | some x => !x.staged && !x.poison | none => false)
    | 6 => !e.zero
    | 1 => decide (0 < s.pageDirty page)
    | _ => true)

/-- The key index that a fold of a page runs under (R195). -/
def State.foldKey (s : State) (page : Nat) : Nat :=
  match s.stagedOf page with
  | (_, l) :: _ => (match smFind l.slot s.cache.slots with | some x => x.2.2.1 | none => s.homeKey page)
  | [] =>
    match s.frameOf page with
    | some (_, f) => if f.dirtyLines = [] then s.homeKey page else f.key
    | none => s.homeKey page

/-- Must a fold wait: one of its page runs, 512 run, 32 FREE bands are left, its key slot is in PREPARE at the last generation, or a late sweep stands before it? -/
def State.foldWaits (s : State) (page cause : Nat) : Bool :=
  let k := s.foldKey page
  let v := s.keySlot k
  let last := decide ((s.mapEntry page).gen = 2 ^ 24 - 1)
  s.wp.folds.any (fun f => decide (f.page = page)) || decide (512 ≤ s.wp.folds.length) || decide (s.freeBands ≤ 32)
    || (last && (decide (v.st = 2) || (decide (v.st = 1) && decide (v.ver ≠ 2 ^ 32 - 1))))
    || (decide (cause ≠ 6) && (match s.sweepOf k with | some w => w.late | none => false))

/-! ### Capture (R195) -/

/-- Where a line of a fold comes from: its data with its mirror slot plus 1 (0 none), a POISON slot that is kept, or a line that fails. -/
inductive Capture
  | data (d : Line) (slot : Nat)
  | kept
  | failed

/-- The dirty line of a page, in its frame or outside. -/
def State.dirtyAt (s : State) (lln : Nat) : Option LineSt :=
  match s.stagedLine lln with
  | some l => some l
  | none => (s.frameOf (lln / 64)).bind (fun (f : Nat × Frame) => (smFind (lln % 64) f.2.lines).bind (fun l => if l.dirty then some l else none))

/-- One line of a fold. -/
def State.capture (s : State) (e : MapEntry) (key lln : Nat) : Capture × State :=
  match s.dirtyAt lln with
  | some l => (.data l.data (l.slot + 1), s)
  | none =>
    let from' := fun (ppa frame pseq : Nat) (s : State) =>
      match s.readLine ppa frame lln e.gen key pseq with
      | (some f, s) => (Capture.data f.data 0, s)
      | (none, s) => (Capture.failed, s)
    match s.slotOf lln with
    | some x => if x.poison then (.kept, s) else if x.staged then (.failed, s) else from' x.loc x.pslot x.pseq s
    | none => if e.zero ∨ e.fresh then (.data 0 0, s) else from' e.ppa (lln % 64) 0 s

/-- The stream that a hint, or LOOP_PLACE.DEFAULT where there is none, makes of the classifier's choice; disagreements are counted (R198, R351). -/
def State.placed (s : State) (hint pick : Nat) : Nat × State :=
  let bound := if hint ≠ 0 then hint else s.bd.get pLOOP F.LOOP_PLACE.DEFAULT
  let stream := if bound = 1 then 0 else if bound = 2 then 1 else pick
  if stream = pick then (stream, s)
  else
    let s := if hint ≠ 0 then s.on (fun b => b.count pRCL F.RCL_HINT_DISAGREE.COUNT 1) else s
    (stream, s.on (fun b => b.pinLoop 3 bound pick))

/-- The heat and stream of a fold's page (R198), with a disagreement of the hint counted. -/
def State.foldStream (s : State) (page cause : Nat) (e : MapEntry) : Nat × Nat × State :=
  let f := s.field (ppaField e.ppa)
  let young := s.fieldState (ppaField e.ppa) = 1 || f.awaitsTime
    || decide (s.bd.rackTime / 60000000 < f.closeTime + s.bd.get pRCL F.RCL_HOT_AGE.MINUTES)
  let heat := if cause = 4 ∨ cause = 6 then e.heat else if !e.hasBase then 2 else if young then min 3 (e.heat + 1) else e.heat - 1
  let pick := if 2 ≤ heat then 0 else 1
  let hint := (s.lxt (page / 2 ^ 16)).hint
  let (stream, s) := s.placed hint pick
  (heat, stream, s)

/-- The class of a fold's stripe (Table 12-2). -/
def foldClass (cause : Nat) : Nat := if cause = 6 then 5 else if cause = 4 ∨ cause = 5 then 7 else 6

/-- A fold starts: its lines are captured and its page image waits for a stripe. -/
def State.startFold (s : State) (page cause : Nat) : State :=
  let e := s.mapEntry page
  let key := s.foldKey page
  let (heat, stream, s) := s.foldStream page cause e
  let gen := (e.gen + 1) % 2 ^ 24
  let v := s.keySlot key
  let s := if e.gen = 2 ^ 24 - 1 ∧ (v.st = 3 ∨ v.st = 4 ∨ v.ver = 2 ^ 32 - 1) then s.trigger key (some page) else s
  let got := (List.range 64).foldl (fun (x : List (Nat × Capture) × State) n =>
    let (c, s) := x.2.capture e key (page * 64 + n)
    (x.1 ++ [(n, c)], s)) ([], s)
  let s := got.2
  let caught := got.1
  let slots := (List.range 64).filter (fun n => (s.slotOf (page * 64 + n)).isSome)
  let bad := (caught.filter (fun (c : Nat × Capture) => match c.2 with | .failed => true | _ => false)).map Prod.fst
  let kept := (caught.filter (fun (c : Nat × Capture) => match c.2 with | .kept => true | _ => false)).map Prod.fst
  let s := bad.foldl (fun s n =>
    let lln := page * 64 + n
    let s := ((s.placePoison lln key []).recordLine lln .fold)
    s.on (fun b => ((b.count pPTX F.PTX_FOLD_POISON.COUNT 1).count pHLT F.HLT_LIFE_POISON.COUNT 1).raise pPTX (ev E.PTX.FOLD_POISONED (cause + n * 8) page e.gen key))) s
  let lines := caught.foldl (fun (m : SMap (Line × Nat × Bool)) c => match c.2 with | .data d k => smPut c.1 (d, k, decide (k ≠ 0)) m | _ => m) []
  let frames := lines.map (fun (l : Nat × Line × Nat × Bool) => (l.1, s.lineFrame (page * 64 + l.1) gen key 0 l.2.1))
  let image : MPage := ⟨1, stream, false, 16, page, gen, key, 0, 0, 0, [heat, cause], frames⟩
  let fold : Fold := ⟨s.wp.nextFold, page, cause, key, gen, lines, slots, bad ++ kept, heat, stream, none, [], s.bd.now⟩
  let job : PageJob := ⟨foldClass cause, stream, image, .fold s.wp.nextFold, s.bd.now, true⟩
  { s with wp := { s.wp with folds := s.wp.folds ++ [fold], nextFold := s.wp.nextFold + 1, jobs := s.wp.jobs ++ [job] } }

/-- Starts the folds that wait and may start; those with nothing left to do are forgotten. A page at its last generation triggers its key slot (R298). -/
def State.startFolds (s : State) : State :=
  let s := s.wp.foldWait.foldl (fun s (w : Nat × Nat) =>
    let gone := fun (s : State) => { s with wp := { s.wp with foldWait := s.wp.foldWait.erase w } }
    if !s.foldUseful w.1 w.2 then gone s
    else
      let k := s.foldKey w.1
      let v := s.keySlot k
      let s := if (s.mapEntry w.1).gen = 2 ^ 24 - 1 ∧ v.st = 1 ∧ v.ver ≠ 2 ^ 32 - 1 then s.trigger k (some w.1) else s
      if s.foldWaits w.1 w.2 then s else (gone s).startFold w.1 w.2) s
  let reserve := decide (s.freeBands ≤ 32) && decide (s.wp.foldWait ≠ [])
  let (tellR, s) := s.tell 3 reserve
  if tellR then s.on (fun b => b.raise pPTX (ev E.PTX.FOLD_WAIT 1 s.wp.foldWait.length 0 0)) else s

/-! ### Commit (R196, R197) -/

/-- The counter of a fold cause. -/
def causeCounter : Nat → Fld
  | 1 => F.PTX_FOLD_DENSE.COUNT
  | 2 => F.PTX_FOLD_PSEQ.COUNT
  | 3 => F.PTX_FOLD_BUCKET.COUNT
  | 4 => F.PTX_FOLD_LOG.COUNT
  | 5 => F.PTX_FOLD_LOAD.COUNT
  | _ => F.PTX_FOLD_SWEEP.COUNT

/-- A line written since its capture keeps its slot under the new generation, at PSEQ 1 (R197). -/
def State.carrySlot (s : State) (page n gen key : Nat) : State :=
  let lln := page * 64 + n
  match s.slotOf lln with
  | none => s
  | some x =>
    if !x.staged then s
    else
      let s := (s.putSlot lln true false x.loc 0 1).getD s
      let s := match s.frameOf page with
        | some (i, f) => s.setFrame i { f with lines := f.lines.map (fun (l : Nat × LineSt) => if l.1 = n then (l.1, { l.2 with packed := false }) else l) }
        | none => s
      let since := match s.dirtyAt lln with | some l => l.since | none => s.bd.now
      let p : PatchRef := ⟨lln, x.loc, 1, gen, key, false, since, []⟩
      { s with wp := { s.wp with patches := s.wp.patches.filter (fun q => decide (q.lln ≠ lln)) ++ [p] } }

/-- One captured line at the commit. -/
def State.commitOne (s : State) (f : Fold) (n : Nat) : State :=
  let lln := f.page * 64 + n
  if n ∈ f.rewritten then
    (match s.slotOf lln with
    | some x => if x.poison then s.packPoison lln f.key [] else s.carrySlot f.page n f.gen f.key
    | none => s)
  else if n ∈ f.poisoned then
    (match s.slotOf lln with
    | some _ => ((s.putSlot lln false true 0 0 0).getD s).packPoison lln f.key []
    | none => s)
  else
    let s := if n ∈ f.slots then s.freeSlot lln else s
    let s := { s with wp := { s.wp with patches := s.wp.patches.filter (fun q => decide (q.lln ≠ lln)) } }
    let s := match smFind n f.lines with
      | some (_, _, true) => s.cleanLine lln false
      | _ => s
    match s.frameOf f.page with
    | some (i, fr) => s.setFrame i { fr with lines := fr.lines.map (fun (l : Nat × LineSt) => if l.1 = n ∧ l.2.dirty = false then (l.1, { l.2 with patched := false }) else l) }
    | none => s

/-- A fold commits (R196). -/
def State.commitFold (s : State) (f : Fold) (ppa : Nat) : State :=
  let s := { s with wp := { s.wp with folds := s.wp.folds.filter (fun (x : Fold) => decide (x.id ≠ f.id)) } }
  if (s.lxt (f.page / 2 ^ 16)).st ≠ 1 then s
  else
    let e := s.mapEntry f.page
    let s := s.setMap f.page { e with gen := f.gen, ppa := ppa, patched := false, zero := false, poison := false, fresh := false, stream := f.stream, heat := f.heat }
    let s := (List.range 64).foldl (fun s n => s.commitOne f n) s
    let entry : MapEntry := { s.mapEntry f.page with patched := s.pageHasSlot f.page }
    let s := s.mapSet f.page entry true
    let v := s.band (ppaBand ppa)
    let s := s.setBand (ppaBand ppa) { v with sinceJsn := s.wp.jsn }
    let s := { s with wp := { s.wp with lastCommit := smPut f.page s.bd.now s.wp.lastCommit } }
    let s := (s.on (fun b => b.count pPTX (causeCounter f.cause) 1)).swept f.page f.key
    if f.gen = 2 ^ 24 - 1 then s.trigger f.key (some f.page) else s

/-- May a programmed fold commit: 120 µs since the last commit of its page (R297), and the journal below its cap (R212)? -/
def State.foldDue (s : State) (f : Fold) : Bool :=
  f.programmed.isSome && !s.journalFull
    && (match smFind f.page s.wp.lastCommit with | some t => decide (t + 120 ≤ s.bd.now) | none => true)

/-- Commits the folds whose stripes are programmed and whose time has come. -/
def State.commitDue (s : State) : State :=
  (s.wp.folds.filter s.foldDue).foldl (fun s f => match f.programmed with | some ppa => s.commitFold f ppa | none => s) s

/-! ### Patch-log pages (R191 to R193) -/

/-- The frame of a patch in a page: the line of its mirror slot as it stands, or a FILLER frame for a poison entry. -/
def State.patchFrame (s : State) (p : PatchRef) : MFrame :=
  if p.poison then { fillerFrame with lln := p.lln, gen := p.gen, key := p.key }
  else s.lineFrame p.lln p.gen p.key p.pseq (match s.dirtyAt p.lln with | some l => l.data | none => 0)

/-- Marks a staged patch as packed. -/
def State.markPacked (s : State) (lln : Nat) : State :=
  match s.frameOf (lln / 64) with
  | some (i, f) => s.setFrame i { f with lines := f.lines.map (fun (l : Nat × LineSt) => if l.1 = lln % 64 then (l.1, { l.2 with packed := true }) else l) }
  | none => s

/-- Packs up to 56 patches into a page image that waits for a stripe. -/
def State.packPage (s : State) (ps : List PatchRef) : State :=
  let seq := s.wp.logSeq
  let frames := ps.zipIdx.foldl (fun (m : SMap MFrame) p => smPut p.2 (s.patchFrame p.1) m) []
  let image : MPage := ⟨2, 4, false, 16, 0, 0, 0, 0, 0, 0, [seq, ps.length], frames⟩
  let job : PageJob := ⟨6, 4, image, .patches ps, s.bd.now, true⟩
  let s := ps.foldl (fun s p => if p.poison then s else s.markPacked p.lln) s
  ({ s with wp := { s.wp with logSeq := seq + 1, jobs := s.wp.jobs ++ [job], patches := s.wp.patches.filter (fun p => decide (p ∉ ps)) } }).on (fun b =>
    b.put64 pPTX F.PTX_LOG_SEQ_LO.SEQ F.PTX_LOG_SEQ_HI.SEQ (seq + 1))

/-- The hold time of a patch or a dense frame, in µs (R190, R191). -/
def Board.holdTime (b : Board) : Nat := if b.declared then b.get pPTX F.PTX_FOLD_CFG.HOLDUP_WAIT_MS * 1000 else b.get pPTX F.PTX_FOLD_CFG.HOLD_US

/-- Packs pages while 15 full pages wait, or all that waits when the stripe is due. At 32 FREE bands or fewer new PATCH stripes wait (R203). -/
def State.packPatches : Nat → State → State
  | 0, s => s
  | k + 1, s =>
    let old := s.wp.patches.any (fun p => decide (p.since + s.bd.holdTime ≤ s.bd.now))
    let due := s.wp.flushPatch || old || decide (840 ≤ s.wp.patches.length)
    if s.wp.patches = [] then { s with wp := { s.wp with flushPatch := false } }
    else if due ∧ 32 < s.freeBands then (s.packPage (s.wp.patches.take 56)).packPatches k
    else s

/-- One patch of a programmed page (R192): its slot is updated, or it is stale. A poison entry makes its slot persistent (R292). -/
def State.patchDone (s : State) (ppa i : Nat) (p : PatchRef) : State :=
  if p.poison then s.durable p.writers (s.roleOf p.lln) p.lln
  else
    match s.slotOf p.lln with
    | some x =>
      if x.staged ∧ x.loc = p.slot ∧ x.pseq = p.pseq ∧ (s.mapEntry (p.lln / 64)).gen = p.gen then
        let s := (s.putSlot p.lln false false ppa i p.pseq).getD s
        (s.dirtyObject (24576 + ptxBucket p.lln / 2 ^ 14)).cleanLine p.lln true
      else s.on (fun b => b.count pPTX F.PTX_STALE_PATCH.COUNT 1)
    | none => s.on (fun b => b.count pPTX F.PTX_STALE_PATCH.COUNT 1)

/-- Pages of the patch log in use move; LOG_HIGH and LOG_FULL are raised as their thresholds are passed. -/
def State.logUsed (s : State) (n : Nat) : State :=
  let s := s.on (fun b => b.put pPTX F.PTX_LOG_USED.PAGES n)
  let (high, s) := s.tell 4 (decide (s.bd.get pPTX F.PTX_LOG_CFG.LOG_HIGH < n))
  let (full, s) := s.tell 5 (decide (16777216 ≤ n))
  let victim := match s.wp.victims.find? (fun v => decide (v.2 = 4)) with | some v => v.1 | none => 0
  let evs := (if high then [ev E.PTX.LOG_HIGH 0 n victim 0] else []) ++ (if full then [ev E.PTX.LOG_FULL 0 n 0 0] else [])
  if evs = [] then s else s.on (fun b => b.raises pPTX evs)

end Sys2Proof.Machine
end

