-- ==== Sys2Proof/Machine/Stripes.lean ====
section
/-! DEFINITION. Stripes and what their end completes: pages of folds, patches, reclaim copies, META segments, checkpoint objects, directories and the journal
(R144, R192, R196, R205 to R213), and the program failures of R207. -/

namespace Sys2Proof.Machine

/-! ### Journal, META and checkpoint pages that wait (R209 to R213) -/

/-- Is a CKPT page of a kind already waiting or under way? -/
def State.pageBusy (s : State) (p : Purpose → Bool) : Bool :=
  s.wp.jobs.any (fun j => p j.why) || s.wp.stripes.any (fun t => t.pages.any (fun (e : Nat × PageJob) => p e.2.why))

/-- A page image of the model's own making: kind, stream, mode and KIND_DATA. -/
def plainPage (kind stream : Nat) (slc : Bool) (data : List Nat) : MPage := ⟨kind, stream, slc, 16, 0, 0, 0, 0, 0, 0, data, []⟩

/-- Queues a page. -/
def State.addJob (s : State) (j : PageJob) : State := { s with wp := { s.wp with jobs := s.wp.jobs ++ [j] } }

/-- A journal page takes the records that wait, 256 at most (R211, log entry 26). -/
def State.journalPage (s : State) : State :=
  if s.wp.jrec = [] ∨ s.pageBusy (fun w => match w with | .journal _ => true | _ => false) then s
  else
    let rs := s.wp.jrec.take 256
    let first := match rs with | r :: _ => r.jsn | [] => 0
    ({ s with wp := { s.wp with jrec := s.wp.jrec.drop 256 } }).addJob ⟨2, 5, plainPage 4 5 true [first, rs.length], .journal rs, s.bd.now, true⟩

/-- Segments whose content has changed are written, each whole in one page (R213). -/
def State.metaPages (s : State) : State :=
  s.wp.metaDirty.foldl (fun s n =>
    let ver := s.wp.metaVersion + 1
    let image := plainPage (if n < 4096 then 5 else if n < 4384 then 8 else if n < 4512 then 9 else 10) 3 false (n :: ver :: s.segmentWords n)
    ({ s with wp := { s.wp with metaDirty := nsErase n s.wp.metaDirty, metaVersion := ver } }).addJob ⟨6, 3, image, .segment n ver, s.bd.now, true⟩) s

/-- The journal tail (R212). -/
def State.journalTail (s : State) : Nat :=
  let objs := s.wp.objects.map (fun (o : Nat × Nat × Nat × Nat) => o.2.2.1)
  let dirty := s.wp.dirtyObjs.map Prod.snd
  (objs ++ dirty).foldl min s.wp.dirJsn

/-- CKP_JRNL.PAGES: journal pages from the tail onward. -/
def State.journalPages (s : State) : Nat :=
  let tail := s.journalTail
  (s.wp.jpages.filter (fun (p : Nat × Nat × Nat) => decide (tail < p.1 + p.2.2))).length

/-- CKP_JRNL and JOURNAL_FULL follow the journal; the event is raised each time it fills (R212). -/
def State.followJournal (s : State) : State :=
  let n := s.journalPages
  let full := decide (65536 ≤ n)
  let (tell, s) := s.tell 6 full
  let s := s.on (fun b => (b.put pCKP F.CKP_JRNL.PAGES n).put pCKP F.CKP_STAT.JOURNAL_FULL (bit full))
  let s := s.on (fun b => b.put pCKP F.CKP_DIRTY.OBJECTS s.wp.dirtyObjs.length)
  let s := s.on (fun b => b.put64 pCKP F.CKP_JSN_LO.JSN F.CKP_JSN_HI.JSN s.wp.jsn)
  let s := if tell then s.on (fun b => b.raise pCKP (ev E.CKP.JOURNAL_FULL 0 n s.wp.dirtyObjs.length 0)) else s
  let (wait, s) := s.tell 7 (full && s.wp.folds.any (fun f => f.programmed.isSome))
  if wait then s.on (fun b => b.raise pPTX (ev E.PTX.FOLD_WAIT 2 s.wp.foldWait.length 0 0)) else s

/-- A clean shutdown is under way (PDR_STAT.PHASE 4, R376). -/
def Board.cleanDown (b : Board) : Bool := decide (b.get pPDR F.PDR_STAT.PHASE = 4)

/-- In a clean shutdown everything but the directory has been written: no dirty line, page, stripe, segment or object is left. -/
def State.restWritten (s : State) : Bool :=
  decide (s.dirty = 0) && s.wp.jobs.isEmpty && s.wp.stripes.isEmpty && s.wp.dirtyObjs.isEmpty && s.wp.metaDirty.isEmpty && s.wp.jrec.isEmpty
    && s.wp.patches.isEmpty && s.wp.folds.isEmpty && s.wp.foldWait.isEmpty

/-- The object to write next: the dirty map object with the oldest CAPTURE_JSN, or the patch-index object with the oldest CAPTURE_LSEQ when its lag presses (R209). -/
def State.nextObject (s : State) : Option Nat :=
  let old := fun (n : Nat) => match smFind n s.wp.objects with | some o => o | none => (0, 0, 0)
  let lag := s.wp.dirtyObjs.filter (fun (d : Nat × Nat) => decide (24576 ≤ d.1) && decide (s.bd.get pCKP F.CKP_CFG.PTX_LAG ≤ 2 * (s.wp.logSeq - (old d.1).2.2)))
  let pick := fun (m : List (Nat × Nat)) (key : Nat → Nat) =>
    (m.foldl (fun (b : Option (Nat × Nat)) d => match b with | none => some (key d.1, d.1) | some x => if key d.1 < x.1 then some (key d.1, d.1) else some x) none).map Prod.snd
  match pick lag (fun n => (old n).2.2) with
  | some n => some n
  | none => if 32768 ≤ s.journalPages ∨ s.bd.cleanDown then pick s.wp.dirtyObjs (fun n => (old n).2.1) else none

/-- An open CKPT band with room for an object of `n` pages. -/
def State.objectBand (s : State) (n : Nat) : Option Nat :=
  ((s.openOf 5).find? (fun (e : Nat × Band) => !e.2.opening && decide (n ≤ (e.2.pages - e.2.next) * (e.2.included.length - 1)))).map Prod.fst

/-- A checkpoint object's copy begins (R209), or a directory (number 32,768, R210): its pages wait for one CKPT band. -/
def State.beginObject (s : State) (n : Nat) : State :=
  let count := if n = 32768 then 138 else 256
  match s.objectBand count with
  | none => s
  | some band =>
    let w : Wp := { s.wp with objRun := some (n, s.wp.jsn, s.wp.logSeq), objBand := band, objPpa := 0, dirtyObjs := smDel n s.wp.dirtyObjs }
    (List.range count).foldl (fun s i =>
      let kind := if n = 32768 then 2 else if n < 24576 then 0 else 1
      s.addJob ⟨2, 5, plainPage 3 5 true [kind, n, i, w.jsn, w.logSeq], if n = 32768 then .directory i else .object n i, s.bd.now, true⟩) { s with wp := w }

/-- The next checkpoint object or directory is taken up (R209, R210): a directory after 1,024 SEG_DONE records, or when more than 32 CKPT bands have opened. -/
def State.checkpoint (s : State) : State :=
  if s.wp.objRun.isSome ∨ s.bd.unit pCKP = stCONTAINED ∨ s.bd.unit pCKP = stINIT then s
  else if 1024 ≤ s.wp.segDone ∨ 32 < s.wp.ckptBands.length ∨ (s.bd.cleanDown ∧ s.restWritten ∧ !s.wp.cleanMark) then s.beginObject 32768
  else match s.nextObject with
    | some n => s.beginObject n
    | none => s

/-! ### Forming a stripe (R143, R144, R200, R343) -/

/-- Can every included partition of a band start a program? -/
def State.bandIdle (s : State) (band : Nat) : Bool :=
  let v := s.band band
  v.included.all (fun c => (s.opAt (ppaOf band c 0)).isNone && s.dieRoom c (band / 8192) && decide (s.bd.dieState c (band / 8192) = 2) && !s.bd.channelOut c)

/-- Positions that a stripe of a band leaves out as failed: included members whose die or channel has gone. -/
def State.deadIn (s : State) (band : Nat) : List Nat :=
  (s.band band).included.filter (fun c => decide (s.bd.dieState c (band / 8192) ≠ 2) || s.bd.channelOut c)

/-- May a band take the next stripe now: OPEN, not opening, not full, no stripe of it under way, and its partitions idle? A band that has lost two positions takes none. -/
def State.canStripe (s : State) (band : Nat) : Bool :=
  let v := s.band band
  decide (v.st = 1) && !v.opening && !v.closing && decide (v.next < v.pages) && s.wp.stripes.all (fun t => decide (t.band ≠ band))
    && decide ((s.deadIn band).length ≤ 1)
    && (v.included.filter (fun c => decide (c ∉ s.deadIn band))).all (fun c => (s.opAt (ppaOf band c 0)).isNone && s.dieRoom c (band / 8192))

/-- A band for the next stripe of a stream (log entry 27): objects and directories stay in their band, and the rest of CKPT keeps out of it. -/
def State.stripeBand (s : State) (stream : Nat) (object : Bool) : Option Nat :=
  ((s.openOf stream).find? (fun (e : Nat × Band) => s.canStripe e.1 &&
    (if stream = 5 then (if object then decide (e.1 = s.wp.objBand) else decide (s.wp.objRun.isNone ∨ e.1 ≠ s.wp.objBand)) else true))).map Prod.fst

/-- Is a page of an object or a directory? -/
def Purpose.isObject : Purpose → Bool
  | .object _ _ => true
  | .directory _ => true
  | _ => false

/-- The flip of a channel is applied to a program of its die (R163): answers the cell and the number of bits. -/
def State.applyFlip (s : State) (ppa : Nat) : State :=
  let p := pMCH (ppaChan ppa)
  if s.bd.on p F.MCH_FLIP_CTL.ARM ∧ s.bd.get p F.MCH_FLIP_CTL.DIE = ppaDie ppa then
    let header := s.bd.on p F.MCH_FLIP_CTL.HEADER
    let frame := s.bd.get p F.MCH_FLIP_CTL.FRAME
    let n := (List.range 4).foldl (fun n j => n + popcount (s.bd.get p (F.MCH_FLIP.MASK.ix j)) 32) 0
    let cell := ppa * 128 + (if header then 64 else frame)
    ({ s with media := { s.media with flips := smPut cell n s.media.flips } }).on (fun b =>
      (b.put p F.MCH_FLIP_CTL.ARM 0).raise p (ev E.MCH.FLIP_APPLIED (ppaDie ppa + frame * 8 + bit header * 512) ppa n 0))
  else s

/-- The CAP that a program carries (R239). -/
def Board.programCap (b : Board) (slc : Bool) : Nat := if slc then b.get pLOOP F.LOOP_AMP.CAP_SLC else b.get pLOOP F.LOOP_AMP.CAP_MLC

/-- A stripe is issued: its pages take positions, SEQUENCE and rack time; the rest are FILLER; all its programs start (R144). -/
def State.issueStripe (s : State) (band cls : Nat) (jobs : List PageJob) : State :=
  let v := s.band band
  let g := v.next
  let seq := s.media.nextSeq
  let time := if s.bd.on pRTM F.RTM_STAT.VALID then s.bd.rackTime else 0
  let chans := v.dataChans band
  let filler : PageJob := ⟨cls, v.stream, plainPage 7 v.stream v.slc [], .none, s.bd.now, true⟩
  let placed := chans.zipIdx.foldl (fun (m : SMap PageJob) x =>
    let j := (jobs[x.2]?).getD filler
    smPut x.1 { j with page := { j.page with seq := seq, time := time, width := v.included.length, slc := v.slc } } m) []
  let mask := (chans.zipIdx.filter (fun x => decide (x.2 < jobs.length))).foldl (fun m x => m + 2 ^ x.1) 0
  let placed := placed.map (fun (e : Nat × PageJob) => (e.1, { e.2 with page := { e.2.page with positions := mask } }))
  let dead := s.deadIn band
  let stripe : Stripe := ⟨seq, band, g, cls, v.stream, placed, dead.foldl (fun m c => smPut c 2 m) []⟩
  let firstLog := match jobs with | j :: _ => j.page.kindData.getD 0 0 | [] => 0
  let nextBand : Band := { v with next := g + 1, last := seq, closing := decide (g + 1 = v.pages), logSeq := if v.next = 0 then firstLog else v.logSeq }
  let s := { s with media := { s.media with nextSeq := seq + 1 }, wp := { s.wp with stripes := s.wp.stripes ++ [stripe], jobs := s.wp.jobs.filter (fun j => decide (j ∉ jobs)) } }
  let s := s.setBand band nextBand
  (v.included.filter (fun c => decide (c ∉ dead))).foldl (fun s c =>
    let ppa := ppaOf band c g
    (s.setOp ppa ⟨false, seq, ppa, false, s.bd.now, 0, 0⟩).applyFlip ppa) s

/-- Tries to issue one stripe of a class and stream: answers whether it did. A band is opened where the stream has none to take it. -/
def State.tryStripe (s : State) (cls stream : Nat) (pick : PageJob → Bool) : Bool × State :=
  let mine := s.wp.jobs.filter (fun j => decide (j.stream = stream) && decide (j.cls = cls) && pick j)
  match mine with
  | [] => (false, s)
  | j0 :: _ =>
    let object := j0.why.isObject
    let reclaim := decide (cls = 3) || decide (cls = 4) || (match j0.why with | .copy _ _ => true | _ => false)
    match s.stripeBand stream object with
    | none => (false, s.beginOpen stream reclaim)
    | some band =>
      let v := s.band band
      let room := v.included.length - 1
      let others := s.wp.jobs.filter (fun j => decide (j.stream = stream) && decide (j.why.isObject = object) && !(decide (j.cls = cls) && pick j))
      let jobs := ((mine.filter (fun j => decide (j.why.isObject = object))) ++ others).take room
      let gov := decide (4 ≤ cls)
      let bg := decide (cls = 7)
      let cost := v.included.length
      match s.claim cost gov bg (decide (cls = 5)) with
      | none => (false, s)
      | some s' =>
        let crossed := decide (cls = 5) && decide (s.bd.get pRTM F.RTM_BUDGET.G < s'.slot.governed)
        let s' := if crossed then s'.on (fun b => b.overrideLoop 2 cls (b.get pRTM F.RTM_BUDGET.G) s'.slot.governed) else s'
        (true, s'.issueStripe band cls jobs)

/-- Issues stripes of a class, stream by stream, while they fit. -/
def State.fillClass : Nat → Nat → (PageJob → Bool) → State → State
  | 0, _, _, s => s
  | n + 1, cls, pick, s =>
    let (did, s) := (List.range 6).foldl (fun (x : Bool × State) stream => if x.1 then x else x.2.tryStripe cls stream pick) (false, s)
    if did then s.fillClass n cls pick else s

/-! ### What a programmed page completes -/

/-- A journal page is programmed: its records are journalled, once every record before them is (R211). -/
def State.journalled (s : State) : Nat → State
  | 0 => s
  | n + 1 =>
    match smFind s.wp.journalled s.wp.jpages with
    | some p => ({ s with wp := { s.wp with journalled := s.wp.journalled + p.2 } }).journalled n
    | none => s

/-- META segments whose META_DONE is journalled become current (R213). -/
def State.metaReady (s : State) : State :=
  (s.wp.metaDone.filter (fun (m : Nat × Nat × Nat × Nat) => decide (m.2.2.2 < s.wp.journalled))).foldl (fun s m =>
    let s := { s with wp := { s.wp with metaDone := s.wp.metaDone.erase m } }
    let older := match smFind m.1 s.wp.metaIdx with | some r => serialNewer 32 r.version m.2.2.1 | none => false
    if older then s
    else
      let r : SegRef := ⟨m.2.1, m.2.2.1⟩
      let s := { s with wp := { s.wp with metaIdx := smPut m.1 r s.wp.metaIdx } }
      s.segmentDone m.1 (match s.mediaPage m.2.1 with | some p => p.kindData.drop 2 | none => [])) s

/-- The last page of an object has been programmed: SEG_DONE, or DIR_DONE and CKP_ROOT (R209, R210). -/
def State.objectDone (s : State) : State :=
  match s.wp.objRun with
  | none => s
  | some (n, cjsn, lseq) =>
    if s.pageBusy Purpose.isObject then s
    else
      let s := { s with wp := { s.wp with objRun := none } }
      if n = 32768 then
        let s := { s with wp := { s.wp with dirPpa := s.wp.objPpa, dirJsn := s.wp.jsn, segDone := 0, ckptBands := [], cleanMark := s.wp.cleanMark || (s.bd.cleanDown && s.restWritten) } }
        (s.journal 7 0 s.wp.objPpa 0).storeRoot
      else
        let ppa := s.wp.objPpa
        let s := { s with wp := { s.wp with objects := smPut n (ppa, cjsn, lseq) s.wp.objects, segDone := s.wp.segDone + 1 } }
        s.journal 6 n (ppa + (s.wp.jsn - cjsn) * 2 ^ 32) 0

/-- One page of a stripe counts as programmed (R144). -/
def State.pageDone (s : State) (ppa : Nat) (j : PageJob) (failed : Bool) : State :=
  match j.why with
  | .none => s
  | .fold id =>
    let s := { s with wp := { s.wp with folds := s.wp.folds.map (fun (f : Fold) => if f.id = id then { f with programmed := some ppa } else f) } }
    s.commitDue
  | .patches ps => (ps.zipIdx.foldl (fun s p => s.patchDone ppa p.2 p.1) s).logUsed (s.bd.get pPTX F.PTX_LOG_USED.PAGES + 1)
  | .copy src page => { s with wp := { s.wp with copies := s.wp.copies ++ [(src, page, ppa, bit failed)] } }
  | .segment n ver =>
    let s := { s with wp := { s.wp with metaDone := s.wp.metaDone ++ [(n, ppa, ver % 2 ^ 32, s.wp.jsn)] } }
    s.journal 8 n (ppa + ver % 2 ^ 32 * 2 ^ 32) 0
  | .object _ i => if i = 0 then { s with wp := { s.wp with objPpa := ppa } } else s
  | .directory i => if i = 0 then { s with wp := { s.wp with objPpa := ppa } } else s
  | .journal rs =>
    match rs with
    | [] => s
    | r :: _ => ({ s with wp := { s.wp with jpages := smPut r.jsn (ppa, rs.length) s.wp.jpages } }).journalled (s.wp.jpages.length + 1)

/-- The page of a position that failed stays readable by reconstruction (R144, R207): its image is kept and every frame of it reads UNCORRECTABLE. -/
def State.putPage (s : State) (ppa : Nat) (p : MPage) (failed : Bool) : State :=
  { s with media := { s.media with
    pages := smPut ppa p s.media.pages
    flips := if failed then smPut (ppa * 128 + 127) 1000 s.media.flips else s.media.flips } }

/-- Every program of a stripe has ended (R144): with at most one failure its pages are programmed, otherwise they are issued again. -/
def State.stripeEnded (s : State) (t : Stripe) : State :=
  let v := s.band t.band
  let fails := (t.ends.filter (fun (e : Nat × Nat) => decide (e.2 = 2))).length
  let s := { s with wp := { s.wp with stripes := s.wp.stripes.filter (fun (x : Stripe) => decide (x.seq ≠ t.seq)) } }
  if 2 ≤ fails then
    let again := (t.pages.map Prod.snd).filter (fun j => match j.why with | .none => false | _ => true)
    { s with wp := { s.wp with jobs := again ++ s.wp.jobs } }
  else
    let bad := fun (c : Nat) => decide (smFind c t.ends = some 2)
    let s := v.included.foldl (fun s c =>
      match smFind c t.pages with
      | some j => s.putPage (ppaOf t.band c t.g) j.page (bad c)
      | none => s.putPage (ppaOf t.band c t.g) (plainPage 0 t.stream v.slc []) (bad c)) s
    let s := t.pages.foldl (fun s (e : Nat × PageJob) => s.pageDone (ppaOf t.band e.1 t.g) e.2 (bad e.1)) s
    let s := s.objectDone
    ((s.metaReady).sweepReady).followJournal

/-- The position of a stripe's band that failed (R207): the band closes FAILING. -/
def State.bandFailed (s : State) (band : Nat) : State := s.closeBand band true

/-- A program has ended on one channel (R144, R151, R207). -/
def State.programEnded (s : State) (o : MOp) (e : ArrayEnd) : State :=
  let c := ppaChan o.ppa
  let d := ppaDie o.ppa
  let p := pMCH c
  let f := s.field (ppaField o.ppa)
  let cap := s.bd.programCap (s.band (ppaBand o.ppa)).slc
  let s := s.setField (ppaField o.ppa) { f with amplitude := e.amplitude.val }
  let top := min 255 (e.amplitude.val + 2)
  let s := if e.override then
      s.on (fun b => ((b.count p F.MCH_OVERRIDE.COUNT 1).raise p (ev E.MCH.OVERRIDE d o.ppa top cap)).overrideLoop 0 o.ppa cap top)
    else s
  let s := if e.fail then
      s.on (fun b => ((b.count p F.MCH_PROG_FAIL.COUNT 1).count pHLT F.HLT_LIFE_PFAIL.COUNT 1).raise p
        (ev E.MCH.PROG_FAIL (d + bit e.xferErr * 8 + bit e.override * 16) o.ppa e.pulses.val o.stripe))
    else s
  let s := { s with wp := { s.wp with stripes := s.wp.stripes.map (fun (t : Stripe) => if t.seq = o.stripe then { t with ends := smPut c (if e.fail then 2 else 1) t.ends } else t) } }
  let s := if e.fail then s.bandFailed (ppaBand o.ppa) else s
  match s.wp.stripes.find? (fun t => decide (t.seq = o.stripe)) with
  | none => s
  | some t => if (s.band t.band).included.all (fun c => (smFind c t.ends).isSome) then s.stripeEnded t else s

/-- An array operation is abandoned (R142, R160): its stripe completes without that position, and a field under reset is to be reset again. -/
def State.abandonOp (s : State) (key : Nat) : State :=
  match smFind key s.media.ops with
  | none => s
  | some o =>
    let s := { s with media := { s.media with ops := smDel key s.media.ops } }
    if o.reset then s
    else
      let s := { s with wp := { s.wp with stripes := s.wp.stripes.map (fun (t : Stripe) => if t.seq = o.stripe then { t with ends := smPut (ppaChan o.ppa) 2 t.ends } else t) } }
      match s.wp.stripes.find? (fun t => decide (t.seq = o.stripe)) with
      | none => s
      | some t => if (s.band t.band).included.all (fun c => (smFind c t.ends).isSome) then s.stripeEnded t else s

/-- An operation of a partition ends (R151, R153). -/
def State.opEnded (s : State) (key : Nat) (e : ArrayEnd) : State :=
  match smFind key s.media.ops with
  | none => s
  | some o =>
    let s := { s with media := { s.media with ops := smDel key s.media.ops } }
    let s := if o.reset then s.resetEnded o.ppa e.fail else s.programEnded o e
    let waiting := s.mapx.reads.map (fun (r : MRead) => if partKey r.ppa = key then { r with sent := true } else r)
    { s with mapx := { s.mapx with reads := waiting } }

end Sys2Proof.Machine
end

