-- ==== Sys2Proof/Machine/Reclaim.lean ====
section
/-! DEFINITION. Reclaim (R203 to R206), the work of a slot (R343 to R345), and the end of a suspension (R154). -/

namespace Sys2Proof.Machine

/-! ### Victims (R204) -/

/-- Local pages whose map entry names a page of a band. -/
def State.pagesIn (s : State) (band : Nat) : List (Nat × Nat) :=
  (s.mapx.map.filter (fun (e : Nat × MapEntry) => e.2.hasBase && decide (ppaBand e.2.ppa = band))).map (fun e => (e.1, e.2.ppa))

/-- META segments whose current page lies in a band. -/
def State.segmentsIn (s : State) (band : Nat) : List Nat := (s.wp.metaIdx.filter (fun (e : Nat × SegRef) => decide (ppaBand e.2.ppa = band))).map Prod.fst

/-- Lines with a programmed patch in a band. -/
def State.patchesIn (s : State) (band : Nat) : List Nat :=
  (s.mapx.slots.filter (fun (e : Nat × Slot) => !e.2.staged && !e.2.poison && decide (ppaBand e.2.loc = band))).map (fun e => slotLine e.1 e.2)

/-- Valid pages of a band. -/
def State.bandValid (s : State) (band : Nat) : Nat := if (s.band band).stream = 3 then (s.segmentsIn band).length else (s.pagesIn band).length

/-- AGE of a band in rack time (R204). -/
def State.bandAge (s : State) (v : Band) : Nat :=
  if !s.bd.on pRTM F.RTM_STAT.VALID then 0
  else
    let m := (s.bd.rackTime - v.closedAt) / 60000000
    if m < 60 then 0 else if m < 1440 then 1 else if m < 10080 then 2 else 3

/-- The score S of a band (R204). -/
def State.score (s : State) (band : Nat) : Nat :=
  let v := s.band band
  s.bandValid band * 1024 / (((v.included.length - 1) * v.pages) * (1 + s.bandAge v))

/-- The lowest by a key, ties to the earlier close and then the lower number. -/
def lowest (m : List (Nat × Band)) (key : Nat → Nat) : Option Nat :=
  (m.foldl (fun (b : Option (Nat × Nat × Nat)) e =>
    match b with
    | none => some (key e.1, e.2.closedAt, e.1)
    | some x => if key e.1 < x.1 ∨ (key e.1 = x.1 ∧ e.2.closedAt < x.2.1) then some (key e.1, e.2.closedAt, e.1) else some x) none).map (fun x => x.2.2)

/-- The next victim under items 1 to 3 of R204, with its item. -/
def State.nextVictim (s : State) : Option (Nat × Nat) :=
  match s.media.bands.find? (fun (e : Nat × Band) => decide (e.2.st = 3) && !e.2.closing) with
  | some e => some (e.1, 1)
  | none =>
    match s.media.bands.find? (fun (e : Nat × Band) => decide (e.2.st = 4)) with
    | some e => some (e.1, 2)
    | none =>
      if s.freeBands < s.bd.get pRCL F.RCL_CFG.FREE_LOW then
        (lowest (s.media.bands.filter (fun (e : Nat × Band) => decide (e.2.st = 2) && decide (e.2.stream ≤ 3))) s.score).map (fun b => (b, 3))
      else none

/-- The class of reclaim work for a victim of an item (Table 12-2). -/
def State.reclaimClass (s : State) (item : Nat) : Nat :=
  if item = 1 then 3 else if s.freeBands ≤ s.bd.get pRCL F.RCL_CFG.FREE_CRIT then 4 else 7

/-! ### Copies (R205) -/

/-- A line of a page to be copied: does its frame verify? A line that fails is given a POISON slot unless the index already names it (log entry 48). -/
def State.copyLine (s : State) (e : MapEntry) (page n key : Nat) (patrol : Bool) : Option MFrame × State :=
  let lln := page * 64 + n
  match s.readLine e.ppa n lln e.gen key 0 with
  | (some f, s) => (some f, s)
  | (none, s) =>
    if (s.slotOf lln).isSome then (none, s)
    else
      let s := (s.placePoison lln key []).recordLine lln (if patrol then .lineLost else .fold)
      let s := s.on (fun b => b.count pHLT F.HLT_LIFE_POISON.COUNT 1)
      if patrol then
        (none, s.on (fun b => (b.count pPTL F.PTL_LINE_LOST.COUNT 1).raise pPTL (ev E.PTL.LINE_LOST n e.ppa page key)))
      else
        (none, s.on (fun b => (b.count pPTX F.PTX_FOLD_POISON.COUNT 1).raise pPTX (ev E.PTX.FOLD_POISONED (n * 8) page e.gen key)))

/-- A reclaim copy of one page out of its source waits for a stripe: ciphertext, tags, GEN and KEY are kept. -/
def State.queueCopy (s : State) (page cls : Nat) (patrol : Bool) : State :=
  let e := s.mapEntry page
  match s.mediaPage e.ppa with
  | none => s
  | some p =>
    let key := s.homeKey page
    let got := (List.range 64).foldl (fun (x : SMap MFrame × State) n =>
      match x.2.copyLine e page n key patrol with
      | (some f, s) => (smPut n f x.1, s)
      | (none, s) => (x.1, s)) ([], s)
    let s := got.2
    let heat := e.heat - 1
    let (hot, s) := if patrol then (1, s) else s.placed (s.lxt (page / 2 ^ 16)).hint (if 2 ≤ heat then 0 else 1)
    let stream := if hot = 0 then 0 else 2
    let image : MPage := { p with stream := stream, frames := got.1, kindData := heat :: p.kindData.drop 1 }
    s.addJob ⟨cls, stream, image, .copy e.ppa page, s.bd.now, true⟩

/-- Copies out of a source PPA that are still under way. -/
def State.copying (s : State) (src : Nat) : Bool :=
  s.pageBusy (fun w => match w with | .copy q _ => decide (q = src) | _ => false) || s.wp.copies.any (fun c => decide (c.1 = src))

/-- A copy whose position failed, or whose header did not verify, is made again from its source (R207). -/
def State.recopy (s : State) (src page dst : Nat) : State :=
  let s := s.on (fun b => (b.count pRCL F.RCL_RECOPY.COUNT 1).count pRCL F.RCL_DEST_FAIL.COUNT 1)
  let s := s.on (fun b => b.raise pRCL (ev E.RCL.DEST_FAIL (s.band (ppaBand dst)).stream dst (ppaBand src) 1))
  if (s.mapEntry page).hasBase ∧ (s.mapEntry page).ppa = src then s.queueCopy page 3 false else s

/-- Copies that failed in their stripe are made again. -/
def State.recopyFailed (s : State) : State :=
  (s.wp.copies.filter (fun (c : Nat × Nat × Nat × Nat) => decide (c.2.2.2 = 1))).foldl (fun s c =>
    ({ s with wp := { s.wp with copies := s.wp.copies.erase c } }).recopy c.1 c.2.1 c.2.2.1) s

/-- READ_HEADER of a destination (R206): the copy commits if the map still names its source. -/
def State.copyVerified (s : State) (i : Nat) (ok : Bool) : State :=
  match s.wp.copies[i]? with
  | none => s
  | some c =>
    let (src, page, dst, _) := c
    if s.journalFull then s
    else
      let s := { s with wp := { s.wp with copies := s.wp.copies.erase c } }
      let header := match s.mediaPage dst with | some p => decide (p.page = page) && decide (p.gen = (s.mapEntry page).gen) | none => false
      if !ok ∨ !header then s.recopy src page dst
      else
        let e := s.mapEntry page
        if e.hasBase ∧ e.ppa = src then
          let stream := match s.mediaPage dst with | some p => p.stream | none => 2
          let s := s.mapSet page { e with ppa := dst, stream := stream, heat := e.heat - 1 } false
          let mark := fun (s : State) (band : Nat) => s.setBand band { s.band band with sinceJsn := s.wp.jsn }
          let s := mark (mark s (ppaBand src)) (ppaBand dst)
          ({ s with wp := { s.wp with copied := s.wp.copied + 1 } }).on (fun b => b.count pRCL F.RCL_COPIED.COUNT 1)
        else s.on (fun b => b.count pRCL F.RCL_RACE.COUNT 1)

/-! ### Emptying and freeing a victim -/

/-- What keeps a victim from its reset is put under way: copies, segments, folds of cause LOG, or objects to write again (R205). -/
def State.pushVictim (s : State) (band item : Nat) : State :=
  match (s.band band).stream with
  | 3 => (s.segmentsIn band).foldl State.dirtySegment s
  | 4 => (s.patchesIn band).foldl (fun s lln => s.wantFold (lln / 64) 4) s
  | 5 =>
    let objs := (s.wp.objects.filter (fun (o : Nat × Nat × Nat × Nat) => decide (ppaBand o.2.1 = band))).map Prod.fst
    let s := objs.foldl State.dirtyObject s
    if ppaBand s.wp.dirPpa = band then { s with wp := { s.wp with segDone := max 1024 s.wp.segDone } } else s
  | _ => (s.pagesIn band).foldl (fun s p => if s.copying p.2 then s else s.queueCopy p.1 (s.reclaimClass item) false) s

/-- Is nothing left in a victim that must be kept? -/
def State.emptied (s : State) (band : Nat) : Bool :=
  match (s.band band).stream with
  | 3 => decide (s.segmentsIn band = [])
  | 4 => decide (s.patchesIn band = [])
  | 5 =>
    s.wp.objects.all (fun (o : Nat × Nat × Nat × Nat) => decide (ppaBand o.2.1 ≠ band)) && decide (ppaBand s.wp.dirPpa ≠ band ∨ s.wp.dirJsn = 0)
      && s.wp.jpages.all (fun (p : Nat × Nat × Nat) => decide (ppaBand p.2.1 ≠ band) || decide (p.1 + p.2.2 ≤ s.journalTail))
  | _ => decide (s.pagesIn band = []) && s.wp.copies.all (fun c => decide (ppaBand c.1 ≠ band))
      && !s.pageBusy (fun w => match w with | .copy q _ => decide (ppaBand q = band) | _ => false)

/-- Pages of the patch log in a band. -/
def State.logPagesIn (s : State) (band : Nat) : Nat := (s.media.pages.filter (fun (e : Nat × MPage) => decide (ppaBand e.1 = band) && decide (e.2.kind = 2))).length

/-- A victim goes on: it is emptied, its records are journalled, and its members are reset. -/
def State.advanceVictim (s : State) (band item : Nat) : State :=
  let v := s.band band
  let cls := s.reclaimClass item
  if v.st ≠ 5 then
    { s with wp := { s.wp with victim := if s.wp.victim = some (band, item) then none else s.wp.victim, victims := s.wp.victims.filter (fun (x : Nat × Nat) => decide (x.1 ≠ band)) } }
  else if v.reset then s.sendResets band (decide (4 ≤ cls)) (decide (cls = 7))
  else if !s.emptied band then s.pushVictim band item
  else if s.wp.journalled < v.sinceJsn then s
  else
    let gone := s.logPagesIn band
    let s := { s with wp := { s.wp with jpages := s.wp.jpages.filter (fun (p : Nat × Nat × Nat) => decide (ppaBand p.2.1 ≠ band)) } }
    let s := if gone = 0 then s else s.logUsed (s.bd.get pPTX F.PTX_LOG_USED.PAGES - gone)
    let live := v.included.filter (fun c => s.bd.readable (ppaOf band c 0))
    let s := s.setBand band { v with reset := true, resets := live }
    if live = [] then s.freed band else s.sendResets band (decide (4 ≤ cls)) (decide (cls = 7))

/-- A band becomes a victim. -/
def State.takeVictim (s : State) (band item : Nat) (main : Bool) : State :=
  let s := (s.setBand band { s.band band with st := 5, reset := false }).dirtyFields band
  if main then { s with wp := { s.wp with victim := some (band, item), copied := 0 } }
  else { s with wp := { s.wp with victims := s.wp.victims ++ [(band, item)] } }

/-- Victims are chosen and go on, while RCL reclaims (R203, R204). OUT bands that may return are reset (Table 07-4). -/
def State.reclaim (s : State) : State :=
  if s.bd.unit pRCL = stCONTAINED ∨ s.bd.unit pRCL = stTEST ∨ s.bd.unit pRCL = stINIT then s
  else
    let s := match s.wp.victim with
      | some _ => s
      | none => match s.nextVictim with
        | some (b, i) => s.takeVictim b i true
        | none => s
    let logOver := decide (s.bd.get pPTX F.PTX_LOG_CFG.LOG_HIGH < s.bd.get pPTX F.PTX_LOG_USED.PAGES)
    let patch := s.media.bands.filter (fun (e : Nat × Band) => decide (e.2.st = 2) && decide (e.2.stream = 4))
    let s := if logOver ∧ s.wp.victims.all (fun v => decide (v.2 ≠ 4)) then
        (match lowest patch (fun b => (s.band b).logSeq) with | some b => s.takeVictim b 4 false | none => s)
      else s
    let ckpt := s.media.bands.filter (fun (e : Nat × Band) => decide (e.2.st ≠ 0) && decide (e.2.st ≠ 6) && decide (e.2.stream = 5))
    let dead := ckpt.filter (fun (e : Nat × Band) => decide (e.2.st = 2) && s.emptied e.1)
    let (tell, s) := s.tell 8 (decide (1366 ≤ ckpt.length))
    let s := if tell then s.on (fun b => b.raise pCKP (ev E.CKP.CKPT_BUDGET 0 ckpt.length dead.length 0)) else s
    let s := if 1366 ≤ ckpt.length ∧ s.wp.victims.all (fun v => decide (v.2 ≠ 5)) then
        (match dead with | e :: _ => s.takeVictim e.1 5 false | [] => s)
      else s
    let s := (s.media.bands.filter (fun (e : Nat × Band) => decide (e.2.st = 6) && decide (e.2.resets = []) && decide ((s.excludedNow e.1).length ≤ 1))).foldl (fun s e =>
      s.setBand e.1 { s.band e.1 with resets := (List.range 16).filter (fun c => decide (c ∉ s.excludedNow e.1)), excluded := s.excludedNow e.1 }) s
    let s := (s.media.bands.filter (fun (e : Nat × Band) => decide (e.2.st = 6) && decide (e.2.resets ≠ []))).foldl (fun s e => s.sendResets e.1 true true) s
    let all := (match s.wp.victim with | some v => [v] | none => []) ++ s.wp.victims
    all.foldl (fun s v => s.advanceVictim v.1 v.2) s

/-! ### Overdue stripes (R345) -/

/-- Dirty lines with the time since which they are dirty. -/
def State.dirtySince (s : State) : List (Nat × Nat) :=
  s.cache.frames.flatMap (fun (f : Nat × Frame) => (f.2.lines.filter (fun (l : Nat × LineSt) => l.2.dirty)).map (fun l => (f.2.page * 64 + l.1, l.2.since)))
    ++ s.cache.staged.map (fun (l : Nat × LineSt) => (l.1, l.2.since))

/-- Does a page that waits or is under way carry a line? -/
def Purpose.carries (w : Purpose) (folds : List Fold) (lln : Nat) : Bool :=
  match w with
  | .fold id => folds.any (fun f => decide (f.id = id) && decide (f.page = lln / 64))
  | .patches ps => ps.any (fun p => decide (p.lln = lln))
  | _ => false

/-- Has the stripe of a line been admitted to a slot? -/
def State.admitted (s : State) (lln : Nat) : Bool := s.wp.stripes.any (fun t => t.pages.any (fun (e : Nat × PageJob) => e.2.why.carries s.wp.folds lln))
  || s.wp.folds.any (fun f => decide (f.page = lln / 64) && f.programmed.isSome && decide (lln % 64 ∉ f.rewritten))

/-- The oldest dirty line whose stripe has not been admitted. -/
def State.oldestDirty (s : State) : Option (Nat × Nat) :=
  (s.dirtySince.filter (fun l => !s.admitted l.1)).foldl (fun (b : Option (Nat × Nat)) l => match b with | none => some l | some x => if l.2 < x.2 then some l else some x) none

/-- The stripe of the oldest dirty line is judged: overdue from 100 µs on, with no hold-up declared; a stripe not yet issued is issued at once. -/
def State.judgeOverdue (s : State) : State :=
  match s.oldestDirty with
  | none => { s with wp := { s.wp with overdue := none } }
  | some (lln, since) =>
    if !s.bd.declared ∧ since + 100 ≤ s.bd.now then
      let s := { s with wp := { s.wp with overdue := some lln } }
      if s.wp.jobs.any (fun j => j.why.carries s.wp.folds lln) then s else ((s.writeBack (lln / 64)).startFolds).packPatches (s.wp.patches.length + 1)
    else { s with wp := { s.wp with overdue := none } }

/-- The overdue stripe, and only it, claims units after class 3 (R345). -/
def State.issueOverdue (s : State) : State :=
  match s.wp.overdue with
  | none => s
  | some lln =>
    match s.wp.jobs.find? (fun j => j.why.carries s.wp.folds lln) with
    | none => s
    | some j =>
      let (did, s) := s.tryStripe j.cls j.stream (fun x => x.why.carries s.wp.folds lln)
      if did then s.judgeOverdue else s

/-! ### The work of a slot (R343) -/

/-- Resets that the openings of a stream need. -/
def State.openResets (s : State) (stream : Nat) (gov bg : Bool) : State :=
  ((s.openOf stream).filter (fun (e : Nat × Band) => e.2.opening)).foldl (fun s e => s.sendResets e.1 gov bg) s

/-- Pages with live patches, in bucket order from the last position, that a fold of cause LOAD takes (Table 07-2): one stripe of them a slot. -/
def State.loadFolds (s : State) : State :=
  let mark := 2 ^ 30 * s.bd.get pPTX F.PTX_LOAD_CFG.LOAD_HIGH / 100
  if s.live ≤ mark then s
  else
    let live := s.mapx.slots.filter (fun (e : Nat × Slot) => !e.2.staged && !e.2.poison)
    let next := (live.filter (fun (e : Nat × Slot) => decide (s.wp.loadAt ≤ e.1))).take 15
    let next := if next = [] then live.take 15 else next
    let s := next.foldl (fun s (e : Nat × Slot) => s.wantFold (slotLine e.1 e.2 / 64) 5) s
    match next.getLast? with
    | some e => { s with wp := { s.wp with loadAt := e.1 + 1 } }
    | none => s

/-- Resumes the suspended operations that no read holds (class 1). -/
def State.resumeAll (s : State) : State :=
  (s.media.ops.filter (fun (e : Nat × MOp) => e.2.susp)).foldl (fun s e => s.resumeIfIdle e.2.ppa) s

/-- Every page that waits is tried, class by class. -/
def State.fillSlot (s : State) : State :=
  let all : PageJob → Bool := fun _ => true
  let n := s.wp.jobs.length + 1
  let s := s.resumeAll
  let s := (s.fillClass n 2 all).openResets 5 false false
  let s := (s.fillClass n 3 all).openResets 2 false false
  let s := s.issueOverdue
  let s := s.fillClass n 4 all
  let s := s.fillClass n 5 all
  let s := s.fillClass n 6 all
  let s := [0, 1, 3, 4].foldl (fun s t => s.openResets t true false) s
  s.fillClass n 7 all

/-- A slot begins: what waits is prepared, and the slot is filled (R343). -/
def State.slotStart (s : State) (slot : Nat) : State :=
  let drain := s.bd.on pRTM F.RTM_STAT.DRAIN
  let isOpen := drain || nbit s.slot.mask slot
  let k : Slots := { s.slot with isOpen := isOpen, used := 0, governed := 0, background := 0 }
  let s := ({ s with slot := k }).on (fun b => b.put pRTM F.RTM_STAT.SLOT slot)
  if !isOpen then s
  else
    let s := s.judgeOverdue
    let s := if drain then s.startFolds else (s.loadFolds.reclaim).startFolds
    let s := s.packPatches (s.wp.patches.length + 1)
    let s := ((s.metaPages.journalPage).checkpoint).fillSlot
    let b := s.bd.get pRTM F.RTM_BUDGET.B
    let g := s.bd.get pRTM F.RTM_BUDGET.G
    let ready := s.wp.jobs.filter (fun j => (s.stripeBand j.stream j.why.isObject).isSome)
    if ready = [] then s
    else
      let s := s.on (fun bd => bd.count pRTM F.RTM_SLOT_FULL.COUNT 1)
      if b < s.slot.used + 16 then s.on (fun bd => bd.pinLoop 5 b (s.slot.used + 16))
      else if g < s.slot.governed + 16 ∧ s.bd.get pLOOP F.LOOP_WRATE.MAX_PCT ≤ s.bd.get pWGV F.WGV_CEIL.PCT then
        s.on (fun bd => bd.pinLoop 2 (bd.get pLOOP F.LOOP_WRATE.MAX_PCT) (s.slot.governed + 16))
      else s

/-- RESUME is due 5 µs after a suspend (R154). -/
def State.suspendTimeout (s : State) (c d p : Nat) : State := s.resumeOp ((d * 16 + c) * 2 ^ 25 + p * 2 ^ 12)

end Sys2Proof.Machine
end

