-- ==== Sys2Proof/Machine/Media.lean ====
section
/-! DEFINITION. Failures of media dies and channels, their retrain and rebuild, the identification of dies at INIT, and the one-shot media flip
(R156 to R163). -/

namespace Sys2Proof.Machine

/-! ### Loss of a die or a channel (R158 to R161) -/

/-- The operations that run on the dies `p` picks of a channel. -/
def State.opsOf (s : State) (c : Nat) (p : Nat → Bool) : List Nat :=
  (s.media.ops.filter (fun (e : Nat × MOp) => decide (e.1 / 128 = c) && p (e.1 / 16 % 8))).map Prod.fst

/-- Reads that wait at dies of a channel are reissued as reconstruction reads; squashed reads and patrol reads there are dropped (R160). -/
def State.reissue (s : State) (c : Nat) (p : Nat → Bool) : State :=
  let here := fun (r : MRead) => decide (ppaChan r.ppa = c) && p (ppaDie r.ppa)
  let reads := s.mapx.reads.filter here
  let s := { s with mapx := { s.mapx with reads := s.mapx.reads.filter (fun r => !here r) } }
  reads.foldl (fun s r =>
    match s.mapx.misses.find? (fun m => decide (m.id = r.miss) && decide (m.read = some r.id)) with
    | some m => if r.squashed then s else s.startRecon m (m.predicted :: retryBins m.predicted (s.bd.get pMAP F.MAP_CFG.RETRY_MAX)) false
    | none => s) s

/-- Closed bands with a member on the dies `p` picks of a channel are evacuated (R160). -/
def State.evacuateDies (s : State) (c : Nat) (p : Nat → Bool) : State :=
  (s.media.bands.filter (fun (e : Nat × Band) => p (e.1 / 8192) && decide (c ∉ e.2.excluded))).foldl (fun s e => s.evacuate e.1) s

/-- What the failure of dies of a channel brings: reads reissued, operations abandoned, bands evacuated. -/
def State.loseDies (s : State) (c : Nat) (p : Nat → Bool) : State :=
  let s := s.reissue c p
  let s := (s.opsOf c p).foldl (fun s k => s.abandonOp k) s
  (s.evacuateDies c p).followFree

/-- A channel is declared faulty under condition `cond` of R159 (R160): its dies are lost without being recorded, DIE_LOST closes unless one of them is recorded. -/
def State.channelFault (s : State) (c cond : Nat) : State :=
  if s.bd.on (pMCH c) F.MCH_CAUSE.CHAN_FAULT ∨ s.bd.powered (pMCH c) = false then s
  else
    let ops := (s.opsOf c (fun _ => true)).length
    let kept := s.media.recorded.any (fun k => decide (k / 8 = c))
    let s := { s with media := { s.media with dieNew := s.media.dieNew.filter (fun e => decide (e.1 / 8 ≠ c)) } }
    let s := s.on (fun b =>
      let b := b.put (pMCH c) F.MCH_DIE_STATE.DIE 0x33333333
      let b := b.put (pMCH c) F.MCH_LINK.TRAINED 0
      let b := b.put (pMCH c) F.MCH_CAUSE.DIE_LOST (bit kept)
      b.openCause (pMCH c) F.MCH_CAUSE.CHAN_FAULT)
    let s := s.on (fun b =>
      let wait := b.openVal
      let link := (b.rd (pMCH c) F.MCH_LINK.TRAINED.off).toNat
      let b := b.useOpen.raise (pMCH c) (ev E.MCH.CHAN_FAULT cond link ops wait)
      b.logFault (pMCH c) E.MCH.CHAN_FAULT 4 wait link false)
    s.loseDies c (fun _ => true)

/-- A die is declared failed under condition `cond` of R158 (R160); a second die of the channel within 10 µs makes the channel fault instead (R159). -/
def State.dieFailed (s : State) (c d cond : Nat) : State :=
  if s.bd.dieState c d ≠ 2 ∨ s.bd.powered (pMCH c) = false then s
  else if s.media.dieNew.any (fun e => decide (e.1 / 8 = c) && decide (s.bd.now ≤ e.2 + 10)) then s.channelFault c 0
  else
    let ops := (s.opsOf c (fun x => decide (x = d))).length
    let s := { s with media := { s.media with dieNew := s.media.dieNew ++ [(c * 8 + d, s.bd.now)] } }
    let s := s.on (fun b =>
      let b := (b.setDie c d 3).put (pMCH c) F.MCH_CAUSE.DIE_LOST 1
      let b := b.serviceLevel (pMCH c) true
      let wait := b.openVal
      let st := b.get (pMCH c) F.MCH_DIE_STATE.DIE
      let b := b.useOpen.raise (pMCH c) (ev E.MCH.DIE_LOST (d + cond * 8) st ops wait)
      b.logFault (pMCH c) E.MCH.DIE_LOST 3 wait st false)
    s.loseDies c (fun x => decide (x = d))

/-- A command CRC error of a channel: counted; more than 64 within 1 ms are a channel fault (R159). -/
def State.crcError (s : State) (c : Nat) : State :=
  let old := s.media.crcErrs.filter (fun e => decide (s.bd.now < e.2 + 1000))
  let s := { s with media := { s.media with crcErrs := old ++ [(c, s.bd.now)] } }
  let s := s.on (fun b => b.count (pMCH c) F.MCH_CRC_ERR.COUNT 1)
  if 64 < (s.media.crcErrs.filter (fun e => decide (e.1 = c))).length then s.channelFault c 3 else s

/-- A die does not answer a command correctly, or a read is not READY 2 µs after its command. `between`: another die of the channel has answered correctly since
the die's last failure (R158). -/
def State.cmdTimeout (s : State) (c d : Nat) (notReady between : Bool) : State :=
  if s.bd.dieState c d ≠ 2 then s
  else if notReady then s.dieFailed c d 1
  else
    let second := decide (c * 8 + d ∈ s.media.silent) && between
    let s := { s with media := { s.media with silent := nsInsert (c * 8 + d) s.media.silent } }
    let s := s.crcError c
    if second then s.dieFailed c d 0 else s

/-- A die has answered correctly. -/
def State.dieAnswered (s : State) (c d : Nat) : State := { s with media := { s.media with silent := nsErase (c * 8 + d) s.media.silent } }

/-- An array operation has not ended within the bound of R154. -/
def State.arrayTimeout (s : State) (c d p : Nat) : State :=
  if (smFind ((c * 8 + d) * 16 + p) s.media.ops).isSome then s.dieFailed c d 3 else s

/-- 10 µs after its declaration a failed die is recorded in the parameter store (R158). -/
def State.dieRecord (s : State) (c d : Nat) : State :=
  let k := c * 8 + d
  if s.media.dieNew.any (fun e => decide (e.1 = k)) then
    ({ s with media := { s.media with dieNew := s.media.dieNew.filter (fun e => decide (e.1 ≠ k)), recorded := nsInsert k s.media.recorded } }).storeFaults
  else s

/-! ### Retrain and rebuild (R160, R162) -/

/-- Bands whose members on a channel were left out, and whose field can be reset: its die is not recorded and it is not retired. -/
def State.leftOut (s : State) (c : Nat) : List Nat :=
  (s.media.bands.filter (fun (e : Nat × Band) => decide (c ∈ e.2.excluded) && decide (c * 8 + e.1 / 8192 ∉ s.media.recorded)
    && !(s.field (fieldOf e.1 c)).retired)).map Prod.fst

/-- A retrain of a faulted channel ends: DIE_RESET, CALIBRATE and READ_ID. CHAN_FAULT closes and REBUILD opens. -/
def State.retrained (s : State) (c : Nat) (ok : Bool) : State :=
  if !s.bd.on (pMCH c) F.MCH_CAUSE.CHAN_FAULT ∨ s.bd.powered (pMCH c) = false then s
  else
    let s := s.on (fun b => b.count (pMCH c) F.MCH_LINK.RETRAINS 1)
    if !ok then s
    else
      let dies := (List.range 8).foldl (fun w d => w + (if c * 8 + d ∈ s.media.recorded then 3 else 2) * 16 ^ d) 0
      s.on (fun b =>
        let b := (b.put (pMCH c) F.MCH_DIE_STATE.DIE dies).put (pMCH c) F.MCH_LINK.TRAINED 1
        (b.openCause (pMCH c) F.MCH_CAUSE.REBUILD).closeCause (pMCH c) F.MCH_CAUSE.CHAN_FAULT)

/-- The fields of a rebuilt channel have been reset. -/
def State.rebuilt (s : State) (c : Nat) : State :=
  if s.bd.on (pMCH c) F.MCH_CAUSE.REBUILD ∧ !s.bd.on (pMCH c) F.MCH_CAUSE.CHAN_FAULT then
    let bands := s.leftOut c
    let s := bands.foldl (fun s band =>
      let n := fieldOf band c
      let f := s.field n
      (s.eraseField n).setField n { f with wear := f.wear + resetWear (s.band band).slc }) s
    s.on (fun b => (b.closeCause (pMCH c) F.MCH_CAUSE.REBUILD).raise (pMCH c) (ev E.MCH.REBUILD_DONE 0 bands.length bands.length 0))
  else s

/-! ### Start of a channel (R156) -/

/-- Do the bytes of READ_ID name a die of this type with this die number (Table 05-7)? -/
def dieIdOk (id d : Nat) : Bool := decide (nbits id 0 8 = 0x4A) && decide (nbits id 8 8 = 0xB1) && decide (nbits id 24 8 = d)

/-- The dies of a channel have passed DIE_RESET, CALIBRATE and READ_ID in INIT. -/
def State.porDone (s : State) (c : Nat) (ids : List (BitVec 128)) (calibrated : Bool) : State :=
  if s.bd.unit (pMCH c) ≠ stINIT then s
  else
    let idOf := fun d => (ids.getD d 0).toNat
    let failed := (List.range 8).filter (fun d => decide (c * 8 + d ∈ s.media.recorded))
    let fresh := (List.range 8).filter (fun d => decide (c * 8 + d ∉ s.media.recorded) && !dieIdOk (idOf d) d)
    let dies := (List.range 8).foldl (fun w d => w + (if d ∈ failed ∨ d ∈ fresh then 3 else 2) * 16 ^ d) 0
    let s := { s with media := { s.media with dieIds := (List.range 8).foldl (fun m d => smSet (fun _ => 0) (c * 8 + d) (idOf d) m) s.media.dieIds } }
    let s := s.on (fun b => (b.put (pMCH c) F.MCH_DIE_STATE.DIE dies).put (pMCH c) F.MCH_LINK.TRAINED (bit calibrated))
    if !calibrated then s.channelFault c 1
    else
      let s := s.on (fun b => if failed = [] ∧ fresh = [] then b else b.put (pMCH c) F.MCH_CAUSE.DIE_LOST 1)
      let s := if fresh = [] then s
        else ({ s with media := { s.media with recorded := fresh.foldl (fun m d => nsInsert (c * 8 + d) m) s.media.recorded } }).storeFaults
      s.on (fun b => fresh.foldl (fun b d =>
        (b.raise (pMCH c) (ev E.MCH.DIE_LOST (d + 32) dies 0 0)).logFault (pMCH c) E.MCH.DIE_LOST 3 0 dies false) b)

/-! ### The one-shot flip (R163) -/

/-- A write of MCH_FLIP_CTL. -/
def State.flipArm (s : State) (p : Path) (c : Nat) (w : Word) : State :=
  let page := pMCH c
  s.written p page F.MCH_FLIP_CTL.ARM.off false false (fun s =>
    let host := match p with | .host _ => true | .mgmt => false
    if host && decide (s.bd.unit page ≠ stTEST) then s.rejects p page F.MCH_FLIP_CTL.ARM.off .denied
    else
      let zero := (List.range 4).all (fun i => decide (s.bd.get page (F.MCH_FLIP.MASK.ix i) = 0))
      let arm := decide (wordBits w 0 1 = 1)
      let w := if zero then wordSet w 0 1 0 else w
      let s := s.on (fun b => b.wr page F.MCH_FLIP_CTL.ARM.off (BitVec.ofNat 32 (wordBits w 0 11)))
      if arm && zero then s.rejects p page F.MCH_FLIP_CTL.ARM.off .empty else s)

end Sys2Proof.Machine
end

