-- ==== Sys2Proof/Machine/Age.lean ====
section
/-! DEFINITION. Age clocks through thermal rounds and unpowered time, OLD marks, the field-table inspection (R217 to R230, R249), and patrol
(R231 to R240). -/

namespace Sys2Proof.Machine

/-! ### Age clocks (R217, R228) -/

/-- 2^(k/80) in units of 2^-20, for k below 80: a quadratic whose error is below 0.3 % (R217 asks for 1 %; log entry 52). -/
def pow80 (k : Nat) : Nat := 2 ^ 20 + k * 688390 / 80 + k * k * 360186 / 6400

/-- AF(T) in units of 2^-20, for a temperature in 0.125 °C units (R217). -/
def ageFactor (t : Int) : Nat :=
  let x := (max (-440) (min 1080 t) - 440 + 880).toNat
  pow80 (x % 80) * 2 ^ (x / 80) / 2 ^ 11

/-- Age accrued in `us` µs at a temperature, in 2^-20 s. -/
def accrued (us : Nat) (t : Int) : Nat := us * ageFactor t / 1000000

/-- The rack time and the age clocks of this instant go to the parameter store (R228). -/
def State.saveAge (s : State) : State :=
  let t := s.bd.rackTime
  s.storeWords 3 ([t % 2 ^ 32, t / 2 ^ 32] ++ (List.range 16).flatMap (fun c => let v := s.age.clocks.getD c 0; [v % 2 ^ 32, v / 2 ^ 32 % 2 ^ 32]))

/-- The clocks resume from the saved values (R228); a lost record is a saved rack time of 0 (R431). Fields keep the stamps they have, taken before this start. -/
def State.resumeAge (s : State) : State :=
  let ws := s.recordWords 3
  let two := fun i => ws.getD i 0 + 2 ^ 32 * ws.getD (i + 1) 0
  { s with
    age := { s.age with clocks := (List.range 16).map (fun c => two (2 + 2 * c)), savedTime := two 0 }
    media := { s.media with fields := s.media.fields.map (fun (e : Nat × Field) => (e.1, { e.2 with sinceStart := false })) } }

/-- Fields of closed bands (R222): CLOSED, FAILING, EVACUATE and VICTIM. -/
def State.closedFields (s : State) : List Nat :=
  (s.media.bands.filter (fun (e : Nat × Band) => decide (2 ≤ e.2.st ∧ e.2.st ≤ 5))).flatMap (fun e =>
    ((List.range 16).map (fieldOf e.1)).filter (fun n => !(s.field n).retired))

/-- Sets OLD on the fields `p` picks among those of R222; answers how many it was set on. -/
def State.markOld (s : State) (p : Nat → Bool) : Nat × State :=
  let ns := s.closedFields.filter (fun n => !(s.field n).old && p n)
  (ns.length, ns.foldl (fun s n => s.setField n { s.field n with old := true }) s)

/-- The marks of R222. -/
def State.oldTick (s : State) : State :=
  let s := s.on (fun b => b.elapse 0 60000000)
  if s.bd.powered pAGE then (s.markOld (fun n => decide (32000000 ≤ s.age32 n))).2 else s

/-- The record AGE_SAVE is written every 60 s (R228). -/
def State.ageSave (s : State) : State :=
  let s := s.on (fun b => b.elapse 1 60000000)
  if s.bd.powered pAGE then s.saveAge else s

/-- INIT of a unit ends (R24). -/
def Board.endInit (b : Board) (page : Nat) (reduced : Bool) : Board :=
  if b.unit page ≠ stINIT then b
  else b.toState page (if b.openCauses page ≠ 0 then stCONTAINED else if reduced then stDEGRADED else stSERVICE)

/-- Does a channel use a substitute temperature (R218)? -/
def Board.ageReduced (b : Board) : Bool := decide (b.get pAGE F.AGE_STAT.FALLBACK ≠ 0)

/-! ### The unpowered interval (R229, R230, R236) -/

/-- A priority lap starts from band 0 (R236). -/
def State.priorityLap (s : State) (unknown : Bool) : State :=
  { s with
    age := { s.age with lapReloc := 0, nextChan := 0, ampSum := 0, ampCount := 0, ampMax := 0, ampAbove := 0, lapTold := false }
    bd := (((((s.bd.put pPTL F.PTL_POS.BAND 0).put pPTL F.PTL_POS.PAGE 0).put pPTL F.PTL_LAP.PRIORITY 1).put pPTL F.PTL_ELAPSED.MINUTES 0).put pPTL F.PTL_LAP_PAGES.PAGES 0).raise pPTL
      (ev E.PTL.PRIORITY_LAP (bit unknown) (s.bd.get pAGE F.AGE_OFF.SECONDS) 0 0) }

/-- Rack time has arrived after a start: the unpowered interval is applied once (R229), closes that awaited it take this minute (R220), and AGE leaves INIT. -/
def State.applyInterval (s : State) : State :=
  if s.bd.powered pAGE = false ∨ s.bd.on pAGE F.AGE_STAT.RT_APPLIED ∨ !s.bd.on pRTM F.RTM_STAT.VALID then s
  else
    let now := s.bd.rackTime
    let saved := s.age.savedTime
    let unknown := decide (saved = 0)
    let backward := !unknown && decide (now < saved)
    let u := if unknown then 0 else now - saved
    let e := accrued u ((toSigned 8 (s.bd.get pAGE F.AGE_CFG.OFF_TEMP)) * 8)
    let (n, s) := s.markOld (fun n => unknown || decide (32000000 * 2 ^ 20 ≤ s.age32 n * 2 ^ 20 + e * 32))
    let s := { s with age := { s.age with clocks := if unknown then s.age.clocks else s.age.clocks.map (fun c => c + e) } }
    let secs := min 0xFFFFFFFF (e / 2 ^ 20)
    let s := s.on (fun b =>
      let b := b.put pAGE F.AGE_OFF.SECONDS (min 0xFFFFFFFF (u / 1000000))
      let b := ((b.put pAGE F.AGE_STAT.RT_APPLIED 1).put pAGE F.AGE_STAT.OFF_UNKNOWN (bit unknown)).put pAGE F.AGE_STAT.TIME_BACKWARD (bit backward)
      let risk := if unknown ∨ 55000000 * 2 ^ 20 ≤ e then [ev E.AGE.RETENTION_RISK (bit unknown) secs 0 0] else []
      (b.raises pAGE (ev E.AGE.RT_APPLIED (bit unknown + 2 * bit backward) (b.get pAGE F.AGE_OFF.SECONDS) n secs :: risk)).endInit pAGE b.ageReduced)
    if unknown ∨ 86400000000 ≤ u then s.priorityLap unknown else s

/-- Closes that awaited rack time take the minute of its arrival (R220). -/
def State.stampArrival (s : State) : State :=
  let t := s.bd.rackTime
  { s with media := { s.media with
    fields := s.media.fields.map (fun (e : Nat × Field) => if e.2.awaitsTime then (e.1, { e.2 with awaitsTime := false, closeTime := t / 60000000 }) else e)
    bands := s.media.bands.map (fun (e : Nat × Band) => if 2 ≤ e.2.st ∧ e.2.closedAt = 0 then (e.1, { e.2 with closedAt := t }) else e) } }

/-! ### Field-table inspection (R219, R249) -/

/-- The four words of a field's table entry (Table 08-1). -/
def State.fieldWords (s : State) (n : Nat) : List Nat :=
  let f := s.field n
  let v := s.band (n / 131072 * 8192 + n % 8192)
  let w := s.fieldState n + bit v.slc * 2 ^ 4 + v.stream % 8 * 2 ^ 5 + f.wear * 2 ^ 8 + min 255 f.relocs * 2 ^ 33 + bit f.old * 2 ^ 41 + ofSigned 3 f.bias * 2 ^ 42
    + f.stamp * 2 ^ 48 + f.fillSpan * 2 ^ 80 + f.closeTime % 2 ^ 28 * 2 ^ 96
  (List.range 4).map (fun i => w / 2 ^ (32 * i) % 2 ^ 32)

/-- A write of AGE_INSP. -/
def State.ageInsp (s : State) (p : Path) (field : Nat) (start : Bool) : State :=
  s.written p pAGE F.AGE_INSP.FIELD.off false false (fun s =>
    if s.bd.on pAGE F.AGE_INSP_RES.BUSY then s.rejects p pAGE F.AGE_INSP.FIELD.off .busy
    else
      let s := s.on (fun b => b.put pAGE F.AGE_INSP.FIELD field)
      if start then
        { (s.on (fun b => (b.put pAGE F.AGE_INSP.START 1).put pAGE F.AGE_INSP_RES.BUSY 1)) with mapx := { s.mapx with inspectAge := some field } }
      else s)

/-- The inspection of AGE_INSP completes. -/
def State.ageInspected (s : State) : State :=
  match s.mapx.inspectAge with
  | none => s
  | some n =>
    let f := s.field n
    let a := s.age32 n / 32
    let base := s.fieldBin n
    let bin := s.predicted n
    let pre := s.prestart n
    let words := s.fieldWords n
    ({ s with mapx := { s.mapx with inspectAge := none } }).on (fun b =>
      let b := (b.put pAGE F.AGE_INSP.START 0).put pAGE F.AGE_INSP_RES.BUSY 0
      let b := ((b.put pAGE F.AGE_INSP_RES.BASE_BIN base).put pAGE F.AGE_INSP_RES.BIN bin).put pAGE F.AGE_INSP_RES.BIAS (ofSigned 3 f.bias)
      let b := ((b.put pAGE F.AGE_INSP_RES.OLD (bit f.old)).put pAGE F.AGE_INSP_RES.PRESTART (bit pre)).put pAGE F.AGE_INSP_AGE.SECONDS (min 0xFFFFFFFF a)
      (List.range 4).foldl (fun b i => b.put pAGE (F.AGE_FT.ENTRY.ix i) (words.getD i 0)) b)

/-! ### Patrol (R231 to R240) -/

/-- The place of a page in a lap: bands, pages and channels in ascending order. -/
def lapKey (ppa : Nat) : Nat := ppaBand ppa * 2 ^ 16 + ppaPage ppa * 16 + ppaChan ppa

/-- The cursor as such a place. -/
def State.cursor (s : State) : Nat := s.bd.get pPTL F.PTL_POS.BAND * 2 ^ 16 + s.bd.get pPTL F.PTL_POS.PAGE * 16 + s.age.nextChan

/-- Does a lap read a page (R231)? -/
def State.patrols (s : State) (ppa : Nat) : Bool :=
  let v := s.band (ppaBand ppa)
  decide (1 ≤ v.st ∧ v.st ≤ 4) && decide (ppaChan ppa ∉ v.excluded) && !(s.field (ppaField ppa)).retired && s.bd.readable ppa

/-- Pages that the lap has still to read. -/
def State.lapLeft (s : State) : Nat := (s.media.pages.filter (fun (e : Nat × MPage) => decide (s.cursor ≤ lapKey e.1) && s.patrols e.1)).length

/-- The next page of the lap. -/
def State.nextPatrol (s : State) : Option Nat :=
  s.media.pages.foldl (fun (best : Option Nat) (e : Nat × MPage) =>
    if s.cursor ≤ lapKey e.1 ∧ s.patrols e.1 then
      match best with
      | some q => if lapKey e.1 < lapKey q then some e.1 else best
      | none => some e.1
    else best) none

/-- Does patrol issue reads: in SERVICE, enabled, and not throttled (R235, R238, R465)? -/
def State.patrolRuns (s : State) : Bool :=
  decide (s.bd.unit pPTL = stSERVICE) && s.bd.on pPTL F.PTL_CFG.EN && decide (s.bd.get pTHM F.THM_STAT.LEVEL = 0) && !s.bd.on pRTM F.RTM_STAT.DRAIN

/-- A READ_PAGE of patrol is issued. -/
def State.issuePatrol (s : State) (ppa : Nat) : State :=
  let (bin, s) := s.predict ppa
  let (ready, s) := s.reach ppa
  let r : MRead := ⟨s.home.nextId, ppa, 0, bin, 0, true, ready, false, s.bd.now⟩
  { s with home := { s.home with nextId := s.home.nextId + 1 }, mapx := { s.mapx with reads := s.mapx.reads ++ [r] } }

/-- The cursor enters a band (R231, R240): RELOCS of its fields are cleared and READ_PULSE shows their start amplitudes. -/
def State.enterBand (s : State) (band : Nat) : State :=
  let v := s.band band
  let cap := s.bd.programCap v.slc
  v.included.foldl (fun s c =>
    let n := fieldOf band c
    let f := s.field n
    let s := s.setField n { f with relocs := 0 }
    { s with age := { s.age with
      ampSum := s.age.ampSum + f.amplitude
      ampCount := s.age.ampCount + 1
      ampMax := max s.age.ampMax f.amplitude
      ampAbove := s.age.ampAbove + bit (decide (0 < cap ∧ cap < f.amplitude)) } }) s

/-- The lap ends (R231, R240). -/
def State.endLap (s : State) : State :=
  let a := s.age
  let s := { s with age := { a with lapReloc := 0, nextChan := 0, ampSum := 0, ampCount := 0, ampMax := 0, ampAbove := 0, lapTold := false } }
  s.on (fun b =>
    let pages := b.get pPTL F.PTL_LAP_PAGES.PAGES
    let prio := b.get pPTL F.PTL_LAP.PRIORITY
    let b := ((b.put pPTL F.PTL_POS.BAND 0).put pPTL F.PTL_POS.PAGE 0).count pPTL F.PTL_LAP.LAP 1
    let b := ((b.put pPTL F.PTL_LAP.PRIORITY 0).put pPTL F.PTL_LAST.MINUTES (b.get pPTL F.PTL_ELAPSED.MINUTES)).put pPTL F.PTL_ELAPSED.MINUTES 0
    let b := b.put pPTL F.PTL_LAP_PAGES.PAGES 0
    let b := ((b.put pHLT F.HLT_AMP.MEAN (a.ampSum / max 1 a.ampCount)).put pHLT F.HLT_AMP.MAX a.ampMax).put pHLT F.HLT_AMP.ABOVE_CAP (min 0xFFFF a.ampAbove)
    b.raise pPTL (ev E.PTL.LAP_DONE prio (b.get pPTL F.PTL_LAST.MINUTES) pages a.lapReloc))

/-- Patrol's turn (R231, R237): a suspect page first, else the next page of the lap; a lap without a next page ends. -/
def State.patrolIssue (s : State) : State :=
  if !s.patrolRuns ∨ s.bd.get pMAP F.MAP_CFG.BG_MAX ≤ s.bgInFlight then s
  else
    match s.age.suspects with
    | ppa :: rest =>
      let s := { s with age := { s.age with suspects := rest } }
      if (s.mediaPage ppa).isSome ∧ s.patrols ppa then s.issuePatrol ppa else s
    | [] =>
      match s.nextPatrol with
      | none => s.endLap
      | some ppa =>
        let first := decide (s.bd.get pPTL F.PTL_LAP_PAGES.PAGES = 0) || decide (ppaBand ppa ≠ s.bd.get pPTL F.PTL_POS.BAND)
        let s := if first then s.enterBand (ppaBand ppa) else s
        let s := s.issuePatrol ppa
        let k := lapKey ppa + 1
        let s := s.on (fun b => (b.count pPTL F.PTL_LAP_PAGES.PAGES 1).put pPTL F.PTL_POS.BAND (min 65535 (k / 2 ^ 16)))
        { s with bd := s.bd.put pPTL F.PTL_POS.PAGE (k / 16 % 4096), age := { s.age with nextChan := k % 16 } }

/-- One codeword of a patrol read (R232): the bits corrected, whether it took a retry or a reconstruction, and whether it is lost. A retry or a reconstruction finds the
media as they stand (log entry 28). -/
def State.patrolWord (s : State) (ppa bin n bits : Nat) : (Nat × Bool × Bool) × State :=
  let page := pMCH (ppaChan ppa)
  let count := fun (s : State) (k : Nat) => if k = 0 then s else s.on (fun b => (b.count page F.MCH_CORR.COUNT 1).count pHLT F.HLT_LIFE_CORR.COUNT 1)
  match s.sense ppa n bits with
  | .erased => ((0, false, false), s)
  | .good _ k => ((k, false, false), count s k)
  | .lost =>
    let again := match retryBins bin (s.bd.get pMAP F.MAP_CFG.RETRY_MAX), s.sense ppa n 0 with
      | b :: _, .good _ k => some (b, k)
      | _, _ => none
    match again with
    | some (b, k) =>
      let s := (((s.uncorrected ppa).on (fun bd => bd.count pHLT F.HLT_LIFE_RETRY.COUNT 1)).offBound ppa b).learnBin ppa bin b
      ((0, true, false), (count s k).decodedAt bin b)
    | none =>
      let s := s.allBinsFail ppa bin
      if !s.bd.on pMAP F.MAP_CFG.DEEP_EN then ((0, true, true), s.ladderEnds ppa n bin 2)
      else
        let s := s.on (fun b => ((b.count page F.MCH_RECON.COUNT 1).count pHLT F.HLT_LIFE_RECON.COUNT 1).count pPTL F.PTL_RECON.COUNT 1)
        let got := (s.reconstruct ppa n 0).isSome
        let s := s.ladderEnds ppa n bin (bit (!got))
        if got then ((0, true, false), s.noteWeak ppa) else ((0, true, true), s)

/-- A relocation-grade page is handled by what it is (R232, Table 08-3). -/
def State.relocate (s : State) (ppa : Nat) (p : MPage) : State :=
  let s := s.setField (ppaField ppa) { s.field (ppaField ppa) with relocs := min 255 ((s.field (ppaField ppa)).relocs + 1) }
  let s := { s with age := { s.age with lapReloc := s.age.lapReloc + 1 } }
  let e := s.mapEntry p.page
  let seg := (s.wp.metaIdx.filter (fun (x : Nat × SegRef) => decide (x.2.ppa = ppa))).map Prod.fst
  let v := s.band (ppaBand ppa)
  let s : State := if p.kind = 1 ∧ e.hasBase ∧ e.ppa = ppa then (s.queueCopy p.page 7 true).on (fun b => b.count pPTL F.PTL_RELOC.COUNT 1)
    else if seg ≠ [] then (seg.foldl (fun s n => s.dirtySegment n) s).on (fun b => b.count pPTL F.PTL_RELOC.COUNT 1)
    else if v.stream = 4 ∨ v.stream = 5 then
      let s := s.evacuateFor (ppaField ppa) true
      if v.stream = 5 then (s.wp.objects.filter (fun (x : Nat × (Nat × Nat × Nat)) => decide (ppaBand x.2.1 = ppaBand ppa))).foldl (fun s x => s.dirtyObject x.1) s else s
    else s.on (fun b => b.count pPTL F.PTL_CORR.COUNT 1)
  if s.bd.get pPTL F.PTL_CFG.EVAC_RELOCS ≤ (s.field (ppaField ppa)).relocs then s.evacuateFor (ppaField ppa) false else s

/-- A patrol read is collected and judged (R232 to R234): `errors` gives the bit errors of its codewords, 64 for the header. -/
def State.patrolData (s : State) (r : MRead) (errors : List (Nat × Nat)) : State :=
  match s.mediaPage r.ppa with
  | none => s
  | some p =>
    let got := (List.range 65).foldl (fun (x : (Bool × Bool) × State) n =>
      let bits := ((errors.find? (fun e => decide (e.1 = n))).map Prod.snd).getD 0
      let (w, s) := x.2.patrolWord r.ppa r.bin n bits
      ((x.1.1 || w.2.1 || decide (x.2.bd.get pPTL F.PTL_CFG.RELOC_BITS ≤ w.1), x.1.2 || (w.2.2 && decide (n < 64))), s)) ((false, false), s)
    let s := if (List.range 65).all (fun n =>
        let bits := ((errors.find? (fun e => decide (e.1 = n))).map Prod.snd).getD 0
        match s.sense r.ppa n bits with | .good _ _ => true | _ => false) then got.2.decodedAt r.bin r.bin else got.2
    if got.1.1 then s.relocate r.ppa p else s

/-- Every 60 s patrol sets its rate and the lap grows by a minute (R235, R238). -/
def State.patrolRate (s : State) : State :=
  let s := s.on (fun b => b.elapse 2 60000000)
  if s.bd.unit pPTL ≠ stSERVICE ∨ !s.bd.on pPTL F.PTL_CFG.EN then s.on (fun b => if b.powered pPTL then b.put pPTL F.PTL_RATE.PAGES 0 else b)
  else
    let s := s.on (fun b => b.count pPTL F.PTL_ELAPSED.MINUTES 1)
    let age := s.bd.get pPTL F.PTL_ELAPSED.MINUTES
    let hours := if s.bd.on pPTL F.PTL_LAP.PRIORITY then 24 else s.bd.get pPTL F.PTL_CFG.LAP_HOURS
    let want := s.lapLeft / max 1 ((hours * 60 - age) * 60)
    let cap := s.bd.get pLOOP F.LOOP_PATROL.MAX_RATE
    let old := decide (336 * 60 < age)
    let tell := fun (s : State) (cross : Bool) =>
      if s.age.lapTold then s
      else { (s.on (fun b => b.raise pPTL (ev E.PTL.LAP_LATE (bit cross) age (b.rd pPTL F.PTL_POS.BAND.off).toNat 0))) with age := { s.age with lapTold := true } }
    if want ≤ cap then s.on (fun b => b.put pPTL F.PTL_RATE.PAGES (min 0xFFFFFF want))
    else if old then
      (tell s true).on (fun b => (b.overrideLoop 4 (b.get pPTL F.PTL_POS.BAND) cap (min 0xFFFFFF want)).put pPTL F.PTL_RATE.PAGES (min 0xFFFFFF want))
    else
      let s := if s.age.lapTold then s else s.on (fun b => b.pinLoop 4 cap (min 0xFFFFFFFF want))
      (tell s false).on (fun b => b.put pPTL F.PTL_RATE.PAGES cap)

/-- The cursor, the lap number and the elapsed time of the lap go to the parameter store (R238). -/
def State.savePatrol (s : State) : State :=
  s.storeWords 4 [(s.bd.rd pPTL F.PTL_POS.BAND.off).toNat, s.bd.get pPTL F.PTL_LAP.LAP, s.bd.get pPTL F.PTL_ELAPSED.MINUTES]

/-- The save of every 60 s. -/
def State.patrolSave (s : State) : State :=
  let s := s.on (fun b => b.elapse 3 60000000)
  if s.bd.powered pPTL then s.savePatrol else s

/-- Patrol resumes the lap from the saved cursor (R238). -/
def State.resumePatrol (s : State) : State :=
  let ws := s.recordWords 4
  { s with
    bd := ((s.bd.wr pPTL F.PTL_POS.BAND.off (BitVec.ofNat 32 (ws.getD 0 0))).put pPTL F.PTL_LAP.LAP (ws.getD 1 0)).put pPTL F.PTL_ELAPSED.MINUTES (ws.getD 2 0)
    age := { s.age with nextChan := 0 } }

end Sys2Proof.Machine
end

