-- ==== Sys2Proof/Machine/Health.lean ====
section
/-! DEFINITION. Spare, lifetime counts and the wear governor (R242 to R248), and the thermal round: sensors, throttling and what follows from them
(R462 to R466). -/

namespace Sys2Proof.Machine

/-! ### Spare (R242 to R244) -/

/-- Dies that have failed, contained channels aside (R242). -/
def State.failedDies (s : State) : List Nat :=
  (List.range 128).filter (fun k => decide (k ∈ s.media.recorded) || (decide (s.bd.dieState (k / 8) (k % 8) = 3) && !s.bd.on (pMCH (k / 8)) F.MCH_CAUSE.CHAN_FAULT))

/-- Data positions of a band: its members on neither failed dies nor retired fields, less the parity. -/
def State.bandPositions (s : State) (dead : List Nat) (band : Nat) : Nat :=
  ((List.range 16).filter (fun c => decide (c * 8 + band / 8192 ∉ dead) && !(s.field (fieldOf band c)).retired)).length - 1

/-- HLT_CAPACITY (R242): bands whose members are all alike are counted by band group, the others one by one. -/
def State.capacity (s : State) : Nat :=
  let dead := s.failedDies
  let odd := s.media.fields.foldl (fun (m : List Nat) (e : Nat × Field) => if e.2.retired then nsInsert (e.1 / 131072 * 8192 + e.1 % 8192) m else m)
    ((s.media.bands.filter (fun (e : Nat × Band) => decide (e.2.st = 6))).map Prod.fst)
  let plain := fun d => 16 - (dead.filter (fun k => decide (k % 8 = d))).length - 1
  let all := ((List.range 8).map (fun d => 8192 * plain d)).sum
  odd.foldl (fun n b => n - plain (b / 8192) + (if (s.band b).st = 6 then 0 else s.bandPositions dead b)) all

/-- A crossing of a warning threshold (R244): its event, and a Memory Module record for the heads that serve; a return to normal gives an Informational record. -/
def State.warn (s : State) (n : Nat) (now : Bool) (e : Ev) : State :=
  if nbit s.age.warned n = now then s
  else
    let s := { s with age := { s.age with warned := nsetbit s.age.warned n now } }
    let s := if now then s.on (fun b => b.raise pHLT e) else s
    (List.range 8).foldl (fun s h => if s.bd.serves (pHPT h) then s.hostRecord h (if now then 1 else 0) 1 0 (n + 1) (bit now) else s) s

/-- The HLT registers follow the media (R242 to R244). -/
def State.followHealth (s : State) : State :=
  if s.bd.powered pHLT = false then s
  else
    let cap := s.capacity
    let spare : Int := (cap : Int) - 816315
    let pct := if spare < 0 then 0 else spare.toNat * 100 / 166725
    let grant := if spare < 0 then 49152 - ceilDiv (-spare).toNat 16 else 49152
    let life := s.bd.get pWGV F.WGV_LIFE.LIFE_USED
    let below := decide (pct < s.bd.get pHLT F.HLT_WARN.SPARE_WARN)
    let above := decide (s.bd.get pHLT F.HLT_WARN.LIFE_WARN ≤ life)
    let retired := (s.media.fields.filter (fun (e : Nat × Field) => e.2.retired)).length
    let s := s.on (fun b =>
      let b := (b.put pHLT F.HLT_CAPACITY.POSITIONS cap).put pHLT F.HLT_SPARE.POSITIONS (ofSigned 32 spare)
      let b := ((b.put pHLT F.HLT_GRANTABLE.EXTENTS grant).put pHLT F.HLT_RETIRED.FIELDS retired).put pHLT F.HLT_DIES.FAILED s.failedDies.length
      let b := (b.put pHLT F.HLT_STATUS.SPARE_PCT (min 127 pct)).put pHLT F.HLT_STATUS.LIFE_PCT life
      ((b.put pHLT F.HLT_STATUS.SPARE_BELOW (bit below)).put pHLT F.HLT_STATUS.LIFE_ABOVE (bit above)).put pHLT F.HLT_STATUS.SPARE_NEG (bit (decide (spare < 0))))
    let s := s.warn 0 below (ev E.HLT.SPARE_WARN 0 pct (ofSigned 32 spare) grant)
    let s := s.warn 1 above (ev E.HLT.LIFE_WARN 0 life (s.bd.get pWGV F.WGV_PROJ.YEARS) 0)
    let neg := decide (spare < 0)
    let s := if neg && !nbit s.age.warned 3 then s.on (fun b => b.raise pHLT (ev E.HLT.SPARE_NEG 0 (ofSigned 32 spare) grant 0)) else s
    let s := { s with age := { s.age with warned := nsetbit s.age.warned 3 neg } }
    s.on (fun b => b.serviceLevel pHLT below)

/-! ### Lifetime counts (R245, R246) and the wear governor (R247, R248) -/

/-- The lifetime counters. -/
def lifeCounters : List Fld :=
  [F.HLT_LIFE_CORR.COUNT, F.HLT_LIFE_UNCORR.COUNT, F.HLT_LIFE_RECON.COUNT, F.HLT_LIFE_RETRY.COUNT, F.HLT_LIFE_SQUASH.COUNT, F.HLT_LIFE_POISON.COUNT,
   F.HLT_LIFE_PFAIL.COUNT, F.HLT_LIFE_RFAIL.COUNT]

/-- WGV_SERVICE counts the hours that have passed. -/
def State.countHours (s : State) : State :=
  let last := smGet (fun _ => 0) s.bd.marks 7
  let h := (s.bd.now - last) / 3600000000
  s.on (fun b => { b.count pWGV F.WGV_SERVICE.HOURS h with marks := smSet (fun _ => 0) 7 (last + h * 3600000000) b.marks })

/-- The HEALTH record (Table 17-4). -/
def State.saveHealth (s : State) : State :=
  s.storeWords 9 ((List.range 32).map (smGet (fun _ => 0) s.age.hist) ++ [(s.bd.rd pHLT F.HLT_TEMP_PEAK.DIE.off).toNat, s.bd.get pWGV F.WGV_SERVICE.HOURS]
    ++ lifeCounters.map (s.bd.get pHLT) ++ s.age.wearLog)

/-- The counts resume from a HEALTH body (R246, R431). -/
def State.loadHealth (s : State) (ws : List Nat) : State :=
  let s := { s with age := { s.age with
    hist := (List.range 32).foldl (fun m i => smSet (fun _ => 0) i (ws.getD i 0) m) []
    wearLog := ws.drop (34 + lifeCounters.length) } }
  s.on (fun b =>
    let b := (b.wr pHLT F.HLT_TEMP_PEAK.DIE.off (BitVec.ofNat 32 (ws.getD 32 0))).put pWGV F.WGV_SERVICE.HOURS (ws.getD 33 0)
    (lifeCounters.zip (ws.drop 34)).foldl (fun b (x : Fld × Nat) => b.put pHLT x.1 x.2) b)

/-- The save of every 60 minutes (R246). -/
def State.healthSave (s : State) : State := (s.on (fun b => b.elapse 5 3600000000)).countHours.saveHealth

/-- The daily copy of HEALTH in META segment 4,512 (R213, R431). -/
def State.healthCopy (s : State) : State := (s.on (fun b => b.elapse 6 86400000000)).dirtySegment 4512

/-- WGV's work of every 24 h (R247, R248). -/
def State.wgvDaily (s : State) : State :=
  let s := (s.on (fun b => b.elapse 8 86400000000)).countHours
  if s.bd.powered pWGV = false then s
  else
    let live := s.media.fields.filter (fun (e : Nat × Field) => !e.2.retired)
    let retired := s.media.fields.length - live.length
    let mean := (live.map (fun (e : Nat × Field) => e.2.wear)).sum / max 1 (2 ^ 20 - retired)
    let top := (live.map (fun (e : Nat × Field) => e.2.wear)).foldl max 0
    let hours := s.bd.get pWGV F.WGV_SERVICE.HOURS
    let days := s.bd.get pWGV F.WGV_CFG.WINDOW_DAYS
    let log := s.age.wearLog
    let start := if log.length < days then 0 else log.getD (log.length - days) 0
    let window := max 1 (min (days * 24) hours)
    let rate := (mean - start) * 8766 / window
    let proj := if rate = 0 ∨ hours < 24 then 0xFFFF else min 0xFFFF (16 * (30000000 - mean) / rate)
    let life := min 127 (100 * mean / 30000000)
    let target := s.bd.get pWGV F.WGV_CFG.TARGET_YEARS * 8766
    let need := target - hours
    let mode := s.bd.on pWGV F.WGV_CFG.MODE
    let short := decide (proj * 8766 < 16 * need)
    let pct := if short && mode then 100 * proj * 8766 / (16 * max 1 need) else 100
    let floor := s.bd.get pLOOP F.LOOP_WRATE.MIN_PCT
    let pinned := decide (pct < floor)
    let before := s.bd.get pWGV F.WGV_CEIL.PCT
    let s := { s with age := { s.age with wearLog := (log ++ [mean]).drop (log.length + 1 - 255) } }
    let s := s.on (fun b =>
      let b := ((b.put pWGV F.WGV_MEAN.UNITS mean).put pWGV F.WGV_MAX.UNITS top).put pWGV F.WGV_RATE.UNITS rate
      let b := (b.put pWGV F.WGV_PROJ.YEARS proj).put pWGV F.WGV_LIFE.LIFE_USED life
      let b := (b.put pWGV F.WGV_CEIL.PCT (max pct floor)).put pWGV F.WGV_CEIL.PINNED (bit pinned)
      let evs := (if short then [ev E.WGV.BELOW_TARGET (bit mode) proj (16 * need / 8766) rate] else [])
        ++ (if max pct floor ≠ before then [ev E.WGV.GOVERNING 0 (max pct floor) before 0] else [])
        ++ (if pinned then [ev E.WGV.PINNED 0 pct floor 0] else [])
      let b := b.raises pWGV evs
      if pinned then b.pinLoop 2 floor pct else b)
    s.followHealth

/-! ### Sensors (R462 to R464) -/

/-- Neighbours of a sensor (Table 19-2). -/
def sensorNear (n : Nat) : List Nat :=
  if n < 32 then
    (if 8 ≤ n then [n - 8] else []) ++ (if n % 8 ≠ 0 then [n - 1] else []) ++ (if n % 8 ≠ 7 then [n + 1] else []) ++ (if n < 24 then [n + 8] else [])
  else if n < 36 then (List.range 4).map (fun k => 32 + k) |>.filter (fun m => decide (m ≠ n))
  else ((if 38 ≤ n then [n - 2] else []) ++ (if 37 ≤ n then [n - 1] else []) ++ (if n ≤ 50 then [n + 1] else []) ++ (if n ≤ 49 then [n + 2] else []))

/-- Bit n of SUSPECT or MISSING. -/
def Board.suspectSensor (b : Board) (n : Nat) : Bool :=
  if n < 32 then nbit (b.get pTHM F.THM_SUSPECT_LO.SENSORS) n else nbit (b.get pTHM F.THM_SUSPECT_HI.SENSORS) (n - 32)

/-- An integer list in rising order: insertion. -/
def intInsert (x : Int) : List Int → List Int
  | [] => [x]
  | y :: ys => if x ≤ y then x :: y :: ys else y :: intInsert x ys

/-- Twice the median of some readings: the mean of the middle two for an even number (R463). -/
def median2 (xs : List Int) : Int :=
  let ys := xs.foldl (fun m x => intInsert x m) []
  let k := ys.length
  if k % 2 = 1 then 2 * ys.getD (k / 2) 0 else ys.getD (k / 2 - 1) 0 + ys.getD (k / 2) 0

/-- Twice the median that a sensor is judged against, when two neighbours or more can judge it. -/
def State.judgeBy (s : State) (temps : List (Option Int)) (n : Nat) : Option Int :=
  let near := (sensorNear n).filterMap (fun m => if s.bd.suspectSensor m then none else temps.getD m none)
  if near.length < 2 then none else some (median2 near)

/-- The highest of some sensors that are neither missing nor suspect, with its number. -/
def State.hottest (s : State) (temps : List (Option Int)) (ns : List Nat) : Option (Int × Nat) :=
  ns.foldl (fun (best : Option (Int × Nat)) n =>
    match temps.getD n none with
    | none => best
    | some t =>
      if s.bd.suspectSensor n then best
      else match best with
        | none => some (t, n)
        | some x => if x.1 < t then some (t, n) else best) none

/-- The temperature that ages channel `c`, and its source (R218): 0 its own, 1 the highest valid reading, 2 125 °C. -/
def State.ageTemp (s : State) (c : Nat) : Int × Nat :=
  match s.thm.temps.getD (36 + c) none with
  | some t => if s.bd.suspectSensor (36 + c) then ((((s.hottest s.thm.temps ((List.range 16).map (· + 36))).map Prod.fst).map (fun t => (t, 1))).getD (1000, 2)) else (t, 0)
  | none => (((s.hottest s.thm.temps ((List.range 16).map (· + 36))).map Prod.fst).map (fun t => (t, 1))).getD (1000, 2)

/-- Sets the bits of the sensors in a pair of LO and HI registers. -/
def Board.putSensors (b : Board) (lo hi : Fld) (ns : List Nat) : Board :=
  let w := ns.foldl (fun w n => w + 2 ^ n) 0
  (b.put pTHM lo w).put pTHM hi (w / 2 ^ 32)

/-- The sensors are judged (R463). -/
def State.judgeSensors (s : State) (temps : List (Option Int)) : State :=
  let all := List.range 52
  let med := all.map (fun n => if (temps.getD n none).isSome then s.judgeBy temps n else none)
  let off := fun n => match temps.getD n none, med.getD n none with
    | some t, some m => some (decide (2 * t - m < -192) || decide (192 < 2 * t - m))
    | _, _ => none
  let good := fun n => if off n = some false then smGet (fun _ => 0) s.thm.good n + 1 else 0
  let clear := all.filter (fun n => s.bd.suspectSensor n && decide (10 ≤ good n))
  let fresh := all.filter (fun n => !s.bd.suspectSensor n && decide (off n = some true))
  let suspect := all.filter (fun n => decide (n ∈ fresh) || (s.bd.suspectSensor n && decide (n ∉ clear)))
  let gone := all.filter (fun n => (temps.getD n none).isNone)
  let newGone := gone.filter (fun n => decide (smGet (fun _ => 0) s.thm.missing n = 0))
  let reading := fun n => ofSigned 32 ((temps.getD n none).getD 0)
  let median := fun n => ofSigned 32 ((med.getD n none).getD 0 / 2)
  let evs := (fresh.map (fun n => ev E.THM.SENSOR_SUSPECT n (reading n) (median n) 0)) ++ (clear.map (fun n => ev E.THM.SENSOR_SUSPECT (n + 64) (reading n) (median n) 0))
    ++ (newGone.map (fun n => ev E.THM.SENSOR_MISSING n 1 0 0))
  let s := { s with thm := { s.thm with
    temps := temps
    medians := med.map (fun (m : Option Int) => m.map (· / 2))
    good := all.foldl (fun m n => smSet (fun _ => 0) n (if n ∈ suspect then good n else 0) m) s.thm.good
    missing := all.foldl (fun m n => smSet (fun _ => 0) n (if n ∈ gone then smGet (fun _ => 0) s.thm.missing n + 1 else 0) m) s.thm.missing } }
  s.on (fun b =>
    let b := (b.putSensors F.THM_SUSPECT_LO.SENSORS F.THM_SUSPECT_HI.SENSORS suspect).putSensors F.THM_MISSING_LO.SENSORS F.THM_MISSING_HI.SENSORS gone
    let b := (b.count pTHM F.THM_SUSPECTS.COUNT fresh.length).serviceLevel pTHM (decide (suspect ≠ []) || decide (gone ≠ []))
    let b := if evs = [] then b else b.raises pTHM evs
    let b := fresh.foldl (fun (b : Board) n => b.logFault pTHM E.THM.SENSOR_SUSPECT 9 0 (reading n) false) b
    newGone.foldl (fun (b : Board) n => if n ∈ suspect then b else b.logFault pTHM E.THM.SENSOR_MISSING 9 0 1 false) b)

/-! ### Throttling (R465, R466) -/

/-- The entry of a throttle level, in 0.125 °C units (Table 19-3). -/
def levelEntry : Nat → Int
  | 1 => 944
  | 2 => 976
  | 3 => 1008
  | _ => -10000

/-- The throttle level and the media throttle follow the round. -/
def State.throttle (s : State) : State :=
  let j := s.hottest s.thm.temps (List.range 36)
  let m := s.hottest s.thm.temps ((List.range 16).map (· + 36))
  let level := s.bd.get pTHM F.THM_STAT.LEVEL
  let (next, cool) := match j with
    | none => (level, 0)
    | some x =>
      let up := if levelEntry 3 ≤ x.1 then 3 else if levelEntry 2 ≤ x.1 then 2 else if levelEntry 1 ≤ x.1 then 1 else 0
      if level < up then (up, 0)
      else if level ≠ 0 ∧ x.1 < levelEntry level - 24 then (if s.thm.cool = 2 then (level - 1, 0) else (level, s.thm.cool + 1))
      else (level, 0)
  let limit : Int := s.bd.get pTHM F.THM_CFG.MEDIA_LIMIT * 8
  let media := match m with | none => true | some x => decide (limit ≤ x.1)
  let was := s.bd.on pTHM F.THM_STAT.MEDIA_THROTTLE
  let s := { s with thm := { s.thm with cool := cool } }
  s.on (fun b =>
    let b := match j with
      | none => b
      | some x => (b.put pTHM F.THM_JMAX.TEMP (ofSigned 16 x.1)).put pTHM F.THM_JMAX.SENSOR x.2
    let b := match m with
      | none => b.put pTHM F.THM_STAT.MMAX_VALID 0
      | some x => ((b.put pTHM F.THM_MMAX.TEMP (ofSigned 16 x.1)).put pTHM F.THM_MMAX.SENSOR x.2).put pTHM F.THM_STAT.MMAX_VALID 1
    let b := (b.put pTHM F.THM_STAT.LEVEL next).put pTHM F.THM_STAT.MEDIA_THROTTLE (bit media)
    let b := if level < next then b.count pTHM F.THM_LEVEL_UP.COUNT 1 else b
    let b := if next = 0 then b else b.count pTHM F.THM_THROTTLE_MS.COUNT 10
    let evs := (if level = next then [] else [ev E.THM.THROTTLE (next + level * 4) (b.get pTHM F.THM_JMAX.TEMP) (b.get pTHM F.THM_JMAX.SENSOR) 0])
      ++ (if media && !was then [ev E.THM.MEDIA_THROTTLE (bit m.isNone) (b.get pTHM F.THM_MMAX.TEMP) 0 0] else [])
    if evs = [] then b else b.raises pTHM evs)

/-! ### The round -/

/-- MCH_TEMP of the channels, and the readings as the thermal block takes them: none for a channel with no ACTIVE die (R157, R462). -/
def State.mediaTemps (s : State) (temps : List (Option Int)) : List (Option Int) × State :=
  (List.range 16).foldl (fun (x : List (Option Int) × State) c =>
    let die := (List.range 8).find? (fun d => decide (s.bd.dieState c d = 2))
    match x.1.getD (36 + c) none, die with
    | some t, some d =>
      (x.1, x.2.on (fun b => ((b.put (pMCH c) F.MCH_TEMP.TEMP (ofSigned 12 t)).put (pMCH c) F.MCH_TEMP.VALID 1).put (pMCH c) F.MCH_TEMP.SOURCE d))
    | _, _ => (x.1.set (36 + c) none, if s.bd.powered (pMCH c) then x.2.on (fun b => b.put (pMCH c) F.MCH_TEMP.VALID 0) else x.2))
    (temps, s)

/-- The age clocks advance by a round (R217, R218). -/
def State.ageRound (s : State) (dt : Nat) : State :=
  if s.bd.powered pAGE = false then s
  else
    let src := (List.range 16).map s.ageTemp
    let old := s.bd.get pAGE F.AGE_STAT.FALLBACK
    let mask := ((List.range 16).filter (fun c => decide ((src.getD c (0, 0)).2 ≠ 0))).foldl (fun w c => w + 2 ^ c) 0
    let evs := ((List.range 16).filter (fun c => nbit mask c && !nbit old c)).map (fun c =>
      let x := src.getD c (0, 0)
      ev E.AGE.SENSOR_FALLBACK (c + x.2 * 16) (ofSigned 32 x.1) 0 0)
    let s := { s with age := { s.age with clocks := (List.range 16).map (fun c => s.age.clocks.getD c 0 + accrued dt (src.getD c (0, 0)).1) } }
    s.on (fun b =>
      let b := (b.put pAGE F.AGE_STAT.FALLBACK mask).serviceLevel pAGE (decide (mask ≠ 0))
      if evs = [] then b else b.raises pAGE evs)

/-- The cell of Table 08-4 of a reading. -/
def tempCell (t : Int) : Nat :=
  if t < 0 then 0 else if t < 880 then (t / 80).toNat + 1 else if t < 920 then 12 else if t < 960 then 13 else if t < 1000 then 14 else 15

/-- A histogram takes 10 ms, and the peak of its kind follows (R245). -/
def State.histRound (s : State) (base : Nat) (x : Option (Int × Nat)) : State :=
  match x with
  | none => s
  | some (t, _) =>
    let k := base + tempCell t
    let ms := smGet (fun _ => 0) s.age.histMs k + 10
    let full := decide (60000 ≤ ms)
    let s := { s with age := { s.age with
      histMs := smSet (fun _ => 0) k (if full then ms - 60000 else ms) s.age.histMs
      hist := if full then smSet (fun _ => 0) k (min 0xFFFFFFFF (smGet (fun _ => 0) s.age.hist k + 1)) s.age.hist else s.age.hist } }
    let f := if base = 0 then F.HLT_TEMP_PEAK.DIE else F.HLT_TEMP_PEAK.MEDIA
    s.on (fun b => if toSigned 16 (b.get pHLT f) < t then b.put pHLT f (ofSigned 16 t) else b)

/-- A thermal round: every sensor is read (a sensor without a conversion gives none) and judged, and the throttle, the clocks and the histograms follow. -/
def State.thermalRound (s : State) (temps : List (Option Int)) : State :=
  let last := smGet (fun _ => 0) s.bd.marks 4
  let s := s.on (fun b => b.elapse 4 10000)
  let dt := s.bd.now - last
  let (temps, s) := s.mediaTemps ((List.range 52).map (fun n => temps.getD n none))
  let s := ((s.judgeSensors temps).throttle).ageRound dt
  let j := s.hottest s.thm.temps (List.range 36)
  let m := s.hottest s.thm.temps ((List.range 16).map (· + 36))
  if s.bd.powered pHLT = false then s
  else
    let s := (s.histRound 0 j).histRound 16 m
    let limit : Int := s.bd.get pHLT F.HLT_WARN.TEMP_WARN * 8
    let hot := fun (x : Option (Int × Nat)) => match x with | some y => decide (limit ≤ y.1) | none => false
    let who := if hot j then j.getD (0, 0) else m.getD (0, 0)
    let s := s.on (fun b => b.put pHLT F.HLT_STATUS.TEMP_ABOVE (bit (hot j || hot m)))
    (s.warn 2 (hot j || hot m) (ev E.HLT.TEMP_WARN (bit (!hot j)) (ofSigned 32 who.1) who.2 0)).followHealth

end Sys2Proof.Machine
end

