-- ==== Sys2Proof/Machine/Time.lean ====
section
/-! DEFINITION. Rack time, RTICK and the slot mask and budgets (R329 to R353). -/

namespace Sys2Proof.Machine

/-- A packet sent in both directions; its destination is the sender (log entry 62). -/
def State.sendBoth (s : State) (op : Nat) (args : List Nat) (data : Option Line) : State :=
  (s.say (.ring 0 op s.bd.selfId s.bd.selfId args data)).say (.ring 1 op s.bd.selfId s.bd.selfId args data)

/-- Does this part hold manager duties? -/
def Board.manages (b : Board) : Bool := b.on pSHM F.SHM_SELF.MANAGER

/-! ### Delivered values (R336) -/

/-- Does RTM_CFG.SOURCE select the ring? -/
def Board.ringTime (b : Board) : Bool :=
  match b.get pRTM F.RTM_CFG.SOURCE with
  | 0 => !b.manages
  | 1 => false
  | _ => true

/-- A value that names the rack time of the next boundary is delivered, from the ring or the management path: its code, and the value armed when that is OK. -/
def State.deliver (s : State) (v : Nat) (ring : Bool) : Code × State :=
  if s.bd.ringTime ≠ ring then (.denied, s.on (fun b => b.count pRTM F.RTM_IGNORED.COUNT 1))
  else if v % 1000 ≠ 0 then (.conflict, s)
  else (.ok, { s with rtm := { s.rtm with armed := some (v, ring) }, bd := s.bd.put pRTM F.RTM_STAT.ARMED 1 })

/-- A write of RTM_SET_HI (R353). -/
def State.rtmSet (s : State) (p : Path) (hi : Nat) : State :=
  s.written p pRTM F.RTM_SET_HI.VALUE.off true false (fun s =>
    let s := s.on (fun b => b.put pRTM F.RTM_SET_HI.VALUE hi)
    match s.deliver (s.bd.get64 pRTM F.RTM_SET_LO.VALUE F.RTM_SET_HI.VALUE) false with
    | (.ok, s) => s
    | (c, s) => s.rejects p pRTM F.RTM_SET_HI.VALUE.off c)

/-- A read of RTM_TIME_LO latches the upper half (R335); a wide read returns both. -/
def State.readTime (s : State) (p : Path) (wide : Bool) : State :=
  let t := s.bd.rackTime
  let s := s.on (fun b => (b.put pRTM F.RTM_TIME_LO.TIME t).put pRTM F.RTM_TIME_HI.TIME (t / 2 ^ 32))
  s.say (.regRead p (pRTM * 4096 + F.RTM_TIME_LO.TIME.off) (if wide then 8 else 4) (if wide then t else t % 2 ^ 32))

/-! ### The slot mask (R341) -/

/-- Does a mask leave no cyclic run of more than 5 zero bits (and so a bit set)? -/
def maskOk (m : Nat) : Bool := (List.range 64).all (fun i => (List.range 6).any (fun k => nbit m ((i + k) % 64)))

/-- The accepted mask. -/
def Board.acceptedMask (b : Board) : Nat := b.get64 pRTM F.RTM_SLOT_MASK_LO.MASK F.RTM_SLOT_MASK_HI.MASK

/-- A write of RTM_SLOT_MASK_LO is held. -/
def State.maskLo (s : State) (p : Path) (v : Nat) : State :=
  s.written p pRTM F.RTM_SLOT_MASK_LO.MASK.off true false (fun s => { s with slot := { s.slot with heldLo := some v } })

/-- A write of RTM_SLOT_MASK_HI forms a candidate, which is accepted or refused. -/
def State.maskHi (s : State) (p : Path) (v : Nat) : State :=
  s.written p pRTM F.RTM_SLOT_MASK_HI.MASK.off true false (fun s =>
    let lo := s.slot.heldLo.getD (s.bd.get pRTM F.RTM_SLOT_MASK_LO.MASK)
    let s := { s with slot := { s.slot with heldLo := none } }
    if maskOk (lo + 2 ^ 32 * v) then
      (s.on (fun b => (b.put pRTM F.RTM_SLOT_MASK_LO.MASK lo).put pRTM F.RTM_SLOT_MASK_HI.MASK v)).storeConfig
    else s.rejects p pRTM F.RTM_SLOT_MASK_HI.MASK.off .conflict)

/-! ### Frame boundaries (R330, R335, R336, R342) -/

/-- The share H of the tick state (Table 12-1). -/
def Board.tickShare (b : Board) : Nat := if b.get pRTM F.RTM_STAT.TICK = 1 then 100 else 50

/-- The budgets of a frame (R342). -/
def Board.budgets (b : Board) : Board :=
  let h := b.tickShare
  let t := b.programShare
  let w := b.get pWGV F.WGV_CEIL.PCT
  let m := b.get pLOOP F.LOOP_WRATE.MAX_PCT
  let units := b.get pRTM F.RTM_SLOT_CFG.UNITS * min h t / 100
  let least := min (min h t) (min w m)
  let limiter := if least = 100 then 0 else if h = least then 1 else if t = least then 2 else if w = least then 3 else 4
  (((b.put pRTM F.RTM_BUDGET.B units).put pRTM F.RTM_BUDGET.G (units * min w m / 100)).put pRTM F.RTM_BUDGET.PCT least).put pRTM F.RTM_BUDGET.LIMITER limiter

/-- The armed value meets a boundary whose own count is `base` (R336). -/
def State.applyArmed (s : State) (base : Nat) : State :=
  match s.rtm.armed with
  | none => s
  | some (v, ring) =>
    let s := { s with rtm := { s.rtm with armed := none }, bd := s.bd.put pRTM F.RTM_STAT.ARMED 0 }
    if !s.bd.on pRTM F.RTM_STAT.VALID then
      let s := s.on (fun b =>
        let b := ({ b with rtBase := v }.put pRTM F.RTM_STAT.VALID 1).put pRTM F.RTM_STAT.UNCERTAIN 0
        b.raise pRTM (ev E.RTM.TIME_VALID (bit ring) (v % 2 ^ 32) (v / 2 ^ 32) 0))
      s.stampArrival
    else if s.bd.get pRTM F.RTM_STAT.TICK ≠ 1 then s.on (fun b => b.count pRTM F.RTM_IGNORED.COUNT 1)
    else
      let d : Int := (v : Int) - base
      let s := s.on (fun b => { b with rtBase := v }.put pRTM F.RTM_STAT.UNCERTAIN 0)
      if d = 0 then s
      else
        let step := ofSigned 64 d
        let s := { s with media := { s.media with bands := s.media.bands.map (fun (e : Nat × Band) => if e.2.closedAt = 0 then e else (e.1, { e.2 with closedAt := ((e.2.closedAt : Int) + d).toNat })) } }
        s.on (fun b => (b.count pRTM F.RTM_STEPS.COUNT 1).raise pRTM (ev E.RTM.TIME_STEP (bit (decide (d < 0))) (step % 2 ^ 32) (step / 2 ^ 32) 0))

/-- A boundary at rack time `base` by the part's own count: the slot that was running ends and drops its units, an armed value is applied, the accepted mask takes effect, the budgets are computed, LOOP_PINNED.NOW shows the
loops pinned in the frame that ended, and the manager re-emits rack time (R339). -/
def State.boundary (s : State) (base : Nat) : State :=
  let s := s.on (fun b => { b with rtBase := if b.on pRTM F.RTM_STAT.VALID then base else 0, rtAt := b.now })
  let s := (s.applyArmed base).applyInterval
  let s := { s with slot := { s.slot with mask := s.bd.acceptedMask, isOpen := false } }
  let s := s.on (fun b => { (b.budgets.put pRTM F.RTM_STAT.SLOT 0).put pLOOP F.LOOP_PINNED.NOW b.pins with pins := 0 })
  if s.bd.manages ∧ s.bd.on pRTM F.RTM_STAT.VALID ∧ s.bd.get pRTM F.RTM_STAT.TICK = 1 ∧ s.bd.rtBase % 1000000 = 0 then
    s.sendBoth 0x3D [s.bd.rtBase + 1000] none
  else s

/-- A frame boundary, 1,000 µs after the last one. -/
def State.frameBoundary (s : State) : State :=
  let s := s.on (fun b => { b with now := max b.now (b.rtAt + 1000) })
  s.boundary (s.bd.rtBase + 1000)

/-! ### RTICK (R331, R332, R337) -/

/-- RTM is DEGRADED in ACQUIRE and HOLDOVER. -/
def Board.followTick (b : Board) : Board := b.serviceLevel pRTM (decide (b.get pRTM F.RTM_STAT.TICK ≠ 1))

/-- The fourth qualifying edge snaps the frame. -/
def State.snapFrame (s : State) : State :=
  let spent := s.bd.now - s.rtm.since
  let unsure := s.bd.on pRTM F.RTM_STAT.VALID && decide (25000000 < spent)
  let base := (s.bd.rackTime + 500) / 1000 * 1000
  let s := { s with rtm := { s.rtm with qual := 0, since := s.bd.now } }
  let s := s.on (fun b =>
    let b := (b.put pRTM F.RTM_STAT.TICK 1).put pRTM F.RTM_STAT.MISSED 0
    let b := if unsure then b.put pRTM F.RTM_STAT.UNCERTAIN 1 else b
    b.followTick)
  (s.boundary base).on (fun b => b.raise pRTM (ev E.RTM.LOCKED (bit unsure) (min 0xFFFFFFFF (spent / 1000)) (b.rackTime % 2 ^ 32) 0))

/-- An edge of RTICK: its offset in ns from the expected boundary, and its distance in ns from the edge before. -/
def State.rtickEdge (s : State) (offset : Int) (spacing : Nat) : State :=
  if s.bd.get pRTM F.RTM_STAT.TICK = 1 then
    if -2000 ≤ offset ∧ offset ≤ 2000 then s.on (fun b => b.put pRTM F.RTM_STAT.MISSED 0)
    else s.on (fun b => (b.count pRTM F.RTM_GLITCH.COUNT 1).raise pRTM (ev E.RTM.RTICK_GLITCH 0 (ofSigned 32 offset) 0 0))
  else
    let qual := if 999850 ≤ spacing ∧ spacing ≤ 1000150 then s.rtm.qual + 1 else 1
    let s := { s with rtm := { s.rtm with qual := qual } }
    if 4 ≤ qual then s.snapFrame else s

/-- No good edge 2 µs after the expected boundary. -/
def State.rtickMissed (s : State) : State :=
  if s.bd.get pRTM F.RTM_STAT.TICK ≠ 1 then s
  else
    let s := s.on (fun b => (b.count pRTM F.RTM_STAT.MISSED 1).count pRTM F.RTM_MISSED.COUNT 1)
    if s.bd.get pRTM F.RTM_STAT.MISSED < 3 then s
    else
      let s := { s with rtm := { s.rtm with qual := 0, since := s.bd.now } }
      s.on (fun b =>
        let b := ((b.put pRTM F.RTM_STAT.TICK 2).count pRTM F.RTM_HOLDOVERS.COUNT 1).followTick
        b.raise pRTM (ev E.RTM.HOLDOVER 0 (b.rackTime % 2 ^ 32) (b.rackTime / 2 ^ 32) 0))

end Sys2Proof.Machine
end

