-- ==== Sys2Proof/Machine/Traffic.lean ====
section
/-! DEFINITION. How requests leave the part (R35, R46, R47, R322, Table 11-7) under bandwidth regulation (R456 to R461), and what is lost on the way
(R268 to R270). -/

namespace Sys2Proof.Machine

/-! ### Masters (R456 to R461) -/

/-- The master of an ordering identifier (Table 19-1). -/
def masterOf (oid : Nat) : Nat :=
  match oidClass oid with
  | 0 => oidInst oid % 8
  | 1 => 8 + oidInst oid % 32
  | 2 => 40 + oidInst oid % 8
  | _ => 48

/-- A QOS register as it is in force in this window (R461). -/
def State.qosForce (s : State) (f : Fld) : Nat := wordBits (smGet (fun off => resetWord pQOS off) s.traffic.force f.off) f.lo f.width

/-- Is a head urgent (R459)? -/
def State.urgent (s : State) (m : Nat) : Bool :=
  decide (m < 8) && (match s.head? m with | some d => decide (s.bd.get pQOS F.QOS_URG.FILL ≤ d.fill) | none => false)

/-- Is a master privileged (R460)? -/
def State.privileged (s : State) (m : Nat) : Bool := decide (s.qosForce (F.QOS_MCFG.PRIV.ix m) = 1)

/-- Lines a master has issued in the window (R457). -/
def State.qosUsed (s : State) (m : Nat) : Nat := smGet (fun _ => 0) s.traffic.used m

/-- Is a master past its budget, so that its requests are LOW (R458 to R460)? -/
def State.lowNow (s : State) (m : Nat) : Bool :=
  decide (s.qosForce (F.QOS_MCFG.EN.ix m) = 1) && decide (s.qosForce (F.QOS_MCFG.BUDGET.ix m) ≤ s.qosUsed m) && !s.privileged m && !s.urgent m

/-- Does a request sent earlier still wait for its data, poison or TICKET (R460)? -/
def State.awaits (s : State) (r : Req) : Bool :=
  if oidClass r.oid = 0 then
    match s.head? (oidInst r.oid) with
    | none => false
    | some d =>
      match r.ask with
      | .read => d.reads.any (fun x => decide (x.req.id = r.id))
      | .write => d.writes.any (fun w => decide (w.req.id = r.id) && !w.ticketed && decide (w.res = 0))
      | .reserve | .release => d.rsv.any (fun v => decide (v.req = r.id) && v.ans.isNone && decide (v.op ≠ 0))
      | .cond => d.writes.any (fun w => decide (w.req.id = r.id) && decide (w.req.ask = .cond))
      | _ => false
  else true

/-- Requests of a master outstanding (R460). -/
def State.outstanding (s : State) (m : Nat) : Nat :=
  (s.traffic.flight.filter (fun f => decide (masterOf f.1.oid = m) && f.2.2 && s.awaits f.1)).length

/-- A request leaves its source: its line counts where its master has EN = 1, and past the budget it is LOW (R457, R458). LOWERED is raised at a master's first lowering after a window
without one. -/
def State.issueLine (s : State) (r : Req) : State :=
  let m := masterOf r.oid
  let low := s.lowNow m
  let s := if s.qosForce (F.QOS_MCFG.EN.ix m) = 1 then
      { s with traffic := { s.traffic with used := smSet (fun _ => 0) m (min 0xFFFFF (s.qosUsed m + 1)) s.traffic.used } }
    else s
  if !low then s
  else
    let first := decide (m ∉ s.traffic.lowered) && decide (m ∉ s.traffic.before)
    let s := { s with traffic := { s.traffic with low := s.traffic.low ++ [(r.oid, r.id, [])], lowered := nsInsert m s.traffic.lowered } }
    s.on (fun b =>
      let b := b.count pQOS F.QOS_LOWERED.COUNT 1
      if first then b.raise pQOS (ev E.QOS.LOWERED m (s.qosForce (F.QOS_MCFG.BUDGET.ix m)) 0 0) else b)

/-! ### Copies and routes (R46, R47, R322, Table 11-7) -/

/-- The state of a part in the membership view (Table 11-5). -/
def State.member (s : State) (p : Nat) : Nat := smGet (fun _ => 0) s.shelf.members p

/-- Do the copies of a line lie on this part's pair? -/
def Board.inPair (b : Board) (part : Nat) : Bool := decide (part = b.selfId) || decide (part = Nat.xor b.selfId 1)

/-- The part that leads a mirrored line whose primary copy is on `part`. -/
def State.leadOf (s : State) (part : Nat) : Nat :=
  let partner := Nat.xor part 1
  if s.bd.inPair part then
    match s.bd.pairState with
    | 0 | 2 | 4 => s.bd.selfId
    | 1 | 6 => part
    | _ => Nat.xor s.bd.selfId 1
  else if s.member part = 2 ∨ s.member partner ≠ 2 then part
  else partner

/-- Are the writes of a mirrored line whose primary copy is on `part` sent to both copies? -/
def State.writesBoth (s : State) (part : Nat) : Bool :=
  if s.bd.inPair part then s.bd.pairState = 1 || s.bd.pairState = 4 || s.bd.pairState = 5 || s.bd.pairState = 6
  else
    let other := Nat.xor (s.leadOf part) 1
    s.member other = 2 || s.member other = 1

/-- A request for the copy of a line on the part that leads it, and, for a write that goes to both copies, the one for the other copy. `Decoded.route` gives
the line. -/
def State.copies (s : State) (r : Req) (part lln key sxn hxt : Nat) (mirror : Option Nat) : (Req × Nat) × Option (Req × Nat) :=
  let base := { r with volatile := false, key := key, sxn := sxn, hxt := hxt + 1, mirror := mirror.isSome }
  match mirror with
  | none => (({ base with lln := lln, role := 0, mirrorLln := 0 }, part), none)
  | some mir =>
    let prim : Req × Nat := ({ base with lln := lln, role := 0, mirrorLln := mir }, part)
    let sec : Req × Nat := ({ base with lln := mir, role := 1, mirrorLln := lln }, Nat.xor part 1)
    let leadFirst := decide (s.leadOf part = part)
    let (a, b) := if leadFirst then (prim, sec) else (sec, prim)
    (a, if s.writesBoth part then some b else none)

/-- A request packet (Table 11-4): COPY, line, key index and SXN as Table 11-3 has them; a partial write carries its byte mask, and poisoned data its mark (log
entry 65). -/
def State.sendReq (s : State) (r : Req) (owner : Nat) (lead : Bool) : State :=
  let head := [r.oid, r.id % 2 ^ 16, r.role, r.lln, r.key, r.sxn]
  match r.ask with
  | .read | .hint => s.send 0x01 owner head none
  | .reserve | .cond | .release =>
    let op := match r.ask with | .reserve => 1 | .cond => 2 | _ => 3
    s.send 0x06 owner (head ++ [op, r.word, r.rsv]) (some r.data)
  | _ =>
    let full := decide (r.mask = allBytes) && !r.poison
    let op := if lead then (if full then 0x02 else 0x03) else (if full then 0x04 else 0x05)
    s.send op owner (head ++ [r.mask, bit r.poison]) (some r.data)

/-- A request leaves for its owner: to the home of this part, or on the ring (R322). -/
def State.dispatch (s : State) (r : Req) (owner : Nat) (lead : Bool) : State :=
  let s := { s with traffic := { s.traffic with flight := s.traffic.flight ++ [(r, owner, lead)] } }
  if owner ≠ s.bd.selfId then s.sendReq r owner lead
  else if lead then s.arrive r
  else { s with home := { s.home with mirror := { s.home.mirror with held := s.home.mirror.held ++ [r] } } }

/-- May a request leave now: its master is below MAX_OUT (R460), no earlier request of its source waits, its owner's old route owes nothing (R258), and a handback of
its pair is not under way (Table 11-7)? The second answer is whether MAX_OUT is what holds it. -/
def State.mayLeave (s : State) (r : Req) (owner : Nat) : Bool × Bool :=
  let m := masterOf r.oid
  let atMax := s.privileged m && decide (s.qosForce (F.QOS_MMAX.MAX_OUT.ix m) ≤ s.outstanding m)
  let queued := s.traffic.waits.any (fun w => decide (masterOf w.1.oid = m) && decide (w.1.id ≠ r.id))
  let rerouted := s.traffic.routes.any (fun t => decide (t.1 = owner))
  let handing := r.mirror && s.bd.inPair owner && decide (s.bd.pairState = 6)
  (!(atMax || queued || rerouted || handing), atMax)

/-- QOS_OUT_WAIT counts a request that finds MAX_OUT reached (R460). -/
def State.noteWait (s : State) (r : Req) (atMax : Bool) : State :=
  let m := masterOf r.oid
  if !atMax ∨ (r.oid, r.id) ∈ s.traffic.counted then s
  else
    let s := { s with traffic := { s.traffic with counted := s.traffic.counted ++ [(r.oid, r.id)] } }
    s.on (fun b => (b.count pQOS F.QOS_OUT_WAIT.COUNT 1).raise pQOS (ev E.QOS.OUT_LIMIT m (s.qosForce (F.QOS_MMAX.MAX_OUT.ix m)) 0 0))

/-- A request that takes no buffer entry leaves, or waits at its source. -/
def State.issue (s : State) (r : Req) (owner : Nat) : State :=
  let (ok, atMax) := s.mayLeave r owner
  if ok then (s.issueLine r).dispatch r owner true
  else { s.noteWait r atMax with traffic := { (s.noteWait r atMax).traffic with waits := s.traffic.waits ++ [(r, owner)] } }

/-- The first waiting request that may leave now. -/
def State.leaver (s : State) : Option (Req × Nat) :=
  s.traffic.waits.find? (fun w =>
    let earlier := s.traffic.waits.takeWhile (fun x => x ≠ w)
    !earlier.any (fun x => decide (masterOf x.1.oid = masterOf w.1.oid))
      && ({ s with traffic := { s.traffic with waits := [w] } }.mayLeave w.1 w.2).1)

/-- Waiting requests leave as they may; `n` bounds how many. -/
def State.releaseWaits : Nat → State → State
  | 0, s => s
  | n + 1, s =>
    match s.leaver with
    | none => s
    | some (r, owner) =>
      let t := s.traffic
      let s := { s with traffic := { t with waits := t.waits.erase (r, owner), counted := t.counted.erase (r.oid, r.id) } }
      ((s.issueLine r).dispatch r owner true).releaseWaits n

/-- Answered requests leave the list of those in flight, and a route that owes nothing more is free (R258). -/
def State.followFlight (s : State) : State :=
  let flight := s.traffic.flight.filter (fun f => s.awaits f.1)
  let open_ := fun (k : Nat × Nat) => flight.any (fun f => decide (f.1.oid = k.1) && decide (f.1.id = k.2))
  let routes : List (Nat × List (Nat × Nat)) := (s.traffic.routes.map (fun (t : Nat × List (Nat × Nat)) => (t.1, t.2.filter open_))).filter (fun t => t.2 ≠ [])
  let low := s.traffic.low.filter (fun l => flight.any (fun f => decide (f.1.oid = l.1) && decide (f.1.id = l.2.1)))
  { s with traffic := { s.traffic with flight := flight, routes := routes, low := low } }

/-- A request inside the part has its answer. -/
def State.answered (s : State) (oid id : Nat) : State :=
  { s with traffic := { s.traffic with flight := s.traffic.flight.filter (fun f => !(decide (f.1.oid = oid) && decide (f.1.id = id))) } }

/-- QOS_WINDOW: a window of WINDOW_US as it was in force ends. Counts start anew, and written configuration takes effect (R457, R461). -/
def State.qosWindow (s : State) : State :=
  let s := s.on (fun b => b.elapse 17 (s.qosForce F.QOS_CFG.WINDOW_US))
  let offs := [0x040] ++ (List.range 98).map (fun k => 0x100 + 4 * k)
  let force : SMap Word := offs.foldl (fun (m : SMap Word) off => smSet (fun o => resetWord pQOS o) off (s.bd.rd pQOS off) m) s.traffic.force
  { s with traffic := { s.traffic with used := [], before := s.traffic.lowered, lowered := [], force := force } }

/-- QOS_PROMOTE: a LOW request of a master has waited AGE_US at a point and is NORMAL there (R458). `k` is its place among the LOW requests of the master that
have not been promoted at that point. -/
def State.qosPromote (s : State) (m point k : Nat) : State :=
  match (s.traffic.low.filter (fun l => decide (masterOf l.1 = m) && decide (point ∉ l.2.2)))[k]? with
  | none => s
  | some x =>
    let low : List (Nat × Nat × List Nat) := s.traffic.low.map (fun l => if l = x then (l.1, l.2.1, nsInsert point l.2.2) else l)
    let s := { s with traffic := { s.traffic with low := low } }
    s.on (fun b => (b.count pQOS F.QOS_PROMOTED.COUNT 1).raise pQOS (ev E.QOS.PROMOTED (m + point * 64) 0 0 0))

/-- Must a request at home admission yield (R458): it is LOW there, and a NORMAL one that could go is waiting? -/
def State.yields (s : State) (r : Req) : Bool :=
  let low := fun (x : Req) => s.traffic.low.any (fun l => decide (l.1 = x.oid) && decide (l.2.1 = x.id) && decide (2 ∉ l.2.2))
  low r && s.home.queue.any (fun x => !low x && !s.blocked x (s.home.queue.takeWhile (fun y => y ≠ x)))

/-! ### Writes lost (R268 to R270) -/

/-- A loss record as HPT_LOSS0 to HPT_LOSS3 show it. -/
def Loss.words (l : Loss) : List Nat :=
  [l.hpa % 2 ^ 32, l.hpa / 2 ^ 32, l.lines + l.head * 2 ^ 9 + l.key * 2 ^ 12 + l.owner * 2 ^ 24 + l.cause * 2 ^ 30,
    l.oid + l.fence * 2 ^ 16 + bit l.fenced * 2 ^ 19]

/-- The poison of a loss record arrives at the owner's home (R270). -/
def State.poisonLoss (s : State) (lln lines key : Nat) : State :=
  (List.range lines).foldl (fun s i =>
    let r : Req := ⟨s.home.nextId, .poison, oidOf s.bd.selfId 4 0, 0, 0, false, lln + i, key, 0, s.roleOf (lln + i), 0, false, 0, 0, 0, allBytes, true⟩
    { s with home := { s.home with nextId := s.home.nextId + 1 } }.arriveNow r) s

/-- The manager delivers a loss record to its owner, or keeps it until the owner rejoins (R270). `ws` are the four words, then the owner's line. -/
def State.deliverLoss (s : State) (owner : Nat) (ws : List Nat) : State :=
  if owner = s.bd.selfId then s.poisonLoss (ws.getD 4 0) (ws.getD 2 0 % 512) (ws.getD 2 0 / 2 ^ 12 % 4096)
  else if s.bd.reaches owner then s.send 0x36 owner ws none
  else { s with shelf := { s.shelf with owed := s.shelf.owed ++ [(owner, ws)] } }

/-- A loss record leaves for the shelf manager; it waits while none is known. -/
def State.reportLoss (s : State) (owner : Nat) (ws : List Nat) : State :=
  if s.bd.manages then s.deliverLoss owner ws
  else if s.bd.on pSHM F.SHM_MGR.MGR_VALID then s.send 0x36 (s.bd.get pSHM F.SHM_MGR.MGR_ID) ws none
  else { s with shelf := { s.shelf with owed := s.shelf.owed ++ [(owner, ws)] } }

/-- A lost write goes into the loss log: into a record that it continues, into a new one, or, with the log full, into the count of those dropped (R269). It answers
whether a record was made. -/
def State.recordLoss (s : State) (h : Nat) (l : Loss) : Bool × State :=
  match s.head? h with
  | none => (false, s)
  | some d =>
    let joins := fun (x : Loss) => decide (x.head = l.head) && decide (x.owner = l.owner) && decide (x.key = l.key) && decide (x.cause = l.cause)
      && decide (x.hpa + 64 * x.lines = l.hpa) && decide (x.lln + x.lines = l.lln) && decide (x.lines < 256)
    match d.losses.find? joins with
    | some x =>
      (false, s.onHead h (fun d => { d with losses := d.losses.map (fun y => if y = x then { y with lines := y.lines + 1 } else y) }))
    | none =>
      if d.losses.length < 16 then
        let s := s.onHead h (fun d => { d with losses := d.losses ++ [l] })
        (true, s.on (fun b => b.put (pHPT h) F.HPT_LOSS_STAT.RECORDS (d.losses.length + 1)))
      else (true, s.on (fun b => b.count (pHPT h) F.HPT_LOSS_STAT.DROPPED 1))

/-- The lines of lost writes, in ranges that one record can hold. -/
def lossRanges : List Loss → List Loss
  | [] => []
  | l :: rest =>
    match lossRanges rest with
    | x :: more =>
      if l.owner = x.owner ∧ l.key = x.key ∧ l.cause = x.cause ∧ l.hpa + 64 * l.lines = x.hpa ∧ l.lln + l.lines = x.lln ∧ l.lines + x.lines ≤ 256 then
        { l with lines := l.lines + x.lines } :: more
      else l :: x :: more
    | [] => [l]

/-- The running fences of a head that cover a write. -/
def Head.covering (d : Head) (id : Nat) : List Fence := d.fences.filter (fun f => decide (id ∈ f.writes))

/-- Writes of a head are LOST (R268, R269): each goes into the loss log, the fences that cover it hear of it, its record is closed, and the ranges go to the
manager. `fence` is the slot whose deadline resolved it. -/
def State.loseWrites (s : State) (h : Nat) (ws : List Wr) (cause : Nat) (fence : Option Nat) : State :=
  let mk := fun (s : State) (w : Wr) =>
    let cover : Option Nat := match fence with
      | some n => some n
      | none => ((s.head? h).bind (fun d => (d.covering w.req.id).head?)).map Fence.slot
    (⟨w.req.hpa / 64 * 64, 1, h, w.req.key, w.owner, cause, s.bd.headOid h, cover.getD 0, cover.isSome, w.req.lln⟩ : Loss)
  let ls := ws.map (mk s)
  let s := ws.foldl (fun s w =>
    let (made, s) := s.recordLoss h (mk s w)
    let s := s.onHead h (fun d => { d with fences := d.fences.map (fun f =>
      if w.req.id ∈ f.writes then { f with lost := true, losses := min 255 (f.losses + bit (made && (fence.isNone || decide (fence = some f.slot)))) } else f) })
    s.onWrite h w.req.id (fun x => { x with res := 2, inBuf := false, held := false })) s
  (lossRanges ls).foldl (fun s l => s.reportLoss l.owner (l.words ++ [l.lln])) s

end Sys2Proof.Machine
end

