-- ==== Sys2Proof/Machine/Heads.lean ====
section
/-! DEFINITION. The heads (chapter *Host ports*): CXL.mem requests, the posted-write buffer (R68 to R76, R254 to R256), links and lanes (R65 to R67, R84 to R87,
R520), and the HEAD reset (R88, R274). -/

namespace Sys2Proof.Machine

/-! ### Pages in a reset -/

/-- A page takes its reset values: `keep` names the reset classes that this reset leaves alone (R12). PAGE_LOCK.LOCK and
UNIT_STATE are left to the caller (R16, R21). -/
def Board.resetPage (b : Board) (page : Nat) (keep : RstClass → Bool) : Board :=
  let ours := b.regs.filter (fun e => decide (e.1 / 1024 = page))
  let b := ours.foldl (fun (b : Board) (e : Nat × Word) =>
    let off := 4 * (e.1 % 1024)
    let w := (rowsAt page off).foldl (fun w r =>
      if keep r.cls then wordSet w r.fld.lo r.fld.width (wordBits e.2 r.fld.lo r.fld.width) else w) (resetWord page off)
    if off = 0x008 ∨ off = 0x030 then b else b.wr page off w) b
  { b with held := nsErase page b.held, causes := smDel page b.causes }

/-- What a UNIT or HEAD reset leaves alone: every class but `page`. -/
def keepNarrow : RstClass → Bool
  | .page => false
  | _ => true

/-! ### Requests (R68 to R76) -/

/-- Does a head take CXL.mem requests: its link is in L0 with CXL.mem enabled, it is not in a reset, and it does not withhold credits (R371)? -/
def State.takes (s : State) (h : Nat) : Bool :=
  s.bd.powered (pHPT h) && s.bd.on (pHPT h) F.HPT_LINK_STAT.UP && s.bd.on (pHPT h) F.HPT_LINK_STAT.CXL_MEM
    && (s.bd.serves (pHPT h) || decide (s.bd.unit (pHPT h) = stCONTAINED) || decide (s.bd.unit (pHPT h) = stTEST)) && !s.seq.creditsHeld

/-- The next request number. -/
def State.bump (s : State) : State := { s with home := { s.home with nextId := s.home.nextId + 1 } }

/-- A request of a head before it is decoded. -/
def State.hostReq (s : State) (h : Nat) (ask : Ask) (hpa : Nat) (data : Line) (mask : Nat) (poison : Bool) : Req :=
  ⟨s.home.nextId, ask, s.bd.headOid h, 0, hpa, false, 0, 0, 0, 0, 0, false, 0, hpa / 16 % 4, data, mask, poison⟩

/-- The entries of a posted-write buffer that have not been sent, oldest first, with the reservation operations that stand among them (R254, R271). -/
def Head.unsent (d : Head) : List Wr := d.writes.filter (fun w => !w.sent && (w.inBuf || decide (w.req.ask ≠ .write)))

/-- The buffered bytes of a line that a read returns (R256): data, their mask, and whether the line is poisoned in the buffer. -/
def Head.overlay (d : Head) (hpa : Nat) : Line × Nat × Bool :=
  (d.unsent.filter (fun w => decide (w.req.ask = .write) && decide (w.req.hpa / 64 = hpa / 64))).foldl (fun (acc : Line × Nat × Bool) (w : Wr) =>
    let (l, m, p) := acc
    if w.req.poison then (0, 0, true)
    else if w.req.mask = allBytes then (w.req.data, allBytes, false)
    else if p then acc
    else (mergeLine l w.req.data w.req.mask, m ||| w.req.mask, false)) (0, 0, false)

/-- Where a decoded request goes: its copies, or the window of this part. None for a failure. -/
def State.destination (s : State) (r : Req) (d : Decoded) : Option ((Req × Nat) × Option (Req × Nat)) :=
  match d with
  | .fail _ _ => none
  | .volatile dpa => some (({ r with volatile := true, lln := dpa / 64, role := 0 }, s.bd.selfId), none)
  | .route part lln key sxn i mirror => some (s.copies r part lln key sxn i mirror)

/-- MEMRD (R57, R60, R68, R72, R76, R171, R256, R520): a MemRd or MemRdData. Buffered bytes that cover the line answer it at once. -/
def State.memRd (s : State) (h hpa : Nat) : State :=
  match s.head? h with
  | none => s
  | some d =>
    if !s.takes h ∨ 1024 ≤ d.reads.length then s
    else
      let hpa := hpa / 64 * 64
      let r := s.hostReq h .read hpa 0 0 false
      let (line, mask, bad) := d.overlay hpa
      let s := s.bump.onHead h (fun d => { d with reads := d.reads ++ [⟨r, 0, line, mask⟩] })
      let s := s.on (fun b => b.raiseTo (pHPT h) F.HPT_RDQ.HIGH_WATER (d.reads.length + 1))
      let clear := fun (s : State) => s.onHead h (fun d => { d with reads := d.reads.map (fun x => if x.req.id = r.id then { x with overMask := 0 } else x) })
      if s.bd.unit (pHPT h) = stCONTAINED then (clear s).hostAnswer h r.id 0 true .contained
      else
        let dec := s.decode h hpa false none
        match dec, s.destination r dec with
        | .fail c w, _ => ((clear s).decodeFailed h c w false hpa 64).hostAnswer h r.id 0 true (.decode c)
        | _, none => s
        | _, some ((q, owner), _) =>
          if bad then (clear s).hostAnswer h r.id 0 true .poison
          else if mask = allBytes then s.hostAnswer h r.id line false .poison
          else
            let s := s.onHead h (fun d => { d with reads := d.reads.map (fun x => if x.req.id = r.id then { x with req := q, owner := owner } else x) })
            s.issue q owner

/-- MEMSPECRD (R68): a hint; when the part takes it, a fill of a line of this part starts as a read would start it. -/
def State.memSpecRd (s : State) (h hpa : Nat) (taken : Bool) : State :=
  if !s.takes h ∨ !taken ∨ s.bd.unit (pHPT h) = stCONTAINED then s
  else
    let r := s.hostReq h .hint (hpa / 64 * 64) 0 0 false
    match s.destination r (s.decode h (hpa / 64 * 64) false none) with
    | some ((q, owner), _) => if owner = s.bd.selfId ∧ q.volatile = false then s.bump.arrive q else s
    | none => s

/-- MEMINV (R68): MemInv and MemInvNT complete with Cmp and no effect on data. -/
def State.memInv (s : State) (h : Nat) : State :=
  if !s.takes h then s else s.bump.say (.host h s.home.nextId none false (s.devLoad h))

/-- MEMWR (R68 to R70, R87, R520): a MemWr (every byte enabled) or MemWrPtl fills a buffer entry and is accepted with its NDR; a contained head discards it. -/
def State.memWr (s : State) (h hpa : Nat) (data : Line) (mask : Nat) (poison : Bool) : State :=
  match s.head? h with
  | none => s
  | some d =>
    if !s.takes h ∨ 256 ≤ d.occupied then s
    else
      let r := s.hostReq h .write (hpa / 64 * 64) data mask poison
      let s := s.bump
      if s.bd.unit (pHPT h) = stCONTAINED then s.say (.host h r.id none false (s.devLoad h))
      else
        let w : Wr := ⟨r, 0, true, false, false, false, false, 0, false, false⟩
        let s := s.onHead h (fun d => { d with writes := d.writes ++ [w] })
        let s := s.on (fun b => b.raiseTo (pHPT h) F.HPT_PWB.HIGH_WATER (d.occupied + 1))
        s.say (.host h r.id none false (s.devLoad h))

/-! ### The posted-write buffer (R70, R71, R254) -/

/-- Decodes an entry: a write or COND_WRITE asks for write permission. -/
def State.decodeEntry (s : State) (h : Nat) (w : Wr) : Decoded :=
  s.decode h w.req.hpa (decide (w.req.ask = .write) || decide (w.req.ask = .cond)) none

/-- The owner of an entry, for the order of R254. -/
def State.entryOwner (s : State) (h : Nat) (w : Wr) : Option Nat := (s.destination w.req (s.decodeEntry h w)).map (fun d => d.1.2)

/-- A record of the head's buffer is taken out. -/
def State.dropEntry (s : State) (h id : Nat) : State := s.onHead h (fun d => { d with writes := d.writes.filter (fun w => decide (w.req.id ≠ id)) })

/-- The write with the owner and line that it would have had (R269). -/
def State.decodeLost (s : State) (h : Nat) (w : Wr) : Option Wr :=
  (s.bd.windowAt h w.req.hpa).bind (fun win =>
    let hw := 8 * h + win
    let dpa := s.dpaOf hw w.req.hpa
    let roff := dpa % 2 ^ 49
    (s.extentAt h (dpa / 2 ^ 49 - 1) roff).map (fun e =>
      let (part, lln, _) := s.extentLine e.2 (roff - e.2.unit * 2 ^ 28)
      { w with owner := part, req := { w.req with lln := lln, key := s.bd.get pXTN (F.WIN_CTL.KEY.ix hw), sxn := e.2.sxn } }))

/-- An entry that fails decode (R60, R268): a write is discarded with a record, or, when its owner is unreachable, LOST; a reservation operation ends DECODE. -/
def State.failEntry (s : State) (h : Nat) (w : Wr) (cause : Nat) (win : Option Nat) : State :=
  let isWrite := decide (w.req.ask = .write) || decide (w.req.ask = .cond)
  let s := s.decodeFailed h cause win isWrite w.req.hpa (if w.req.ask = .write then 64 else 16)
  if w.req.ask ≠ .write then
    (s.dropEntry h w.req.id).onHead h (fun d => { d with rsv := d.rsv.modify (w.req.rsv % 4) (fun v => if v.req = w.req.id then { v with ans := some (5, 0, 0) } else v) })
  else
    let s := s.hostRecord h 2 0 w.req.hpa (MediaCause.decode cause).num 0
    if cause = 4 then
      match s.decodeLost h w with
      | some x => s.loseWrites h [x] 1 none
      | none => s.dropEntry h w.req.id
    else s.dropEntry h w.req.id

/-- PWB_SEND (R46, R47, R60, R70, R254, R268, R271): entry `k` of those not sent is decoded and leaves for its owner. It leaves behind every earlier entry of
the same owner, and a write of a master at MAX_OUT stays (R460). -/
def State.pwbSend (s : State) (h k : Nat) : State :=
  match s.head? h with
  | none => s
  | some d =>
    match d.unsent[k]? with
    | none => s
    | some w =>
      let dec := s.decodeEntry h w
      match dec, s.destination w.req dec with
      | .fail c win, _ => s.failEntry h w c win
      | _, none => s
      | _, some ((r, owner), other) =>
        let unheld := (decide (r.ask = .cond) || decide (r.ask = .release)) && (d.rsv.getD (r.rsv % 4) ⟨none, 0, 0, none⟩).held.isNone
        if (d.unsent.take k).any (fun x => s.entryOwner h x = some owner) then s
        else if unheld then (s.dropEntry h r.id).rsvAnswer r 3 0 0
        else
          let (ok, atMax) := s.mayLeave r owner
          if !ok then s.noteWait r atMax
          else
            let s := { s with traffic := { s.traffic with counted := s.traffic.counted.erase (r.oid, r.id) } }
            let s := if r.ask = .write ∨ r.ask = .cond then
                s.onHead h (fun d => { d with writes := d.writes.map (fun x => if x.req.id = r.id then { x with req := r, owner := owner, sent := true } else x) })
              else s.dropEntry h r.id
            let s := (s.issueLine r).dispatch r owner true
            match other with
            | some (q, p) => if r.ask = .write then s.dispatch q p false else s
            | none => s

/-! ### Links (R65 to R67, R84 to R87) -/

/-- Is a head in use (R63)? -/
def State.headUsed (s : State) (h : Nat) : Bool := s.bd.powered (pHPT h) && nbit (s.bd.states (pHPT h)) stINIT && decide (s.bd.unit (pHPT h) ≠ stOFF)

/-- Is a head's port split (R63)? -/
def Board.split (b : Board) (h : Nat) : Bool := decide (b.states (pHPT (h / 2 * 2 + 1)) ≠ 1)

/-- The widest a head can train. -/
def Board.maxWidth (b : Board) (h : Nat) : Nat := if b.split h then 8 else 16

/-- Does a capacity cause of a head hold (R67)? -/
def Board.headReduced (b : Board) (h : Nat) : Bool := b.on (pHPT h) F.HPT_CAUSE.NARROW || b.on (pHPT h) F.HPT_CAUSE.SLOW

/-- NARROW and SLOW follow the link (R67). -/
def Board.followWidth (b : Board) (h : Nat) : Board :=
  let w := b.get (pHPT h) F.HPT_LINK_STAT.L0P_WIDTH
  let b := b.put (pHPT h) F.HPT_CAUSE.NARROW (bit (decide (w < b.maxWidth h)))
  b.put (pHPT h) F.HPT_CAUSE.SLOW (bit (decide (b.get (pHPT h) F.HPT_LINK_STAT.SPEED < b.get (pHPT h) F.HPT_PORT_CFG.MAX_SPEED + 2)))

/-- A head that has its link with CXL.mem serves (R84). -/
def Board.headServe (b : Board) (h : Nat) : Board := b.toState (pHPT h) (if b.headReduced h then stDEGRADED else stSERVICE)

/-- The reservations of a head are lost at the head itself, at once (cause 4 of Table 09-5). -/
def State.loseRsv (s : State) (h : Nat) : State :=
  let s := s.onHead h (fun d => { d with rsv := d.rsv.map (fun v => { v with held := none }) })
  s.on (fun b => (List.range 4).foldl (fun (b : Board) k =>
    if b.on (pHPT h) (F.HPT_RSV_STAT.HELD.ix k) then (b.put (pHPT h) (F.HPT_RSV_STAT.HELD.ix k) 0).put (pHPT h) (F.HPT_RSV_STAT.LOSS_CAUSE.ix k) 4
    else b) b)

/-- Reads of a head that wait at their source are abandoned with the rest. -/
def State.dropWaits (s : State) (h : Nat) : State :=
  let keep := fun (w : Req × Nat) => !(decide (w.1.oid = s.bd.headOid h) && decide (w.1.ask = Ask.read))
  { s with traffic := { s.traffic with waits := s.traffic.waits.filter keep } }

/-- A HEAD reset begins (R88): accepted writes go on to their owners, reads are abandoned, windows are uncommitted, reservations are lost; the unit is in
INIT until HEAD_RESET_DONE. The page's writes are discarded meanwhile (R13). -/
def State.headResetStart (s : State) (h : Nat) : State :=
  let s := s.abandonReads h
  let s := (s.dropWaits h).loseRsv h
  let s := s.onHead h (fun d => { d with resetting := true, lanes := 0 })
  s.on (fun b =>
    let b := b.uncommit h
    { b.toState (pHPT h) stINIT with resetting := nsInsert (pHPT h) b.resetting })

/-- HEAD_RESET (R88): a CXL link reset of a head that is in use. -/
def State.headReset (s : State) (h : Nat) : State :=
  match s.head? h with
  | none => s
  | some d => if !s.headUsed h ∨ d.resetting then s else s.headResetStart h

/-- FLR (R65, R88): a function-level reset triggers a HEAD reset. -/
def State.functionReset (s : State) (h : Nat) : State :=
  match s.head? h with
  | none => s
  | some d => if !s.headUsed h ∨ d.resetting then s else (s.onHead h (fun d => { d with flr := true })).headResetStart h

/-- The event logs, the mailbox state and the poison list of a head at reset. -/
def logReset : EvLog := ⟨[], 0, 0, 0⟩

/-- HEAD_RESET_DONE (R12, R88, R274, R492): the HPT page takes its reset values but for the link and what outlives a HEAD reset; the unit goes on to SERVICE or
DEGRADED with its link, to CONTAINED while a cause is open, and waits in INIT for its link otherwise. -/
def State.headResetDone (s : State) (h : Nat) : State :=
  match s.head? h with
  | none => s
  | some d =>
    if !d.resetting ∨ d.fences.any (fun f => f.running) then s
    else
      let s := s.onHead h (fun d => { d with
        info := logReset, warn := logReset, fail := logReset, fatal := logReset, merges := [], poisonList := [], poisonOver := false,
        poisonOverTime := 0, injected := [], evtPolicy := [0, 0, 0, 0, 0], rsv := List.replicate 4 ⟨none, 0, 0, none⟩, flr := false, resetting := false })
      s.on (fun b =>
        let keep := [0x044, 0x04C, 0x074].map (fun off => (off, b.rd (pHPT h) off))
        let b := b.resetPage (pHPT h) keepNarrow
        let b := keep.foldl (fun (b : Board) (e : Nat × Word) => b.wr (pHPT h) e.1 e.2) b
        let b := { b with resetting := nsErase (pHPT h) b.resetting }
        if b.openCauses (pHPT h) ≠ 0 then b.toState (pHPT h) stCONTAINED
        else if b.on (pHPT h) F.HPT_LINK_STAT.UP ∧ b.on (pHPT h) F.HPT_LINK_STAT.CXL_MEM then b.headServe h
        else b)

/-- LINK_UP (R65, R67, R84, R382): a head's link reaches L0 in flit mode, with or without CXL.mem enabled. After LINK_DOWN with no other cause open a HEAD reset
follows in the same cycle. -/
def State.linkUp (s : State) (h : Nat) (mem : Bool) (speed width : Nat) : State :=
  if !s.headUsed h ∨ s.bd.maxWidth h < width ∨ s.bd.get (pHPT h) F.HPT_PORT_CFG.MAX_SPEED + 2 < speed then s
  else if s.bd.on (pHPT h) F.HPT_LINK_STAT.UP ∧ (s.bd.on (pHPT h) F.HPT_LINK_STAT.CXL_MEM ∨ !mem) then s
  else
    let was := s.bd.on (pHPT h) F.HPT_LINK_STAT.UP
    let s := s.on (fun b =>
      let p := pHPT h
      let b := ((b.put p F.HPT_LINK_STAT.UP 1).put p F.HPT_LINK_STAT.FLIT 1).put p F.HPT_LINK_STAT.CXL_MEM (bit mem)
      let b := if was then b else ((b.put p F.HPT_LINK_STAT.SPEED speed).put p F.HPT_LINK_STAT.WIDTH width).put p F.HPT_LINK_STAT.L0P_WIDTH width
      let b := b.followWidth h
      let b := b.put p F.HPT_CAUSE.LINK_DOWN 0
      if was then b
      else b.raise p (ev E.HPT.LINK_UP (b.get p F.HPT_LINK_STAT.SPEED + b.get p F.HPT_LINK_STAT.WIDTH * 8) (b.rd p 0x044).toNat 0 0))
    let resetting := (s.head? h).any (fun d => d.resetting)
    if s.bd.unit (pHPT h) = stCONTAINED then
      if s.bd.openCauses (pHPT h) = 0 ∧ !was ∧ !resetting then s.headResetStart h else s.on (fun b => b.followCauses (pHPT h))
    else if s.bd.unit (pHPT h) = stINIT ∧ mem ∧ !resetting then
      s.on (fun b => if b.openCauses (pHPT h) = 0 then b.headServe h else b.toState (pHPT h) stCONTAINED)
    else s

/-- TRAIN_FAIL (R66): training fails, and is tried again every 100 ms. -/
def State.trainFail (s : State) (h : Nat) (noFlit : Bool) : State :=
  if !s.headUsed h ∨ s.bd.on (pHPT h) F.HPT_LINK_STAT.UP then s
  else
    let n := ((s.head? h).map Head.attempts).getD 0 + 1
    (s.onHead h (fun d => { d with attempts := n })).on (fun b => b.raise (pHPT h) (ev E.HPT.TRAIN_FAIL (bit noFlit) n 0 0))

/-- The link of a head goes down (R85): LINK_DOWN opens, reads are abandoned, accepted writes drain, reservations are lost. -/
def State.linkDown (s : State) (h : Nat) : State :=
  match s.head? h with
  | none => s
  | some d =>
    if !s.bd.on (pHPT h) F.HPT_LINK_STAT.UP then s
    else
      let s := s.on (fun b =>
        let p := pHPT h
        let b := (b.wr p 0x044 0).openCause p F.HPT_CAUSE.LINK_DOWN
        let b := b.raise p (ev E.HPT.LINK_DOWN 0 d.occupied d.reads.length 0)
        b.logFault p E.HPT.LINK_DOWN 6 0 d.occupied false)
      let s := s.abandonReads h
      ((s.dropWaits h).loseRsv h).onHead h (fun d => { d with lanes := 0 })

/-- LANE_FAULT (R86): a lane of a head fails. With L0p negotiated and more than one lane in use the head narrows; otherwise the link passes through Recovery, as
loss of the head. -/
def State.laneFault (s : State) (h lane : Nat) (l0p : Bool) : State :=
  let p := pHPT h
  let active := s.bd.get p F.HPT_LINK_STAT.L0P_WIDTH
  if !s.bd.on p F.HPT_LINK_STAT.UP ∨ s.bd.maxWidth h ≤ lane then s
  else
    let s := s.on (fun b =>
      let b := b.put p F.HPT_LANE_ERR.LANE_FAULT (nsetbit (b.get p F.HPT_LANE_ERR.LANE_FAULT) lane true)
      b.raise p (ev E.HPT.LANE_FAULT lane (b.get p F.HPT_LANE_ERR.LANE_FAULT) 0 0))
    if l0p ∧ s.bd.on p F.HPT_PORT_CFG.L0P_EN ∧ 2 ≤ active then s.onHead h (fun d => { d with lanes := lane + 1 })
    else s.linkDown h

/-- L0P_NARROW_DONE (R84, R86): the width change that a lane fault started completes after `ns` ns; the capture that holds that fault takes the stall. -/
def State.l0pNarrowDone (s : State) (h ns : Nat) : State :=
  let p := pHPT h
  match s.head? h with
  | none => s
  | some d =>
    if d.lanes = 0 ∨ !s.bd.on p F.HPT_LINK_STAT.UP then s
    else
      let lane := d.lanes - 1
      let s := s.onHead h (fun d => { d with lanes := 0 })
      s.on (fun b =>
        let b := b.put p F.HPT_LINK_STAT.L0P_WIDTH (b.get p F.HPT_LINK_STAT.L0P_WIDTH / 2)
        let b := b.put p F.HPT_CAUSE.NARROW 1
        let mine := decide (p ∈ b.held) && decide ((b.rd p 0x020).toNat % 32 = E.HPT.LANE_FAULT)
        let b := if mine then b.wr p 0x028 (BitVec.ofNat 32 ns) else b
        let b := b.logFault p E.HPT.LANE_FAULT 5 ns lane false
        b.serviceLevel p true)

/-- IDE_FAIL (R87): an IDE failure of the CXL.mem stream, the CXL.io link stream, or both. -/
def State.ideFail (s : State) (h : Nat) (mem io : Bool) (stream : Nat) : State :=
  let p := pHPT h
  if !s.headUsed h ∨ !s.bd.on p F.HPT_LINK_STAT.UP ∨ (!mem && !io) then s
  else
    s.on (fun b =>
      let b := if mem then (b.put p F.HPT_IDE_STAT.MEM_STREAM 0).put p F.HPT_LINK_STAT.IDE_ACTIVE 0 else b
      let b := if io then b.put p F.HPT_IDE_STAT.IO_LINK 0 else b
      let b := b.openCause p F.HPT_CAUSE.IDE_FAIL
      let b := b.raise p (ev E.HPT.IDE_FAIL (bit mem + 2 * bit io) stream 0 0)
      b.logFault p E.HPT.IDE_FAIL 6 0 stream false)

/-- IDE_REKEY (R87): host software has programmed keys through IDE_KM and the streams named are enabled; IDE_FAIL closes. -/
def State.ideRekey (s : State) (h : Nat) (mem io : Bool) : State :=
  let p := pHPT h
  if !s.headUsed h ∨ !s.bd.on p F.HPT_LINK_STAT.UP then s
  else
    s.on (fun b =>
      let b := if mem then (b.put p F.HPT_IDE_STAT.MEM_STREAM 1).put p F.HPT_LINK_STAT.IDE_ACTIVE 1 else b
      let b := if io then b.put p F.HPT_IDE_STAT.IO_LINK 1 else b
      b.closeCause p F.HPT_CAUSE.IDE_FAIL)

/-- HPT_PORT_CFG_WRITE (R64, R90): SPLIT goes to the parameter store at once and acts at the next WARM reset; it reads 0 in odd heads. -/
def State.portCfgWrite (s : State) (p : Path) (h : Nat) (w : Word) : State :=
  s.written p (pHPT h) 0x040 true false (fun s =>
    let s := s.on (fun b =>
      let b := (b.put (pHPT h) F.HPT_PORT_CFG.L0P_EN (wordBits w 1 1)).put (pHPT h) F.HPT_PORT_CFG.MAX_SPEED (wordBits w 2 2)
      if h % 2 = 0 then b.put (pHPT h) F.HPT_PORT_CFG.SPLIT (wordBits w 0 1) else b)
    if h % 2 = 0 then s.storeConfig else s)

end Sys2Proof.Machine
end

