-- ==== Sys2Proof/Machine/Fences.lean ====
section
/-! DEFINITION. Fences (R260 to R264), the loss log (R269) and reservation slots (R271 to R273). -/

namespace Sys2Proof.Machine

/-! ### Fences -/

/-- The host head of a path, where the path is a host path. -/
def Path.head? : Path → Option Nat
  | .host h => some h.val
  | .mgmt => none

/-- Starts a fence over the writes and reads of a head (R260). Slot 8 is the global persistent flush. -/
def State.startFence (s : State) (h slot scope : Nat) : State :=
  s.onHead h (fun d =>
    let f : Fence := {
      slot := slot, scope := scope, writes := (d.writes.filter (fun w => decide (w.req.ask = .write))).map (fun w => w.req.id),
      reads := d.reads.map (fun r => r.req.id), start := s.bd.now, losses := 0, lost := false, degraded := false, running := true }
    { d with fences := d.fences.filter (fun x => decide (x.slot ≠ slot)) ++ [f] })

/-- A persistence that a flush of the write path asks for (R190, R191): waiting dense frames are folded and waiting patches are packed. -/
def State.flushWrites (s : State) : State :=
  let dense := (s.cache.frames.filter (fun (e : Nat × Frame) => e.2.hasDense)).map (fun e => e.2.page)
  let s := dense.foldl (fun s p => s.writeBack p) s
  { s with wp := { s.wp with flushPatch := true } }

/-- FENCE_START (R260): GO written to HPT_FNC_CTLn. A GO while the slot is BUSY is discarded and records BUSY. -/
def State.fenceStart (s : State) (p : Path) (h slot : Nat) (w : Word) : State :=
  let off := (F.HPT_FNC_CTL.SCOPE.ix slot).off
  s.written p (pHPT h) off false true (fun s =>
    if s.bd.on (pHPT h) (F.HPT_FNC_STAT.BUSY.ix slot) ∧ wordBits w 2 1 = 1 then s.rejects p (pHPT h) off .busy
    else
      let pg := pHPT h
      let s := s.on (fun b =>
        let b := b.put pg (F.HPT_FNC_CTL.SCOPE.ix slot) (wordBits w 0 2)
        let b := b.put pg (F.HPT_FNC_CTL.NOTIFY.ix slot) (wordBits w 3 1)
        b.put pg (F.HPT_FNC_CTL.VECTOR.ix slot) (wordBits w 8 8))
      if wordBits w 2 1 = 0 then s
      else
        let s := s.on (fun b => (b.wr pg (F.HPT_FNC_STAT.BUSY.ix slot).off 0).put pg (F.HPT_FNC_STAT.BUSY.ix slot) 1)
        let s := s.startFence h slot (wordBits w 0 2)
        if wordBits w 0 2 = 3 then s.flushWrites else s)

/-- The record of a covered write, if it still has one: a write without a record is ticketed and persistent, or LOST. -/
def Head.wr? (d : Head) (id : Nat) : Option Wr := d.writes.find? (fun w => decide (w.req.id = id) && decide (w.req.ask = .write))

/-- Does the condition of a scope hold for a covered write (Table 09-3)? -/
def Board.scopeHolds (b : Board) (scope : Nat) (w : Wr) : Bool :=
  let resolved := decide (w.res ≠ 0)
  let headOk := w.sent || w.held
  match scope with
  | 0 => resolved || headOk
  | 1 => resolved || (headOk && (if w.owner = b.selfId then w.tick1 || w.tick2 else true))
  | _ => resolved || w.ticketed

/-- Are the reads that a fence covers all answered or abandoned? -/
def Head.readsDone (d : Head) (f : Fence) : Bool := f.reads.all (fun id => !d.reads.any (fun r => decide (r.req.id = id)))

/-- Is a fence complete (R261)? At PERSIST the condition for the end of BUSY is SHELF's; DURABLE can follow (R263). -/
def State.fenceDone (s : State) (d : Head) (f : Fence) : Bool :=
  d.readsDone f && f.writes.all (fun id => match d.wr? id with | none => true | some w => s.bd.scopeHolds (min f.scope 2) w)

/-- Is every covered write persistent, or gone (R263)? -/
def Head.allDurable (d : Head) (f : Fence) : Bool := f.writes.all (fun id => match d.wr? id with | none => true | some w => w.persistent)

/-- STATUS of a fence: LOST, DEGRADED or DONE (R262). -/
def Head.fenceStatus (d : Head) (f : Fence) : Nat :=
  if f.lost then 2
  else if f.degraded || f.writes.any (fun id => match d.wr? id with | some w => decide (w.res = 1) | none => false) then 1
  else 0

/-- A running fence remembers that a covered write survived on one copy alone (R262). -/
def State.followFences (s : State) : State :=
  { s with heads := s.heads.map (fun d => { d with fences := d.fences.map (fun f =>
    if f.writes.any (fun id => match d.wr? id with | some w => decide (w.res = 1) | none => false) then { f with degraded := true } else f) }) }

/-- FENCE_COMPLETE (R261, R262): the condition of the scope holds for every covered request; STATUS, LOSSES and TIME are shown and the head is notified. -/
def State.fenceComplete (s : State) (h slot : Nat) : State :=
  match s.head? h with
  | none => s
  | some d =>
    match d.fences.find? (fun f => decide (f.slot = slot) && f.running) with
    | none => s
    | some f =>
      if !s.fenceDone d f then s
      else
        let st := d.fenceStatus f
        let s := s.onHead h (fun d => { d with fences := (d.fences.map (fun x => if x.slot = slot then { x with running := false, degraded := decide (st = 1) } else x)).filter (fun x => x.running || decide (x.scope = 3)) })
        if 8 ≤ slot then s
        else
          s.on (fun b =>
            let pg := pHPT h
            let b := b.put pg (F.HPT_FNC_STAT.BUSY.ix slot) 0
            let b := b.put pg (F.HPT_FNC_STAT.STATUS.ix slot) st
            let b := b.put pg (F.HPT_FNC_STAT.LOSSES.ix slot) f.losses
            let b := b.put pg (F.HPT_FNC_STAT.TIME.ix slot) (min 0xFFFF (b.now - f.start))
            let b := b.count pg (if st = 0 then F.HPT_FNC_DONE.COUNT else if st = 1 then F.HPT_FNC_DEG.COUNT else F.HPT_FNC_LOST.COUNT) 1
            if b.on pg (F.HPT_FNC_CTL.NOTIFY.ix slot) then Board.run 256 [.msix h (b.get pg (F.HPT_FNC_CTL.VECTOR.ix slot)) pg] b else b)

/-- FENCE_DEADLINE (R262, R268): 45 µs after its start, a fence resolves the covered writes that are not ticketed: DEGRADED where one copy holds the write, LOST
otherwise. A fence in progress longer than that has no write to wait for. -/
def State.fenceDeadline (s : State) (h slot : Nat) : State :=
  match (s.head? h).bind (fun d => d.fences.find? (fun f => decide (f.slot = slot) && f.running)) with
  | none => s
  | some f =>
    let s := s.on (fun b => { b with now := max b.now (f.start + 45) })
    let late := ((s.head? h).map (fun d => d.writes.filter (fun w => decide (w.req.id ∈ f.writes) && decide (w.req.ask = .write) && decide (w.res = 0) && !w.ticketed))).getD []
    let one := fun (w : Wr) => w.req.mirror && (w.tick1 || w.tick2)
    let s := (late.filter one).foldl (fun (s : State) (w : Wr) => s.onWrite h w.req.id (fun x => { x with res := 1, inBuf := false, held := false })) s
    let lost := late.filter (fun w => !one w)
    if lost = [] then s else s.loseWrites h lost 2 (if slot < 8 then some slot else none)

/-- FENCE_DURABLE (R263, R264): every covered write of a PERSIST fence is persistent and DURABLE is set, or one was lost before it was, and NOT_DURABLE is set. -/
def State.fenceDurable (s : State) (h slot : Nat) : State :=
  match s.head? h with
  | none => s
  | some d =>
    match d.fences.find? (fun f => decide (f.slot = slot) && decide (f.scope = 3)) with
    | none => s
    | some f =>
      if !(f.lost || d.allDurable f) then s
      else
        let s := if f.running then s else s.onHead h (fun d => { d with fences := d.fences.filter (fun x => decide (x.slot ≠ slot)) })
        if 8 ≤ slot then s
        else s.on (fun b => b.put (pHPT h) (if f.lost then F.HPT_FNC_STAT.NOT_DURABLE.ix slot else F.HPT_FNC_STAT.DURABLE.ix slot) 1)

/-- GPF_PHASE2 (R264): a global persistent flush phase 2 received on a head acts as a PERSIST fence over the writes of every head. -/
def State.gpfPhase2 (s : State) (h : Nat) : State :=
  if !s.bd.on (pHPT h) F.HPT_LINK_STAT.UP then s
  else ((List.range 8).foldl (fun s k => s.startFence k 8 3) s).flushWrites

/-- A persistent write lost after acceptance (R263): CAUSE 3. -/
def State.loseAfter (s : State) (h id : Nat) : State :=
  match (s.head? h).bind (fun d => d.wr? id) with
  | none => s
  | some w => if w.res = 2 then s else s.loseWrites h [w] 3 none

/-- HPT_LOSS_POP (R269): the oldest record goes; EMPTY when there is none. -/
def State.lossPop (s : State) (p : Path) (h : Nat) : State :=
  s.written p (pHPT h) 0x268 false false (fun s =>
    match s.head? h with
    | none => s
    | some d =>
      if d.losses = [] then s.rejects p (pHPT h) 0x268 .empty
      else
        let s := s.onHead h (fun d => { d with losses := d.losses.drop 1 })
        s.on (fun b => b.put (pHPT h) F.HPT_LOSS_STAT.RECORDS (d.losses.length - 1)))

/-! ### Reservations -/

/-- A 128-bit word of four registers of a page. -/
def Board.rsvNew (b : Board) (h k : Nat) : Nat :=
  let p := pHPT h
  b.get p (F.HPT_RSV_NEW0.DATA.ix k) + b.get p (F.HPT_RSV_NEW1.DATA.ix k) * 2 ^ 32
    + b.get p (F.HPT_RSV_NEW2.DATA.ix k) * 2 ^ 64 + b.get p (F.HPT_RSV_NEW3.DATA.ix k) * 2 ^ 96

/-- RESERVE, COND_WRITE and RELEASE (R271): a host-path write of HPT_RSV_CMDk with operation `op` puts the operation in the head's path behind every write accepted
before it; while BUSY it is discarded and records BUSY. -/
def State.rsvCommand (s : State) (p : Path) (h k op : Nat) : State :=
  let pg := pHPT h
  let off := (F.HPT_RSV_CMD.OP.ix k).off
  s.written p pg off false true (fun s =>
    if s.bd.on pg (F.HPT_RSV_STAT.BUSY.ix k) then s.rejects p pg off .busy
    else
      let hpa := s.bd.get pg (F.HPT_RSV_ADDR_LO.HPA.ix k) * 16 + s.bd.get pg (F.HPT_RSV_ADDR_HI.HPA.ix k) * 2 ^ 32
      let w := hpa / 16 % 4
      let (data, mask) := wordWrite w (s.bd.rsvNew h k)
      let ask : Ask := if op = 1 then .reserve else if op = 2 then .cond else .release
      let r : Req := { s.hostReq h ask hpa (if op = 2 then data else 0) (if op = 2 then mask else 0) false with rsv := h * 4 + k }
      let s := s.bump
      let s := s.on (fun b => (b.put pg (F.HPT_RSV_CMD.OP.ix k) op).put pg (F.HPT_RSV_STAT.BUSY.ix k) 1)
      s.onHead h (fun d => { d with
        writes := d.writes ++ [⟨r, 0, false, false, false, false, false, 0, false, false⟩]
        rsv := d.rsv.modify k (fun v => { v with op := op, req := r.id, ans := none }) }))

/-- RSV_COMPLETE (R272, R273): the home's answer has returned, and the slot shows its outcome. -/
def State.rsvComplete (s : State) (h k : Nat) : State :=
  match (s.head? h).bind (fun d => d.rsv[k]?) with
  | none => s
  | some v =>
    match v.ans with
    | none => s
    | some (result, word, loss) =>
      let pg := pHPT h
      let hpa := s.bd.get pg (F.HPT_RSV_ADDR_LO.HPA.ix k) * 16 + s.bd.get pg (F.HPT_RSV_ADDR_HI.HPA.ix k) * 2 ^ 32
      let held := if v.op = 1 ∧ result = 0 then some (hpa / 16) else none
      let s := s.onHead h (fun d => { d with rsv := d.rsv.modify k (fun v => { v with held := held, op := 0, ans := none }) })
      s.on (fun b =>
        let b := (b.put pg (F.HPT_RSV_STAT.BUSY.ix k) 0).put pg (F.HPT_RSV_STAT.HELD.ix k) (bit held.isSome)
        let b := (b.put pg (F.HPT_RSV_STAT.RESULT.ix k) result).put pg (F.HPT_RSV_STAT.LOSS_CAUSE.ix k) loss
        if v.op = 1 ∧ result = 0 then
          let b := (b.put pg (F.HPT_RSV_DATA0.DATA.ix k) (word % 2 ^ 32)).put pg (F.HPT_RSV_DATA1.DATA.ix k) (word / 2 ^ 32 % 2 ^ 32)
          (b.put pg (F.HPT_RSV_DATA2.DATA.ix k) (word / 2 ^ 64 % 2 ^ 32)).put pg (F.HPT_RSV_DATA3.DATA.ix k) (word / 2 ^ 96 % 2 ^ 32)
        else b)

/-- RSV_TIMEOUT (R272): 1 ms after its RESERVE was serialised here, the reservation of slot `k` of a head of the shelf is lost with cause 2. -/
def State.rsvTimeout (s : State) (part rsv : Nat) : State :=
  let key := part * 32 + rsv
  match smFind key s.home.rsv with
  | none => s
  | some v =>
    let s := s.on (fun b => { b with now := max b.now (v.since + 1000) })
    if v.lost ≠ 0 then s else { s with home := { s.home with rsv := smPut key { v with lost := 2 } s.home.rsv } }

end Sys2Proof.Machine
end

