-- ==== Sys2Proof/Machine/Mailbox.lean ====
section
/-! DEFINITION. The primary mailbox of each head (R79 to R83, R382). Payloads are laid out as CXL 3.1 lays them out (log entry 66). -/

namespace Sys2Proof.Machine

/-! ### Return codes (log entry 66) -/

/-- CXL return codes that the mailbox uses. -/
abbrev rcSuccess : Nat := 0
abbrev rcInvalidInput : Nat := 2
abbrev rcUnsupported : Nat := 3
abbrev rcBusy : Nat := 6
abbrev rcMediaDisabled : Nat := 7
abbrev rcInvalidHandle : Nat := 0xE
abbrev rcInvalidLength : Nat := 0x16

/-- Is the part in service (R382, R385): has XTN entered service since the start? -/
def Board.inService (b : Board) : Bool := b.powered pXTN && decide (2 ≤ b.unit pXTN)

/-- Has a head's mailbox been reached: its link is in L0 and its unit is not OFF (R382)? -/
def Board.mailboxUp (b : Board) (h : Nat) : Bool :=
  b.powered (pHPT h) && b.on (pHPT h) F.HPT_LINK_STAT.UP && decide (b.unit (pHPT h) ≠ stOFF)

/-- The answer to a mailbox command: HPT_MBX_LAST keeps opcode and return code (R81). -/
def State.mbxReply (s : State) (h opcode code : Nat) (payload : List Byte) : State :=
  s.on (fun b => ((b.put (pHPT h) F.HPT_MBX_LAST.OPCODE opcode).put (pHPT h) F.HPT_MBX_LAST.RETURN code).emit (.mailbox h opcode code payload))

/-- What every command passes first: the head contained (R83), the part not yet in service (R382), and the payload's length `len` against the command's own (R81).
`f` gives the return code, the payload and the state of a command that runs. -/
def State.mailbox (s : State) (h opcode len limit : Nat) (always early : Bool) (f : State → Nat × List Byte × State) : State :=
  if !s.bd.mailboxUp h then s
  else if s.bd.unit (pHPT h) = stCONTAINED ∧ !always then s.mbxReply h opcode rcMediaDisabled []
  else if early ∧ !s.bd.inService then s.mbxReply h opcode rcBusy []
  else if limit < len ∨ 4096 < len then s.mbxReply h opcode rcInvalidLength []
  else
    let (code, payload, s) := f s
    s.mbxReply h opcode code payload

/-- A command that does nothing but answer. -/
def State.mbxGet (s : State) (h opcode len limit : Nat) (always early : Bool) (payload : State → List Byte) : State :=
  s.mailbox h opcode len limit always early (fun s => (rcSuccess, payload s, s))

/-- A command that returns Unsupported. -/
def State.mbxUnsupported (s : State) (h opcode : Nat) : State :=
  s.mailbox h opcode 0 0 false false (fun s => (rcUnsupported, [], s))

/-! ### Event records -/

/-- Record UUIDs of CXL 3.1, first byte first. -/
def uuidMedia : List Byte := [0xfb, 0xcd, 0x0a, 0x77, 0xc2, 0x60, 0x41, 0x7f, 0x85, 0xa9, 0x08, 0x8b, 0x16, 0x21, 0xeb, 0xa6]
def uuidModule : List Byte := [0xfe, 0x92, 0x74, 0x75, 0xdd, 0x59, 0x43, 0x39, 0xa5, 0x86, 0x79, 0xba, 0xb1, 0x13, 0xb7, 0x74]
def uuidDc : List Byte := [0xca, 0x95, 0xaf, 0xa7, 0xf1, 0x83, 0x40, 0x18, 0x8c, 0x2f, 0x95, 0x26, 0x8e, 0x10, 0x1a, 0x2a]
def uuidCel : List Byte := [0x0d, 0xa9, 0xc0, 0xb5, 0xbf, 0x41, 0x4b, 0x78, 0x8f, 0x79, 0x96, 0xb1, 0x62, 0x3b, 0x3f, 0x17]

/-- The 128 bytes of an event record: UUID, length, flags, handle, time in ns, and its data. -/
def recordBytes (uuid : List Byte) (flags handle time : Nat) (data : List Byte) : List Byte :=
  uuid ++ [128] ++ leBytes 3 flags ++ leBytes 2 handle ++ leBytes 2 0 ++ leBytes 8 (time * 1000) ++ List.replicate 16 0 ++ (data ++ List.replicate 80 0).take 80

/-- A General Media or Memory Module record. -/
def HostRec.bytes (r : HostRec) (log : Nat) : List Byte :=
  recordBytes (if r.kind = 0 then uuidMedia else uuidModule) log r.handle r.time (leBytes 8 r.dpa ++ leBytes 8 r.addr ++ leBytes 4 r.cause ++ leBytes 4 r.info)

/-- An extent: start, length and the 16 B tag whose bytes 0 to 3 are the SXN (R80). -/
def extentBytes (region unit length sxn : Nat) : List Byte :=
  leBytes 8 ((region + 1) * 2 ^ 49 + unit * 2 ^ 28) ++ leBytes 8 (length * 2 ^ 28) ++ leBytes 4 sxn ++ List.replicate 12 0 ++ List.replicate 8 0

/-- A Dynamic Capacity record. -/
def DcRec.bytes (r : DcRec) : List Byte :=
  recordBytes uuidDc 0 r.handle 0 ([BitVec.ofNat 8 r.kind] ++ List.replicate 7 0 ++ extentBytes r.region r.unit r.length r.sxn)

/-- GET_EVENT_RECORDS (R78, R80, R82): up to 63 records of a log, with its overflow count and times. -/
def State.getEventRecords (s : State) (h len log : Nat) : State :=
  s.mailbox h 0x0100 len 1 true false (fun s =>
    match s.head? h with
    | none => (rcInvalidInput, [], s)
    | some d =>
      if 4 < log then (rcInvalidInput, [], s)
      else
        let l := d.log log
        let (n, recs) := if log = 4 then (d.dc.length, (d.dc.take 63).flatMap DcRec.bytes) else (l.recs.length, (l.recs.take 63).flatMap (fun r => r.bytes log))
        let ovr := if log = 4 then 0 else l.ovr
        (rcSuccess, [BitVec.ofNat 8 (bit (decide (0 < ovr)) + 2 * bit (decide (63 < n)))] ++ [0] ++ leBytes 2 ovr
          ++ leBytes 8 (if ovr = 0 then 0 else l.first * 1000) ++ leBytes 8 (if ovr = 0 then 0 else l.last * 1000)
          ++ leBytes 2 (min 63 n) ++ List.replicate 10 0 ++ recs, s))

/-- Held forced-release notices enter the log in HXT index order while it has room (R79). -/
def State.admitForced : Nat → State → Nat → State
  | 0, s, _ => s
  | n + 1, s, h =>
    match s.head? h with
    | none => s
    | some d =>
      match d.forced with
      | [] => s
      | i :: rest =>
        if s.dcFull h then s
        else ((s.onHead h (fun d => { d with forced := rest })).dcRecord 2 i (s.hxt i)).admitForced n h

/-- CLEAR_EVENT_RECORDS (R79, R81, R82): every handle must name a queued record of the log. Clearing all empties it. -/
def State.clearEventRecords (s : State) (h len log : Nat) (all : Bool) (handles : List Nat) : State :=
  s.mailbox h 0x0101 len (6 + 2 * handles.length) true false (fun s =>
    match s.head? h with
    | none => (rcInvalidInput, [], s)
    | some d =>
      if 4 < log then (rcInvalidInput, [], s)
      else
        let have_ := if log = 4 then d.dc.map DcRec.handle else (d.log log).recs.map HostRec.handle
        let gone := if all then have_ else handles
        if !gone.all (fun x => decide (x ∈ have_)) then (rcInvalidHandle, [], s)
        else
          let s := s.onHead h (fun d =>
            if log = 4 then { d with dc := d.dc.filter (fun r => decide (r.handle ∉ gone)) }
            else
              let l := d.log log
              d.setLog log { l with recs := l.recs.filter (fun r => decide (r.handle ∉ gone)), ovr := if all then 0 else l.ovr })
          (rcSuccess, [], if log = 4 then s.admitForced 256 h else s))

/-- GET_EVENT_INTERRUPT_POLICY: two bytes a log, the mode in bits 1:0 and the MSI-X vector in bits 11:4 (R82; log entry 153). -/
def State.getEventPolicy (s : State) (h len : Nat) : State :=
  s.mbxGet h 0x0102 len 0 false false (fun s => ((s.head? h).map (fun d => d.evtPolicy.flatMap (leBytes 2))).getD [])

/-- SET_EVENT_INTERRUPT_POLICY: mode and MSI-X vector of each log. -/
def State.setEventPolicy (s : State) (h len : Nat) (modes vectors : List Nat) : State :=
  s.mailbox h 0x0103 len 10 false false (fun s =>
    (rcSuccess, [], s.onHead h (fun d => { d with evtPolicy := (List.range 5).map (fun k => modes.getD k 0 % 4 + vectors.getD k 0 % 256 * 16) })))

/-! ### Firmware, time, logs, identity -/

/-- GET_FW_INFO: the running image (R82). -/
def State.getFwInfo (s : State) (h len : Nat) : State :=
  s.mbxGet h 0x0200 len 0 false false (fun s =>
    [1, 1, 0] ++ List.replicate 13 0 ++ leBytes 16 (s.bd.get pSEC F.SEC_FW_VER.VERSION) ++ List.replicate 48 0)

/-- GET_TIMESTAMP: rack time × 1,000 ns, 0 until rack time has arrived. -/
def State.getTimestamp (s : State) (h len : Nat) : State := s.mbxGet h 0x0300 len 0 false false (fun s => leBytes 8 (s.bd.rackTime * 1000))

/-- The commands of Table 03-5 with the effects that CXL 3.1 codes for them. -/
def celEntries : List (Nat × Nat) :=
  [(0x0100, 0), (0x0101, 0x10), (0x0102, 0), (0x0103, 0x08), (0x0200, 0), (0x0300, 0), (0x0400, 0), (0x0401, 0), (0x4000, 0), (0x4100, 0), (0x4200, 0),
   (0x4201, 0), (0x4202, 0x02), (0x4203, 0), (0x4204, 0x08), (0x4300, 0), (0x4301, 0x04), (0x4302, 0x04), (0x4800, 0), (0x4801, 0), (0x4802, 0x02), (0x4803, 0x02)]

/-- The Command Effects Log. -/
def celBytes : List Byte := celEntries.flatMap (fun e => leBytes 2 e.1 ++ leBytes 2 e.2)

/-- GET_SUPPORTED_LOGS: the Command Effects Log alone. -/
def State.getSupportedLogs (s : State) (h len : Nat) : State :=
  s.mbxGet h 0x0400 len 0 false false (fun _ => leBytes 2 1 ++ List.replicate 6 0 ++ uuidCel ++ leBytes 4 celBytes.length)

/-- GET_LOG: a part of the Command Effects Log. -/
def State.getLog (s : State) (h len : Nat) (cel : Bool) (offset size : Nat) : State :=
  s.mailbox h 0x0401 len 24 false false (fun s =>
    if !cel ∨ celBytes.length < offset + size then (rcInvalidInput, [], s) else (rcSuccess, (celBytes.drop offset).take size, s))

/-- IDENTIFY_MEMORY_DEVICE: capacities in 256 MiB, log sizes, poison list 256, inject limit 64, LSA size 0. -/
def State.identify (s : State) (h len : Nat) : State :=
  s.mbxGet h 0x4000 len 0 true false (fun s =>
    let cap := s.bd.vwnSize / 2 ^ 28
    leBytes 16 (s.bd.get pSEC F.SEC_FW_VER.VERSION) ++ leBytes 8 cap ++ leBytes 8 cap ++ leBytes 8 0 ++ leBytes 8 0 ++ leBytes 2 64 ++ leBytes 2 64
      ++ leBytes 2 64 ++ leBytes 2 64 ++ leBytes 4 0 ++ leBytes 3 256 ++ leBytes 2 64 ++ [1, 2] ++ leBytes 2 256)

/-- GET_PARTITION_INFO: all values 0. -/
def State.getPartitionInfo (s : State) (h len : Nat) : State := s.mbxGet h 0x4100 len 0 false false (fun _ => List.replicate 32 0)

/-- GET_HEALTH_INFO (R244): Maintenance Needed, Life Used, the hottest junction reading, the dirty shutdown count and the corrected persistent errors. -/
def State.getHealthInfo (s : State) (h len : Nat) : State :=
  s.mbxGet h 0x4200 len 0 true false (fun s =>
    let b := s.bd
    let maint := b.on pHLT F.HLT_STATUS.SPARE_BELOW || b.on pHLT F.HLT_STATUS.SPARE_NEG
    leBytes 1 (bit maint) ++ leBytes 1 (bit (!b.inService)) ++ [0] ++ leBytes 1 (b.get pWGV F.WGV_LIFE.LIFE_USED)
      ++ leBytes 2 (ofSigned 16 (toSigned 16 (b.get pTHM F.THM_JMAX.TEMP) / 8)) ++ leBytes 4 ((s.pst.counter 4).getD 0) ++ leBytes 4 0
      ++ leBytes 4 (b.get pHLT F.HLT_LIFE_CORR.COUNT))

/-- GET_ALERT_CONFIG (R244): the warning thresholds of HLT_WARN. -/
def State.getAlertConfig (s : State) (h len : Nat) : State :=
  s.mbxGet h 0x4201 len 0 false false (fun s =>
    leBytes 1 3 ++ leBytes 1 3 ++ leBytes 1 100 ++ leBytes 1 (s.bd.get pHLT F.HLT_WARN.LIFE_WARN) ++ leBytes 2 130 ++ leBytes 2 0
      ++ leBytes 2 (s.bd.get pHLT F.HLT_WARN.TEMP_WARN) ++ leBytes 2 0 ++ leBytes 2 0 ++ leBytes 2 0)

/-- SET_ALERT_CONFIG (R244): bit 0 of `valid` sets LIFE_WARN and bit 1 TEMP_WARN; a value that HLT_WARN does not take is Invalid Input. -/
def State.setAlertConfig (s : State) (h len valid life temp : Nat) : State :=
  s.mailbox h 0x4202 len 12 false false (fun s =>
    if (nbit valid 0 ∧ (life = 0 ∨ 100 < life)) ∨ (nbit valid 1 ∧ 125 < temp) then (rcInvalidInput, [], s)
    else
      let s := s.on (fun b =>
        let b := if nbit valid 0 then b.put pHLT F.HLT_WARN.LIFE_WARN life else b
        if nbit valid 1 then b.put pHLT F.HLT_WARN.TEMP_WARN temp else b)
      (rcSuccess, [], s.storeConfig))

/-- GET_SHUTDOWN_STATE. -/
def State.getShutdownState (s : State) (h len : Nat) : State :=
  s.mbxGet h 0x4203 len 0 false false (fun s => leBytes 1 (((s.head? h).map Head.shutdown).getD 0))

/-- SET_SHUTDOWN_STATE: stored in the parameter store with CONFIG (Table 17-4). -/
def State.setShutdownState (s : State) (h len v : Nat) : State :=
  s.mailbox h 0x4204 len 1 false false (fun s =>
    if 1 < v then (rcInvalidInput, [], s) else (rcSuccess, [], (s.onHead h (fun d => { d with shutdown := v })).storeConfig))

/-! ### Poison (R82) -/

/-- The committed window of a head that covers a DPA, with the HPA that reaches it through that window. -/
def State.windowOfDpa (s : State) (h dpa : Nat) : Option (Nat × Nat) :=
  ((List.range 8).find? (fun w =>
    let hw := 8 * h + w
    let base := smGet (fun _ => 0) s.xtn.dpaBase hw
    s.bd.committed hw && decide (base ≤ dpa) && decide (dpa < base + s.bd.winSize hw / 2 ^ s.bd.get pXTN (F.WIN_CTL.IW.ix hw)))).map (fun w =>
      let hw := 8 * h + w
      let g := 8 + s.bd.get pXTN (F.WIN_CTL.IG.ix hw)
      let off := dpa - smGet (fun _ => 0) s.xtn.dpaBase hw
      (w, s.bd.winBase hw + off / 2 ^ g * 2 ^ (g + s.bd.get pXTN (F.WIN_CTL.IW.ix hw)) + off % 2 ^ g))

/-- A line write that the mailbox sends to the home of a DPA, as a write of the head. None when no committed window covers the DPA or the line does not decode. -/
def State.mbxWrite (s : State) (h dpa : Nat) (data : Line) (poison : Bool) : Option State :=
  (s.windowOfDpa h dpa).bind (fun w =>
    let r := s.hostReq h .write (w.2 / 64 * 64) data allBytes poison
    (s.destination r (s.decode h (w.2 / 64 * 64) true none)).map (fun (d : (Req × Nat) × Option (Req × Nat)) =>
      let s := (s.bump.issueLine d.1.1).dispatch d.1.1 d.1.2 true
      match d.2 with
      | some (q, p) => s.dispatch q p false
      | none => s))

/-- GET_POISON_LIST: the retained records within a DPA range that lie in ACTIVE extents of the head or in its volatile window. -/
def State.getPoisonList (s : State) (h len start size : Nat) : State :=
  s.mbxGet h 0x4300 len 16 false true (fun s =>
    match s.head? h with
    | none => []
    | some d =>
      let mine := fun dpa => decide (dpa < s.bd.vwnSize) || (decide (2 ^ 49 ≤ dpa) && s.xtn.hxt.any (fun e => decide (e.2.head = h) && decide (e.2.st = 2)
        && decide (e.2.region = dpa / 2 ^ 49 - 1) && decide (e.2.unit * 2 ^ 28 ≤ dpa % 2 ^ 49) && decide (dpa % 2 ^ 49 < (e.2.unit + e.2.length) * 2 ^ 28)))
      let ps := d.poisonList.filter (fun dpa => mine dpa && decide (start ≤ dpa) && decide (dpa < start + size))
      leBytes 1 (2 * bit d.poisonOver) ++ [0] ++ leBytes 8 (if d.poisonOver then d.poisonOverTime * 1000 else 0) ++ leBytes 2 ps.length ++ List.replicate 20 0
        ++ ps.flatMap (fun dpa => leBytes 8 (dpa + bit (decide (dpa ∈ d.injected)) * 3) ++ leBytes 4 1 ++ leBytes 4 0))

/-- INJECT_POISON: the line of a DPA takes POISON as under R75; at most 64 injections are outstanding. -/
def State.injectPoison (s : State) (h len dpa : Nat) : State :=
  s.mailbox h 0x4301 len 8 false true (fun s =>
    let n := ((s.head? h).map (fun d => d.injected.length)).getD 0
    if 64 ≤ n then (rcInvalidInput, [], s)
    else match s.mbxWrite h (dpa / 64 * 64) 0 true with
      | none => (rcInvalidInput, [], s)
      | some s => (rcSuccess, [], s.onHead h (fun d => { d with injected := nsInsert (dpa / 64 * 64) d.injected, poisonList := if d.poisonList.length < 256 then nsInsert (dpa / 64 * 64) d.poisonList else d.poisonList })))

/-- CLEAR_POISON: the 64 B supplied are a full-line write under the KEY of the committed window that covers the DPA. -/
def State.clearPoison (s : State) (h len dpa : Nat) (data : Line) : State :=
  s.mailbox h 0x4302 len 72 false true (fun s =>
    match s.mbxWrite h (dpa / 64 * 64) data false with
    | none => (rcInvalidInput, [], s)
    | some s => (rcSuccess, [], s.onHead h (fun d => { d with injected := nsErase (dpa / 64 * 64) d.injected, poisonList := nsErase (dpa / 64 * 64) d.poisonList })))

/-! ### Dynamic Capacity (R39, R52, R53) -/

/-- GET_DYNAMIC_CAPACITY_CONFIG: the regions of Table 02-2. -/
def State.getDcConfig (s : State) (h len count start : Nat) : State :=
  s.mailbox h 0x4800 len 2 false false (fun s =>
    if 8 ≤ start then (rcInvalidInput, [], s)
    else
      let rs := ((List.range 8).drop start).take count
      (rcSuccess, leBytes 1 8 ++ leBytes 1 rs.length ++ List.replicate 6 0
        ++ rs.flatMap (fun r => leBytes 8 ((r + 1) * 2 ^ 49) ++ leBytes 8 (2 ^ 49 / 2 ^ 28) ++ leBytes 8 (2 ^ 49) ++ leBytes 8 (2 ^ 28) ++ leBytes 4 0 ++ leBytes 1 0
          ++ List.replicate 3 0), s))

/-- The HXT entries of a head in a state. -/
def State.hxtOf (s : State) (h : Nat) (sts : List Nat) : List (Nat × Hxt) := s.xtn.hxt.filter (fun e => decide (e.2.head = h) && decide (e.2.st ∈ sts))

/-- GET_DYNAMIC_CAPACITY_EXTENT_LIST: ACTIVE and RELEASING extents, up to 84 a response. -/
def State.getDcExtents (s : State) (h len count start : Nat) : State :=
  s.mailbox h 0x4801 len 8 false true (fun s =>
    let es := s.hxtOf h [2, 3]
    if es.length < start then (rcInvalidInput, [], s)
    else
      let out := (es.drop start).take (min 84 count)
      (rcSuccess, leBytes 4 out.length ++ leBytes 4 es.length ++ leBytes 4 0 ++ leBytes 4 0
        ++ out.flatMap (fun e => extentBytes e.2.region e.2.unit e.2.length e.2.sxn), s))

/-- The DPA range of an HXT entry: start and length. -/
def Hxt.range (e : Hxt) : Nat × Nat := ((e.region + 1) * 2 ^ 49 + e.unit * 2 ^ 28, e.length * 2 ^ 28)

/-- The entries of a head in a state that a list of extents names, each with whether it is named whole. None when an extent names none of them. -/
def State.namedEntries (s : State) (h st : Nat) : List (Nat × Nat) → Option (List (Nat × Bool))
  | [] => some []
  | (dpa, len) :: rest =>
    match s.namedEntries h st rest, (s.hxtOf h [st]).find? (fun e => decide (dpa < e.2.range.1 + e.2.range.2) && decide (e.2.range.1 < dpa + len)) with
    | some more, some e => some ((e.1, decide ((dpa, len) = e.2.range)) :: more)
    | _, _ => none

/-- The host's answer to an offer (R53): the whole entry becomes ACTIVE; anything less rejects it, and OFFER_REJECTED is raised. -/
def State.answerOffer (s : State) (i : Nat) (whole : Bool) : State :=
  let e := s.hxt i
  if e.st ≠ 1 then s
  else
    let s := (s.setHxt i { e with st := if whole then 2 else 0 }).dirtySegment (4096 + i / 256)
    if whole then s else s.on (fun b => b.raise pXTN (ev E.XTN.OFFER_REJECTED e.head e.sxn e.unit i))

/-- ADD_DYNAMIC_CAPACITY_RESPONSE (R53, R81, R82): an empty list has no effect. -/
def State.addDcResponse (s : State) (h len : Nat) (exts : List (Nat × Nat)) : State :=
  s.mailbox h 0x4802 len (8 + 24 * 84) false true (fun s =>
    match s.namedEntries h 1 exts with
    | none => (rcInvalidInput, [], s)
    | some es =>
      let whole := fun i => es.all (fun e => decide (e.1 ≠ i) || e.2)
      (rcSuccess, [], es.foldl (fun s e => s.answerOffer e.1 (whole e.1)) s))

/-- RELEASE_DYNAMIC_CAPACITY (R52, R53, R82): each ACTIVE entry named whole passes to RELEASING and goes on decoding. -/
def State.releaseDc (s : State) (h len : Nat) (exts : List (Nat × Nat)) : State :=
  s.mailbox h 0x4803 len (8 + 24 * 84) false true (fun s =>
    match s.namedEntries h 2 exts with
    | none => (rcInvalidInput, [], s)
    | some es =>
      if es.any (fun e => !e.2) then (rcInvalidInput, [], s)
      else (rcSuccess, [], es.foldl (fun s e => (s.setHxt e.1 { s.hxt e.1 with st := 3, forced := false }).dirtySegment (4096 + e.1 / 256)) s))

end Sys2Proof.Machine
end

