-- ==== Sys2Proof/Machine/Maint.lean ====
section
/-! DEFINITION. Maintenance of the front cache: operations (R119 to R122), disable and enable (R123, R124), window resize and remap (R125 to R131), the scrubbers
(R110 to R113), and the failures of HBM (R114 to R118). -/

namespace Sys2Proof.Machine

/-! ### Operations (R119 to R122) -/

/-- The dirty lines of a page, in its frame or staged. -/
def State.dirtyLinesOf (s : State) (page : Nat) : List Nat :=
  (match s.frameOf page with | some (_, f) => f.dirtyLines.map (fun n => page * 64 + n) | none => []) ++ (s.stagedOf page).map Prod.fst

/-- An operation starts: OP_BUSY rises, the covered pages (place, page) are written back. -/
def State.startOp (s : State) (op code total skipped : Nat) (pages : List (Nat × Nat)) (inv : Bool) : State :=
  let left := pages.flatMap (fun p => (s.dirtyLinesOf p.2).map (fun l => (p.1, l)))
  let s := pages.foldl (fun s p => s.writeBack p.2) s
  let o : MaintOp := ⟨op, left, if inv then pages.map Prod.snd else [], total, skipped, code, false⟩
  { s with cache := { s.cache with op := some o } }.on (fun b =>
    (b.put pFCM F.FCM_STAT.OP_BUSY 1).put pFCM F.FCM_STAT.ABORTED 0)

/-- The pages that have a frame or a staged line. -/
def State.heldPages (s : State) : List Nat :=
  let ps := s.cache.frames.map (fun (e : Nat × Frame) => e.2.page) ++ s.cache.staged.map (fun (e : Nat × LineSt) => e.1 / 64)
  ps.foldl (fun l p => nsInsert p l) []

/-- A by-address operation (R120): CLEAN or CLEAN_INV of FCM_COUNT pages from FCM_ADDR. -/
def State.cleanRange (s : State) (mode : Bool) (h : Nat) (inv : Bool) : State :=
  let op := if inv then 2 else 1
  let count := s.bd.get pFCM F.FCM_COUNT.COUNT
  let lo := s.bd.get pFCM F.FCM_ADDR_LO.PAGE_LO
  let addr := if mode then lo + s.bd.get pFCM F.FCM_ADDR_HI.PAGE_HI * 2 ^ 32 else lo
  if count = 0 then s.startOp op Code.empty.num 0 0 [] false
  else if (if mode then 2 ^ 52 else 3 * 2 ^ 30) < addr + count then s.startOp op Code.length.num 0 0 [] false
  else if mode then
    let found := (List.range count).map (fun k => (k, s.localPageOf h ((addr + k) * 4096)))
    let pages := found.filterMap (fun (x : Nat × Option Nat) => x.2.map (fun p => (x.1, p)))
    s.startOp op Code.ok.num count (count - pages.length) pages inv
  else
    let pages := (s.heldPages.filter (fun p => decide (addr ≤ p) && decide (p < addr + count))).map (fun p => (p - addr, p))
    s.startOp op Code.ok.num count 0 pages inv

/-- A set-and-way operation (R120): FCM_COUNT frames of one way from a set upward. -/
def State.cleanFrames (s : State) (inv : Bool) : State :=
  let op := if inv then 4 else 3
  let count := s.bd.get pFCM F.FCM_COUNT.COUNT
  let t := s.bd.get pFCM F.FCM_SETWAY.SET
  let w := s.bd.get pFCM F.FCM_SETWAY.WAY
  if count = 0 then s.startOp op Code.empty.num 0 0 [] false
  else if 12 ≤ w then s.startOp op Code.unsupported.num 0 0 [] false
  else if 2 ^ 21 < t + count then s.startOp op Code.length.num 0 0 [] false
  else if 12 - s.bd.windowWays ≤ w ∨ s.bd.stackLost (w % 4) then s.startOp op Code.conflict.num 0 0 [] false
  else
    let pages := (s.cache.frames.filter (fun (e : Nat × Frame) => decide (e.1 % 16 = w) && decide (t ≤ e.1 / 16) && decide (e.1 / 16 < t + count))).map
      (fun (e : Nat × Frame) => (e.1 / 16 - t, e.2.page))
    s.startOp op Code.ok.num count 0 pages inv

/-- INV_ALL (R119, R124): every frame of every cache way. Their number does not fit FCM_PROGRESS.DONE, and what it shows is open (log entry 155). -/
def State.invAll (s : State) : State :=
  let pages := s.cache.frames.map (fun (e : Nat × Frame) => (0, e.2.page))
  let shown := s.bd.openVal % 2 ^ 24
  (s.on Board.useOpen).startOp 5 Code.ok.num shown 0 pages true

/-- The recency rank of a frame in its set, 0 the most recent. -/
def State.rank (s : State) (i : Nat) (f : Frame) : Nat :=
  (s.cache.frames.filter (fun (e : Nat × Frame) => decide (e.1 / 16 = i / 16) && decide (f.used < e.2.used))).length

/-- Bits of the lines of a half that satisfy `p`. -/
def Frame.half (f : Frame) (half : Nat) (p : LineSt → Bool) : Nat :=
  (f.lines.map (fun (e : Nat × LineSt) => if e.1 / 32 = half ∧ p e.2 then 2 ^ (e.1 % 32) else 0)).sum

/-- PROBE (R119): the tag and line bits of one frame. -/
def State.probeFrame (s : State) : State :=
  let t := s.bd.get pFCM F.FCM_SETWAY.SET
  let w := s.bd.get pFCM F.FCM_SETWAY.WAY
  let half := s.bd.get pFCM F.FCM_SETWAY.HALF
  if 12 ≤ w then s.startOp 6 Code.unsupported.num 0 0 [] false
  else
    let window := decide (12 - s.bd.windowWays ≤ w) || s.cache.remap.any (fun e => decide (e.2 = w) && decide (e.1 % 32 = t % 32))
    let off := s.bd.pcLost (w % 4) (t % 32)
    let put := fun (s : State) (page key tag lru v d p : Nat) => s.on (fun b =>
      let b := b.put pFCM F.FCM_PROBE0.PAGE page
      let b := ((b.put pFCM F.FCM_PROBE1.KEY key).put pFCM F.FCM_PROBE1.TAG_VALID tag).put pFCM F.FCM_PROBE1.WINDOW (bit window)
      let b := (b.put pFCM F.FCM_PROBE1.DISABLED (bit off)).put pFCM F.FCM_PROBE1.LRU lru
      ((b.put pFCM F.FCM_PROBE2.VALID v).put pFCM F.FCM_PROBE3.DIRTY d).put pFCM F.FCM_PROBE4.PATCHED p)
    let s := match smFind (t * 16 + w) s.cache.frames with
      | none => put s 0 0 0 0 0 0 0
      | some f => put s f.page f.key 1 (s.rank (t * 16 + w) f) (f.half half (fun _ => true)) (f.half half LineSt.dirty) (f.half half LineSt.patched)
    s.startOp 6 Code.ok.num 1 0 [] false

/-- A write of FCM_OP that starts operation `op` (R119); while OP_BUSY it is discarded and records BUSY. -/
def State.fcmOp (s : State) (p : Path) (op : Nat) (mode : Bool) (h : Nat) : State :=
  s.written p pFCM 0x048 false false (fun s =>
    if s.bd.on pFCM F.FCM_STAT.OP_BUSY then s.rejects p pFCM 0x048 .busy
    else
      let s := s.on (fun b => ((b.put pFCM F.FCM_OP.OP op).put pFCM F.FCM_OP.MODE (bit mode)).put pFCM F.FCM_OP.HEAD h)
      match op with
      | 1 => s.cleanRange mode h false
      | 2 => s.cleanRange mode h true
      | 3 => s.cleanFrames false
      | 4 => s.cleanFrames true
      | 5 => s.invAll
      | _ => s.probeFrame)

/-- The covered lines of the running operation that are still dirty. -/
def State.opLeft (s : State) (o : MaintOp) : List (Nat × Nat) := o.left.filter (fun x => s.lineDirty x.2)

/-- The running operation stops after the page in progress (R122): what lies behind it is no longer covered. -/
def State.abortOp (s : State) : State :=
  match s.cache.op with
  | none => s
  | some o =>
    let at_ := ((s.opLeft o).map Prod.fst).foldl min o.total
    let o := { o with left := o.left.filter (fun x => decide (x.1 = at_)), inv := [], total := min o.total (at_ + 1), aborted := true, code := Code.ok.num }
    { s with cache := { s.cache with op := some o } }.on (fun b => b.put pFCM F.FCM_STAT.ABORTED 1)

/-- FCM_ABORT: a write of FCM_OP with ABORT = 1. -/
def State.fcmAbort (s : State) (p : Path) : State := s.written p pFCM 0x048 false false State.abortOp

/-- A frame that an operation invalidates goes; a line dirtied since stays (R121). -/
def State.invalidate (s : State) (page : Nat) : State :=
  match s.frameOf page with
  | none => s
  | some (i, f) =>
    let rest := f.lines.filter (fun (e : Nat × LineSt) => e.2.dirty)
    if rest = [] then s.dropFrame i else s.setFrame i { f with lines := rest }

/-- OP_DONE (R119, R121, R122, R124): every covered line is persistent; the frames go where the operation invalidates; RESULT and PROGRESS are shown. -/
def State.opDone (s : State) : State :=
  match s.cache.op with
  | none => s
  | some o =>
    if s.opLeft o ≠ [] then s
    else
      let s := o.inv.foldl (fun s p => s.invalidate p) s
      let s := { s with cache := { s.cache with op := none } }
      let slate := decide (o.op = 5) && !o.aborted && !s.bd.on pFCM F.FCM_STAT.ENABLED
      s.on (fun b =>
        let b := (b.put pFCM F.FCM_STAT.OP_BUSY 0).put pFCM F.FCM_PROGRESS.DONE (o.total % 2 ^ 24)
        let b := (b.put pFCM F.FCM_RESULT.CODE o.code).put pFCM F.FCM_RESULT.SKIPPED o.skipped
        let b := if slate then b.put pFCM F.FCM_STAT.CLEAN_SLATE 1 else b
        b.raise pFCM (ev E.FCM.OP_DONE (o.op + bit o.aborted * 16) (b.rd pFCM 0x05C).toNat (b.rd pFCM 0x060).toNat 0))

/-! ### Disable and enable (R123, R124) -/

/-- CACHE_DISABLE: ENABLE = 0 written while the cache is enabled: every dirty line is written back. -/
def State.cacheDisable (s : State) (p : Path) : State :=
  s.written p pFCM 0x040 false false (fun s =>
    let s := s.on (fun b => b.put pFCM F.FCM_CTL.ENABLE 0)
    if !s.bd.on pFCM F.FCM_STAT.ENABLED ∨ s.bd.on pFCM F.FCM_STAT.DISABLING then s
    else
      let n := s.dirty
      let s := s.on (fun b => b.put pFCM F.FCM_STAT.DISABLING 1)
      let s := { s with cache := { s.cache with disableFrom := n } }
      s.heldPages.foldl (fun s p => s.writeBack p) s)

/-- CACHE_DISABLE_DONE: the last dirty line is persistent. -/
def State.cacheDisableDone (s : State) : State :=
  if !s.bd.on pFCM F.FCM_STAT.DISABLING ∨ s.dirty ≠ 0 then s
  else
    let n := s.cache.disableFrom
    let s := { s with cache := { s.cache with frames := [] } }
    s.on (fun b =>
      let b := ((b.put pFCM F.FCM_STAT.ENABLED 0).put pFCM F.FCM_STAT.CLEAN_SLATE 0).put pFCM F.FCM_STAT.DISABLING 0
      b.raise pFCM (ev E.FCM.DISABLED 0 n 0 0))

/-- A staged line becomes a dirty line of the frame that serves it (R124): of its two mirror slots the one beside the frame's stack stays. -/
def State.frameStaged (s : State) (lln : Nat) (l : LineSt) : State :=
  match smFind l.slot s.cache.slots with
  | none => s
  | some (page, line, key, _) =>
    match s.takeFrame page key with
    | none => s
    | some (i, s) =>
      let want := s.bd.mirrorStack (i / 16) (i % 16)
      let other := l.slot2 - 1
      let keep : Option (Nat × State) :=
        if slotStack l.slot = want then some (l.slot, if l.slot2 = 0 then s else s.freeMirrorSlot other)
        else if l.slot2 ≠ 0 ∧ slotStack other = want then some (other, s.freeMirrorSlot l.slot)
        else (s.takeSlot want page line key (i % 16)).map (fun x => (x.1, if l.slot2 = 0 then x.2.freeMirrorSlot l.slot else (x.2.freeMirrorSlot l.slot).freeMirrorSlot other))
      match keep with
      | none => s
      | some (slot, s) =>
        let s := { s with cache := { s.cache with staged := smDel lln s.cache.staged, slots := smPut slot (page, line, key, i % 16) s.cache.slots } }
        match s.frameOf page with
        | none => s
        | some (i, f) => (s.setFrame i { f with lines := smPut line { l with slot := slot, slot2 := 0 } f.lines }).touch i

/-- The cache is enabled (R124): staged lines move into frames. -/
def State.enableCache (s : State) : State :=
  let s := s.on (fun b => ((b.put pFCM F.FCM_CTL.ENABLE 1).put pFCM F.FCM_STAT.ENABLED 1).put pFCM F.FCM_STAT.CLEAN_SLATE 0)
  s.cache.staged.foldl (fun s (e : Nat × LineSt) => s.frameStaged e.1 e.2) s

/-- CACHE_ENABLE: ENABLE = 1 written; without CLEAN_SLATE it is refused. -/
def State.cacheEnable (s : State) (p : Path) : State :=
  s.written p pFCM 0x040 false false (fun s =>
    if s.bd.on pFCM F.FCM_STAT.ENABLED ∧ !s.bd.on pFCM F.FCM_STAT.DISABLING then s
    else if s.bd.on pFCM F.FCM_STAT.CLEAN_SLATE then s.enableCache
    else
      let path := match p with | .host _ => 0 | .mgmt => 1
      (s.rejects p pFCM 0x040 .conflict).on (fun b => b.raise pFCM (ev E.FCM.ENABLE_REFUSED (path * 2 ^ 9) 0 0 0)))

/-! ### The volatile window (R125 to R131) -/

/-- VWN_RESIZE (R45, R125, R127): a write of VWN_CFG.SIZE. -/
def State.vwnResize (s : State) (p : Path) (size : Nat) : State :=
  s.written p pVWN 0x040 false false (fun s =>
    let end_ := fun hw => if s.bd.committed hw ∧ s.bd.get pXTN (F.WIN_CTL.TYPE.ix hw) = 2 then
        smGet (fun _ => 0) s.xtn.dpaBase hw + s.bd.winSize hw / 2 ^ s.bd.get pXTN (F.WIN_CTL.IW.ix hw) else 0
    if 4 < size then s.rejects p pVWN 0x040 .unsupported
    else if s.bd.on pVWN F.VWN_STAT.RESIZING then s.rejects p pVWN 0x040 .busy
    else if (List.range 64).any (fun hw => decide (size * 2 ^ 33 < end_ hw)) then s.rejects p pVWN 0x040 .conflict
    else
      let old := s.bd.windowWays
      let s := (s.on (fun b => (b.put pVWN F.VWN_CFG.SIZE size).put pVWN F.VWN_STAT.RESIZING 1)).storeConfig
      let s := { s with cache := { s.cache with resize := some (old, size) } }
      let joining := (s.cache.frames.filter (fun (e : Nat × Frame) => decide (12 - size ≤ e.1 % 16))).map (fun (e : Nat × Frame) => e.2.page)
      joining.foldl (fun s p => s.writeBack p) s)

/-- The window takes a size: contents, bitmap bits and remap entries beyond it go, and the frames of its ways leave the cache. -/
def State.setWindow (s : State) (n : Nat) : State :=
  let stays := fun v => decide (v / 2 ^ 21 < n)
  let way := fun g => decide (12 - n ≤ g / 32)
  let s := { s with cache := { s.cache with
    frames := s.cache.frames.filter (fun (e : Nat × Frame) => decide (e.1 % 16 < 12 - n))
    window := s.cache.window.filter (fun (e : Nat × Line) => stays (e.1 / 64))
    markers := s.cache.markers.filter (fun l => stays (l / 64))
    bitmap := s.cache.bitmap.filter stays
    lost := s.cache.lost.filter way
    remap := s.cache.remap.filter (fun (e : Nat × Nat) => way e.1) } }
  let gone := (List.range (n * 32)).filterMap (fun k =>
    let g := (11 - k / 32) * 32 + k % 32
    if s.bd.pcLost (g / 32 % 4) (g % 32) ∧ (smFind g s.cache.remap).isNone then some g else none)
  let s := { s with cache := { s.cache with lost := gone.foldl (fun l g => nsInsert g l) s.cache.lost } }
  (s.on (fun b => b.put pVWN F.VWN_STAT.CURRENT n)).followWindow

/-- RESIZE_DONE (R127): the frames of the ways that join are clean; the window has its new size. -/
def State.resizeDone (s : State) : State :=
  match s.cache.resize with
  | none => s
  | some (old, new) =>
    if s.cache.frames.any (fun (e : Nat × Frame) => decide (12 - new ≤ e.1 % 16) && decide (e.2.dirtyLines ≠ [])) then s
    else
      let s := ({ s with cache := { s.cache with resize := none } }).setWindow new
      let s := { s with cache := { s.cache with bitmap := s.cache.bitmap.filter (fun v => decide (v / 2 ^ 21 < old)) } }
      s.on (fun b => (b.put pVWN F.VWN_STAT.RESIZING 0).raise pVWN (ev E.VWN.RESIZE_DONE (new + old * 8) 0 0 0))

/-- The replacement of a lost frame group (R131): the highest-numbered enabled cache way on another stack, at the same pseudo-channel. -/
def State.replacement (s : State) (taken : List (Nat × Nat)) (g : Nat) : Option Nat :=
  ((List.range 12).reverse).find? (fun w =>
    decide (w % 4 ≠ g / 32 % 4) && s.cacheFrame (g % 32) w && !taken.any (fun x => decide (x.2 = w) && decide (x.1 % 32 = g % 32)))

/-- The replacements of all lost frame groups. -/
def State.remapPlan (s : State) : List (Nat × Nat) :=
  (s.cache.lost.filter (fun g => (smFind g s.cache.remap).isNone)).foldl (fun (acc : List (Nat × Nat)) g =>
    match s.replacement acc g with | some w => acc ++ [(g, w)] | none => acc) []

/-- The cache frames that a replacement takes. -/
def State.planFrames (s : State) (plan : List (Nat × Nat)) : List (Nat × Frame) :=
  s.cache.frames.filter (fun (e : Nat × Frame) => plan.any (fun (x : Nat × Nat) => decide (e.1 % 16 = x.2) && decide (e.1 / 16 % 32 = x.1 % 32)))

/-- REMAP (R131): VWN_CMD.REMAP written 1: the frames that will replace lost ones are cleaned. -/
def State.remap (s : State) (p : Path) : State :=
  s.written p pVWN 0x048 false false (fun s =>
    if s.bd.on pVWN F.VWN_CMD.REMAP then s.rejects p pVWN 0x048 .busy
    else
      let s := s.on (fun b => (b.put pVWN F.VWN_CMD.REMAP 1).put pVWN F.VWN_STAT.REMAPPING 1)
      (s.planFrames s.remapPlan).foldl (fun s e => s.writeBack e.2.page) s)

/-- REMAP_DONE (R131): the replacements are clean and serve their window pages, which read zero. -/
def State.remapDone (s : State) : State :=
  let plan := s.remapPlan
  let fs := s.planFrames plan
  if !s.bd.on pVWN F.VWN_STAT.REMAPPING ∨ fs.any (fun e => decide (e.2.dirtyLines ≠ [])) then s
  else
    let s := fs.foldl (fun s e => s.dropFrame e.1) s
    let mine := fun (v : Nat) => plan.any (fun (x : Nat × Nat) => decide (x.1 = windowGroup v))
    let s := { s with cache := { s.cache with
      remap := plan.foldl (fun (m : SMap Nat) (x : Nat × Nat) => smPut x.1 x.2 m) s.cache.remap
      window := s.cache.window.filter (fun (e : Nat × Line) => !mine (e.1 / 64))
      markers := s.cache.markers.filter (fun l => !mine (l / 64))
      bitmap := s.cache.bitmap.filter (fun v => !mine v) } }
    let s := s.on (fun b => (b.put pVWN F.VWN_CMD.REMAP 0).put pVWN F.VWN_STAT.REMAPPING 0)
    let s := s.followWindow
    s.on (fun b => b.raise pVWN (ev E.VWN.REMAP_DONE 0 (plan.length * 65536) (b.get pVWN F.VWN_STAT.LOST_FRAMES) 0))

/-! ### Flips and scrubbing (R110 to R113) -/

/-- FCC_FLIP_ARM (R112). -/
def State.fccFlipArm (s : State) (p : Path) (k target : Nat) : State :=
  let page := pFCC k
  s.written p page 0x060 (decide (s.bd.unit page ≠ stTEST)) false (fun s =>
    if 4 < target then s.rejects p page 0x060 .unsupported
    else if s.bd.get64 page F.FCC_FLIP_LO.MASK F.FCC_FLIP_HI.MASK = 0 then
      s.rejects p page 0x060 .empty
    else s.on (fun b => (b.put page F.FCC_FLIP_CTL.TARGET target).put page F.FCC_FLIP_CTL.ARM 1))

/-- Both copies of a line of a mirrored structure have failed (Table 04-3). -/
def State.blockLost (s : State) (base b n k : Nat) : State :=
  match base with
  | 0 => s.rebuild (segKey true (b / 256)) 0
  | 12 => s.rebuild (segKey false b) 0
  | 16 =>
    let frames : SMap Frame := s.cache.frames.filterMap (fun (e : Nat × Frame) =>
      if e.1 / 16 / 64 ≠ b then some e
      else
        let dirty := e.2.lines.filter (fun (x : Nat × LineSt) => x.2.dirty)
        if dirty = [] then none else some (e.1, { e.2 with lines := dirty }))
    { s with cache := { s.cache with frames := frames } }
  | _ => s.on (fun bd =>
      let bd := bd.logFault (pFCC k) E.FCC.PAR_UNCORRECTED 12 0 (blockIndex base b n) true
      { bd with fatal := some (pFCC k, E.FCC.PAR_UNCORRECTED, 12) })

/-- The scrubber reads line `index` of stack `k`; `bad` are parity bits that fail there beyond a stored flip (R110). -/
def State.scrubLine (s : State) (k index bad : Nat) : State :=
  let gib := 2 ^ 30 / 64
  if s.bd.pcLost k (indexPc index) then s
  else if index < 20 * gib then
    let base := if index < 12 * gib then 0 else if index < 16 * gib then 12 else if index < 18 * gib then 16 else 18
    let rel := index - base * gib
    let b := rel / 64 * 2 + k % 2
    let first := decide ((blockStacks b).getD 0 0 = k)
    match s.readBlock base b (rel % 64) (if first then bad else 0) (if first then 0 else bad) with
    | (true, s) => s
    | (false, s) => s.blockLost base b (rel % 64) k
  else if index < 24 * gib then
    let rel := index - 20 * gib
    let slot := k * slotsPerStack + rel / 8 * 7 + rel % 8
    let mask := bad ||| (if rel % 8 < 7 then s.corruptMask (slotCell slot) else 0)
    if mask = 0 ∨ (rel % 8 < 7 ∧ (smFind slot s.cache.slots).isNone) then s
    else
      let s := if rel % 8 < 7 then { s with cache := { s.cache with corrupt := smDel (slotCell slot) s.cache.corrupt } } else s
      s.parityError k 2 index mask true
  else
    let rel := index - 24 * gib
    let w := rel / (8 * gib) * 4 + k
    let t := rel % (8 * gib) / 64
    let n := rel % 64
    let i := t * 16 + w
    let served := s.cache.remap.find? (fun e => decide (e.2 = w) && decide (e.1 % 32 = t % 32))
    let v? := match served with
      | some e => some ((11 - e.1 / 32) * 2 ^ 21 + t)
      | none => if 12 - s.bd.windowWays ≤ w then some ((11 - w) * 2 ^ 21 + t) else none
    match v? with
    | some v =>
      let l := v * 64 + n
      let mask := bad ||| s.corruptMask (windowCell l)
      if l ∈ s.cache.markers ∨ (smFind l s.cache.window).isNone ∨ mask = 0 then s
      else
        ((s.parityError k 4 index mask false).putMarker l).on (fun b => b.raise pVWN (ev E.VWN.PAR_POISONED (indexPc index) v n 0))
    | none =>
      match (smFind i s.cache.frames).bind (fun f => (smFind n f.lines).map (fun l => (f, l))) with
      | none => s
      | some (f, l) =>
        let mask := bad ||| s.corruptMask (frameCell i n)
        if mask = 0 then s
        else
          let s := { s with cache := { s.cache with corrupt := smDel (frameCell i n) s.cache.corrupt } }
          let s := if l.dirty then s else s.setFrame i { f with lines := smDel n f.lines }
          s.parityError k 1 index mask true

/-- SCRUB_READ (R110, R113): stack `k`'s scrubber reads its next line; at the end of the stack the lap ends. -/
def State.scrubRead (s : State) (k bad : Nat) : State :=
  let page := pFCC k
  if !s.bd.powered page ∨ !s.bd.on page F.FCC_CFG.SCRUB_EN ∨ s.bd.stackLost k ∨ !s.bd.serves page then s
  else
    let pos := s.bd.get page F.FCC_SCRUB_POS.LINE
    let s := s.scrubLine k pos bad
    if pos + 1 < 805306368 then s.on (fun b => b.put page F.FCC_SCRUB_POS.LINE (pos + 1))
    else
      let from_ := smGet (fun _ => 0) s.cache.scrubStart k
      let s := { s with cache := { s.cache with scrubStart := smSet (fun _ => 0) k s.bd.now s.cache.scrubStart, scrubTold := nsErase k s.cache.scrubTold } }
      s.on (fun b =>
        let b := (b.put page F.FCC_SCRUB_POS.LINE 0).put page F.FCC_SCRUB_LAP.LAST_LAP (min 65535 ((b.now - from_) / 60000000))
        b.put page F.FCC_SCRUB_LAP.LAPS (min 65535 (b.get page F.FCC_SCRUB_LAP.LAPS + 1)))

/-- SCRUB_SLOW (R113): the lap in progress has passed SCRUB_LAP_LIMIT. -/
def State.scrubSlow (s : State) (k : Nat) : State :=
  let page := pFCC k
  if !s.bd.powered page ∨ k ∈ s.cache.scrubTold ∨ !s.bd.on page F.FCC_CFG.SCRUB_EN then s
  else
    let from_ := smGet (fun _ => 0) s.cache.scrubStart k
    let s := { s with cache := { s.cache with scrubTold := nsInsert k s.cache.scrubTold } }
    s.on (fun b =>
      let b := { b with now := max b.now (from_ + b.get page F.FCC_CFG.SCRUB_LAP_LIMIT * 3600000000) }
      b.raise page (ev E.FCC.SCRUB_SLOW 0 ((b.now - from_) / 60000000) (b.get page F.FCC_SCRUB_POS.LINE) 0))

/-! ### Failures of HBM (R114) -/

/-- HBM_ACCESS_TIMEOUT: an access to a pseudo-channel has no response within 2 µs. -/
def State.hbmTimeout (s : State) (k p : Nat) : State := if s.bd.powered (pFCC k) then s.pcFail k p true else s

/-- HBM_PHY_LOCK_LOSS: the PHY of a stack has lost lock. -/
def State.hbmLockLoss (s : State) (k : Nat) : State := if s.bd.powered (pFCC k) then s.stackFail k 0 else s

end Sys2Proof.Machine
end

