-- ==== Sys2Proof/Machine/Packets.lean ====
section
/-! DEFINITION. Requests, answers and the mirrored-pair protocol on the ring (R49, R257, R263, R322 to R325). -/

namespace Sys2Proof.Machine

/-! ### Requests at the owner (R322) -/

/-- The request that a packet from the ring carries. `mirror` is the line of the other copy where the extent is mirrored (log entry 65). -/
def ringReq (ask : Ask) (oid tag copy lln key sxn : Nat) (mirror : Option Nat) (data : Line) (mask : Nat) (poison : Bool) : Req :=
  { id := tag, ask := ask, oid := oid, rsv := 0, hpa := 0, volatile := false, lln := lln, key := key, sxn := sxn, role := copy, hxt := 0,
    mirror := mirror.isSome, mirrorLln := mirror.getD 0, word := 0, data := data, mask := mask, poison := poison }

/-- Every request that the home still works on. -/
def State.homeReqs (s : State) : List Req :=
  s.home.queue ++ s.home.holds ++ s.home.called ++ s.home.derive ++ s.home.aliases.map AliasWait.req ++ s.home.mirror.waits.map MonWait.req
    ++ s.home.mirror.held ++ s.home.mirror.fills.map Prod.snd ++ s.mapx.misses.flatMap (fun m => m.reqs ++ m.partials)

/-- Is a request of an ingress part with a TAG still at work in the home? -/
def State.atWork (s : State) (oid tag : Nat) : Bool := s.homeReqs.any (fun r => decide (r.oid = oid) && decide (r.id % 2 ^ 16 = tag))

/-- The TAGs of writes serialised in the last 100 µs are kept; those still at work have not been serialised (R322). -/
def State.followRecent (s : State) : State :=
  let fresh := s.shelf.recent.map (fun (x : Nat × Nat × Nat) => if s.atWork x.1 x.2.1 then (x.1, x.2.1, s.bd.now) else x)
  { s with shelf := { s.shelf with recent := fresh.filter (fun (x : Nat × Nat × Nat) => decide (s.bd.now ≤ x.2.2 + 100)) } }

/-- A write from the ring: a duplicate of one serialised in the last 100 µs is answered with TICKET and not applied again (R322). -/
def State.ringWrite (s : State) (r : Req) (f : State → State) : State :=
  let tag := r.id
  if s.atWork r.oid tag then s
  else if s.shelf.recent.any (fun (x : Nat × Nat × Nat) => decide (x.1 = r.oid) && decide (x.2.1 = tag) && decide (s.bd.now ≤ x.2.2 + 100)) then
    (s.on (fun b => b.count pSHM F.SHM_DUP_DROP.COUNT 1)).ticket r (s.bd.ticketStatus r)
  else f { s with shelf := { s.shelf with recent := s.shelf.recent ++ [(r.oid, tag, s.bd.now)] } }

/-- MRD (R49, R322): a line read from another part; a resent read is served again. During a failover, a read of a mirrored line counts as one reissued to this part
(log entry 68). -/
def State.mrd (s : State) (r : Req) : State :=
  let s := match s.shelf.failover with
    | some (t, g, held, n, again) => if r.mirror then { s with shelf := { s.shelf with failover := some (t, g, held ++ [(r.oid, r.id)], n, again + 1) } } else s
    | none => s
  s.arriveNow r

/-- MWR and MWRP (R323, R324): a write to the lead copy. -/
def State.mwr (s : State) (r : Req) : State := s.ringWrite r (fun s => s.arriveNow r)

/-- RSV (R271, R324): a reservation operation of a slot of another part. -/
def State.rsvPacket (s : State) (r : Req) : State := if s.atWork r.oid r.id then s else s.arriveNow r

/-! ### Answers at the ingress part -/

/-- The request in flight that an answer names. -/
def State.inFlightOf (s : State) (oid tag : Nat) : Option (Req × Nat × Bool) :=
  s.traffic.flight.find? (fun f => decide (f.1.oid = oid) && decide (f.1.id % 2 ^ 16 = tag))

/-- MRSP (R322): read data and STATUS (Table 11-3) return and are answered to the requester. -/
def State.mrsp (s : State) (oid tag status : Nat) (data : Line) : State :=
  match s.inFlightOf oid tag with
  | none => s
  | some (r, _, _) =>
    let bad := decide (status ≠ 0 ∧ status ≠ 3)
    let cause : MediaCause := if status = 2 then .staleOwner else if status = 4 then .decode 4 else .poison
    if oidClass oid = 0 then s.hostAnswer r.head r.id data bad cause
    else { s with home := { s.home with answers := s.home.answers ++ [⟨oid, r.id, status, data⟩] } }

/-- The head whose number and TAG name a write, with its number. -/
def State.writeOf (s : State) (oid tag : Nat) : Option Wr :=
  (s.head? (oidInst oid)).bind (fun d => d.writes.find? (fun w => decide (w.req.id % 2 ^ 16 = tag) && w.sent))

/-- TICKET (R323, R261): the write is ticketed on the copy named; SOLO on the one copy that holds it. -/
def State.ticketPacket (s : State) (oid tag copy status : Nat) : State :=
  if oidClass oid = 0 then
    match s.writeOf oid tag with
    | none => s
    | some w => s.ticket { w.req with role := copy } status
  else
    match s.inFlightOf oid tag with
    | none => s
    | some (r, _, _) => s.ticket { r with role := copy } status

/-- HOLD (R257): the home holds the write, and its entry stays in the posted-write buffer. -/
def State.holdPacket (s : State) (oid tag : Nat) : State :=
  if oidClass oid ≠ 0 then s
  else match s.writeOf oid tag with
    | none => s
    | some w => s.onWrite (oidInst oid) w.req.id (fun x => { x with held := true, inBuf := true })

/-- PULL (R257): the home calls for the data of a held write, and the ingress part sends it. -/
def State.pullPacket (s : State) (src oid tag : Nat) : State :=
  let sendData := fun (s : State) (r : Req) => s.send 0x14 src [r.oid, r.id % 2 ^ 16, r.mask, bit r.poison] (some r.data)
  if oidClass oid = 0 then
    match s.writeOf oid tag with
    | none => s
    | some w => (sendData s w.req).onWrite (oidInst oid) w.req.id (fun x => { x with held := false, inBuf := !x.ticketed })
  else
    match s.inFlightOf oid tag with
    | none => s
    | some (r, _, _) => sendData s r

/-- A write that the home has called for is applied in its ticketed place; it waits on while nothing is free for it. -/
def State.applyCalled (s : State) (r : Req) : State :=
  let s0 := { s with home := { s.home with called := s.home.called.filter (fun x => !(decide (x.oid = r.oid) && decide (x.id = r.id))) } }
  match s0.applyWrite r true with
  | .done s => s
  | _ => { s with home := { s.home with called := s.home.called.map (fun (x : Req) => if x.oid = r.oid ∧ x.id = r.id then r else x) } }

/-- MWR_DATA (R257): the data of a held write arrives at the home. -/
def State.mwrData (s : State) (oid tag : Nat) (data : Line) (mask : Nat) (poison : Bool) : State :=
  match s.home.called.find? (fun r => decide (r.oid = oid) && decide (r.id = tag)) with
  | none => s
  | some r => s.applyCalled (if r.mask = allBytes then r else { r with data := data, mask := mask, poison := poison })

/-- PERSISTED (R263): a copy of a write is persistent. -/
def State.persistedPacket (s : State) (oid tag copy : Nat) : State :=
  if oidClass oid ≠ 0 then s.copyDurable oid tag copy
  else match (s.head? (oidInst oid)).bind (fun d => d.writes.find? (fun w => decide (w.req.id % 2 ^ 16 = tag))) with
    | none => s
    | some w => s.onWrite (oidInst oid) w.req.id (fun x => if copy = 0 then { x with durable1 := true } else { x with durable2 := true })

/-- RSV_RSP (R273): the result of a reservation operation returns. -/
def State.rsvRsp (s : State) (oid tag result loss word : Nat) : State :=
  let s : State := match s.writeOf oid tag with
    | some w => if w.req.ask = Ask.cond then s.condEnded (oidInst oid) w.req.id result else s
    | none => s
  match s.head? (oidInst oid) with
  | none => s
  | some d =>
    match (List.range 4).find? (fun k => match d.rsv[k]? with | some v => decide (v.op ≠ 0) && v.ans.isNone && decide (v.req % 2 ^ 16 = tag) | none => false) with
    | none => s
    | some k => s.onHead (oidInst oid) (fun d => { d with rsv := d.rsv.modify k (fun v => { v with ans := some (result, word, loss) }) })

/-! ### Mirrored pairs (R323 to R325) -/

/-- The partner of this part. -/
def Board.partner (b : Board) : Nat := Nat.xor b.selfId 1

/-- Acknowledges a mirror order number. -/
def State.ackOrder (s : State) (mon : Nat) (fail : Bool) : State := s.send 0x21 s.bd.partner [mon, bit fail] none

/-- The write of an order is applied at the partner: its line is poisoned, or the write enters the home. -/
def State.applyOrder (s : State) (mon : Nat) (r : Req) (poison : Bool) : State :=
  let s := { s with home := { s.home with mirror := { s.home.mirror with done := mon } } }
  if poison then (s.applyPoison r false).ackOrder mon false
  else
    let s := { s with home := { s.home with mirror := { s.home.mirror with fills := s.home.mirror.fills ++ [(mon, r)] } } }
    s.arriveNow r

/-- Applied writes whose place in the home is settled are acknowledged; one whose fill failed with FILL_FAIL (R324). -/
def State.ackApplied (s : State) : State :=
  let others := { s with home := { s.home with mirror := { s.home.mirror with fills := [] } } }
  let settled := fun (x : Nat × Req) => !others.atWork x.2.oid (x.2.id % 2 ^ 16)
  let done := s.home.mirror.fills.filter settled
  let s := { s with home := { s.home with mirror := { s.home.mirror with fills := s.home.mirror.fills.filter (fun x => !settled x) } } }
  done.foldl (fun (s : State) (x : Nat × Req) => s.ackOrder x.1 (decide (x.2.mask ≠ allBytes) && s.poisoned x.2.lln)) s

/-- Held writes are applied strictly in MON order, each once its data and its ORDER have both arrived and the one before is applied (R323); `n` bounds how many. -/
def State.applyOrders : Nat → State → State
  | 0, s => s
  | n + 1, s =>
    let s := s.ackApplied
    let m := s.home.mirror
    if m.fills ≠ [] then s
    else
      let next := (m.done + 1) % 2 ^ 32
      match m.orders.find? (fun o => decide (o.1 = next)) with
      | none => s
      | some (mon, ingress, tag, poison) =>
        match m.held.find? (fun r => decide (oidShelf r.oid = ingress) && decide (r.id % 2 ^ 16 = tag)) with
        | none => s
        | some r =>
          let s := { s with home := { s.home with mirror := { m with
            orders := m.orders.filter (fun o => decide (o.1 ≠ mon))
            held := m.held.erase r } } }
          (s.applyOrder mon r poison).applyOrders n

/-- MWR_M and MWRP_M (R323): a write to the other copy is held for its ORDER, or applied at once where this part leads. With `again`, it is the merged line that
answers FILL_FAIL, which replaces the partner's under the same order number (R324). -/
def State.mwrM (s : State) (r : Req) (again : Bool) : State :=
  if again then s.arriveNow r
  else s.ringWrite r (fun s =>
    if s.bd.pairState = 2 ∨ s.bd.pairState = 0 then s.arriveNow r
    else (({ s with home := { s.home with mirror := { s.home.mirror with held := s.home.mirror.held ++ [r] } } }).applyOrders 8192))

/-- ORDER (R323): a write's MON at the partner. -/
def State.orderPacket (s : State) (mon ingress tag : Nat) (poison : Bool) : State :=
  let m := s.home.mirror
  if m.orders.any (fun o => decide (o.1 = mon)) ∨ s.bd.pairState = 2 then s
  else ({ s with home := { s.home with mirror := { m with orders := m.orders ++ [(mon, ingress, tag, poison)] } } }).applyOrders 8192

/-- A mirrored write is serialised at its lead (R251, R323): written, or held where nothing is free for it; a ticket or the result of the COND_WRITE leaves. -/
def State.serialiseMirrored (s : State) (w : MonWait) : State :=
  let r := { w.req with mirror := false }
  if w.poison then (s.applyPoison r true).ticket w.req (s.bd.ticketStatus w.req)
  else
    match (if s.holdsWrites r.lln then none else s.commitLine r r.data) with
    | some s => s.written' w.req
    | none =>
      let s := if r.ask = .cond then s.written' w.req else (s.tellHold r).ticket w.req (s.bd.ticketStatus w.req)
      { s with home := { s.home with holds := s.home.holds ++ [{ r with ask := .write }] } }

/-- ORDER_ACK (R323, R324): the write is serialised, and on FILL_FAIL the merged line goes to the partner under the same MON. -/
def State.orderAck (s : State) (mon : Nat) (fail : Bool) : State :=
  match s.home.mirror.waits.find? (fun w => decide (w.mon = mon)) with
  | none => s
  | some w =>
    let s := { s with home := { s.home with mirror := { s.home.mirror with waits := s.home.mirror.waits.filter (fun x => decide (x.mon ≠ mon)) } } }
    let r := w.req
    let s := if fail then s.send 0x04 s.bd.partner [r.oid, r.id % 2 ^ 16, 1 - r.role, r.mirrorLln, r.key, r.sxn, r.mask, bit w.poison, mon] (some r.data) else s
    s.serialiseMirrored w

/-! ### Failover (R325, R472) -/

/-- Does a failover still wait for one of its requests? -/
def State.holding (s : State) (held : List (Nat × Nat)) : List (Nat × Nat) := held.filter (fun x => s.atWork x.1 (x.2 % 2 ^ 16))

/-- FAILOVER is raised once every request held at the failover has been answered; the fault log takes its entry (R472). -/
def State.followFailover (s : State) : State :=
  match s.shelf.failover with
  | none => s
  | some (t, good, held, n, again) =>
    if s.holding held ≠ [] then s
    else
      let wait := min 0xFFFFFFFF ((s.bd.now - good) * 1000)
      let s := { s with shelf := { s.shelf with failover := none } }
      s.on (fun b => (b.raise pSHM (ev E.SHM.FAILOVER b.partner n again wait)).logFault pSHM E.SHM.FAILOVER 8 (if t ≤ b.now then wait else 0) n false)

/-- The partner is lost: this part leads every copy of the pair alone (R325). Ordered writes are applied in MON order, held writes in their order of arrival, and
writes that wait for ORDER_ACK are serialised; each is ticketed SOLO. -/
def State.enterSolo (s : State) (failed : Bool) : State :=
  let m := s.home.mirror
  let good := ((s.shelf.links[s.bd.selfId % 2]?).map Link.goodAt).getD 0
  let s := s.on (fun b => b.put pSHM F.SHM_PAIR.STATE 2)
  let s := { s with home := { s.home with mirror := { m with waits := [], held := [], orders := [] } } }
  let place := fun (r : Req) => (m.orders.find? (fun o => decide (o.2.1 = oidShelf r.oid) && decide (o.2.2.1 = r.id % 2 ^ 16))).map (fun o => (o.1, o.2.2.2))
  let ordered := (m.orders.filterMap (fun o => (m.held.find? (fun r => place r = some (o.1, o.2.2.2))).map (fun r => (o.1, r, o.2.2.2))))
  let inOrder := (List.range m.orders.length).filterMap (fun k => ordered.find? (fun (x : Nat × Req × Bool) => decide ((ordered.filter (fun (y : Nat × Req × Bool) => decide ((y.1 + 2 ^ 32 - m.done) % 2 ^ 32 < (x.1 + 2 ^ 32 - m.done) % 2 ^ 32))).length = k)))
  let s := inOrder.foldl (fun (s : State) (x : Nat × Req × Bool) => if x.2.2 then s.applyPoison x.2.1 false else s.arriveNow x.2.1) s
  let late := m.held.filter (fun r => (place r).isNone)
  let s := late.foldl (fun (s : State) r => s.arriveNow r) s
  let s := m.waits.foldl (fun (s : State) w => s.serialiseMirrored w) s
  if !failed then s
  else
    let n := inOrder.length + late.length + m.waits.length
    let held := (s.homeReqs.filter (fun r => r.mirror)).map (fun r => (r.oid, r.id))
    let s := s.on (fun b => b.count pSHM F.SHM_FAILOVER.COUNT 1)
    { s with shelf := { s.shelf with failover := some (s.bd.now, good, held, n, 0) } }

end Sys2Proof.Machine
end

