-- ==== Sys2Proof/Machine/Links.lean ====
section
/-! DEFINITION. The Orgevex links: phases, HELLO, flits, lanes, keys, and packets that pass through (R303 to R312). -/

namespace Sys2Proof.Machine

/-! ### Phases (R304, Table 11-1) -/

/-- A link as its domain leaves it. -/
def linkDefault : Link := ⟨false, 0, false, 0, 0, 0, [], 0, 0⟩

/-- Link `k` of the part. -/
def State.link (s : State) (k : Nat) : Link := (s.shelf.links[k]?).getD linkDefault

/-- The state with a link changed. -/
def State.onLink (s : State) (k : Nat) (f : Link → Link) : State := { s with shelf := { s.shelf with links := s.shelf.links.modify k f } }

/-- The phase of a link. -/
def Board.phase (b : Board) (k : Nat) : Nat := b.get (pSHL k) F.SHL_STAT.PHASE

/-- The unit of a link follows its phase and its causes (R304): `held` when a unit that was commanded CONTAINED stays so. -/
def Board.linkUnit (b : Board) (k : Nat) (everUp held : Bool) : Board :=
  let p := pSHL k
  if b.unit p = stOFF ∨ b.unit p = stTEST ∨ b.unit p = stRETIRED then b.followCauses p
  else if b.openCauses p ≠ 0 ∨ held then b.toState p stCONTAINED
  else
    match b.phase k with
    | 4 | 5 => b.toState p (if b.on p F.SHL_CAUSE.NARROW ∨ b.on p F.SHL_CAUSE.SLOW then stDEGRADED else stSERVICE)
    | 0 => b.toState p (if everUp then stCONTAINED else stINIT)
    | _ => b.toState p stINIT

/-- A link enters a phase. -/
def State.toPhase (s : State) (k ph : Nat) : State :=
  let held := decide (s.bd.unit (pSHL k) = stCONTAINED) && decide (s.bd.openCauses (pSHL k) = 0) && s.bd.linkUp k && decide (ph = 4 ∨ ph = 5)
  let s := s.on (fun b =>
    let b := b.put (pSHL k) F.SHL_STAT.PHASE ph
    if ph = 0 then b else b.put (pSHL k) F.SHL_CAUSE.DOWN 0)
  let s := s.onLink k (fun l => { l with phaseAt := max 1 s.bd.now, everUp := l.everUp || decide (ph = 4), goodAt := if ph = 4 then s.bd.now else l.goodAt })
  s.on (fun b => b.linkUnit k (s.link k).everUp held)

/-! ### SHM's own causes (R317, Table 11-13) -/

/-- Does the redundancy of SHM fall short: a link DOWN, or a pair that is neither NORMAL nor UNPAIRED? -/
def Board.shelfReduced (b : Board) : Bool :=
  decide (b.phase 0 = 0) || decide (b.phase 1 = 0) || decide (b.get pSHM F.SHM_PAIR.STATE ≠ 0 ∧ b.get pSHM F.SHM_PAIR.STATE ≠ 1)

/-- The lowest member other than the manager: the deputy (R33). -/
def Board.deputyId (b : Board) : Option Nat :=
  (bitList (b.get pSHM F.SHM_MEMBERS.PARTS) 32).find? (fun n => !(b.on pSHM F.SHM_MGR.MGR_VALID && decide (n = b.get pSHM F.SHM_MGR.MGR_ID)))

/-- SHM_SELF.DEPUTY and the state of SHM follow the membership view, the links and the pair. -/
def Board.followShm (b : Board) : Board :=
  let b := b.serviceLevel pSHM b.shelfReduced
  b.put pSHM F.SHM_SELF.DEPUTY (bit (decide (b.deputyId = some b.selfId) && !b.manages && b.serves pSHM && b.on pSHM F.SHM_MGR.MGR_VALID))

/-- A cause of SHM closes; a unit that no cause holds any more serves again. -/
def Board.shmCloses (b : Board) (n : Nat) : Board :=
  let was := nbit (smGet (fun _ => 0) b.causes pSHM) n
  let b := b.closeHidden pSHM n
  if was ∧ b.unit pSHM = stCONTAINED ∧ b.openCauses pSHM = 0 then b.toState pSHM (if b.shelfReduced then stDEGRADED else stSERVICE) else b

/-- Does a partition show: the part is CUT or ISOLATED, or the topology is PARTITIONED? -/
def Board.partitioned (b : Board) : Bool :=
  b.on pSHM F.SHM_SELF.CUT || b.on pSHM F.SHM_SELF.ISOLATED || decide (b.get pSHM F.SHM_TOPO.TOPO = 2)

/-- The first event of SHM that shows a partition makes its entry in the fault log, under class 13 (R472, Table 20-2). `was`: one showed before. -/
def Board.logPartition (b : Board) (was : Bool) (event info : Nat) : Board :=
  if was then b else b.logFault pSHM event 13 0 info false

/-- Both links DOWN: the part is ISOLATED and drops manager duties (R317). -/
def State.followIsolated (s : State) : State :=
  let both := decide (s.bd.phase 0 = 0) && decide (s.bd.phase 1 = 0)
  if both = s.bd.on pSHM F.SHM_SELF.ISOLATED then s
  else if both then
    s.on (fun b =>
      let was := b.partitioned
      let b := (b.put pSHM F.SHM_SELF.ISOLATED 1).put pSHM F.SHM_SELF.MANAGER 0
      let mem := b.get pSHM F.SHM_MEMBERS.PARTS
      ((b.openHidden pSHM 2).raise pSHM (ev E.SHM.CUT 1 mem 0 0)).logPartition was E.SHM.CUT mem)
  else s

/-- A link that has passed HELLO ends ISOLATED (log entry 70). -/
def Board.unisolate (b : Board) : Board :=
  if b.on pSHM F.SHM_SELF.ISOLATED then (b.put pSHM F.SHM_SELF.ISOLATED 0).shmCloses 2 else b

/-! ### Links that go DOWN (R304, R316) -/

/-- A link goes DOWN: from RECOVER or not, with the packets discarded. -/
def State.linkGone (s : State) (k : Nat) (recover : Bool) (discarded : Nat) : State :=
  let up := s.bd.linkUp k
  let l := s.link k
  let peer := s.bd.get (pSHL k) F.SHL_STAT.PEER_ID
  let s := s.on (fun b =>
    let p := pSHL k
    let b := ((b.put p F.SHL_STAT.WIDTH 0).put p F.SHL_STAT.PEER_VALID 0).put p F.SHL_STAT.PHASE 0
    let b := (b.count p F.SHL_DOWN.COUNT 1).count p F.SHL_DISCARD.COUNT discarded
    let b := if l.everUp then b.put p F.SHL_CAUSE.DOWN 1 else b
    b.raise p (ev E.SHL.LINK_DOWN (bit recover) discarded l.acked 0))
  let s := s.onLink k (fun l => { l with keys := 0, macFails := [] })
  let s := s.toPhase k 0
  let s := if up then s.on (fun b => b.logFault (pSHL k) E.SHL.LINK_DOWN 7 0 discarded false) else s
  let s := s.followIsolated.on (fun b => b.followShm)
  if !up then s
  else
    let tell := fun (s : State) (p : Nat) => s.say (.ring (1 - k) 0x31 s.bd.selfId p [s.bd.selfId, k, peer] none)
    let s := if s.bd.on pSHM F.SHM_MGR.MGR_VALID ∧ s.bd.get pSHM F.SHM_MGR.MGR_ID ≠ s.bd.selfId then tell s (s.bd.get pSHM F.SHM_MGR.MGR_ID) else s
    match s.bd.deputyId with
    | some d => if d = s.bd.selfId then s else tell s d
    | none => s

/-- SHL_TRAIN_START (Table 11-1): a DOWN link trains: at once after PD07 powers up, 10 ms after it went DOWN, or 1 s after a HELLO failure. -/
def State.trainStart (s : State) (k : Nat) : State :=
  if s.bd.phase k ≠ 0 ∨ !s.bd.powered (pSHL k) then s
  else
    let l := s.link k
    let due := if l.phaseAt = 0 then 0 else l.phaseAt + (if l.helloFailed then 1000000 else 10000)
    (s.on (fun b => { b with now := max b.now due })).toPhase k 1

/-- SHL_TRAINED (R303, Table 11-1): the PHY has trained, at x8 or x4, at the rate that both ends hold. -/
def State.trained (s : State) (k : Nat) (wide fast : Bool) : State :=
  if s.bd.phase k ≠ 1 then s
  else
    let s := s.on (fun b =>
      let p := pSHL k
      let speed := fast && b.on p F.SHL_CFG.MAX_SPEED
      let b := (b.put p F.SHL_STAT.WIDTH (if wide then 8 else 4)).put p F.SHL_STAT.SPEED (bit speed)
      (b.put p F.SHL_CAUSE.NARROW (bit (!wide))).put p F.SHL_CAUSE.SLOW (bit (b.on p F.SHL_CFG.MAX_SPEED && !speed)))
    s.toPhase k 2

/-- SHL_PHASE_TIMEOUT (Table 11-1): TRAIN takes longer than 30 ms, or HELLO longer than 50 ms. -/
def State.phaseTimeout (s : State) (k : Nat) : State :=
  let ph := s.bd.phase k
  if ph ≠ 1 ∧ ph ≠ 2 then s
  else
    let s := s.on (fun b => { b with now := max b.now ((s.link k).phaseAt + (if ph = 1 then 30000 else 50000)) })
    (s.onLink k (fun l => { l with helloFailed := decide (ph = 2) })).linkGone k false 0

/-- Is the peer of HELLO one that R305 allows on link `k` of part `n`? The sides first, then the peer. -/
def miscabled (n k peer side : Nat) : Nat :=
  bit (decide (side = k)) + 2 * bit (if k = 0 then decide (peer ≠ n + 1) && decide (peer ≠ 0) else if n = 0 then decide (peer = 0) else decide (peer + 1 ≠ n))

/-- The join of a part that is no member starts with its first message (R314, R387). -/
def State.sendJoin (s : State) : State :=
  let mgr := s.bd.get pSHM F.SHM_MGR.MGR_ID
  if s.bd.manages ∨ s.bd.joined ∨ !s.bd.serves pSHM ∨ s.shelf.joins ≠ [] ∨ !(List.range 2).any (fun k => decide (3 ≤ s.bd.phase k)) then s
  else
    let x : JoinX := ⟨mgr, 0, s.bd.now, none⟩
    let s := { s.draw.2 with shelf := { s.shelf with joins := [x] } }
    (s.send 0x35 mgr [1] none).send 0x35 mgr [2] none

/-- HELLO (R305, R306): identity and cabling, then the chain, the signatures and the encapsulated key. -/
def State.hello (s : State) (k peer side : Nat) (chain sig decap : Bool) : State :=
  if s.bd.phase k ≠ 2 then s
  else
    let bad := miscabled s.bd.selfId k peer side
    let auth := bit (!chain) + 2 * bit (!sig) + 4 * bit (!decap)
    let s := s.on (fun b => b.put (pSHL k) F.SHL_STAT.PEER_ID peer)
    if bad ≠ 0 then
      let s := s.on (fun b =>
        let was := b.on (pSHL k) F.SHL_CAUSE.MISCABLE
        ((b.openCause (pSHL k) F.SHL_CAUSE.MISCABLE).raise (pSHL k) (ev E.SHL.MISCABLE bad peer side 0)).logContained was (pSHL k) E.SHL.MISCABLE peer)
      (s.onLink k (fun l => { l with helloFailed := true })).linkGone k false 0
    else if auth ≠ 0 then
      let s := s.on (fun b =>
        let was := b.on (pSHL k) F.SHL_CAUSE.AUTH_FAIL
        ((b.openCause (pSHL k) F.SHL_CAUSE.AUTH_FAIL).raise (pSHL k) (ev E.SHL.AUTH_FAIL auth peer 0 0)).logContained was (pSHL k) E.SHL.AUTH_FAIL peer)
      (s.onLink k (fun l => { l with helloFailed := true })).linkGone k false 0
    else
      let s := s.draw.2.on (fun b =>
        let p := pSHL k
        ((b.put p F.SHL_CAUSE.MISCABLE 0).put p F.SHL_CAUSE.AUTH_FAIL 0).put p F.SHL_STAT.PEER_VALID 1)
      let s := s.onLink k (fun l => { l with helloFailed := false, keys := 0 })
      let s := (s.toPhase k 3).on (fun b => b.unisolate.followShm)
      s.sendJoin

/-! ### Flits (R307) -/

/-- What the checks of a received flit give: bytes that the FEC corrected, the CRC, and the MAC of the group that it ends. -/
def State.flitRx (s : State) (k seq ack fec : Nat) (crc nak groupMac : Bool) : State :=
  if s.bd.phase k < 2 then s
  else
    let p := pSHL k
    let s := if fec = 0 then s else s.on (fun b => b.count p F.SHL_FEC_CORR.COUNT fec)
    if !crc then s.say (.flit k (s.link k).goodSeq true)
    else
      let s := s.onLink k (fun l => { l with acked := ack })
      let s := if nak then s.on (fun b => b.count p F.SHL_REPLAY.COUNT 1) else s
      if seq % 8 = 7 ∧ !groupMac then
        let fails := ((s.link k).macFails.filter (fun t => decide (s.bd.now ≤ t + 1000))) ++ [s.bd.now]
        let s := s.onLink k (fun l => { l with macFails := fails })
        let s := s.on (fun b => (b.count p F.SHL_MAC_FAIL.COUNT 1).raise p (ev E.SHL.MAC_FAIL 0 (seq / 8 * 8) (b.get p F.SHL_STAT.KEY_PHASE) 0))
        let s := s.say (.flit k (s.link k).goodSeq true)
        if fails.length < 3 then s
        else
          let s := s.on (fun b => (b.openCause p F.SHL_CAUSE.AUTH_FAIL).raise p (ev E.SHL.AUTH_FAIL 8 (b.get p F.SHL_STAT.PEER_ID) 0 0))
          (s.onLink k (fun l => { l with helloFailed := true })).linkGone k false 0
      else s.onLink k (fun l => { l with goodAt := s.bd.now, goodSeq := seq })

/-- SHL_IDLE_TIMEOUT (Table 11-1): no good flit for IDLE_US. -/
def State.idleTimeout (s : State) (k : Nat) : State :=
  if s.bd.phase k ≠ 4 then s
  else (s.on (fun b => { b with now := max b.now ((s.link k).goodAt + b.get (pSHL k) F.SHL_CFG.IDLE_US) })).toPhase k 5

/-- SHL_RECOVER_TIMEOUT (Table 11-1, R316, R322): RECOVER_US elapses; `discarded` packets were queued for the link. -/
def State.recoverTimeout (s : State) (k discarded : Nat) : State :=
  if s.bd.phase k ≠ 5 then s
  else (s.on (fun b => { b with now := max b.now ((s.link k).phaseAt + b.get (pSHL k) F.SHL_CFG.RECOVER_US) })).linkGone k true discarded

/-- SHL_RECOVERED (Table 11-1): 1 µs of good flits. -/
def State.recovered (s : State) (k : Nat) : State := if s.bd.phase k ≠ 5 then s else s.toPhase k 4

/-- SHL_LANE_FAULT (R310): the link narrows to the other half, or enters RECOVER; `stall` is the stall in ns. -/
def State.shlLaneFault (s : State) (k lane stall : Nat) : State :=
  if s.bd.phase k ≠ 4 then s
  else
    let p := pSHL k
    let lanes := nsetbit (s.bd.get p F.SHL_LANE_ERR.LANE_FAULT) lane true
    let s := s.on (fun b => b.put p F.SHL_LANE_ERR.LANE_FAULT lanes)
    if s.bd.on p F.SHL_CFG.LANE_DROP_EN ∧ (lanes % 16 = 0 ∨ lanes / 16 = 0) then
      let s := s.on (fun b => ((b.put p F.SHL_STAT.WIDTH 4).put p F.SHL_CAUSE.NARROW 1).linkUnit k true (decide (b.unit p = stCONTAINED) && decide (b.openCauses p = 0)))
      s.on (fun b => (b.raise p (ev E.SHL.LANE_DROP lane lanes stall 0)).logFault p E.SHL.LANE_DROP 7 stall lanes false)
    else s.toPhase k 5

/-! ### Keys (R308) -/

/-- A link changes its key: KEY_PHASE toggles and the age starts anew. -/
def State.rotate (s : State) (k : Nat) : State :=
  let s := s.on (fun b =>
    let p := pSHL k
    (b.put p F.SHL_STAT.KEY_PHASE (1 - b.get p F.SHL_STAT.KEY_PHASE)).count p F.SHL_KEYS.ROTATIONS 1)
  s.onLink k (fun l => { l with keyAt := s.bd.now })

/-- A link key is installed: to send (bit 0) or to receive (bit 1). A KEYED link that has both comes UP. -/
def State.installKey (s : State) (k : Nat) (send : Bool) : State :=
  if s.bd.phase k < 3 then s
  else
    let s := if send then s.rotate k else s
    let s := s.onLink k (fun l => { l with keys := Nat.lor l.keys (if send then 1 else 2) })
    if s.bd.phase k = 3 ∧ (s.link k).keys = 3 then
      let s := (s.toPhase k 4).on (fun b => b.followShm)
      s.on (fun b =>
        let p := pSHL k
        b.raise p (ev E.SHL.LINK_UP (b.get p F.SHL_STAT.WIDTH + 16 * b.get p F.SHL_STAT.SPEED) (b.get p F.SHL_STAT.PEER_ID) 0 0))
    else s

/-- The manager issues the keys of both directions of both links of a part, each wrapped under its session key. -/
def State.issueKeys (s : State) (p : Nat) : State :=
  [(0, true), (0, false), (1, true), (1, false)].foldl (fun (s : State) (x : Nat × Bool) =>
    let s := s.draw.2
    if p = s.bd.selfId then s.installKey x.1 x.2
    else s.send 0x3C p [s.bd.get pSHM F.SHM_MGR.TERM, x.1, bit x.2] none) s

/-- The parts that the manager holds a session with: members and joining parts. -/
def State.keyed (s : State) : List Nat := (List.range 32).filter (fun p => decide (smGet (fun _ => 0) s.shelf.members p = 1 ∨ smGet (fun _ => 0) s.shelf.members p = 2 ∨ smGet (fun _ => 0) s.shelf.members p = 3))

/-- LINK_KEY_TICK (R308): every 60 s the manager issues new link keys. -/
def State.linkKeyTick (s : State) : State :=
  if !s.bd.manages then s
  else
    let s := s.on (fun b => b.elapse 10 60000000)
    s.keyed.foldl (fun s p => s.issueKeys p) s

/-- LINK_KEY_SELF_DERIVE (R308): 120 s without a new key. -/
def State.selfDerive (s : State) (k : Nat) : State :=
  if !s.bd.linkUp k then s
  else (s.on (fun b => { b with now := max b.now ((s.link k).keyAt + 120000000) })).rotate k

/-! ### Packets (R309, R312) -/

/-- The units that Table 11-4 gives an opcode: least and most; none for a reserved one. -/
def packetUnits : Nat → Option (Nat × Nat)
  | 0x01 => some (1, 1) | 0x02 => some (5, 5) | 0x03 => some (6, 6) | 0x04 => some (5, 5) | 0x05 => some (6, 6) | 0x06 => some (3, 3)
  | 0x10 => some (5, 5) | 0x11 => some (1, 1) | 0x12 => some (1, 1) | 0x13 => some (1, 1) | 0x14 => some (5, 6) | 0x15 => some (1, 1)
  | 0x16 => some (2, 2) | 0x20 => some (1, 1) | 0x21 => some (1, 1) | 0x30 => some (1, 1) | 0x31 => some (1, 1) | 0x32 => some (1, 1)
  | 0x33 => some (1, 1) | 0x34 => some (3, 3) | 0x35 => some (2, 256) | 0x36 => some (2, 2) | 0x38 => some (2, 2) | 0x39 => some (1, 1)
  | 0x3A => some (1, 256) | 0x3B => some (1, 1) | 0x3C => some (5, 5) | 0x3D => some (1, 1) | 0x3E => some (4, 4) | 0x3F => some (103, 103)
  | _ => none

/-- Does a link carry a packet: one that is UP or in RECOVER carries all, a KEYED one CTRL packets alone (Table 11-1)? -/
def Board.carries (b : Board) (k op : Nat) : Bool := b.linkUp k || (decide (b.phase k = 3) && decide (0x20 ≤ op))

/-- PACKET_PASS_THROUGH (R309, R312, R322): a packet that came on link `k` leaves on the other; one that the other link cannot carry, or one addressed to this part
whose opcode or length Table 11-4 does not allow, is discarded and counted. -/
def State.passThrough (s : State) (k op src dst units : Nat) (args : List Nat) (data : Option Line) : State :=
  let ok := match packetUnits op with | some (lo, hi) => decide (lo ≤ units ∧ units ≤ hi) | none => false
  if dst = s.bd.selfId then (if ok then s else s.on (fun b => b.count (pSHL k) F.SHL_DISCARD.COUNT 1))
  else if !s.bd.carries (1 - k) op then s.on (fun b => b.count (pSHL (1 - k)) F.SHL_DISCARD.COUNT 1)
  else s.say (.ring (1 - k) op src dst args data)

end Sys2Proof.Machine
end

