-- ==== Sys2Proof/Machine/Shelf.lean ====
section
/-! DEFINITION. Membership, the manager and its deputy, joins, health and pair resync (R313 to R321, R325 to R328, R270, R339, R387). -/

namespace Sys2Proof.Machine

/-! ### Manager packets (R313) -/

/-- Some other part, not this one, is shown as manager: SHM_MGR follows, and MANAGER_CHANGE is raised when it changes. -/
def Board.setManager (b : Board) (m term : Nat) : Board :=
  let old := b.get pSHM F.SHM_MGR.MGR_ID
  let known := b.on pSHM F.SHM_MGR.MGR_VALID
  let b := ((b.put pSHM F.SHM_MGR.MGR_ID m).put pSHM F.SHM_MGR.MGR_VALID 1).put pSHM F.SHM_MGR.TERM term
  let b := if m = b.selfId then b else b.put pSHM F.SHM_SELF.MANAGER 0
  if known ∧ old ≠ m then b.raise pSHM (ev E.SHM.MANAGER_CHANGE m term old 0) else b

/-- A CTRL packet sent by a manager: one under an older TERM is discarded and counted (R313); one under a newer TERM shows its sender as manager. -/
def State.fromManager (s : State) (src term : Nat) (f : State → State) : State :=
  let cur := s.bd.get pSHM F.SHM_MGR.TERM
  if s.bd.on pSHM F.SHM_MGR.MGR_VALID ∧ serialNewer 16 cur term then s.on (fun b => b.count pSHM F.SHM_STALE_TERM.COUNT 1)
  else if s.bd.on pSHM F.SHM_MGR.MGR_VALID ∧ cur = term then f s
  else f (s.on (fun b => b.setManager src term))

/-- BEACON (R317): it refreshes the beacon timer and ends CUT. -/
def State.beacon (s : State) (src term : Nat) : State :=
  s.fromManager src term (fun s =>
    let s := { s with shelf := { s.shelf with beaconAt := s.bd.now } }
    if s.bd.on pSHM F.SHM_SELF.CUT then s.on (fun b => (b.put pSHM F.SHM_SELF.CUT 0).shmCloses 1) else s)

/-- BEACON_TICK (R317): every 2 µs the manager sends BEACON in both directions. -/
def State.beaconTick (s : State) : State :=
  if !s.bd.manages then s
  else
    let s := s.on (fun b => b.elapse 11 2)
    s.sendBoth 0x30 [s.bd.get pSHM F.SHM_MGR.TERM, s.bd.get pSHM F.SHM_MEMBERS.PARTS] none

/-- BEACON_TIMEOUT (R317): no BEACON for 16 µs, and the manager is not held FAILED. -/
def State.beaconTimeout (s : State) : State :=
  if s.bd.manages ∨ !s.bd.on pSHM F.SHM_MGR.MGR_VALID ∨ s.bd.on pSHM F.SHM_SELF.CUT ∨ nbit (s.bd.get pSHM F.SHM_FAILED.PARTS) (s.bd.get pSHM F.SHM_MGR.MGR_ID) then s
  else
    s.on (fun b =>
      let b := { b with now := max b.now (s.shelf.beaconAt + 16) }
      let was := b.partitioned
      let mem := b.get pSHM F.SHM_MEMBERS.PARTS
      (((b.put pSHM F.SHM_SELF.CUT 1).openHidden pSHM 1).raise pSHM (ev E.SHM.CUT 0 mem 0 0)).logPartition was E.SHM.CUT mem)

/-! ### What a declaration does to requests (R258, R268, R322, R325) -/

/-- The same mirrored line at the other copy. -/
def Req.other (r : Req) : Req := { r with lln := r.mirrorLln, mirrorLln := r.lln, role := 1 - r.role }

/-- A read or a reservation operation of a mirrored line goes again, to the survivor (R325). -/
def State.reissue' (s : State) (r : Req) (owner : Nat) : State :=
  let q := r.other
  let tgt := Nat.xor owner 1
  let t := s.traffic
  let s := { s with traffic := { t with flight := t.flight.filter (fun f => !(decide (f.1 = r) && decide (f.2.1 = owner))) } }
  let s := s.on (fun b => b.count pSHM F.SHM_RESEND.COUNT 1)
  let s := if oidClass r.oid = 0 ∧ r.ask = .read then
      s.onHead r.head (fun d => { d with reads := d.reads.map (fun x => if x.req.id = r.id then { x with req := q, owner := tgt } else x) })
    else s
  s.dispatch q tgt true

/-- A request to an unmirrored line of a lost part ends: a read is UNREACHABLE, RESERVE and RELEASE end DECODE, and a copy
engine hears of its write (log entry 69). Writes of heads are dropWrites'. -/
def State.endLost (s : State) (r : Req) : State :=
  match r.ask with
  | .read => s.answerRead r 0 true 4 (.decode 4)
  | .reserve | .release => s.rsvAnswer r 5 0 0
  | .write | .zeroPage => if oidClass r.oid = 0 then s else { s with home := { s.home with answers := s.home.answers ++ [⟨r.oid, r.id, 4, 0⟩] } }
  | _ => s

/-- Requests in flight to a part that is declared lost. -/
def State.dropFlight (s : State) (x : Nat) : State :=
  let mine := s.traffic.flight.filter (fun f => decide (f.2.1 = x) && s.awaits f.1)
  let s := { s with traffic := { s.traffic with flight := s.traffic.flight.filter (fun f => decide (f.2.1 ≠ x)) } }
  mine.foldl (fun (s : State) (f : Req × Nat × Bool) =>
    let r := f.1
    if r.mirror then
      match r.ask with
      | .write | .zeroPage | .poison => s
      | _ => s.reissue' r x
    else
      match r.ask with
      | .cond =>
        let h := r.head
        let l : Loss := ⟨r.hpa / 64 * 64, 1, h, r.key, x, 0, s.bd.headOid h, 0, false, r.lln⟩
        let (_, s) := s.recordLoss h l
        (s.reportLoss x (l.words ++ [l.lln])).rsvAnswer r 6 0 0
      | _ => s.endLost r) s

/-- Writes of the heads to a part that is declared lost (R268): one on an unmirrored line is LOST, under cause 0, or cause 3 where it was ticketed and is not
persistent; one on a mirrored line is DEGRADED when the surviving copy has ticketed it, and waits for the survivor otherwise. -/
def State.dropWrites (s : State) (x : Nat) : State :=
  (List.range 8).foldl (fun (s : State) h =>
    let ws := ((s.head? h).map Head.writes).getD []
    let plain := ws.filter (fun w => w.sent && decide (w.owner = x) && !w.req.mirror && !w.req.volatile && decide (w.req.ask = .write) && decide (w.res = 0))
    let open_ := plain.filter (fun w => !w.ticketed)
    let late := plain.filter (fun w => w.ticketed && !w.persistent)
    let pair := ws.filter (fun w => w.sent && w.req.mirror && decide (w.req.ask = .write) && decide (w.res = 0) && (decide (w.owner = x) || decide (w.owner = Nat.xor x 1)))
    let s := if open_ = [] then s else s.loseWrites h open_ 0 none
    let s := if late = [] then s else s.loseWrites h late 3 none
    pair.foldl (fun (s : State) (w : Wr) =>
      let leadIsLost := decide (w.owner = x)
      let role := w.req.role
      let lostRole := if leadIsLost then role else 1 - role
      let survives := if lostRole = 0 then w.tick2 else w.tick1
      s.onWrite h w.req.id (fun y =>
        let y := if lostRole = 0 then { y with durable1 := true } else { y with durable2 := true }
        if survives then { y with tick1 := true, tick2 := true, res := 1, inBuf := y.held } else y)) s) s

/-- Requests whose route has changed while their owner remains are sent again on the new route, with their old TAGs, and new ones wait behind them (R258, R322).
`before` is the link that led to each part. -/
def State.resend (s : State) (before : Nat → Nat) : State :=
  let moved := s.traffic.flight.filter (fun f => decide (f.2.1 ≠ s.bd.selfId) && s.bd.reaches f.2.1 && decide (before f.2.1 ≠ s.bd.linkTo f.2.1) && s.awaits f.1)
  let s := moved.foldl (fun (s : State) (f : Req × Nat × Bool) => (s.on (fun b => b.count pSHM F.SHM_RESEND.COUNT 1)).sendReq f.1 f.2.1 f.2.2) s
  let owners := moved.foldl (fun (l : List Nat) (f : Req × Nat × Bool) => nsInsert f.2.1 l) []
  let routes := owners.map (fun p => (p, (moved.filter (fun (f : Req × Nat × Bool) => decide (f.2.1 = p))).map (fun (f : Req × Nat × Bool) => (f.1.oid, f.1.id))))
  { s with traffic := { s.traffic with routes := s.traffic.routes.filter (fun t => !(owners.any (fun p => decide (p = t.1)))) ++ routes } }

/-! ### MEMBER (R318, R325, R326) -/

/-- The pair follows a member's new state. `solo`: the partner of this rejoining part serves the pair alone; `extents`: the extents of the pair with the partner's local
extents, as the manager's shelf map gives them (local × 2^16 + partner's). -/
def State.followPair (s : State) (part st : Nat) (solo : Bool) (extents : List Nat) : State :=
  let now := s.bd.pairState
  let set := fun (s : State) (n : Nat) => s.on (fun b => (b.put pSHM F.SHM_PAIR.STATE n).put pSHM F.SHM_PAIR.PARTNER (if n = 0 then 0 else b.partner))
  if part = s.bd.partner then
    match st with
    | 1 | 2 =>
      if now = 2 then
        let xs := if s.bd.partner ∈ s.shelf.left then extents.filter (fun x => decide (x / 2 ^ 16 ∈ s.shelf.solo)) else extents
        let s := { s with shelf := { s.shelf with resync := xs, resyncAt := s.bd.now, left := nsErase s.bd.partner s.shelf.left, solo := [] } }
        (set s 4).on (fun b => (b.put pSHM F.SHM_RESYNC.LEFT xs.length).put pSHM F.SHM_RESYNC.DONE 0)
      else if now = 0 ∧ st = 2 ∧ s.bd.joined then set s 1
      else s
    | 4 | 5 => if now = 0 ∨ now = 2 then s else (set s 2).enterSolo true
    | 0 => if now = 1 then { (set s 2).enterSolo false with shelf := { ((set s 2).enterSolo false).shelf with left := nsInsert s.bd.partner s.shelf.left } } else s
    | _ => s
  else if part = s.bd.selfId then
    match st with
    | 1 => if solo then set s 5 else s
    | 2 =>
      if now = 0 ∨ now = 3 then
        if solo then set s 5
        else if nbit (s.bd.get pSHM F.SHM_MEMBERS.PARTS) s.bd.partner then set s 1
        else set s 0
      else s
    | _ => s
  else s

/-- A declaration is applied (R316, R318): the part's new state, the three bitmaps, SHM_TOPO, and `lag`, the time from the last flit to the declaration in µs. -/
def State.applyMember (s : State) (part st topo members failed unreach lag : Nat) (solo : Bool) (extents : List Nat) : State :=
  let before := fun p => s.bd.linkTo p
  let old := s.member part
  let topo0 := (s.bd.rd pSHM 0x054).toNat
  let apart := s.bd.partitioned
  let s := { s with shelf := { s.shelf with members := smSet (fun _ => 0) part st s.shelf.members } }
  let lost := decide (st = 4 ∨ st = 5) && decide (old ≠ st)
  let s := s.on (fun b =>
    let b := ((b.put pSHM F.SHM_MEMBERS.PARTS members).put pSHM F.SHM_FAILED.PARTS failed).put pSHM F.SHM_UNREACH.PARTS unreach
    let b := (b.put pSHM F.SHM_SELF.COUNT (popcount members 32)).wr pSHM 0x054 (BitVec.ofNat 32 topo)
    if lost ∨ topo ≠ topo0 then b.count pSHM F.SHM_DECLARE.COUNT 1 else b)
  let s := s.followPair part st solo extents
  let s := s.on (fun b => b.followShm)
  let s := s.on (fun b =>
    let e1 := if st = 2 ∧ old ≠ 2 then [ev E.SHM.MEMBER_JOINED part members (b.get pSHM F.SHM_MGR.TERM) 0] else []
    let e2 := if lost then [ev E.SHM.MEMBER_FAILED (part + 32 * bit (decide (st = 5))) failed lag 0] else []
    let e3 := if topo ≠ topo0 then [ev E.SHM.TOPOLOGY (topo % 4) topo 0 0] else []
    let b := (e1 ++ e2 ++ e3).foldl (fun b e => b.raise pSHM e) b
    let b := if lost ∧ st = 4 ∧ nbit failed (Nat.xor part 1) then b.logFault pSHM E.SHM.MEMBER_FAILED 13 0 failed false else b
    if b.partitioned then b.logPartition apart E.SHM.TOPOLOGY topo else b)
  let s := if lost ∧ part ≠ s.bd.selfId then (s.dropWrites part).dropFlight part else s
  let s := s.resend before
  if part = s.bd.selfId ∧ st = 2 then { s with shelf := { s.shelf with joins := s.shelf.joins.filter (fun x => decide (4 ≤ x.step)) } } else s

/-- MEMBER (R318): a declaration of the manager arrives. -/
def State.memberPacket (s : State) (src term part st topo members failed unreach lag : Nat) (solo : Bool) (extents : List Nat) : State :=
  s.fromManager src term (fun s => s.applyMember part st topo members failed unreach lag solo extents)

/-! ### Declarations of the manager (R316, R318) -/

/-- The breaks that SHM_TOPO shows, by the part whose EAST link is broken. -/
def Board.breaks (b : Board) : List Nat := (List.range 32).filter b.broken

/-- SHM_TOPO for some breaks and the parts lost with them. -/
def topoWord (breaks : List Nat) (split : Bool) : Nat :=
  let one := fun (k : Nat) => match breaks[k]? with | some n => n * 4 + 128 | none => 0
  (if breaks = [] then 0 else if split then 2 else 1) + one 0 + one 1 * 64

/-- Announces a part's state: MEMBER leaves in both directions, and the view of this part changes with it. -/
def State.announce (s : State) (part st topo members failed unreach : Nat) : State :=
  let s := s.sendBoth 0x34 [s.bd.get pSHM F.SHM_MGR.TERM, part, st, topo, members, failed, unreach] none
  s.applyMember part st topo members failed unreach 0 false []

/-- The manager declares parts FAILED and links broken; parts that it can no longer reach become PARTITIONED (R318). -/
def State.declare (s : State) (failedPart : Option Nat) (links : List Nat) : State :=
  let n := s.bd.shelfSize
  let breaks := links.foldl (fun l x => nsInsert (x % n) l) s.bd.breaks
  let failed := match failedPart with | some p => nsetbit (s.bd.get pSHM F.SHM_FAILED.PARTS) p true | none => s.bd.get pSHM F.SHM_FAILED.PARTS
  let mem0 := match failedPart with | some p => nsetbit (s.bd.get pSHM F.SHM_MEMBERS.PARTS) p false | none => s.bd.get pSHM F.SHM_MEMBERS.PARTS
  let self := s.bd.selfId
  let east := fun (p : Nat) => (List.range ((p + n - self) % n)).all (fun k => decide ((self + k) % n ∉ breaks))
  let west := fun (p : Nat) => (List.range ((self + n - p) % n)).all (fun k => decide ((p + k) % n ∉ breaks))
  let cut := (bitList mem0 32).filter (fun p => decide (p ≠ self) && !east p && !west p)
  let members := cut.foldl (fun m p => nsetbit m p false) mem0
  let unreach := cut.foldl (fun m p => nsetbit m p true) (s.bd.get pSHM F.SHM_UNREACH.PARTS)
  let topo := topoWord breaks (decide (cut ≠ []) || decide (unreach ≠ 0))
  let s := match failedPart with | some p => s.announce p 4 topo members failed unreach | none => s
  let s := if failedPart.isNone ∧ cut = [] then s.announce self 2 topo members failed unreach else s
  cut.foldl (fun s p => s.announce p 5 topo members failed unreach) s

/-- Does this part decide about a lost peer: the manager does, and the deputy when the peer is the manager? -/
def Board.decides (b : Board) (peer : Nat) : Bool :=
  b.manages || (b.on pSHM F.SHM_SELF.DEPUTY && decide (peer = b.get pSHM F.SHM_MGR.MGR_ID))

/-- The link that a report names, by the part whose EAST link it is. -/
def reportLink (n part side : Nat) : Nat := if side = 0 then part else (part + n - 1) % n

/-- DOWN_REPORT (R316): a failure is declared once both links of a part are reported by its neighbours, a break once both ends of a link report it, and a silent end is FAILED
at once where no other route to it exists. -/
def State.downReport (s : State) (part side peer : Nat) : State :=
  if !s.bd.decides peer then s
  else
    let n := s.bd.shelfSize
    let downs := s.shelf.downs.filter (fun d => !(decide (d.1 = part) && decide (d.2.1 = side))) ++ [(part, side, s.bd.now)]
    let s := { s with shelf := { s.shelf with downs := downs } }
    let reported := fun (p sd : Nat) => downs.any (fun d => decide (d.1 = p) && decide (d.2.1 = sd))
    let link := reportLink n part side
    let forget := fun (s : State) (ls : List Nat) => { s with shelf := { s.shelf with
      downs := s.shelf.downs.filter (fun d => !(ls.any (fun l => decide (l = reportLink n d.1 d.2.1)))) } }
    if reported ((peer + n - 1) % n) 0 ∧ reported ((peer + 1) % n) 1 ∧ 2 < n then
      forget (s.declare (some peer) [(peer + n - 1) % n, peer]) [(peer + n - 1) % n, peer]
    else if reported link 0 ∧ reported ((link + 1) % n) 1 then forget (s.declare none [link]) [link]
    else if !(s.bd.breaks.any (fun l => decide (l = link))) && !s.bd.breaks.isEmpty then forget (s.declare (some peer) [link]) [link]
    else s

/-- DOWN_REPORT_WINDOW (R316): 1 µs after the first report of link `link`, its silent end is probed on the other route. -/
def State.downWindow (s : State) (link : Nat) : State :=
  let n := s.bd.shelfSize
  match s.shelf.downs.find? (fun d => decide (reportLink n d.1 d.2.1 = link)) with
  | none => s
  | some (part, side, t) =>
    let silent := if side = 0 then (part + 1) % n else (part + n - 1) % n
    if !s.bd.decides silent ∨ s.shelf.probes.any (fun p => decide (p.1 = silent)) then s
    else
      let s := s.on (fun b => { b with now := max b.now (t + 1) })
      let viaEast := (List.range (s.bd.hopsEast silent)).all (fun k => decide ((s.bd.selfId + k) % n ≠ link))
      let s := { s with shelf := { s.shelf with probes := s.shelf.probes ++ [(silent, link, s.bd.now)] } }
      s.say (.ring (if viaEast then 0 else 1) 0x32 s.bd.selfId silent [s.bd.get pSHM F.SHM_MGR.TERM, silent] none)

/-- Drops a probe and the reports of its link. -/
def State.endProbe (s : State) (part link : Nat) : State :=
  let n := s.bd.shelfSize
  { s with shelf := { s.shelf with
    probes := s.shelf.probes.filter (fun p => decide (p.1 ≠ part))
    downs := s.shelf.downs.filter (fun d => decide (reportLink n d.1 d.2.1 ≠ link)) } }

/-- PROBE_RSP (R316): an answer in time records a break. -/
def State.probeRsp (s : State) (part : Nat) : State :=
  match s.shelf.probes.find? (fun p => decide (p.1 = part)) with
  | none => s
  | some (_, link, _) => (s.declare none [link]).endProbe part link

/-- PROBE_TIMEOUT (R316): no answer within 2 × hops × 180 ns + 1 µs declares the silent end FAILED. -/
def State.probeTimeout (s : State) (part : Nat) : State :=
  match s.shelf.probes.find? (fun p => decide (p.1 = part)) with
  | none => s
  | some (_, link, t) =>
    let n := s.bd.shelfSize
    let hops := max (s.bd.hopsEast part) (n - s.bd.hopsEast part)
    let s := s.on (fun b => { b with now := max b.now (t + ceilDiv (2 * hops * 180 + 1000) 1000) })
    (s.declare (some part) [link]).endProbe part link

/-- SHELF_PROBE (R316): a PROBE reaches this part on link `k`, and PROBE_RSP leaves on the route that it came by. -/
def State.shelfProbe (s : State) (k src term : Nat) : State :=
  s.fromManager src term (fun s => s.say (.ring k 0x33 s.bd.selfId src [s.bd.selfId] none))

/-! ### The manager's state (R319, R321) -/

/-- A change of the manager's state is made. -/
def State.applySync (s : State) : Sync → State
  | .member p st => { s with shelf := { s.shelf with members := smSet (fun _ => 0) p st s.shelf.members } }
  | .term t => s.on (fun b => b.put pSHM F.SHM_MGR.TERM t)
  | .nextSxn x => { s with shelf := { s.shelf with nextSxn := x } }
  | .grant x p h ws k hint st =>
    let old := s.shelf.grants.find? (fun g => decide (g.sxn = x))
    let g : Grant := ⟨x, p, h, ws, (old.map Grant.owners).getD [], k, hint, st⟩
    { s with shelf := { s.shelf with grants := s.shelf.grants.filter (fun g => decide (g.sxn ≠ x)) ++ (if st = 0 then [] else [g]) } }
  | .owner x p l role =>
    { s with shelf := { s.shelf with grants := s.shelf.grants.map (fun (g : Grant) => if g.sxn = x then { g with owners := g.owners ++ [(p, l, role)] } else g) } }
  | .loss o ws => { s with shelf := { s.shelf with owed := s.shelf.owed ++ [(o, ws)] } }
  | .lossGone o => { s with shelf := { s.shelf with owed := s.shelf.owed.filter (fun x => decide (x.1 ≠ o)) } }
  | .health p ws =>
    let h : MemberHealth := ⟨ws, s.bd.now, false⟩
    { s with shelf := { s.shelf with health := smPut p h s.shelf.health } }
  | .duties => s

/-- The local extents that an owner of a grant gives to it: the first, and how many. -/
def Grant.span (g : Grant) : Nat := g.words.getD 3 0 / (g.words.getD 1 0 % 16 + 1)

/-- The HXT write that puts a grant's entry in a state. -/
def Grant.hxtWrite (g : Grant) (st : Nat) : Nat × Nat × Nat × List Nat :=
  (g.part, 0, g.hxt, [g.words.getD 0 0 / 4 * 4 + st, g.words.getD 1 0, g.words.getD 2 0, g.words.getD 3 0])

/-- The LXT writes that put a grant's local extents in a state. -/
def Grant.lxtWrites (g : Grant) (st : Nat) : List (Nat × Nat × Nat × List Nat) :=
  g.owners.flatMap (fun (o : Nat × Nat × Nat) => (List.range g.span).map (fun i => (o.1, 2, o.2.1 + i, Lxt.words ⟨st, o.2.2, g.key, g.hint, g.sxn⟩)))

/-- The table writes that take a revoked grant back: its HXT entry, RELEASING or, where it was only offered, FREE; its local extents ERASING. -/
def Grant.revoked (g : Grant) : List (Nat × Nat × Nat × List Nat) := [g.hxtWrite 3, g.hxtWrite 0] ++ g.lxtWrites 2

/-- A manager changes its state: at once where there is no deputy, or when SYNC_ACK returns (R319). -/
def State.change (s : State) (c : Sync) : State :=
  match s.bd.deputyId with
  | none => s.applySync c
  | some d =>
    if d = s.bd.selfId then s.applySync c
    else { s.say (.ring (s.bd.linkTo d) 0x3A s.bd.selfId d [s.bd.get pSHM F.SHM_MGR.TERM] none) with shelf := { s.shelf with syncs := s.shelf.syncs ++ [c] } }

/-- SYNC_ACK (R319): the oldest change takes effect. -/
def State.syncAck (s : State) : State :=
  match s.shelf.syncs with
  | [] => s
  | c :: rest => ({ s with shelf := { s.shelf with syncs := rest } }).applySync c

/-- This part takes manager duties under a new TERM, which the parameter store keeps (R319, R320, R387). -/
def State.takeDuties (s : State) : State :=
  let term := (s.bd.get pSHM F.SHM_MGR.TERM + 1) % 2 ^ 16
  let s := s.storeWords 8 [term]
  let self := s.bd.selfId
  s.on (fun b =>
    let b := (b.setManager self term).put pSHM F.SHM_SELF.MANAGER 1
    b.put pSHM F.SHM_SELF.DEPUTY 0)

/-- MGR_SYNC (R319, R321): a change of the manager's state reaches the deputy, which answers SYNC_ACK; `duties` passes the manager's duties to this part. -/
def State.mgrSync (s : State) (src term : Nat) (c : Sync) : State :=
  s.fromManager src term (fun s =>
    let s := (s.applySync c).send 0x3B src [term] none
    if c = .duties then
      let s := s.takeDuties
      s.announce s.bd.selfId 2 (s.bd.rd pSHM 0x054).toNat (s.bd.get pSHM F.SHM_MEMBERS.PARTS) (s.bd.get pSHM F.SHM_FAILED.PARTS) (s.bd.get pSHM F.SHM_UNREACH.PARTS)
    else s)

/-- The loss records that wait go out: to their owner where this part manages, or to the manager that is known (R270). -/
def State.sendOwed (s : State) : State :=
  let known := s.bd.on pSHM F.SHM_MGR.MGR_VALID && decide (s.bd.get pSHM F.SHM_MGR.MGR_ID ≠ s.bd.selfId)
  let go := fun (x : Nat × List Nat) => if s.bd.manages then s.bd.reaches x.1 else known
  let now := s.shelf.owed.filter go
  if now = [] then s
  else
    let s := { s with shelf := { s.shelf with owed := s.shelf.owed.filter (fun x => !go x) } }
    now.foldl (fun (s : State) (x : Nat × List Nat) => s.reportLoss x.1 x.2) s

/-- LOSS_REC (R270): a loss record reaches the manager, or the owner, which poisons the lines. -/
def State.lossRec (s : State) (ws : List Nat) : State :=
  let owner := ws.getD 2 0 / 2 ^ 24 % 32
  if owner = s.bd.selfId ∨ s.bd.manages then s.deliverLoss owner ws else s

/-- MANAGER_TAKEOVER (R320, Table 11-6): the deputy has stored TERM + 1 after it held the manager FAILED; it sends MEMBER and BEACON, re-keys the links and sends
loss records on. -/
def State.takeover (s : State) : State :=
  if !s.bd.on pSHM F.SHM_SELF.DEPUTY ∨ !nbit (s.bd.get pSHM F.SHM_FAILED.PARTS) (s.bd.get pSHM F.SHM_MGR.MGR_ID) then s
  else
    let s := s.takeDuties
    let s := s.announce s.bd.selfId 2 (s.bd.rd pSHM 0x054).toNat (s.bd.get pSHM F.SHM_MEMBERS.PARTS) (s.bd.get pSHM F.SHM_FAILED.PARTS) (s.bd.get pSHM F.SHM_UNREACH.PARTS)
    let s := s.sendBoth 0x30 [s.bd.get pSHM F.SHM_MGR.TERM, s.bd.get pSHM F.SHM_MEMBERS.PARTS] none
    let s := s.keyed.foldl (fun s p => s.issueKeys p) s
    s.sendOwed.on (fun b => b.followShm)

/-- MANAGER_CLAIM (R387): a part strapped ROLE = 1 with shelf ID 0 and no answer to its JOIN takes manager duties, and announces itself MEMBER. -/
def State.claimDuties (s : State) : State :=
  if !s.bd.on pSHM F.SHM_SELF.ROLE ∨ s.bd.selfId ≠ 0 ∨ s.bd.joined ∨ !s.bd.serves pSHM then s
  else
    let since := ((s.shelf.joins[0]?).map (fun x => x.since + 50000)).getD 0
    let s := s.on (fun b => { b with now := max b.now since })
    let s := ({ s with shelf := { s.shelf with joins := [] } }).takeDuties
    let s := s.announce 0 2 (s.bd.rd pSHM 0x054).toNat (nsetbit (s.bd.get pSHM F.SHM_MEMBERS.PARTS) 0 true) (nsetbit (s.bd.get pSHM F.SHM_FAILED.PARTS) 0 false) (s.bd.get pSHM F.SHM_UNREACH.PARTS)
    s.issueKeys 0

/-! ### Joining (R314, R315) -/

/-- A complete join message. At the joining part: the manager's CHAIN, CT and SIG, then ACCEPT or REFUSE. At the manager: CHAIN and EK, then SIG. `valid`: its chain
and signature check, `cabled`: the members and the joining part hold consecutive IDs in a ring from 0 (R314). -/
def State.joinMessage (s : State) (x : JoinX) (msg : Nat) (bytes : List Byte) (valid cabled : Bool) : State :=
  let keep := fun (s : State) (y : Option JoinX) => { s with shelf := { s.shelf with joins := (s.shelf.joins.filter (fun z => decide (z.peer ≠ x.peer))) ++ y.toList } }
  let next := keep s (some { x with step := x.step + 1, part := none })
  match x.step, msg with
  | 0, 1 | 1, 3 => if valid then next else keep s none
  | 2, 4 => if valid then next.send 0x35 x.peer [4] none else keep s none
  | 3, 5 => (keep s none).on (fun b => b.shmCloses 3)
  | 3, 6 =>
    let reason := (bytes.headD 0).toNat % 4
    (keep s none).on (fun b =>
      let was := nbit (smGet (fun _ => 0) b.causes pSHM) 3
      ((b.openHidden pSHM 3).raiseCode pSHM .conflict (ev E.SHM.JOIN_REFUSED reason x.peer (b.get pSHM F.SHM_MEMBERS.PARTS) 0)).logContained was pSHM E.SHM.JOIN_REFUSED x.peer)
  | 10, 1 => if valid then next else keep s none
  | 11, 2 => ((next.draw.2.send 0x35 x.peer [1] none).send 0x35 x.peer [3] none).send 0x35 x.peer [4] none
  | 12, 4 =>
    if !valid then keep s none
    else
      let taken := decide (s.member x.peer = 2) || decide (s.member x.peer = 1) || decide (x.peer = s.bd.selfId)
      if taken ∨ !cabled then (keep s none).send 0x35 x.peer [6, if taken then 0 else 1] none
      else
        let s := (keep s none).send 0x35 x.peer [5] none
        let word := (s.bd.rd pSHM 0x054).toNat
        let mem := s.bd.get pSHM F.SHM_MEMBERS.PARTS
        let failed := nsetbit (s.bd.get pSHM F.SHM_FAILED.PARTS) x.peer false
        let unreach := nsetbit (s.bd.get pSHM F.SHM_UNREACH.PARTS) x.peer false
        let n := max s.bd.shelfSize (x.peer + 1)
        let back := s.bd.breaks.filter (fun l => decide (l ≠ x.peer) && decide (l ≠ (x.peer + n - 1) % n))
        let topo := if s.member x.peer = 0 then word else topoWord back (decide (unreach ≠ 0))
        let s := s.announce x.peer 1 topo mem failed unreach
        let s := (s.issueKeys x.peer).sendOwed
        let s := if s.bd.on pRTM F.RTM_STAT.VALID then s.send 0x3D x.peer [s.bd.rtBase + 1000] none else s
        let gone := s.shelf.grants.filter (fun g => decide (g.state = 2) && (decide (g.part = x.peer) || g.owners.any (fun o => decide (o.1 = x.peer))))
        let s := gone.foldl (fun (s : State) g => (g.revoked.filter (fun (w : Nat × Nat × Nat × List Nat) => decide (w.1 = x.peer))).foldl
          (fun (s : State) (w : Nat × Nat × Nat × List Nat) => s.send 0x38 x.peer ([s.bd.get pSHM F.SHM_MGR.TERM, w.2.1, w.2.2.1] ++ w.2.2.2) none) s) s
        let s := (s.announce x.peer 2 topo (nsetbit mem x.peer true) failed unreach)
        s.change (.member x.peer 2)
  | _, _ => s

/-- JOIN (R315): a fragment arrives on link `k`; a message that is whole advances the exchange. -/
def State.joinPacket (s : State) (k peer msg frag last total : Nat) (bytes : List Byte) (valid cabled : Bool) : State :=
  let discard := fun (s : State) => s.on (fun b => b.count (pSHL k) F.SHL_DISCARD.COUNT 1)
  let fresh : JoinX := ⟨peer, 10, s.bd.now, none⟩
  let known := s.shelf.joins.find? (fun x => decide (x.peer = peer))
  match (match known with | some x => some x | none => if s.bd.manages ∧ msg = 1 then some fresh else none) with
  | none => s
  | some x =>
    let put := fun (s : State) (y : JoinX) => { s with shelf := { s.shelf with joins := s.shelf.joins.filter (fun z => decide (z.peer ≠ peer)) ++ [y] } }
    let part : JoinMsg := match x.part with | some m => m | none => ⟨msg, last, total, 0, []⟩
    let full := decide (frag = last) || decide (bytes.length = 4080)
    let whole := part.bytes ++ bytes
    if msg = 0 ∨ 6 < msg ∨ frag ≠ part.next ∨ msg ≠ part.msg ∨ last ≠ part.last ∨ total ≠ part.total ∨ 65536 < total ∨ bytes = [] ∨ 4080 < bytes.length ∨ !full
        ∨ total ≠ last * 4080 + (if frag = last then bytes.length else total - last * 4080) then
      discard (put s { x with part := none })
    else if frag < last then put s { x with part := some { part with next := frag + 1, bytes := whole } }
    else (put s { x with part := none }).joinMessage { x with part := none } msg whole valid cabled

/-- JOIN_TIMEOUT (R315): an exchange not complete within 100 ms is abandoned, and the joining part starts again. -/
def State.joinTimeout (s : State) (peer : Nat) : State :=
  match s.shelf.joins.find? (fun x => decide (x.peer = peer)) with
  | none => s
  | some x =>
    let s := s.on (fun b => { b with now := max b.now (x.since + 100000) })
    let s := { s with shelf := { s.shelf with joins := s.shelf.joins.filter (fun z => decide (z.peer ≠ peer)) } }
    if x.step < 10 then s.sendJoin else s

/-! ### Other manager packets -/

/-- TBL_WRITE (R321): an XTN table access of the manager, written or read as XTN_ACC_CMD does, and its RESULT. -/
def State.tblWrite (s : State) (src term table index : Nat) (write : Bool) (d0 d1 d2 d3 : Nat) : State :=
  s.fromManager src term (fun s =>
    let (c, s) := if write then s.tableWrite table index d0 d1 d2 d3 else ((s.tableRead table index).1, s)
    s.send 0x39 src [c.num] none)

/-- TBL_RSP (R321): the result of a table access returns to the manager. -/
def State.tblRsp (s : State) (src result : Nat) : State :=
  match s.shelf.tables.find? (fun t => decide (t.1 = src) && decide (t.2 = 0x100)) with
  | none => s
  | some t => { s with shelf := { s.shelf with tables := (s.shelf.tables.erase t) ++ (if result = 0 then [] else [(src, result)]) } }

/-- KEY_ISSUE (R308): a wrapped link key of link `k` arrives, to send or to receive. -/
def State.keyIssue (s : State) (src term k : Nat) (send unwraps : Bool) : State :=
  s.fromManager src term (fun s => if unwraps then s.installKey k send else s)

/-- RTIME (R339): a value more than 900 µs after the part's own boundary is discarded and counted. -/
def State.rtime (s : State) (src term v : Nat) : State :=
  s.fromManager src term (fun s =>
    if 900 < s.bd.now - s.bd.rtAt then s.on (fun b => b.count pRTM F.RTM_IGNORED.COUNT 1)
    else (s.deliver (v % 2 ^ 64) true).2)

/-- KEY_BLOB (R281, R321): an import blob that the manager forwards: for slot `k`, with the seed that it unwraps to. -/
def State.keyBlob (s : State) (src term k : Nat) (seed : Option Nat) : State :=
  s.fromManager src term (fun s =>
    if s.bd.on pKEY F.KEY_STAT.BUSY then s
    else (s.on (fun b => ((b.put pKEY F.KEY_CMD.OP 1).put pKEY F.KEY_CMD.SLOT k).put pKEY F.KEY_STAT.BUSY 1)).importSeed k seed)

/-! ### Health (R328) -/

/-- How bad a unit state is, for the worst of a part (log entry 72). -/
def stateRank (st : Nat) : Nat :=
  match st with
  | 2 => 1 | 3 => 2 | 1 => 3 | 6 => 4 | 4 => 5 | 5 => 6
  | _ => 0

/-- The worst unit state of the part. -/
def Board.worstState (b : Board) : Nat :=
  (allPages.map b.unit).foldl (fun w st => if stateRank w < stateRank st then st else w) 0

/-- The summary of R328: worst state, SPARE_PCT, LIFE_PCT, HLT_GRANTABLE, ACTIVE local extents, die and media peak. -/
def State.healthWords (s : State) : List Nat :=
  let b := s.bd
  [b.worstState, b.get pHLT F.HLT_STATUS.SPARE_PCT, b.get pHLT F.HLT_STATUS.LIFE_PCT, b.get pHLT F.HLT_GRANTABLE.EXTENTS,
    (s.xtn.lxt.filter (fun (e : Nat × Lxt) => decide (e.2.st = 1))).length, b.get pHLT F.HLT_TEMP_PEAK.DIE, b.get pHLT F.HLT_TEMP_PEAK.MEDIA]

/-- A member's summary enters the manager's table. -/
def State.healthPacket (s : State) (src : Nat) (ws : List Nat) : State :=
  if !s.bd.manages then s
  else
    let h : MemberHealth := ⟨ws, s.bd.now, false⟩
    { s with shelf := { s.shelf with health := smPut src h s.shelf.health } }

/-- HEALTH_TICK (R328): once a second. -/
def State.healthTick (s : State) : State :=
  if !s.bd.joined then s
  else
    let s := s.on (fun b => b.elapse 12 1000000)
    if s.bd.manages then s.healthPacket s.bd.selfId s.healthWords
    else if s.bd.on pSHM F.SHM_MGR.MGR_VALID then s.send 0x3E (s.bd.get pSHM F.SHM_MGR.MGR_ID) s.healthWords none
    else s

/-- HEALTH_STALE (R328): a member's last report is 3 s old. -/
def State.healthStale (s : State) (p : Nat) : State :=
  match smFind p s.shelf.health with
  | none => s
  | some h =>
    if !s.bd.manages ∨ h.told then s
    else
      let s := s.on (fun b => { b with now := max b.now (h.since + 3000000) })
      let told : MemberHealth := { h with told := true }
      let s := { s with shelf := { s.shelf with health := smPut p told s.shelf.health } }
      s.on (fun b => b.raise pSHM (ev E.SHM.HEALTH_STALE p (min 0xFFFF ((b.now - h.since) / 1000)) 0 0))

/-! ### SHM_CMD (R321, R326, R327) -/

/-- The RESULT of a command of SHM_CMD. -/
def Board.shmResult (b : Board) (op : Nat) (c : Code) : Board := (b.put pSHM F.SHM_CMD.OP op).put pSHM F.SHM_CMD.RESULT c.num

/-- LEAVE (R327): `plain` when the shelf map shows an ACTIVE unmirrored entry of this part's LXT. -/
def State.leave (s : State) (p : Path) (plain : Bool) : State :=
  s.written p pSHM 0x060 true false (fun s =>
    let alone := decide (s.member s.bd.partner ≠ 2) || !nbit (s.bd.get pSHM F.SHM_MEMBERS.PARTS) s.bd.partner
    let active := s.xtn.lxt.any (fun (e : Nat × Lxt) => decide (e.2.st = 1))
    if s.bd.manages ∨ alone ∨ (plain ∧ active) then s.on (fun b => b.shmResult 1 .conflict)
    else
      let self := s.bd.selfId
      let mem := nsetbit (s.bd.get pSHM F.SHM_MEMBERS.PARTS) self false
      let s := s.on (fun b => b.put pSHM F.SHM_PAIR.STATE 3)
      let s := s.sendBoth 0x34 [s.bd.get pSHM F.SHM_MGR.TERM, self, 0, (s.bd.rd pSHM 0x054).toNat, mem, s.bd.get pSHM F.SHM_FAILED.PARTS, s.bd.get pSHM F.SHM_UNREACH.PARTS] none
      let s := { s with shelf := { s.shelf with members := smSet (fun _ => 0) self 0 s.shelf.members } }
      let s := s.on (fun b => (b.put pSHM F.SHM_MEMBERS.PARTS mem).put pSHM F.SHM_SELF.COUNT (popcount mem 32))
      let s := (List.range 2).foldl (fun (s : State) k => if s.bd.linkUp k then (s.onLink k (fun l => { l with keys := 0 })).toPhase k 3 else s) s
      s.on (fun b => (b.shmResult 1 .ok).followShm))

/-- HANDBACK (R321): the manager passes its duties to the strapped part, shelf ID 0. -/
def State.handback (s : State) (p : Path) : State :=
  s.written p pSHM 0x060 true false (fun s =>
    if !s.bd.manages ∨ !nbit (s.bd.get pSHM F.SHM_MEMBERS.PARTS) 0 then s.on (fun b => b.shmResult 2 .conflict)
    else if s.bd.selfId = 0 then s.on (fun b => b.shmResult 2 .ok)
    else
      let s := s.say (.ring (s.bd.linkTo 0) 0x3A s.bd.selfId 0 [s.bd.get pSHM F.SHM_MGR.TERM, 1] none)
      s.on (fun b => ((b.shmResult 2 .ok).setManager 0 (b.get pSHM F.SHM_MGR.TERM)).followShm))

/-- The content of a line as the lead reads it for resync: its data, or poison (R326). -/
def State.resyncLine (s : State) (lln : Nat) : Option Line × State :=
  let e := s.mapEntry (lln / 64)
  let key := s.homeKey (lln / 64)
  if e.poison ∨ s.poisoned lln then (none, s)
  else match s.lineHeld lln with
    | some d => (some d, s)
    | none =>
      if s.readsZero lln then (some 0, s)
      else
        let (ppa, frame, pseq) := match s.slotOf lln with
          | some x => (x.loc, x.pslot, x.pseq)
          | none => (e.ppa, lln % 64, 0)
        match s.readLine ppa frame lln e.gen key pseq with
        | (some f, s) => (some f.data, s)
        | (none, s) => (none, s)

/-- Copies a pair extent to the partner: each line goes as MWR_M, ordered by MON among host writes (R326). -/
def State.resyncExtent (s : State) (x : Nat) : State :=
  let lxn := x / 2 ^ 16
  let mir := x % 2 ^ 16
  let e := s.lxt lxn
  (List.range (2 ^ 22)).foldl (fun (s : State) i =>
    let lln := lxn * 2 ^ 22 + i
    let (d, s) := s.resyncLine lln
    let tag := s.home.nextId
    let r : Req := { ringReq .write (oidOf s.bd.selfId 4 0) tag e.role lln e.key e.sxn (some (mir * 2 ^ 22 + i)) (d.getD Sys2Proof.Machine.poisonLine) allBytes d.isNone with hpa := 0 }
    let s := { s with home := { s.home with nextId := tag + 1 } }
    let s := s.send 0x04 s.bd.partner [r.oid, tag % 2 ^ 16, 1 - r.role, r.mirrorLln, r.key, r.sxn, r.mask, bit d.isNone] (some r.data)
    s.order r r.data d.isNone) s

/-- RESYNC_DONE (R326): the next extent of a resync is copied; after the last, the pair passes through HANDBACK, waits for its outstanding ORDER_ACKs and is NORMAL. -/
def State.resyncDone (s : State) : State :=
  match s.bd.pairState with
  | 4 =>
    match s.shelf.resync with
    | [] => s.on (fun b => b.put pSHM F.SHM_PAIR.STATE 6)
    | x :: rest =>
      let s := ({ s with shelf := { s.shelf with resync := rest } }).resyncExtent x
      s.on (fun b =>
        let b := (b.put pSHM F.SHM_RESYNC.LEFT rest.length).put pSHM F.SHM_RESYNC.DONE (b.get pSHM F.SHM_RESYNC.DONE + 1)
        if rest = [] then b.put pSHM F.SHM_PAIR.STATE 6 else b)
  | 6 =>
    if s.home.mirror.waits ≠ [] then s
    else s.on (fun b =>
      let b := (b.put pSHM F.SHM_PAIR.STATE 1).followShm
      b.raise pSHM (ev E.SHM.RESYNC_DONE b.partner (b.get pSHM F.SHM_RESYNC.DONE) ((b.now - s.shelf.resyncAt) / 1000000) 0))
  | 5 => s.on (fun b => (b.put pSHM F.SHM_PAIR.STATE 1).followShm)
  | _ => s

end Sys2Proof.Machine
end

