-- ==== Sys2Proof/Machine/Drain.lean ====
section
/-! DEFINITION. Cowslip: the dirty region map, the persistence ledger, the order of the power-fail drain and what a loss of power takes with it
(chapter *Power domains, sequencing and power-fail drain*, R371 to R376). -/

namespace Sys2Proof.Machine

/-! ### Dirty regions (R374) -/

/-- The logical line numbers of every dirty line. -/
def State.dirtyLlns (s : State) : List Nat :=
  s.cache.frames.flatMap (fun (e : Nat × Frame) => e.2.dirtyLines.map (fun n => e.2.page * 64 + n)) ++ s.cache.staged.map Prod.fst

/-- The drain region of a line: 4,096 local pages. -/
def drainRegion (lln : Nat) : Nat := lln / 2 ^ 18

/-- The map of dirty regions, ascending: those that hold a dirty line, and those that PD00 still holds from before a shut-off. -/
def State.regions (s : State) : List Nat := s.dirtyLlns.foldl (fun m l => nsInsert (drainRegion l) m) s.seq.regions

/-- PDR_CURSOR: the lowest dirty region. -/
def State.drainCursor (s : State) : Nat := s.regions.headD 0

/-! ### The ledger (R375) -/

/-- The fields of a ledger record (Table 13-5). -/
structure LedgerRec where
  st : Nat
  event : Nat
  seq : Nat
  down : Bool
  rail : Nat
  declared : Bool
  overflow : Bool
  released : Bool
  time : Nat
  holdup : Nat
  dirty : Nat
  saved : Nat
  drainUs : Nat
  cursor : Nat
  runs : Nat
  regions : Nat

/-- The 64 bytes of a ledger record (Table 13-5). -/
def LedgerRec.bytes (l : LedgerRec) : List Byte :=
  leBytes 1 l.st ++ leBytes 1 l.event ++ leBytes 1 (l.seq % 16 + bit l.down * 16) ++ leBytes 1 (l.rail % 64)
    ++ leBytes 1 (bit l.declared + bit l.overflow * 2 + bit l.released * 4) ++ leBytes 3 0 ++ leBytes 8 l.time ++ leBytes 4 l.holdup
    ++ leBytes 4 l.dirty ++ leBytes 4 l.saved ++ leBytes 4 l.drainUs ++ leBytes 4 l.cursor ++ leBytes 4 l.runs ++ leBytes 4 l.regions ++ leBytes 20 0

/-- The fields of a ledger record from its bytes. -/
def LedgerRec.parse (bs : List Byte) : LedgerRec :=
  let at_ := fun (i n : Nat) => ofBytes ((bs.drop i).take n)
  let flags := at_ 4 1
  { st := at_ 0 1, event := at_ 1 1, seq := at_ 2 1 % 16, down := nbit (at_ 2 1) 4, rail := at_ 3 1, declared := nbit flags 0, overflow := nbit flags 1,
    released := nbit flags 2, time := at_ 8 8, holdup := at_ 16 4, dirty := at_ 20 4, saved := at_ 24 4, drainUs := at_ 28 4, cursor := at_ 32 4,
    runs := at_ 36 4, regions := at_ 40 4 }

/-- SEQ_STAT.STATE. -/
def Board.seqState (b : Board) : Nat := b.get pSEQ0 F.SEQ_STAT.STATE

/-- SEQ_STAT.DOWN. -/
def Board.seqDown (b : Board) : Bool := b.on pSEQ0 F.SEQ_STAT.DOWN

/-- A ledger record for the event at hand: STATE, EVENT and rail code given, the rest as the part stands. -/
def State.ledgerNow (s : State) (st event rail : Nat) : LedgerRec :=
  let b := s.bd
  { st := st, event := event, seq := b.seqState, down := b.seqDown, rail := rail, declared := b.declared, overflow := false,
    released := decide (s.seq.drainBy = 1) && !b.on pSEQ0 F.SEQ_STAT.PFAIL, time := b.rackTime, holdup := b.get pPDR F.PDR_HOLDUP_US.US, dirty := b.get pPDR F.PDR_DIRTY_AT.LINES, saved := b.get pPDR F.PDR_SAVED.LINES,
    drainUs := b.get pPDR F.PDR_DRAIN_US.US, cursor := s.drainCursor, runs := 0, regions := 0 }

/-- Stores the ledger record (record 2 of the parameter store). Until the part has entered service the record found stands (R385, log entry 96). -/
def State.writeLedger (s : State) (l : LedgerRec) : State := if s.seq.stage = 5 then s.store 2 l.bytes else s

/-- The record that a start finds; a lost or absent record counts as RUN with no hold-up declared (R431). -/
def State.ledgerFound (s : State) : LedgerRec :=
  match s.recordBody 2 with
  | some bs => LedgerRec.parse bs
  | none => { st := 1, event := 0, seq := 0, down := false, rail := 63, declared := false, overflow := false, released := false, time := 0,
              holdup := 0, dirty := 0, saved := 0, drainUs := 0, cursor := 0, runs := 0, regions := 0 }

/-- The run area: 252 pages from page 2,176 of the parameter store. -/
abbrev runArea : Nat := 2176

/-- Entry `i` of the run area: first region and number of regions. -/
def State.runEntry (s : State) (i : Nat) : Nat × Nat :=
  let v := s.pst.pending (runArea + i / 32) >>> (64 * (i % 32))
  (v % 2 ^ 20, v / 2 ^ 20 % 2 ^ 20)

/-- PDR_LEDGER shows the record found, and the runs of a CUT record are noted (R378). -/
def State.readLedger (s : State) : State :=
  let l := s.ledgerFound
  let s := { s with seq := { s.seq with runs := if l.st = 4 then (List.range l.runs).map s.runEntry else [] } }
  s.on (fun b =>
    let b := (b.put pPDR F.PDR_LEDGER.STATE l.st).put pPDR F.PDR_LEDGER.EVENT l.event
    let b := (b.put pPDR F.PDR_LEDGER.DECLARED (bit l.declared)).put pPDR F.PDR_LEDGER.SEQ l.seq
    ((b.put pPDR F.PDR_LEDGER.DOWN (bit l.down)).put pPDR F.PDR_LEDGER.RAIL l.rail).put pPDR F.PDR_LEDGER.OVERFLOW (bit l.overflow))

/-- Consecutive numbers, ascending, as runs (first, count). -/
def runsOf : List Nat → List (Nat × Nat)
  | [] => []
  | r :: rs =>
    match runsOf rs with
    | (f, n) :: more => if r + 1 = f then (r, n + 1) :: more else (r, 1) :: (f, n) :: more
    | [] => [(r, 1)]

/-- Merges the two neighbouring runs with the smallest gap, the lowest such pair (R375). -/
def mergeSmallest (runs : List (Nat × Nat)) : List (Nat × Nat) :=
  let gaps := (runs.zip (runs.drop 1)).map (fun (p : (Nat × Nat) × (Nat × Nat)) => p.2.1 - (p.1.1 + p.1.2))
  match gaps.min? with
  | none => runs
  | some g =>
    let i := gaps.findIdx (fun x => decide (x = g))
    match runs[i]?, runs[i + 1]? with
    | some a, some c => runs.take i ++ [(a.1, c.1 + c.2 - a.1)] ++ runs.drop (i + 2)
    | _, _ => runs

/-- Merges until no more than `cap` runs remain; `n` bounds the merges. -/
def mergeRuns (cap : Nat) : Nat → List (Nat × Nat) → List (Nat × Nat)
  | 0, runs => runs
  | n + 1, runs => if runs.length ≤ cap then runs else mergeRuns cap n (mergeSmallest runs)

/-- The run pages: 32 entries of 8 B to a page, [19:0] the first region and [39:20] the number of regions. -/
def runPages (runs : List (Nat × Nat)) : List (Nat × Nat) :=
  let pages := chunks 32 runs.length (runs.map (fun (r : Nat × Nat) => r.1 + r.2 * 2 ^ 20))
  pages.zipIdx.map (fun (p : List Nat × Nat) => (runArea + p.2, ofBytes (p.1.flatMap (leBytes 8))))

/-- A CUT record (R375): with hold-up declared the runs of dirty regions go into the run area first. Answers the number of runs. -/
def State.writeCut (s : State) (event rail dirty saved drainUs : Nat) : Nat × State :=
  let declared := s.bd.declared
  let all := runsOf s.regions
  let runs := if declared then mergeRuns 8064 all.length all else []
  let s := if runs = [] ∨ s.seq.stage ≠ 5 then s else s.pstQueue ⟨1, 0, runPages runs, .store⟩
  let l := s.ledgerNow 4 event rail
  let s := s.writeLedger { l with
    overflow := declared && decide (8064 < all.length), dirty := dirty, saved := saved, drainUs := drainUs, runs := runs.length,
    regions := (runs.map Prod.snd).sum }
  (runs.length, s.on (fun b => b.count pPDR F.PDR_CUTS.COUNT 1))

/-! ### The order of the drain (R371, R372) -/

/-- Inserts by a key, ascending; entries of one key keep their order. -/
def insertBy {α : Type} (key : α → Nat) (x : α) : List α → List α
  | [] => [x]
  | y :: ys => if key x < key y then x :: y :: ys else y :: insertBy key x ys

/-- A list in ascending order of a key. -/
def sortBy {α : Type} (key : α → Nat) (l : List α) : List α := l.foldl (fun m x => insertBy key x m) []

/-- Is the work of a page that waits for a stripe stopped by a drain: folds and reclaim copies (R371 step 4)? -/
def Purpose.stops : Purpose → Bool
  | .fold _ => true
  | .copy _ _ => true
  | _ => false

/-- Folds, reclaim copies and patrol reads that have not been admitted stop; the sources of copies stay (R371 step 4, R206). -/
def State.stopWork (s : State) : State :=
  let gone := s.wp.jobs.filter (fun (j : PageJob) => j.why.stops)
  let ids := gone.filterMap (fun (j : PageJob) => match j.why with | .fold id => some id | _ => none)
  { s with
    wp := { s.wp with
      jobs := s.wp.jobs.filter (fun (j : PageJob) => !j.why.stops)
      folds := s.wp.folds.filter (fun (f : Fold) => decide (f.id ∉ ids))
      foldWait := [] } }

/-- A dirty line becomes a patch of the drain: PSEQ one above the highest that the part holds in the current generation, or 1; a line past 1,023, or one
that finds its buckets full, goes by a fold (R372). -/
def State.drainLine (s : State) (page n : Nat) (l : LineSt) : State :=
  let lln := page * 64 + n
  let next := match s.slotOf lln with
    | none => 1
    | some x => x.pseq + 1
  if 1023 < next then s.wantFold page 2
  else
    match s.putSlot lln true false l.slot 0 next with
    | none => s.wantFold page 3
    | some s =>
      let e := s.mapEntry page
      let key := match s.cache.slots.find? (fun (c : Nat × (Nat × Nat × Nat × Nat)) => decide (c.1 = l.slot)) with | some c => c.2.2.2.1 | none => s.homeKey page
      let s := (s.setMap page { e with patched := true }).dirtyObject (24576 + ptxBucket lln / 2 ^ 14)
      { s with wp := { s.wp with patches := s.wp.patches.filter (fun (p : PatchRef) => decide (p.lln ≠ lln)) ++ [⟨lln, l.slot, next, e.gen, key, false, s.bd.now, l.writers⟩] } }

/-- The dirty lines of a page, by line. -/
def State.dirtyOfPage (s : State) (page : Nat) : List (Nat × LineSt) :=
  (match s.frameOf page with | some (_, f) => f.lines.filter (fun (e : Nat × LineSt) => e.2.dirty) | none => [])
    ++ (s.stagedOf page).map (fun (e : Nat × LineSt) => (e.1 % 64, e.2))

/-- A page's lines are marked as patches. -/
def State.markPatched (s : State) (page : Nat) (ns : List Nat) : State :=
  let s := match s.frameOf page with
    | some (i, f) => s.setFrame i { f with lines := f.lines.map (fun (e : Nat × LineSt) => (e.1, if e.1 ∈ ns then { e.2 with patched := true } else e.2)) }
    | none => s
  { s with cache := { s.cache with
      staged := s.cache.staged.map (fun (e : Nat × LineSt) => (e.1, if e.1 / 64 = page ∧ e.1 % 64 ∈ ns then { e.2 with patched := true } else e.2)) } }

/-- One page of the drain (R372): all 64 lines dirty leave as a whole page, every other dense line as a patch. A page whose fold has been admitted waits for it. -/
def State.drainPage (s : State) (page : Nat) : State :=
  let ls := s.dirtyOfPage page
  if s.wp.folds.any (fun (f : Fold) => decide (f.page = page)) then s
  else if ls.length = 64 ∧ ls.all (fun (e : Nat × LineSt) => !e.2.patched) then s.wantFold page 1
  else
    let dense := ls.filter (fun (e : Nat × LineSt) => !e.2.patched)
    let s := dense.foldl (fun s (e : Nat × LineSt) => s.drainLine page e.1 e.2) s
    let turned := (dense.filter (fun (e : Nat × LineSt) => match s.slotOf (page * 64 + e.1) with | some x => x.staged | none => false)).map Prod.fst
    s.markPatched page turned

/-- Cowslip's pass over the dirty lines: pages in ascending region order, POISON entries ahead of every dirty line (R372). -/
def State.drainPass (s : State) : State :=
  let pages := s.dirtyLlns.foldl (fun m l => nsInsert (l / 64) m) []
  let s := pages.foldl State.drainPage s
  let poison := s.wp.patches.filter (fun (p : PatchRef) => p.poison)
  let lines := sortBy PatchRef.lln (s.wp.patches.filter (fun (p : PatchRef) => !p.poison))
  { s with wp := { s.wp with patches := poison ++ lines, flushPatch := true } }

/-- Has the drain saved everything: no dirty line, no poison entry waiting (R371, R372)? -/
def State.drainDone (s : State) : Bool :=
  decide (s.dirty = 0) && s.wp.patches.isEmpty && s.wp.poisonWait.isEmpty
    && s.wp.jobs.all (fun (j : PageJob) => match j.why with | .patches _ => false | _ => true)
    && s.wp.stripes.all (fun (t : Stripe) => t.pages.all (fun (e : Nat × PageJob) => match e.2.why with | .patches _ => false | _ => true))

/-! ### What a loss of power takes -/

/-- The write path after the processor complex and the large arrays lose power: what lies on media and what a start recovers from it stays. Records
not yet journalled are gone. -/
def Wp.powerLoss (w : Wp) : Wp :=
  { w with
    folds := [], foldWait := [], lastCommit := [], patches := [], poisonWait := [], jobs := [], stripes := [], flushPatch := false, overdue := none,
    jrec := [], jpages := w.jpages.filter (fun (e : Nat × (Nat × Nat)) => decide (e.1 < w.journalled)), jsn := max w.journalled 1, objRun := none,
    metaDirty := [], metaDone := [], victim := none, victims := [], copied := 0, copies := [], loadAt := 0, told := 0 }

/-- A stripe cut short (R142): whether its pages decode afterwards is open; if they do they lie programmed. A reset cut short leaves its field as it may be. -/
def State.cutStripe (s : State) (t : Stripe) : State :=
  let whole := decide (s.bd.openVal % 2 = 1)
  let s := s.on Board.useOpen
  if whole then t.pages.foldl (fun s (e : Nat × PageJob) => s.putPage (ppaOf t.band e.1 t.g) { e.2.page with seq := t.seq } false) s else s

/-- Array operations end with their media power. -/
def State.cutMedia (s : State) (p : Nat → Bool) : State :=
  let hit := s.wp.stripes.filter (fun (t : Stripe) => t.pages.any (fun (e : Nat × PageJob) => p e.1))
  let s := hit.foldl State.cutStripe s
  { s with
    wp := { s.wp with stripes := s.wp.stripes.filter (fun (t : Stripe) => decide (t ∉ hit)) }
    media := { s.media with ops := s.media.ops.filter (fun (e : Nat × MOp) => !p (ppaChan e.2.ppa)) } }

/-- The front memory loses its contents: frames, window, mirror slots and the lines only they held. The staged patch slots, which name those mirror slots, and
poison slots not yet persistent go with it; what failed stays failed (R118). -/
def State.dropFront (s : State) : State :=
  let lives := fun (x : Slot) => !x.staged && (!x.poison || !s.wp.patches.any (fun (p : PatchRef) => p.poison))
  { s with
    cache := { Cache.empty with remap := s.cache.remap, lost := s.cache.lost, failures := s.cache.failures }
    mapx := { s.mapx with slots := s.mapx.slots.filter (fun (e : Nat × Slot) => lives e.2), misses := [], reads := [], rebuild := [] } }

/-- The shelf state of a part that knows nothing of its shelf. -/
def Shelf.empty (links : List Link) : Shelf :=
  { links := links, members := [], beaconAt := 0, downs := [], probes := [], joins := [], refused := none, left := [], owed := [], health := [], syncs := [],
    recent := [], solo := [], failover := none, resync := [], resyncAt := 0, tables := [], grants := [], nextSxn := 1 }

/-- The core loses power: tables, the home, requests in flight, the ring state and the write path. Bands that were being opened are free again and victims closed,
since no record says otherwise; keys and tables come back from META. -/
def State.dropCore (s : State) : State :=
  let s := s.wp.stripes.foldl State.cutStripe s
  let bands := s.media.bands.map (fun (e : Nat × Band) => (e.1,
    if e.2.opening then { e.2 with st := if e.2.st = 1 then 0 else e.2.st, opening := false, resets := [], reset := false }
    else if e.2.st = 5 then { e.2 with st := 2, resets := [] } else e.2))
  { s with
    home := { Home.empty with nextId := s.home.nextId }
    xtn := { s.xtn with hxt := [], xmb := [], lxt := [], eet := [], access := none }
    mapx := { s.mapx with misses := [], reads := [], rebuild := [], loaded := [], loadedAll := false, inspectMap := none, inspectPtx := none, inspectAge := none }
    wp := s.wp.powerLoss
    media := { s.media with bands := bands, ops := [] }
    keys := { s.keys with sweeps := [], erases := [] }
    copy := Copy.empty
    bd := { s.bd with snap := none, pmcDue := [] }
    traffic := { s.traffic with used := [], lowered := [], before := [], low := [], waits := [], counted := [], flight := [], routes := [] }
    shelf := Shelf.empty s.shelf.links
    heads := s.heads.map (fun (d : Head) => { d with writes := [], reads := [], fences := [] }) }

/-- The security island after a loss of power: sessions, the transfer buffer, the nonce and an activation under way are gone; the images stay where they are stored. -/
def Sec.powerLoss (c : Sec) : Sec := { c with xfer := [], sessions := [], nonce := none, act := none }

/-- What the memories of domain `d` hold is gone when it loses power. -/
def State.dropDomain (s : State) (d : Nat) : State :=
  if d = 1 then s.dropCore
  else if d = 2 then s.on (fun b => { b with queues := [], pushHost := PushPort.empty, pushMgmt := PushPort.empty })
  else if d = 4 then { s with keys := { s.keys with slots := [], busy := none, sweeps := [], erases := [] }, sec := s.sec.powerLoss }
  else if d = 5 ∨ d = 6 then
    { s with heads := s.heads.zipIdx.map (fun (e : Head × Nat) => if e.2 / 4 = d - 5 then { Head.empty with shutdown := e.1.shutdown } else e.1) }
  else if d = 7 then { s with shelf := { s.shelf with links := [linkDefault, linkDefault] } }
  else if 8 ≤ d ∧ d ≤ 11 then s.dropFront
  else if 12 ≤ d ∧ d ≤ 19 then s.cutMedia (fun c => decide (c / 4 = (d - 12) % 4))
  else s

end Sys2Proof.Machine
end

