-- ==== Sys2Proof/Machine/Power.lean ====
section
/-! DEFINITION. Harebell: the power sequence, its pacing on the shelf, rail faults and shut-off, the power-fail drain and the WARM and COLD resets
(chapters *Power domains, sequencing and power-fail drain* and *From supplies valid to service*, R499, R500). -/

namespace Sys2Proof.Machine

/-! ### The sequence -/

/-- External rails that a sequence state adds (Table 13-3), as a mask. -/
def seqRails : Nat → Nat
  | 2 => 0x0001 | 3 => 0x0002 | 5 => 0x000C | 6 => 0x0040 | 7 => 0x0010 | 8 => 0x0020 | 9 => 0x0080 | 10 => 0x0F00 | 11 => 0xF000
  | _ => 0

/-- Domains whose power-good completes in a sequence state (Tables 13-1 and 13-3, R356). -/
def seqDomains : Nat → List Nat
  | 2 => [1] | 3 => [2] | 4 => [3, 4] | 5 => [5, 6, 7] | 8 => [8, 9, 10, 11] | 9 => [12, 13, 14, 15] | 11 => [16, 17, 18, 19]
  | _ => []

/-- A state between STANDBY and RUN. -/
def seqMiddle (st : Nat) : Bool := decide (2 ≤ st) && decide (st ≤ 11)

/-- Does the part pace on SEQ_STEP: SHARED and not SOLO (R362, R364)? -/
def Board.paces (b : Board) : Bool := b.on pSEQ0 F.SEQ_CFG.SHARED && !b.on pSEQ0 F.SEQ_STAT.SOLO

/-- The SEQ0 unit follows the sequence: CONTAINED while a SEQ_CAUSE bit is open, SERVICE in RUN, INIT otherwise. -/
def Board.seqUnit (b : Board) : Board :=
  if b.openCauses pSEQ0 ≠ 0 then b.toState pSEQ0 stCONTAINED
  else if b.seqState = 12 then b.toState pSEQ0 stSERVICE
  else b.toState pSEQ0 stINIT

/-- The part drives SEQ_STEP low, or releases it (R362); with SHARED = 0, or SOLO, it never drives it low. -/
def Board.driveStep (b : Board) (low : Bool) : Board :=
  let v := bit (low && b.paces)
  if b.get pSEQ0 F.SEQ_STAT.DRIVE = v then b
  else ((if v = 1 then b.put pSEQ0 F.SEQ_STAT.LINE 0 else b).put pSEQ0 F.SEQ_STAT.DRIVE v).emit (.pin "SEQ_STEP" (1 - v))

/-- Sets the RAIL_EN outputs (R355). -/
def Board.setRails (b : Board) (en : Nat) : Board :=
  if b.get pSEQ1 F.SEQ_RAIL_EN.EN = en then b else (b.put pSEQ1 F.SEQ_RAIL_EN.EN en).emit (.pin "RAIL_EN" en)

/-- Enters a sequence state: STATE and DOWN are shown and the time of entry is kept. -/
def State.enterSeq (s : State) (st : Nat) (down : Bool) : State :=
  { s with
    bd := ((s.bd.put pSEQ0 F.SEQ_STAT.STATE st).put pSEQ0 F.SEQ_STAT.DOWN (bit down)).seqUnit
    seq := { s.seq with enteredAt := s.bd.now, settled := false, chatStep := [], stage := if down ∨ st = 12 then s.seq.stage else 0 } }

/-- What a loss of the page's power leaves alone: fields of the COLD class and of the parameter store, which are restored before the unit leaves INIT
(R491, log entry 88), and what PD00 holds. A WARM reset leaves the same fields alone (R12, R492). -/
def keepWarm : RstClass → Bool
  | .page | .warm => false
  | _ => true

/-- The pages whose units follow domain `d`: those of Table 21-1, and MCHc for PD(16 + c div 4) as well (R156). -/
def domainPages (d : Nat) : List Nat :=
  allPages.filter (fun p => decide (domainOf p = d) || (decide (16 ≤ d) && decide (domainOf p = d - 4)))

/-- Is a page's unit powered: MCHc needs both of its domains (R156)? -/
def Board.unitPowered (b : Board) (p : Nat) : Bool :=
  let d := domainOf p
  b.domainOn d && (decide (d < 12) || b.domainOn (d + 4))

/-- A domain powers down: its units move to OFF, each with a new epoch and a notice (R16), its pages lose their registers and what the
domain's memories hold is gone (R491). -/
def State.domainDown (s : State) (d : Nat) : State :=
  let s := s.on (fun b => (domainPages d).foldl (fun b p => (b.resetPage p keepWarm).move p stOFF 0) b)
  let s := s.on (fun b => b.put pSEQ1 F.SEQ_DOM_PG.PG (nsetbit (b.get pSEQ1 F.SEQ_DOM_PG.PG) d false))
  s.dropDomain d

/-- Units recorded RETIRED in the FAULT record. -/
def State.retiredUnits (s : State) : List Nat :=
  let ws := s.recordWords 10
  (ws.drop 1).take (ws.headD 0)

/-- Dies recorded FAILED in the FAULT record. -/
def State.recordedDies (s : State) : List Nat :=
  let ws := s.recordWords 10
  let ws := ws.drop (1 + ws.headD 0)
  (ws.drop 1).take (ws.headD 0)

/-- What the core takes back from the parameter store as it powers up: identity, TERM, age clocks, patrol cursor and health counts (R228, R238, R246, R319). -/
def State.restoreCore (s : State) : State :=
  let s := s.on (fun b =>
    let b := (b.put pXTN F.XTN_SELF.SHELF_ID s.seq.shelfId).put pXTN F.XTN_SELF.MANAGER (bit s.seq.role)
    let b := (b.put pSHM F.SHM_SELF.SHELF_ID s.seq.shelfId).put pSHM F.SHM_SELF.ROLE (bit s.seq.role)
    (b.put pSHM F.SHM_MGR.TERM ((s.recordWords 8).headD 0)).strapCheck true)
  let s := (s.resumeAge).resumePatrol
  if s.recordLost 9 then s else s.loadHealth (s.recordWords 9)

/-- The security island draws what a reset renews, as its domain powers up (R95, R280, log entry 91): the HBM key, the encapsulation key pair and the nonce. -/
def State.newKeys (s : State) : State :=
  let (h, s) := s.draw
  let (e, s) := s.draw
  ({ s with keys := { s.keys with hbmKey := h, ekDraw := e } }).drawNonce

/-- A TAMPER cause that no WARM or COLD reset has closed opens again as the island powers up (R418). -/
def State.reopenTamper (s : State) : State :=
  if s.sec.tampered then s.on (fun b => (b.put pSEC F.SEC_STAT.TAMPERED 1).openCause pSEC F.SEC_CAUSE.TAMPER) else s

/-- A domain powers up: its units move from OFF to INIT, each with a new epoch and a notice (R16, R491); an unused head stays OFF (R64), and a unit recorded
RETIRED is so again. -/
def State.domainUp (s : State) (d : Nat) : State :=
  let s := s.on (fun b => b.put pSEQ1 F.SEQ_DOM_PG.PG (nsetbit (b.get pSEQ1 F.SEQ_DOM_PG.PG) d true))
  let out := s.retiredUnits
  let s := s.on (fun b => (domainPages d).foldl (fun b p =>
    if !(nbit (b.states p) stINIT && b.unitPowered p) then b
    else
      let b := b.toState p stINIT
      if p ∈ out then b.toState p stRETIRED else b) b)
  if d = 1 then s.restoreCore else if d = 4 then s.newKeys.reopenTamper else s

/-- Enters a state on the way up: it raises its RAIL_EN outputs or closes its switches and holds SEQ_STEP low (R357, R362; log entry 89). RUN
releases the line, records SEQ_UP_MS and raises SEQ_DONE. The ledger is read as the way up begins (R378). -/
def State.enterUp (s : State) (st : Nat) : State :=
  let s := s.enterSeq st false
  if st = 12 then
    s.on (fun b =>
      let ms := min 0xFFFF ((b.now - s.seq.upFrom) / 1000)
      let b := (b.put pSEQ0 F.SEQ_UP_MS.MS ms).driveStep false
      b.raise pSEQ0 (ev E.SEQ.SEQ_DONE (b.get pSEQ0 F.SEQ_STAT.ATTEMPT) ms (b.get pSEQ0 F.SEQ_BARRIER.LONGEST_US) 0))
  else
    let s := if st = 2 then s.readLedger else s
    s.on (fun b => (b.setRails (b.get pSEQ1 F.SEQ_RAIL_EN.EN ||| seqRails st)).driveStep true)

/-- Enters a state on the way down: it opens its switches and lowers its RAIL_EN outputs, and no longer holds SEQ_STEP (R357, R362). -/
def State.enterDown (s : State) (st : Nat) : State :=
  (s.enterSeq st true).on (fun b =>
    let en := b.get pSEQ1 F.SEQ_RAIL_EN.EN
    (b.setRails (en - (en &&& seqRails st))).driveStep false)

/-- Leaves a state of the way up for the next, keeping the time it took (SEQ_STEP_US). The first start after a fatal stop raises
FATAL_SEEN, and FATAL clears as the part leaves STANDBY under the accepted START (R475). -/
def State.advance (s : State) : State :=
  let st := s.bd.seqState
  let spent := min 0xFFFFFF (s.bd.now - s.seq.enteredAt)
  let s := { s with seq := { s.seq with stepUs := smSet (fun _ => 0) st spent s.seq.stepUs, startAllowed := false } }
  let s := if st = 1 ∧ s.bd.on pFLT F.FLT_STAT.FATAL then
      s.on (fun b => (b.raise pFLT (ev E.FLT.FATAL_SEEN (b.get pFLT F.FLT_STAT.FATAL_CLASS) (b.get pFLT F.FLT_SEQ.COUNT) 0 0)).put pFLT F.FLT_STAT.FATAL 0)
    else s
  s.enterUp (st + 1)

/-- A start is allowed in STANDBY (R358): the part releases SEQ_STEP and waits for it, or, when it does not pace, enters state 2. -/
def State.allowStart (s : State) : State :=
  let s := { s with seq := { s.seq with startAllowed := true, waitFrom := s.bd.now, upFrom := if s.seq.fromReset then s.seq.upFrom else s.bd.now } }
  if s.bd.paces then s.on (fun b => b.driveStep false) else s.advance

/-- The drain is over, however it ended: RTM_STAT.DRAIN falls and PDR is IDLE. -/
def State.endDrain (s : State) : State :=
  { s with
    bd := ((s.bd.put pPDR F.PDR_STAT.PHASE 0).put pPDR F.PDR_STAT.HELD 0).put pRTM F.RTM_STAT.DRAIN 0
    seq := { s.seq with drainBy := 0, creditsHeld := false } }

/-- The units of PD00 that leave INIT when the part reaches STANDBY after a reset (log entry 90). -/
def aonPages : List Nat := [pDEV, pTRV, pTHM, pPST, pMGT, pFLT, pPDR]

/-- After a full shut-off or a fatal stop the part restarts only once a START is accepted, whatever AUTO holds (R367, R475). -/
def Board.awaitsStart (b : Board) : Bool :=
  b.on pSEQ0 F.SEQ_CAUSE.RAIL_FAULT || b.on pSEQ0 F.SEQ_CAUSE.THERMTRIP || b.on pFLT F.FLT_STAT.FATAL

/-- Enters STANDBY. After RESET the units of PD00 leave INIT, and with AUTO = 1 a start is allowed at once (R358). -/
def State.enterStandby (s : State) (afterReset : Bool) : State :=
  let s := (s.enterSeq 1 false).endDrain
  let s := { s with seq := { s.seq with startAllowed := false, fromReset := afterReset, failed := false } }
  if afterReset then
    let s := s.on (fun b =>
      let b := aonPages.foldl (fun b p => b.endInit p (decide (p = pPST) && s.pstReduced)) b
      (b.endInit pRTM (decide (b.get pRTM F.RTM_STAT.TICK ≠ 1))).driveStep true)
    if s.bd.on pSEQ0 F.SEQ_CFG.AUTO && !s.bd.awaitsStart then s.allowStart else s
  else s

/-! ### Resets -/

/-- Every register of every page takes its WARM reset value, the units of PD00 enter INIT and those of the other domains are OFF: a
move that a reset causes is no change, so it queues no notice and the epochs read 0; the locks clear (R12, R16, R21, R492). HPT_PORT_CFG.SPLIT takes effect (R64). -/
def Board.warm (b : Board) : Board :=
  let b := allPages.foldl (fun b p =>
    let b := b.resetPage p keepWarm
    (b.wr p 0x008 (BitVec.ofNat 32 (if domainOf p = 0 then stINIT else stOFF))).wr p 0x030 (resetWord p 0x030)) b
  let splits := (List.range 4).foldl (fun m i => m + b.get (pHPT (2 * i)) F.HPT_PORT_CFG.SPLIT * 2 ^ i) 0
  { b with
    stateQ := [], eventQ := [], resyncDue := 0, resyncQ := none, msixMasked := [], msixPending := [], resetting := [], queues := []
    pushHost := PushPort.empty, pushMgmt := PushPort.empty, splits := splits, trvErr := [] }

/-- The memories of every domain but PD00 are gone. -/
def State.dropAll (s : State) : State := (List.range 19).foldl (fun s k => s.dropDomain (k + 1)) s

/-- The heads after a WARM or COLD reset: empty, but for the shutdown state that CONFIG keeps. -/
def State.freshHeads (s : State) : List Head := s.heads.map (fun (d : Head) => { Head.empty with shutdown := d.shutdown })

/-- The WARM reset takes effect: every domain but PD00 is unpowered, every field but RWS fields and PD00 state takes its reset value, and
the part enters sequence state 0 (R12, R377). -/
def State.warmReset (s : State) : State :=
  let s := { s with seq := { s.seq with regions := s.regions } }
  let s := s.dropAll
  let s := (s.on (fun b => ((b.setRails 0).warm.put pSEQ1 F.SEQ_DOM_PG.PG 1).put pSEQ1 F.SEQ_RAIL_PG.PG 0))
  let s := { s with heads := s.freshHeads }
  let s := (s.endDrain.readLedger)
  let s := { s with seq := { s.seq with resetHeld := false, upFrom := s.bd.now, fromReset := true }, mgmt := Mgmt.empty, sec := { s.sec.powerLoss with resetSeen := true } }
  (s.enterSeq 0 false).on (fun b => b.driveStep true)

/-- SEC_BOOT and the operator root come from the store (Table 17-4). -/
def State.loadSecurity (s : State) : State :=
  let boot := s.recordWords 5
  let opr := s.recordWords 7
  let s := { s with sec := { s.sec with provEpoch := boot.getD 1 0 + boot.getD 2 0 * 2 ^ 32 } }
  s.on (fun b =>
    let b := b.wr pSEC 0x060 (BitVec.ofNat 32 (boot.getD 0 0))
    let b := b.put pSEC F.SEC_STAT.OPR_SET (opr.getD 0 0)
    (List.range 16).foldl (fun (b : Board) k => b.put pSEC (F.SEC_OPR.HASH.ix k) (opr.getD (k + 1) 0)) b)

/-- The parameter store is loaded (R430): its records go to the registers and states they keep. -/
def State.loadStore (s : State) : State :=
  let s := s.loadAll
  let ws := s.recordWords 6
  let s := if ws = [] then s
    else
      let s := s.on (fun b => (configFields.zip ws).foldl (fun b (x : (Nat × Fld) × Nat) => b.put x.1.1 x.1.2 x.2) b)
      { s with heads := s.heads.zipIdx.map (fun (e : Head × Nat) => { e.1 with shutdown := ws.getD (configFields.length + e.2) 0 }) }
  let s := s.loadSecurity
  let s := { s with media := { s.media with recorded := s.recordedDies.foldl (fun m d => nsInsert d m) [] }, slot := { s.slot with mask := s.bd.acceptedMask } }
  let s := s.on (fun b => (s.retiredUnits.filter (fun p => decide (domainOf p = 0))).foldl (fun b p => b.wr p 0x008 (BitVec.ofNat 32 stRETIRED)) b)
  s.readLedger

/-- COLD reset: the whole part, PD00 included, takes its reset values and the parameter store is loaded (R12, R430). What is non-volatile stays: the store, the media,
and what a start recovers from them; what it did not finish writing is lost. -/
def State.coldReset (s : State) (tamperLow : Bool) : State :=
  let t := s.dropAll
  let z := State.reset
  let fresh : State :=
    { z with
      pending := s.pending
      pst := { s.pst with queue := [], seqs := [], loads := [], bodies := [] }
      media := { t.media with dieIds := [], weak := [], silent := [], crcErrs := [], dieNew := [] }
      mapx := t.mapx
      wp := t.wp
      xtn := { z.xtn with zeroed := t.xtn.zeroed }
      keys := { z.keys with draws := s.keys.draws }
      sec := { s.sec.powerLoss with resetSeen := true, tamperLow := tamperLow }
      bd := { z.bd with out := s.bd.out, opens := t.bd.opens, now := s.bd.now, marks := s.bd.marks }
      seq := { z.seq with enteredAt := s.bd.now, upFrom := s.bd.now } }
  let fresh := fresh.loadStore
  let splits := (List.range 4).foldl (fun m i => m + fresh.bd.get (pHPT (2 * i)) F.HPT_PORT_CFG.SPLIT * 2 ^ i) 0
  fresh.on (fun b => ({ b with splits := splits }).driveStep true)

/-- At T0 + 1 ms of a COLD reset SHELF_ID and ROLE are sampled, once (R500). -/
def State.strapSample (s : State) (shelf : Nat) (role : Bool) : State :=
  if s.seq.strapped ∨ s.bd.seqState ≠ 0 then s
  else { s with seq := { s.seq with strapped := true, shelfId := shelf, role := role } }

/-! ### Shut-off (R366, R367, R475) -/

/-- All RAIL_EN outputs fall, all switches open, every domain but PD00 powers down and the part is in SHUTOFF. PD00 keeps the map of dirty regions. -/
def State.shutOff (s : State) : State :=
  let s := { s with seq := { s.seq with regions := s.regions } }
  let s := s.on (fun b => (b.setRails 0).put pSEQ1 F.SEQ_RAIL_PG.PG 0)
  let s := (List.range 19).foldl (fun s k => if s.bd.domainOn (k + 1) then s.domainDown (k + 1) else s) s
  ((s.endDrain).enterSeq 14 false).on (fun b => b.driveStep false)

/-- SEQ_LAST: the state, direction and rail of the last fault. -/
def State.noteLast (s : State) (rail : Nat) : State :=
  s.on (fun b => ((b.put pSEQ0 F.SEQ_LAST.STATE b.seqState).put pSEQ0 F.SEQ_LAST.DOWN (bit b.seqDown)).put pSEQ0 F.SEQ_LAST.RAIL rail)

/-- A fatal stop (R475): as the full shut-off, but no SEQ_CAUSE bit opens; FLT_STAT.FATAL and FATAL_CLASS record it. -/
def State.fatalStop (s : State) (cls : Nat) : State :=
  let s := s.on (fun b => ((b.put pFLT F.FLT_STAT.FATAL 1).put pFLT F.FLT_STAT.FATAL_CLASS cls).count pSEQ0 F.SEQ_SHUTOFFS.COUNT 1)
  ((s.writeCut 4 63 s.dirty 0 0).2).shutOff

/-- Marks a rail in SEQ_RAIL_FAULT, or a domain's switch in SEQ_DOM_FAULT. -/
def Board.markRail (b : Board) (rail : Nat) : Board :=
  if rail < 16 then b.put pSEQ1 F.SEQ_RAIL_FAULT.RAIL (nsetbit (b.get pSEQ1 F.SEQ_RAIL_FAULT.RAIL) rail true)
  else if 32 ≤ rail then b.put pSEQ1 F.SEQ_DOM_FAULT.DOMAIN (nsetbit (b.get pSEQ1 F.SEQ_DOM_FAULT.DOMAIN) (rail - 32) true)
  else b

/-- A failed attempt (R360): it counts, the part becomes SOLO (R364), and it runs the downward order from the failed state. -/
def State.failAttempt (s : State) (rail : Nat) : State :=
  let st := s.bd.seqState
  let s := (s.noteLast rail).on (fun b => (b.count pSEQ0 F.SEQ_RETRIES.COUNT 1).driveStep false)
  let s := s.on (fun b => b.put pSEQ0 F.SEQ_STAT.SOLO 1)
  ({ s with seq := { s.seq with failed := true } }).enterDown st

/-- Is the input required high (R361): from the moment its state has settled until its own downward step begins, a rail, or the switch of a domain that is switched
internally (Table 13-1)? -/
def Board.railRequired (b : Board) (rail : Nat) : Bool :=
  if rail < 16 then nbit (b.get pSEQ1 F.SEQ_RAIL_EN.EN) rail && nbit (b.get pSEQ1 F.SEQ_RAIL_PG.PG) rail
  else decide (35 ≤ rail) && decide (rail < 48) && b.domainOn (rail - 32) && !(b.seqDown && decide (rail - 32 ∈ seqDomains b.seqState))

/-- The rails that feed a domain (Table 13-1). -/
def railsOf (d : Nat) : List Nat :=
  if d = 1 ∨ d = 3 ∨ d = 4 then [0]
  else if d = 2 then [1]
  else if 5 ≤ d ∧ d ≤ 7 then [2, 3]
  else if 8 ≤ d ∧ d ≤ 11 then [4, 5, 6]
  else if 12 ≤ d ∧ d ≤ 15 then [7]
  else if 16 ≤ d then [d - 8, d - 4]
  else []

/-- The filtered RAIL_PG with the input of a rail fault low. -/
def Board.railsGood (b : Board) (rail : Nat) : Nat := nsetbit (b.get pSEQ1 F.SEQ_RAIL_PG.PG) rail (nbit (b.get pSEQ1 F.SEQ_RAIL_PG.PG) rail && decide (16 ≤ rail))

/-- The power-good of the domains with the input of a rail fault low (R356): a domain is good only while each of its rails and its own switch is. -/
def Board.domainsGood (b : Board) (rail : Nat) : Nat :=
  let bad := (List.range 20).filter (fun d => decide (rail = 32 + d) || decide (rail ∈ railsOf d))
  bad.foldl (fun m d => nsetbit m d false) (b.get pSEQ1 F.SEQ_DOM_PG.PG)

/-- A DOWN_FAULT (R366): everything drops at once, and the ledger takes CUT; during a drain it lists the unsaved regions. -/
def State.downFault (s : State) (rail : Nat) : State :=
  let st := s.bd.seqState
  let unsaved := s.dirty
  let draining := decide (st = 13)
  let saved := if draining then s.bd.get pPDR F.PDR_DIRTY_AT.LINES - unsaved else s.bd.get pPDR F.PDR_SAVED.LINES
  let us := if draining then s.bd.now - s.seq.drainFrom else s.bd.get pPDR F.PDR_DRAIN_US.US
  let cursor := s.drainCursor
  let s := (s.noteLast rail).on (fun b =>
    ((((b.markRail rail).put pSEQ0 F.SEQ_CAUSE.DOWN_FAULT 1).seqUnit).put pPDR F.PDR_SAVED.LINES saved).put pPDR F.PDR_DRAIN_US.US us)
  let (runs, s) := s.writeCut 5 rail (s.bd.get pPDR F.PDR_DIRTY_AT.LINES) saved us
  let s := s.on (fun b => b.raise pSEQ0 (ev E.SEQ.DOWN_FAULT (st + rail * 16) unsaved runs 0))
  let s := if draining then s.on (fun b => b.raise pPDR (ev E.PDR.DRAIN_CUT (st + rail * 16) unsaved runs cursor)) else s
  (s.on (fun b => b.logFault pSEQ0 E.SEQ.DOWN_FAULT 12 0 unsaved false)).shutOff

/-- A required input is low for 1 µs or more (R361, R366 to R368). In RUN: full shut-off, ledger CUT with RUN_FAULT. In DRAIN, a clean shutdown's downward order or a
downward state: DOWN_FAULT. Below RUN on the way up: the attempt fails. -/
def State.railFault (s : State) (rail : Nat) : State :=
  let st := s.bd.seqState
  if !s.bd.railRequired rail then s
  else if st = 12 then
    let dirty := s.dirty
    let pg := s.bd.railsGood rail
    let s := (s.noteLast rail).on (fun b =>
      (((b.markRail rail).put pSEQ0 F.SEQ_CAUSE.RAIL_FAULT 1).seqUnit).raise pSEQ0 (ev E.SEQ.RAIL_FAULT rail pg (b.domainsGood rail) dirty))
    let s := s.on (fun b => (b.logFault pSEQ0 E.SEQ.RAIL_FAULT 12 0 pg false).count pSEQ0 F.SEQ_SHUTOFFS.COUNT 1)
    ((s.writeCut 4 rail dirty 0 0).2).shutOff
  else if st = 13 ∨ (s.bd.seqDown ∧ seqMiddle st) then s.downFault rail
  else if seqMiddle st then (s.on (fun b => b.markRail rail)).failAttempt rail
  else s

/-- A fault of the processor complex is a fatal stop of class 12 (R474, R475); the page, event bit and information are those of the work it carried. -/
def State.cpxFault (s : State) (page event info : Nat) : State :=
  if s.bd.domainOn 3 then (s.on (fun b => b.logFault page event 12 0 info true)).fatalStop 12 else s

/-- The 100 µs comparison of R466: sensors 0 to 35 against 130 °C (in units of 0.125 °C). A sensor that is not suspect at 130 °C or more with a neighbour at 118 °C or more asserts
THERMTRIP_N, and full shut-off follows (R367). -/
def State.thermtrip (s : State) (temps : List (Option Int)) : State :=
  let s := s.on (fun b => b.elapse 13 100)
  let atLeast := fun (n : Nat) (t : Int) => match temps.getD n none with | some x => decide (t ≤ x) | none => false
  let trips := (List.range 36).any (fun n => !s.bd.suspectSensor n && atLeast n 1040 && (sensorNear n).any (fun m => atLeast m 944))
  if !trips ∨ s.bd.on pTHM F.THM_STAT.TRIPPED then s
  else
    let dirty := s.dirty
    let who := ((List.range 36).find? (fun n => !s.bd.suspectSensor n && atLeast n 1040 && (sensorNear n).any (fun m => atLeast m 944))).getD 0
    let temp := ofSigned 32 ((temps.getD who none).getD 0)
    let near := ((sensorNear who).map (fun m => (temps.getD m none).getD (-10000))).foldl max (-10000)
    let s := (s.noteLast 63).on (fun b =>
      let b := (b.put pTHM F.THM_STAT.TRIPPED 1).emit (.pin "THERMTRIP_N" 0)
      let b := b.raise pTHM (ev E.THM.THERMTRIP who temp (ofSigned 32 near) 0)
      ((b.put pSEQ0 F.SEQ_CAUSE.THERMTRIP 1).seqUnit).raise pSEQ0 (ev E.SEQ.THERMTRIP 0 dirty 0 0))
    let s := s.on (fun b => (b.logFault pSEQ0 E.SEQ.THERMTRIP 12 0 dirty false).count pSEQ0 F.SEQ_SHUTOFFS.COUNT 1)
    if s.bd.seqState = 0 ∨ s.bd.seqState = 1 ∨ s.bd.seqState = 14 ∨ s.bd.seqState = 15 then s else ((s.writeCut 6 63 dirty 0 0).2).shutOff

/-! ### Commands and events of the sequence -/

/-- Is a junction reading of the last round at or above 118 °C (R358)? -/
def State.junctionHot (s : State) : Bool := (s.thm.temps.take 36).any (fun x => match x with | some t => decide (944 ≤ t) | none => false)

/-- SEQ_CMD.OP = START (R358). CONFLICT unless STATE is 1, and after THERMTRIP while a junction reading is at or above the
throttle temperature. An accepted START closes every SEQ_CAUSE bit, releases THERMTRIP_N, clears SOLO and sets ATTEMPT to 0. -/
def State.seqStart (s : State) (p : Path) : State :=
  s.written p pSEQ0 0x048 false false (fun s =>
    let s := s.on (fun b => b.put pSEQ0 F.SEQ_CMD.OP 1)
    if s.bd.seqState ≠ 1 ∨ (s.bd.on pSEQ0 F.SEQ_CAUSE.THERMTRIP ∧ s.junctionHot) then s.on (fun b => b.put pSEQ0 F.SEQ_CMD.RESULT Code.conflict.num)
    else
      let s := s.on (fun b =>
        let b := if b.on pTHM F.THM_STAT.TRIPPED then b.emit (.pin "THERMTRIP_N" 1) else b
        let b := ((b.put pSEQ0 F.SEQ_CMD.RESULT Code.ok.num).wr pSEQ0 0x04C 0).put pTHM F.THM_STAT.TRIPPED 0
        ((b.put pSEQ0 F.SEQ_STAT.ATTEMPT 0).put pSEQ0 F.SEQ_STAT.SOLO 0).seqUnit)
      ({ s with seq := { s.seq with fromReset := s.seq.fromReset && !s.seq.startAllowed } }).allowStart)

/-- Every input of the state has been high for 100 µs (R359, R491). State 0 ends in STANDBY once RESET_N is high. A state
of the way up shows its power-good, its domains power up, and the part releases SEQ_STEP or advances. -/
def State.stateSettled (s : State) : State :=
  let st := s.bd.seqState
  if s.bd.seqDown then s
  else if st = 0 then (if s.seq.resetLow then s else s.enterStandby true)
  else if seqMiddle st && !s.seq.settled then
    let s := s.on (fun b => b.put pSEQ1 F.SEQ_RAIL_PG.PG (b.get pSEQ1 F.SEQ_RAIL_PG.PG ||| seqRails st))
    let s := (seqDomains st).foldl State.domainUp s
    let s := { s with seq := { s.seq with settled := true, waitFrom := s.bd.now } }
    if s.bd.paces then s.on (fun b => b.driveStep false) else s.advance
  else s

/-- Does the part wait on SEQ_STEP: it has released the line in a state 1 to 11 of the way up (R364)? -/
def State.atBarrier (s : State) : Bool :=
  let st := s.bd.seqState
  s.bd.paces && !s.bd.seqDown && ((decide (st = 1) && s.seq.startAllowed) || (seqMiddle st && s.seq.settled))

/-- The line has been high for 2 µs: a part that waits on it advances (R364). -/
def State.stepHigh (s : State) : State :=
  let s := s.on (fun b => b.put pSEQ0 F.SEQ_STAT.LINE 1)
  if s.atBarrier then (s.on (fun b => b.raiseTo pSEQ0 F.SEQ_BARRIER.LONGEST_US (min 0xFFFF (b.now - s.seq.waitFrom)))).advance else s

/-- The part has waited 25 ms for the line (R364): it becomes SOLO, stops driving SEQ_STEP and advances on its own settling. -/
def State.seqSolo (s : State) : State :=
  if s.atBarrier then
    let s := s.on (fun b => { b with now := max b.now (s.seq.waitFrom + 25000) })
    let wait := s.bd.now - s.seq.waitFrom
    (s.on (fun b => ((b.driveStep false).put pSEQ0 F.SEQ_STAT.SOLO 1).raise pSEQ0 (ev E.SEQ.SOLO b.seqState wait 0 0))).advance
  else s

/-- The state has not settled 20 ms after its first enable (R359, R360). STEP_FAIL names the first input that has not. -/
def State.stepTimeout (s : State) (rail : Nat) : State :=
  let st := s.bd.seqState
  if !s.bd.seqDown && seqMiddle st && !s.seq.settled then
    let lows := smGet (fun _ => 0) s.seq.chatStep rail
    let s := s.on (fun b => { b with now := max b.now (s.seq.enteredAt + 20000) })
    (s.on (fun b => b.raise pSEQ0 (ev E.SEQ.STEP_FAIL (st + rail * 16) (b.get pSEQ0 F.SEQ_STAT.ATTEMPT) lows 0))).failAttempt rail
  else s

/-- STANDBY at the end of the downward order or of SHUTOFF, where a RESET_N that was held takes effect (R377). -/
def State.arriveStandby (s : State) : State :=
  if s.seq.resetHeld then (s.enterStandby false).warmReset else s.enterStandby false

/-- After 100 ms in RETRY_WAIT the sequence restarts at state 2 while ATTEMPT is below RETRIES; otherwise the part
enters STANDBY, opens STEP_FAIL and raises RETRY_EXHAUSTED (R360). -/
def State.retryWaitDone (s : State) : State :=
  if s.bd.seqState ≠ 15 then s
  else
    let s := s.on (fun b => { b with now := max b.now (s.seq.enteredAt + 100000) })
    let att := s.bd.get pSEQ0 F.SEQ_STAT.ATTEMPT
    if att < s.bd.get pSEQ0 F.SEQ_CFG.RETRIES then
      ({ s with seq := { s.seq with failed := false } }.on (fun b => b.put pSEQ0 F.SEQ_STAT.ATTEMPT (att + 1))).enterUp 2
    else
      (s.enterStandby false).on (fun b => (((b.put pSEQ0 F.SEQ_CAUSE.STEP_FAIL 1).seqUnit).raise pSEQ0
        (ev E.SEQ.RETRY_EXHAUSTED (b.get pSEQ0 F.SEQ_LAST.STATE) (att + 1) 0 0)).logFault pSEQ0 E.SEQ.RETRY_EXHAUSTED 0 0 (att + 1) false)

/-- The power-good of a downward state has fallen, or 10 ms have passed (R357, R360, R365, R377). The domains of the state
power down and the part goes on down, ending in RETRY_WAIT after a failed attempt and in STANDBY otherwise; SHUTOFF ends in STANDBY. -/
def State.downStepDone (s : State) : State :=
  let st := s.bd.seqState
  if st = 14 then s.arriveStandby
  else if s.bd.seqDown && seqMiddle st then
    let s := (seqDomains st).foldl (fun s d => if s.bd.domainOn d then s.domainDown d else s) s
    let s := s.on (fun b =>
      let pg := b.get pSEQ1 F.SEQ_RAIL_PG.PG
      b.put pSEQ1 F.SEQ_RAIL_PG.PG (pg - (pg &&& seqRails st)))
    if 2 < st then s.enterDown (st - 1)
    else if s.seq.failed then s.enterSeq 15 false
    else s.arriveStandby
  else s

/-- An input has been sampled low for one low period (R359, R361): its chatter count advances, and an unsettled state waits anew. -/
def State.chatter (s : State) (rail : Nat) : State :=
  let lows := smGet (fun _ => 0) s.seq.chatStep rail + 1
  let s := { s with seq := { s.seq with chatStep := smSet (fun _ => 0) rail lows s.seq.chatStep } }
  s.on (fun b =>
    let b := if rail < 16 then
        b.count pSEQ1 ((if rail % 2 = 0 then F.SEQ_CHATTER.RAIL_LO else F.SEQ_CHATTER.RAIL_HI).ix (rail / 2)) 1
      else b
    b.raise pSEQ0 (ev E.SEQ.CHATTER rail lows 0 0))

/-! ### PFAIL_N, RESET_N and the drain -/

/-- DRAIN begins (R371 steps 1, 2 and 4, R346, R348): every head withholds credits, PDR is in ADMIT, work that has not been admitted stops and Cowslip begins. -/
def State.startDrain (s : State) (event : Nat) : State :=
  let s := s.enterSeq 13 true
  let s := { s with seq := { s.seq with drainBy := event, drainFrom := s.bd.now, creditsHeld := true } }
  let s := s.on (fun b => ((b.put pPDR F.PDR_STAT.PHASE 1).put pRTM F.RTM_STAT.DRAIN 1).overrideLoop 5 0 0 0)
  (s.stopWork).drainPass

/-- PFAIL_N has been low for 1 µs (R369, R371, R373). In RUN the part enters DRAIN, also out of a clean shutdown (R376); below RUN on the way up the attempt ends in the
downward order, with no drain and no failure. -/
def State.pfail (s : State) : State :=
  let st := s.bd.seqState
  let s := s.on (fun b => (b.put pSEQ0 F.SEQ_STAT.PFAIL 1).count pPDR F.PDR_PFAILS.COUNT 1)
  let s := { s with seq := { s.seq with pfailAt := s.bd.now } }
  if st = 12 then
    (s.on (fun b => b.raise pPDR (ev E.PDR.PFAIL (bit b.declared) s.dirty s.regions.length b.dirtyLimit))).startDrain 1
  else if !s.bd.seqDown && seqMiddle st then s.enterDown st
  else if st = 15 then s.enterStandby false
  else s

/-- PFAIL_N was low for less than 1 µs, for `ns` ns (R369). -/
def State.pfailGlitch (s : State) (ns : Nat) : State :=
  s.on (fun b => (b.count pPDR F.PDR_PFAIL_GLITCH.COUNT 1).raise pPDR (ev E.PDR.PFAIL_GLITCH 0 ns 0 0))

/-- 10 µs after DRAIN begins the homes admit no further write, DIRTY is recorded and the ledger takes DRAINING (R371 steps 2 and 3). -/
def State.admitEnd (s : State) : State :=
  if s.bd.seqState = 13 ∧ s.bd.get pPDR F.PDR_STAT.PHASE = 1 then
    let dirty := s.dirty
    let s := s.on (fun b => { b with now := max b.now (s.seq.drainFrom + 10) })
    let s := s.on (fun b => ((b.put pPDR F.PDR_STAT.PHASE 2).put pPDR F.PDR_STAT.HELD 1).put pPDR F.PDR_DIRTY_AT.LINES dirty)
    let s := s.on (fun b => (b.put pPDR F.PDR_SAVED.LINES 0).put pPDR F.PDR_DRAIN_US.US 0)
    (s.writeLedger (s.ledgerNow 2 s.seq.drainBy 63)).drainPass
  else s

/-- The last dirty line is persistent (R371 steps 5 and 6, R372). The ledger takes DRAINED; the part goes on down, or returns to RUN
when the PFAIL_N that began the drain has been released. -/
def State.drained (s : State) : State :=
  if s.bd.seqState = 13 ∧ s.bd.get pPDR F.PDR_STAT.PHASE = 2 ∧ s.drainDone then
    let us := s.bd.now - s.seq.drainFrom
    let saved := s.bd.get pPDR F.PDR_DIRTY_AT.LINES
    let back := decide (s.seq.drainBy = 1) && !s.bd.on pSEQ0 F.SEQ_STAT.PFAIL
    let margin := ofSigned 32 ((s.bd.get pPDR F.PDR_HOLDUP_US.US : Int) - us - 1)
    let s := s.on (fun b => ((b.put pPDR F.PDR_SAVED.LINES saved).put pPDR F.PDR_DRAIN_US.US us).put pPDR F.PDR_MARGIN.US margin)
    let s := s.writeLedger (s.ledgerNow 3 s.seq.drainBy 63)
    let s := s.on (fun b => b.raise pPDR (ev E.PDR.DRAINED (bit back) saved us margin))
    if back then
      let l := { s.ledgerNow 1 1 63 with released := true }
      ((s.endDrain).enterSeq 12 false).writeLedger l
    else (s.on (fun b => (b.put pPDR F.PDR_STAT.PHASE 3).put pRTM F.RTM_STAT.DRAIN 0)).enterDown 11
  else s

/-- PFAIL_N has been high for 1 ms (R369). -/
def State.pfailRelease (s : State) : State := s.on (fun b => b.put pSEQ0 F.SEQ_STAT.PFAIL 0)

/-- Every dirty page is written back (R121). -/
def State.writeBackAll (s : State) : State := (s.dirtyLlns.foldl (fun m l => nsInsert (l / 64) m) []).foldl State.writeBack s

/-- Does SHM show another part in MEMBER (R376)? -/
def Board.otherMembers (b : Board) : Bool := (List.range 32).any (fun p => decide (p ≠ b.selfId) && nbit (b.get pSHM F.SHM_MEMBERS.PARTS) p)

/-- SEQ_CMD.OP = POWER_DOWN (R376): CONFLICT while SHM shows another part in MEMBER, and in a state other than RUN. Otherwise the clean shutdown begins: the heads withhold credits,
the age clocks, patrol cursor and health counts are saved and every dirty line is written back. -/
def State.powerDown (s : State) (p : Path) : State :=
  s.written p pSEQ0 0x048 false false (fun s =>
    let s := s.on (fun b => b.put pSEQ0 F.SEQ_CMD.OP 2)
    if s.bd.seqState ≠ 12 ∨ s.bd.otherMembers ∨ s.bd.cleanDown then s.on (fun b => b.put pSEQ0 F.SEQ_CMD.RESULT Code.conflict.num)
    else
      let s := { s with seq := { s.seq with creditsHeld := true }, wp := { s.wp with cleanMark := false } }
      let s := s.on (fun b => (b.put pSEQ0 F.SEQ_CMD.RESULT Code.busy.num).put pPDR F.PDR_STAT.PHASE 4)
      let s := ((s.saveAge).savePatrol).countHours.saveHealth
      s.writeBackAll)

/-- The clean shutdown goes on as its work completes (R376): write-backs, then the objects and a directory at the slots, and at the end the ledger CLEAN and the downward order. -/
def State.followShutdown (s : State) : State :=
  if !s.bd.cleanDown then s
  else if s.restWritten && s.wp.cleanMark && s.wp.objRun.isNone then
    let s := s.on (fun b => b.put pSEQ0 F.SEQ_CMD.RESULT Code.ok.num)
    ((s.writeLedger (s.ledgerNow 0 2 63)).on (fun b => b.put pPDR F.PDR_STAT.PHASE 3)).enterDown 11
  else s.writeBackAll

/-- RESET_N has been low for `ns` ns (R377, R499). A low of 1 µs or more is an assertion, one below 100 ns is ignored, and between the two the
part is permitted either (an open value decides). In RUN the assertion starts a drain with EVENT RESET; in DRAIN and the downward states it is held until
STANDBY; in any other state it takes effect at once. -/
def State.resetN (s : State) (ns : Nat) : State :=
  let taken := decide (1000 ≤ ns) || (decide (100 ≤ ns) && decide (s.bd.openVal % 2 = 1))
  let s := if 100 ≤ ns ∧ ns < 1000 then s.on Board.useOpen else s
  if !taken then s
  else
    let s := { s with seq := { s.seq with resetLow := true } }
    let st := s.bd.seqState
    if st = 12 then ({ s with seq := { s.seq with resetHeld := true } }).startDrain 3
    else if st = 13 ∨ (s.bd.seqDown ∧ seqMiddle st) then { s with seq := { s.seq with resetHeld := true } }
    else s.warmReset

/-- RESET_N is high again; state 0 may end (R499). -/
def State.resetRelease (s : State) : State := { s with seq := { s.seq with resetLow := false } }

end Sys2Proof.Machine
end

