-- ==== Sys2Proof/Machine/Security.lean ====
section
/-! DEFINITION. The security island (chapter *Identity, firmware and attestation*): the PUF, the random bit generator, firmware images and their verification, attestation and
sessions, debug and tamper. A cryptographic check comes as its outcome, and a digest or signature as the content that it covers (log entry 100). -/

namespace Sys2Proof.Machine

/-! ### Causes and states (R404, R405) -/

/-- A cause of SEC opens; the island is CONTAINED even where it has not left INIT (R404, R411). -/
def Board.secFail (b : Board) (f : Fld) : Board :=
  let b := b.openCause pSEC f
  if b.unit pSEC = stINIT then b.toState pSEC stCONTAINED else b

/-- The endpoint UUID (Table 16-1). -/
def uuidValue : Nat :=
  let v := Config.uuidSeed.toNat
  let v := v - v / 2 ^ 52 % 16 * 2 ^ 52 + 8 * 2 ^ 52
  v - v / 2 ^ 70 % 4 * 2 ^ 70 + 2 * 2 ^ 70

/-- PUF_RECONSTRUCT (R404): `fails` attempts have failed. The third failure opens PUF_FAIL. -/
def State.pufReconstruct (s : State) (fails : Nat) : State :=
  if s.bd.powered pSEC = false ∨ s.bd.on pSEC F.SEC_STAT.PUF_OK ∨ s.bd.on pSEC F.SEC_CAUSE.PUF_FAIL then s
  else if fails < 3 then
    s.on (fun b => (List.range 4).foldl (fun (b : Board) k => b.put pSEC (F.SEC_UUID.UUID.ix k) (uuidValue / 2 ^ (32 * k))) (b.put pSEC F.SEC_STAT.PUF_OK 1))
  else
    s.on (fun b => ((b.secFail F.SEC_CAUSE.PUF_FAIL).raise pSEC (ev E.SEC.PUF_FAIL 3 0 0 0)).logFault pSEC E.SEC.PUF_FAIL 0 0 0 false)

/-- RBG_HEALTH_FAIL (R405, R476). -/
def State.rbgFail (s : State) : State :=
  if s.bd.powered pSEC = false then s
  else ({ s with keys := { s.keys with rbgBad := true } }).on (fun b => (b.openCause pSEC F.SEC_CAUSE.INTERNAL).logContained (b.on pSEC F.SEC_CAUSE.INTERNAL) pSEC 0 0)

/-- RBG_HEALTH_PASS (R405): draws are to be had again; the INTERNAL cause closes only by the management path (R476). -/
def State.rbgPass (s : State) : State := { s with keys := { s.keys with rbgBad := false } }

/-! ### Images (R408 to R411) -/

/-- Bytes [off+n-1:off] of an image header. -/
def imageField (h off n : Nat) : Nat := h / 2 ^ (8 * off) % 2 ^ (8 * n)

/-- SVN, VERSION, BODY_LEN, KEY_ID and KEY_MIN of a header (Table 16-3). -/
def imageSvn (h : Nat) : Nat := imageField h 8 4
/-- VERSION of a header. -/
def imageVersion (h : Nat) : Nat := imageField h 12 4
/-- BODY_LEN of a header. -/
def imageLen (h : Nat) : Nat := imageField h 16 4
/-- KEY_ID of a header. -/
def imageKey (h : Nat) : Nat := imageField h 7 1 % 4
/-- KEY_MIN of a header. -/
def imageKeyMin (h : Nat) : Nat := imageField h 7 1 / 4 % 4

/-- The header with which a part leaves manufacture: MAGIC, FORMAT, TYPE, and a body of 4,096 bytes; SVN and VERSION 0 (log entry 99). -/
def factoryHeader (typ : Nat) : Nat := 0x5746574A + 0x01 * 2 ^ 32 + typ * 2 ^ 40 + 4096 * 2 ^ 128

/-- What a place for an image holds when nothing has been written to it: the first runtime slot and both BL1 copies are written at manufacture. -/
def imageDefault (k : Nat) : Nat := if k = 0 then factoryHeader 2 else if k = 3 ∨ k = 4 then factoryHeader 1 else 0

/-- The image header at place `k`. -/
def Sec.image (c : Sec) (k : Nat) : Nat := smGet imageDefault c.images k

/-- The longest body of a type. -/
def imageLimit (typ : Nat) : Nat := if typ = 1 then 114688 else 67100672

/-- The verification of an image of a type (R409): `pk` says that SIGNER_PK has the hash the ROM holds for KEY_ID, `sig` that SIGNATURE and DIGEST hold. A counter
that cannot be read fails as INTEGRITY (log entry 101). -/
def State.verifyImage (s : State) (h typ : Nat) (pk sig : Bool) : Code :=
  if imageField h 0 4 ≠ 0x5746574A ∨ imageField h 4 1 ≠ 1 then .integrity
  else if imageField h 5 1 ≠ typ ∨ imageField h 6 1 ≠ s.bd.get pDEV F.DEV_STEP.STEPPING then .conflict
  else if imageLen h = 0 then .empty
  else if imageLimit typ < imageLen h ∨ imageLen h % 4096 ≠ 0 then .length
  else if !pk then .integrity
  else
    match s.pst.counter 3, s.pst.counter (typ - 1) with
    | some keyMin, some svn => if imageKey h < keyMin ∨ imageSvn h < svn then .denied else if sig then .ok else .integrity
    | _, _ => .integrity

/-- SEC_BOOT as a record (Table 17-4): its word, and KEY_EPOCH at the last provisioning. -/
def State.storeBoot (s : State) : State := s.storeWords 5 [(s.bd.rd pSEC 0x060).toNat, s.sec.provEpoch % 2 ^ 32, s.sec.provEpoch / 2 ^ 32]

/-- A fallback (R411): `slot` is the runtime slot, or the BL1 copy, that failed. -/
def Board.fellBack (b : Board) (bl1 slot : Nat) (c : Code) : Board :=
  (b.put pSEC F.SEC_STAT.FALLBACK 1).raise pSEC (ev E.SEC.FW_FALLBACK (bl1 + slot * 2) c.num 0 0)

/-- The part cannot run (R411). -/
def Board.fwInvalid (b : Board) : Board := (b.secFail F.SEC_CAUSE.FW_INVALID).logFault pSEC E.SEC.FW_FALLBACK 0 0 0 false

/-- The ROM copies a staged BL1 that verifies over the copy that it has not booted, and sets QUARTER (R412, R426). -/
def State.copyStaged (s : State) (booted : Nat) (pk sig : Bool) : State :=
  let s :=
    if s.bd.on pSEC F.SEC_BOOT.BL1_STAGED then
      let s := if s.verifyImage (s.sec.image 2) 1 pk sig = .ok then
          { s with sec := { s.sec with images := smSet imageDefault (4 - booted) (s.sec.image 2) s.sec.images } }
        else s
      (s.on (fun b => b.put pSEC F.SEC_BOOT.BL1_STAGED 0)).storeBoot
    else s
  s.on (fun b => b.put pPST F.PST_PROTECT.QUARTER 1)

/-- FW_BOOT_VERIFY (R411): bit k of `pk` and `sig` is the outcome of checks 4 and 6 on the image at place k. -/
def State.bootVerify (s : State) (pk sig : Nat) : State :=
  if s.bd.powered pSEC = false ∨ s.seq.stage = 0 ∨ s.bd.on pSEC F.SEC_STAT.RT_VERIFIED ∨ s.bd.on pSEC F.SEC_CAUSE.FW_INVALID then s
  else if (List.range 4).any (fun k => (s.pst.counter k).isNone) then s.on Board.fwInvalid
  else
    let check := fun (k typ : Nat) => s.verifyImage (s.sec.image k) typ (nbit pk k) (nbit sig k)
    let newer := fun (a b : Nat) => decide (imageSvn a < imageSvn b) || (decide (imageSvn a = imageSvn b) && decide (imageVersion a < imageVersion b))
    let first := if newer (s.sec.image 3) (s.sec.image 4) then 1 else 0
    let (c1, c2) := (check (3 + first) 1, check (4 - first) 1)
    if c1 ≠ .ok ∧ c2 ≠ .ok then s.on Board.fwInvalid
    else
      let bl1 := if c1 = .ok then first else 1 - first
      let s := s.on (fun b => (if c1 = .ok then b else b.fellBack 1 first c1).put pSEC F.SEC_STAT.BL1_COPY bl1)
      let s := s.copyStaged bl1 (nbit pk 2) (nbit sig 2)
      let next := s.bd.get pSEC F.SEC_BOOT.NEXT
      let good := s.bd.get pSEC F.SEC_BOOT.LAST_GOOD
      let (r1, r2) := (check next 2, check good 2)
      if r1 ≠ .ok ∧ r2 ≠ .ok then s.on Board.fwInvalid
      else
        let slot := if r1 = .ok then next else good
        let h := s.sec.image slot
        s.on (fun b =>
          let b := if r1 = .ok then b else b.fellBack 0 next r1
          let b := (b.put pSEC F.SEC_STAT.RT_VERIFIED 1).put pSEC F.SEC_STAT.RT_SLOT slot
          (b.put pSEC F.SEC_FW_VER.VERSION (imageVersion h)).put pSEC F.SEC_FW_SVN.SVN (imageSvn h))

/-- One anti-rollback counter advances to a value, where that is higher (R410). -/
def State.advanceSvn (s : State) (n v : Nat) : State :=
  match s.pst.counter n with
  | none => s
  | some old =>
    if v ≤ old then s
    else
      let s := s.pstQueue ⟨2, 0, (s.pst.increment n (v - old)).2.2, .store⟩
      s.on (fun b => b.raise pSEC (ev E.SEC.SVN_ADVANCED n old v 0))

/-- Entry to service (R410, R411): LAST_GOOD takes the running slot and the counters advance. -/
def State.enterCounters (s : State) : State :=
  let slot := s.bd.get pSEC F.SEC_STAT.RT_SLOT
  let s := s.on (fun b => b.put pSEC F.SEC_BOOT.LAST_GOOD slot)
  let rt := s.sec.image slot
  let bl1 := s.sec.image (3 + s.bd.get pSEC F.SEC_STAT.BL1_COPY)
  (((s.storeBoot).advanceSvn 0 (imageSvn bl1)).advanceSvn 1 (imageSvn rt)).advanceSvn 3 (imageKeyMin rt)

/-! ### The transfer buffer and activation (R412) -/

/-- Bytes [lo+n-1:lo] of the transfer buffer, as a number; what no chunk has written reads 0. -/
def Sec.xferRange (c : Sec) (lo n : Nat) : Nat :=
  c.xfer.foldl (fun v (x : Nat × List Byte) =>
    let a := max lo x.1
    let e := min (lo + n) (x.1 + x.2.length)
    if a < e then
      let k := e - a
      let piece := ofBytes x.2 / 2 ^ (8 * (a - x.1)) % 2 ^ (8 * k)
      v - v / 2 ^ (8 * (a - lo)) % 2 ^ (8 * k) * 2 ^ (8 * (a - lo)) + piece * 2 ^ (8 * (a - lo))
    else v) 0

/-- A chunk of FW_TRANSFER (R412). -/
def State.fwTransfer (s : State) (off : Nat) (chunk : List Byte) : Code × State :=
  if 67108864 < off + chunk.length then (.length, s)
  else
    let s := { s with sec := { s.sec with xfer := s.sec.xfer ++ [(off, chunk)] } }
    (.ok, s.on (fun b => b.raiseTo pSEC F.SEC_XFER.BYTES (off + chunk.length)))

/-- FW_ACTIVATE (R412): the activation starts. -/
def State.fwActivate (s : State) (target : Nat) : Code × State :=
  if 2 < target then (.unsupported, s)
  else if s.bd.on pSEC F.SEC_STAT.RT_VERIFIED ∧ target = s.bd.get pSEC F.SEC_STAT.RT_SLOT then (.conflict, s)
  else if s.bd.on pSEC F.SEC_ACT.BUSY then (.busy, s)
  else
    let s := { s with sec := { s.sec with act := some (target, s.bd.now) }, mgmt := { s.mgmt with running := some (0x61, s.bd.now) } }
    (.ok, s.on (fun b => b.wr pSEC 0x064 (BitVec.ofNat 32 (target + 4))))

/-- The pages of the BL1 staging area take an image (Table 17-2). -/
def State.stageBl1 (s : State) (size : Nat) : State :=
  let pages := (List.range (min 512 (ceilDiv size 256))).foldl (fun (m : SMap Nat) k => smSet pstDefault (2428 + k) (s.sec.xferRange (256 * k) 256) m) s.pst.pages
  ({ s with pst := { s.pst with pages := pages } }).on (fun b => b.count pPST F.PST_WRITES.COUNT (ceilDiv size 256))

/-- ACTIVATE_DONE (R412): the activation that runs ends with the outcome of R409; `pk` and `sig` as there. -/
def State.activateDone (s : State) (pk sig : Bool) : State :=
  match s.sec.act with
  | none => s
  | some (target, _) =>
    let h := s.sec.xferRange 0 2048
    let c := s.verifyImage h (if target = 2 then 1 else 2) pk sig
    let s := if c ≠ .ok then s
      else
        let s := { s with sec := { s.sec with images := smSet imageDefault target h s.sec.images } }
        let s := if target = 2 then (s.stageBl1 (8192 + imageLen h)).on (fun b => b.put pSEC F.SEC_BOOT.BL1_STAGED 1)
          else s.on (fun b => (b.put pSEC F.SEC_BOOT.NEXT target).put pSEC F.SEC_BOOT.VALID (nsetbit (b.get pSEC F.SEC_BOOT.VALID) target true))
        s.storeBoot
    let s := { s with sec := { s.sec with act := none, xfer := [] }, mgmt := { s.mgmt with running := none, lastOp := (0x61, c.num) } }
    s.on (fun b =>
      let b := (b.wr pSEC 0x064 (BitVec.ofNat 32 (target + c.num * 2 ^ 8 + 100 * 2 ^ 16))).put pSEC F.SEC_XFER.BYTES 0
      b.raise pSEC (ev E.SEC.ACTIVATE_DONE target c.num (imageSvn h) (imageVersion h)))

/-! ### The operator root, debug and tamper (R415 to R418) -/

/-- STORE_OPR (R415): `auth` says that the write came as a REG_WRITE inside a mutually authenticated session. -/
def State.storeOpr (s : State) (p : Path) (auth : Bool) : State :=
  s.written p pSEC 0x070 false false (fun s =>
    let s := s.on (fun b => b.put pSEC F.SEC_CMD.OP 1)
    if s.bd.on pSEC F.SEC_STAT.OPR_SET ∧ !auth then s.on (fun b => b.put pSEC F.SEC_CMD.RESULT Code.denied.num)
    else
      let s := s.on (fun b => (b.put pSEC F.SEC_STAT.OPR_SET 1).put pSEC F.SEC_CMD.RESULT 0)
      s.storeWords 7 (1 :: (List.range 16).map (fun k => s.bd.get pSEC (F.SEC_OPR.HASH.ix k))))

/-- The open sessions as SEC_STAT and MGT_STAT show them. -/
def State.followSessions (s : State) : State :=
  s.on (fun b =>
    let doe := s.sec.sessions.foldl (fun m x => match x.doe with | some h => nsetbit m h true | none => m) 0
    let b := b.put pSEC F.SEC_STAT.MCTP_SESSIONS (s.sec.sessions.filter (fun x => x.doe.isNone)).length
    (b.put pSEC F.SEC_STAT.DOE_SESSIONS doe).put pMGT F.MGT_STAT.SESSION (bit (!s.sec.sessions.isEmpty)))

/-- Is a tamper response under way: is its KEY_EPOCH increment still to be written (R417)? -/
def State.responding (s : State) : Bool := s.pst.queue.any (fun j => decide (j.after = .epoch))

/-- Zeroisation (R417): key slots, the derived-key cache, the keys of the island, links and sessions; answers how many slots held something. -/
def State.zeroise (s : State) : Nat × State :=
  let n := (s.keys.slots.filter (fun e => decide (e.2.st ≠ 0))).length
  let links : List Link := s.shelf.links.map (fun (l : Link) => { l with keys := 0 })
  let s := { s with
    keys := { s.keys with slots := [], ekDraw := 0, hbmKey := 0, busy := none, sweeps := [] }
    home := { s.home with keyCache := [] }
    sec := { s.sec with sessions := [], nonce := none }
    shelf := { s.shelf with links := links } }
  let s := s.followSessions
  (n, s.on (fun b =>
    let b := (b.put pSEC F.SEC_STAT.PUF_OK 0).put pKEY F.KEY_STAT.BUSY 0
    if b.powered pKEY then b.raise pKEY (ev E.KEY.ZEROISED 0 n 0 0) else b))

/-- Every frame and window line is treated as unwritten, and dirty lines, mirror slots and staged patches are gone (R417); answers the dirty lines. -/
def State.forgetFront (s : State) : Nat × State :=
  let n := s.dirty
  let lives := fun (x : Slot) => !x.staged && (!x.poison || !s.wp.patches.any (fun (p : PatchRef) => p.poison))
  let fromFront := fun (j : Purpose) => match j with | .fold _ => true | .patches _ => true | _ => false
  (n, { s with
    cache := { s.cache with frames := [], staged := [], slots := [], window := [], markers := [], bitmap := [], corrupt := [] }
    mapx := { s.mapx with slots := s.mapx.slots.filter (fun (e : Nat × Slot) => lives e.2) }
    wp := { s.wp with folds := [], foldWait := [], patches := [], jobs := s.wp.jobs.filter (fun j => !fromFront j.why) } })

/-- One tamper response (R417): `debug` says that the opening of debug causes it. A second assertion during a response adds nothing. -/
def State.tamperResponse (s : State) (debug : Bool) : State :=
  if s.responding then s
  else
    let s := s.bumpCounter 2 0 .epoch
    let (slots, s) := s.zeroise
    let (lines, s) := s.forgetFront
    let s := (List.range 2).foldl (fun (s : State) k => if s.bd.powered (pSHL k) ∧ s.bd.phase k ≠ 0 then s.linkGone k false 0 else s) s
    let s := { s with sec := { s.sec with tampered := true } }
    let ns := s.bd.openVal % 10001
    let epoch := s.keyEpoch
    s.on (fun b =>
      let b := (b.useOpen.count pSEC F.SEC_TAMPER.COUNT 1).put pSEC F.SEC_TAMPER.LAST_NS ns
      if b.powered pSEC then
        let b := ((b.put pSEC F.SEC_STAT.TAMPERED 1).openCause pSEC F.SEC_CAUSE.TAMPER).raise pSEC (ev E.SEC.TAMPER (bit debug) lines slots (epoch % 2 ^ 32))
        b.logFault pSEC E.SEC.TAMPER 13 0 lines false
      else b)

/-- TAMPER (R417): TAMPER_N has been low for `ns`, and is `held` low afterwards or not. Less than 200 ns does not qualify. -/
def State.tamper (s : State) (ns : Nat) (held : Bool) : State :=
  let s := if 200 ≤ ns ∧ s.sec.tamperLow = false then s.tamperResponse false else s
  { s with sec := { s.sec with tamperLow := held && (s.sec.tamperLow || decide (200 ≤ ns)) } }

/-- What a WARM or COLD reset makes of TAMPER (R417, R418): it closes with TAMPER_N high; with the pin low, PD00 qualifies it in state 0. -/
def State.resetTamper (s : State) : State :=
  if s.sec.resetSeen = false then s
  else
    let s := { s with sec := { s.sec with resetSeen := false } }
    if s.sec.tamperLow then s.tamperResponse false else { s with sec := { s.sec with tampered := false } }

/-- DBG_NONCE (R416): a fresh nonce is shifted out; not while the generator fails its test (R405). -/
def State.dbgNonce (s : State) : State :=
  if s.bd.powered pSEC = false ∨ s.bd.on pSEC F.SEC_CFG.DEBUG_EN = false ∨ s.keys.rbgBad then s
  else
    let (v, s) := s.draw
    ({ s with sec := { s.sec with nonce := some (v % 2 ^ 64) } }).say (.jtag (leBytes 8 v))

/-- DBG_TOKEN (R416): a token that verifies causes the tamper response and opens debug. -/
def State.dbgToken (s : State) (uuid nonce scope : Nat) (sig : Bool) : State :=
  if s.bd.powered pSEC = false ∨ s.bd.on pSEC F.SEC_CFG.DEBUG_EN = false ∨ uuid ≠ uuidValue ∨ s.sec.nonce ≠ some nonce ∨ !sig then s
  else
    (s.tamperResponse true).on (fun b => (b.put pSEC F.SEC_STAT.DEBUG_OPEN 1).raise pSEC (ev E.SEC.DEBUG_OPENED 0 scope 0 0))

/-! ### Attestation and sessions (R407, R413 to R415) -/

/-- Does the management path answer: the part has left sequence state 0 (R381, R499)? -/
def Board.answers (b : Board) : Bool := decide (b.seqState ≠ 0)

/-- Does the part take messages addressed to its endpoint (R394)? -/
def Board.hears (b : Board) : Bool := b.answers && b.on pMGT F.MGT_STAT.EID_VALID

/-- Does an SPDM request reach the island: over MCTP once the part takes messages, over the DOE mailbox of a head whose link is up (R382, R394, Table 16-5)? -/
def Board.spdmHears (b : Board) (doe : Option Nat) : Bool :=
  match doe with
  | none => b.hears
  | some h => b.powered (pHPT h) && b.on (pHPT h) F.HPT_LINK_STAT.UP && decide (b.unit (pHPT h) ≠ stOFF)

/-- A message that has come over MCTP is counted (Table 15-8). -/
def Board.received (b : Board) (mctp : Bool) : Board := if mctp then b.count pMGT F.MGT_RX_MSG.COUNT 1 else b

/-- An SPDM request, where it reaches the island. -/
def State.spdmTake (s : State) (doe : Option Nat) (f : State → State) : State :=
  if !s.bd.spdmHears doe then s else f (s.on (fun b => b.received doe.isNone))

/-- SPDM answers. -/
def State.spdmSay (s : State) (doe : Option Nat) (session code : Nat) (body : List Byte) : State :=
  { s.say (.spdm doe session code body) with mgmt := { s.mgmt with ready := s.mgmt.ready + bit doe.isNone } }

/-- An SPDM ERROR (code 0x7F) with its error code. -/
def State.spdmError (s : State) (doe : Option Nat) (session err : Nat) : State := s.spdmSay doe session 0x7F (leBytes 1 err)

/-- The requests of Table 16-5. -/
def spdmCodes : List Nat := [0x81, 0x82, 0x83, 0x84, 0x85, 0x86, 0xE0, 0xE1, 0xE3, 0xE4, 0xE5, 0xE8, 0xE9, 0xEA, 0xEB, 0xEC]

/-- Why a request is not taken now: PD04 is unpowered (R381), or the island answers version and capability exchanges only (R404). -/
def State.spdmShut (s : State) (code : Nat) : Bool :=
  s.bd.powered pSEC = false || (s.bd.on pSEC F.SEC_STAT.PUF_OK = false && decide (code ≠ 0x84) && decide (code ≠ 0xE1))

/-- A signed response counts (Table 16-9). -/
def State.signed (s : State) : State := s.on (fun b => b.count pSEC F.SEC_CHAL.COUNT 1)

/-- A session ends. -/
def State.endSession (s : State) (k : Nat) : State :=
  ({ s with sec := { s.sec with sessions := s.sec.sessions.filter (fun x => decide (x.id ≠ k)) } }).followSessions

/-- SPDM_REQUEST (R413): a request other than those with a row of their own; its response has the same code without bit 7. A heartbeat refreshes its session, and
END_SESSION ends it. Where the requester must be authenticated, FINISH with `ok` false ends the exchange (R415). -/
def State.spdmRequest (s : State) (doe : Option Nat) (session code : Nat) (ok : Bool) : State :=
  s.spdmTake doe (fun s =>
    if code ∉ spdmCodes then s.spdmError doe session 0x07
    else if s.spdmShut code then s.spdmError doe session 0x03
    else
      let s := if code = 0x83 then s.signed else s
      let ss : List Session := s.sec.sessions.map (fun (x : Session) => if x.id = session ∧ code = 0xE8 then { x with last := s.bd.now } else x)
      let s := { s with sec := { s.sec with sessions := ss } }
      if code = 0xE5 ∧ !ok then
        (((s.endSession session).on (fun b =>
          (b.count pSEC F.SEC_SESS_FAIL.COUNT 1).raise pSEC (ev E.SEC.SESSION_FAIL (bit doe.isSome + doe.getD 0 * 2) 0x01 0 0)))).spdmError doe session 0x01
      else (if code = 0xEC then s.endSession session else s).spdmSay doe session (code % 0x80) [])

/-- The content of measurement `k` (Table 16-6). Until the runtime image is verified, measurement 3 reads as 64 zero bytes (R407). -/
def State.measurement (s : State) (k : Nat) : List Byte :=
  match k with
  | 1 => leBytes 64 Config.romImage.toNat
  | 2 => leBytes 2048 (s.sec.image (3 + s.bd.get pSEC F.SEC_STAT.BL1_COPY))
  | 3 => if s.bd.on pSEC F.SEC_STAT.RT_VERIFIED then leBytes 2048 (s.sec.image (s.bd.get pSEC F.SEC_STAT.RT_SLOT)) else leBytes 64 0
  | 4 => (List.range 4).flatMap (fun n => leBytes 8 ((s.pst.counter n).getD 0))
  | 5 =>
    leBytes 4 (s.bd.rd pSEC 0x040).toNat ++ leBytes 1 (s.bd.get pMGT F.MGT_CFG.SESSION_REQ) ++ leBytes 1 (s.bd.get pSEC F.SEC_STAT.DEBUG_OPEN)
      ++ leBytes 1 (s.bd.get pSEC F.SEC_STAT.TAMPERED) ++ (List.range 16).flatMap (fun n => leBytes 4 (s.bd.get pSEC (F.SEC_OPR.HASH.ix n)))
  | _ => []

/-- GET_MEASUREMENTS (R414): index 0xFF asks for every block, 0 for their number. -/
def State.getMeasurements (s : State) (doe : Option Nat) (session index : Nat) (sig : Bool) : State :=
  s.spdmTake doe (fun s =>
    if s.spdmShut 0xE0 then s.spdmError doe session 0x03
    else if 5 < index ∧ index ≠ 0xFF then s.spdmError doe session 0x01
    else
      let s := if sig then s.signed else s
      let ks := if index = 0xFF then [1, 2, 3, 4, 5] else if index = 0 then [] else [index]
      s.spdmSay doe session 0x60 (leBytes 1 (if index = 0 then 5 else ks.length) ++ ks.flatMap (fun k => leBytes 1 k ++ s.measurement k)))

/-- KEY_EXCHANGE (R413, R415): `root` is the hash of the key that the requester's chain ends in, `ok` says that its chain and signature verify. -/
def State.keyExchange (s : State) (doe : Option Nat) (root : Line) (ok : Bool) : State :=
  s.spdmTake doe (fun s =>
    let mutual_ := s.bd.on pSEC F.SEC_CFG.MUTUAL
    let opr := (List.range 16).foldl (fun v k => v + s.bd.get pSEC (F.SEC_OPR.HASH.ix k) * 2 ^ (32 * k)) 0
    if s.spdmShut 0xE4 ∨ s.keys.rbgBad then s.spdmError doe 0 0x03
    else if mutual_ ∧ !(ok && decide (root.toNat = opr)) then
      (s.on (fun b =>
        (b.count pSEC F.SEC_SESS_FAIL.COUNT 1).raise pSEC (ev E.SEC.SESSION_FAIL (bit doe.isSome + doe.getD 0 * 2) 0x01 0 0))).spdmError doe 0 0x01
    else if (match doe with
        | none => decide (4 ≤ (s.sec.sessions.filter (fun (x : Session) => x.doe.isNone)).length)
        | some h => s.sec.sessions.any (fun (x : Session) => decide (x.doe = some h))) then s.spdmError doe 0 0x0A
    else
      let (_, s) := s.draw
      let k := s.sec.nextSession
      let x : Session := ⟨k, doe, mutual_, s.bd.now⟩
      let s := { s with sec := { s.sec with sessions := s.sec.sessions ++ [x], nextSession := k + 1 } }
      (s.signed.followSessions).spdmSay doe k 0x64 [])

/-- HEARTBEAT_TIMEOUT (R413): the oldest session has missed two periods of 60 s and ends. -/
def State.heartbeatTimeout (s : State) (k : Nat) : State :=
  match s.sec.sessions[k]? with
  | none => s
  | some x => (s.on (fun b => { b with now := max b.now (x.last + 120000000) })).endSession x.id

end Sys2Proof.Machine
end

