-- ==== Sys2Proof/Machine/Startup.lean ====
section
/-! DEFINITION. From RUN to service (chapter *From supplies valid to service*): HBM training, the restore from META, the choice of path, replay, loading on demand, entry to
service, provisioning, the end of a unit's initialisation, and the timed work of re-key sweeps (R299 to R301). -/

namespace Sys2Proof.Machine

/-! ### HBM training (R383) -/

/-- A cause without a register opens on a page and its unit is CONTAINED, also from INIT. -/
def Board.startFail (b : Board) (page : Nat) : Board :=
  let b := b.openHidden page 1
  if b.unit page = stINIT then b.toState page stCONTAINED else b

/-- Once every stack has trained or failed: INV_ALL, the cache is enabled, the window bitmap is cleared; with both stacks of a pair lost the part stays out of service. -/
def State.frontReady (s : State) : State :=
  if s.cache.trained.length < 4 ∨ s.seq.stage ≠ 0 then s
  else if (s.bd.stackLost 0 && s.bd.stackLost 2) || (s.bd.stackLost 1 && s.bd.stackLost 3) then
    s.on (fun b => [pMAP, pPTX, pXTN].foldl (fun b p => if b.openCauses p = 0 then (b.startFail p).logFault p 0 0 0 0 false else b) b)
  else
    let s := (s.enableCache).setWindow (s.bd.get pVWN F.VWN_CFG.SIZE)
    let s := { s with cache := { s.cache with bitmap := [] }, seq := { s.seq with stage := 1 } }
    s.on (fun b => (b.endInit pFCM false).endInit pVWN (!s.cache.lost.isEmpty))

/-- A stack has trained or failed: its unit leaves INIT. -/
def State.stackSettled (s : State) (k : Nat) : State :=
  let s := { s with cache := { s.cache with trained := nsInsert k s.cache.trained } }
  (s.on (fun b => b.endInit (pFCC k) (b.on (pFCC k) F.FCC_CAUSE.PARTNER_LOSS || decide (b.get (pFCC k) F.FCC_PC_FAIL.PC_FAIL ≠ 0)))).frontReady

/-- May stack `k` train: the sequence is in RUN, its unit is in INIT and it has not settled? -/
def State.training (s : State) (k : Nat) : Bool :=
  decide (s.bd.seqState = 12) && decide (s.bd.unit (pFCC k) = stINIT) && decide (k ∉ s.cache.trained) && decide (s.seq.stage = 0)

/-- HBM_TRAIN_DONE (R383): stack `k` has trained; the pseudo-channels of the mask `bad` failed their training test. -/
def State.hbmTrainDone (s : State) (k bad : Nat) : State :=
  if !s.training k then s else ((bitList bad 32).foldl (fun s p => s.pcFail k p false) s).stackSettled k

/-- HBM_TRAIN_TIMEOUT (R383): stack `k` has not trained within 120 ms of RUN. -/
def State.hbmTrainTimeout (s : State) (k : Nat) : State :=
  if !s.training k then s
  else
    let s := s.on (fun b => { b with now := max b.now (s.seq.enteredAt + 120000) })
    (s.stackFail k 1).stackSettled k

/-! ### Restore from META (R384, R279) -/

/-- The content of META segment `n` as its current page holds it. -/
def State.segmentAt (s : State) (n : Nat) : List Nat :=
  match smFind n s.wp.metaIdx with
  | none => []
  | some r => match smFind r.ppa s.media.pages with
    | none => []
    | some p => p.kindData.drop 2

/-- The entries of `w` words of the segments from `first`, `count` of them. -/
def State.segmentEntries (s : State) (first count w : Nat) : List (List Nat) :=
  ((s.wp.metaIdx.map Prod.fst).filter (fun n => decide (first ≤ n) && decide (n < first + count))).flatMap (fun n => entriesOf w (s.segmentAt n))

/-- A key slot is restored from its sealed record: one of another KEY_EPOCH leaves it EMPTY and raises UNSEAL_FAILED; one in SWEEP resumes from the saved cursor. -/
def State.restoreSlot (s : State) (e : List Nat) : State :=
  let k := e.getD 0 0
  let st := e.getD 1 0
  if st = 0 then s
  else if e.getD 5 0 ≠ s.keyEpoch then s.on (fun b => b.raise pKEY (ev E.KEY.UNSEAL_FAILED k 0 0 0))
  else
    let s := s.setKeySlot k ⟨if st = 2 then 1 else st, e.getD 2 0, e.getD 4 0, decide (e.getD 3 0 = 1), false, 0⟩
    if st ≠ 3 ∧ st ≠ 4 then s
    else
      let v := ((chunks 2 129 (s.recordWords 11)).map (fun w => w.getD 0 0 + w.getD 1 0 * 2 ^ 32)).find? (fun v => decide (v % 2 ^ 12 = k))
      let cursor := (v.map (fun v => nbits v 12 32)).getD 0
      let spent := (v.map (fun v => nbits v 44 20)).getD 0
      let w : Sweep := ⟨k, [], 0, s.bd.now - spent * 1000000, none, false, 0, cursor, s.wp.jsn⟩
      { s with keys := { s.keys with sweeps := s.keys.sweeps ++ [w] } }

/-- The sweeps of restored slots take their pages, once the extent tables are there. -/
def State.resumeSweeps (s : State) : State :=
  { s with keys := { s.keys with sweeps := s.keys.sweeps.map (fun (w : Sweep) =>
    { w with left := (s.sweepPages w.slot none).filter (fun (e : Nat × Nat) => decide (w.cursor ≤ e.1)) }) } }

/-- The extent tables and erase epochs are restored; an extent found ERASING is erased again under a new epoch (Table 20-6, R295). -/
def State.restoreTables (s : State) : State :=
  let hxt := (s.segmentEntries 4096 32 5).foldl (fun (m : SMap Hxt) e =>
    smSet hxtDefault (e.getD 0 0) { Hxt.ofWords (e.getD 1 0) (e.getD 2 0) (e.getD 3 0) (e.getD 4 0) with forced := nbit (e.getD 2 0) 7 } m) []
  let xmb := (s.segmentEntries 4128 64 5).foldl (fun (m : SMap Xmb) e => smSet xmbDefault (e.getD 0 0) (Xmb.ofWords (e.getD 1 0) (e.getD 2 0)) m) []
  let lxt := (s.segmentEntries 4192 96 5).foldl (fun (m : SMap Lxt) e => smSet lxtDefault (e.getD 0 0) (Lxt.ofWords (e.getD 1 0) (e.getD 2 0)) m) []
  let eet := (s.segmentEntries 4288 96 2).foldl (fun (m : SMap Nat) e => smSet (fun _ => 0) (e.getD 0 0) (e.getD 1 0) m) []
  let s := { s with xtn := { s.xtn with hxt := hxt, xmb := xmb, lxt := lxt, eet := eet } }
  let erasing := (lxt.filter (fun (e : Nat × Lxt) => decide (e.2.st = 2))).map Prod.fst
  let s := erasing.foldl (fun s x =>
    { s with
      xtn := { s.xtn with eet := smSet (fun _ => 0) x (s.eet x + 1) s.xtn.eet }
      keys := { s.keys with erases := s.keys.erases ++ [(x, s.bd.now)] } }) s
  if erasing = [] then s
  else s.on (fun b => (b.put pCRY F.CRY_ERASE_STAT.ACTIVE 1).put pCRY F.CRY_ERASE_STAT.QUEUED (erasing.length - 1))

/-! ### The ledger found and the choice of path (R378, R384, Table 13-6) -/

/-- A start that finds no map it can trust (R213, R388, R420): CKP is CONTAINED. -/
def State.ckpOut (s : State) (c : Code) : State :=
  s.on (fun b =>
    let b := (b.startFail pCKP).logFault pCKP 0 0 0 0 false
    if c = .ok then b else b.put pCKP F.ERR_INFO0.CODE c.num)

/-- What each start does with the ledger before CKP acts: the dirty shutdown count (counter 4), and the breach of a declared hold-up. -/
def State.actOnLedger (s : State) : State :=
  let l := s.ledgerFound
  let s := if l.st = 1 ∨ l.st = 2 ∨ l.st = 4 then s.bumpCounter 4 2 .store else s
  if (l.st = 1 ∨ l.st = 2) ∧ l.declared then
    let s := s.on (fun b => b.raise pPDR (ev E.PDR.HOLDUP_BREACH l.st l.dirty l.saved 0))
    (List.range 8).foldl (fun s h => if nbit (s.bd.states (pHPT h)) stINIT then s.hostRecord h 3 1 0 0x10 l.st else s) s
  else s

/-- Phase 7: the directory is loaded and objects load on demand (R384, R386). -/
def State.cleanStart (s : State) : State :=
  let s := { s with mapx := { s.mapx with loaded := [], loadedAll := false, loadFrom := s.bd.now }, seq := { s.seq with stage := 4 } }
  s.on (fun b => (b.put pCKP F.CKP_STAT.PHASE 7).put pCKP F.CKP_STAT.CLEAN_START 1)

/-- META_RESTORE (R384, R388, R420): `dirBad` says that the directory that CKP_ROOT names fails, `segBad` that a current segment fails verification. -/
def State.metaRestore (s : State) (dirBad segBad : Bool) : State :=
  if s.seq.stage ≠ 1 ∨ s.bd.openCauses pCKP ≠ 0 then s
  else
    let s := s.actOnLedger
    match s.recordBody 1 with
    | none => s.ckpOut .ok
    | some _ =>
      if dirBad ∨ segBad then s.ckpOut .integrity
      else
        let s := (s.segmentEntries 4384 128 6).foldl State.restoreSlot s
        let s := s.on (fun b => if b.on pSEC F.SEC_STAT.PUF_OK then b.endInit pKEY false else b)
        let s := s.restoreTables.resumeSweeps
        let s := if s.recordLost 9 then s.loadHealth (s.segmentAt 4512) else s
        if s.ledgerFound.st = 0 ∧ s.wp.cleanMark then s.cleanStart
        else
          let s := { s with seq := { s.seq with stage := 2 } }
          s.on (fun b => b.put pCKP F.CKP_STAT.CLEAN_START 0)

/-! ### Replay (R214, R215) -/

/-- The open bands in the order of their first stripe. -/
def State.openBands (s : State) : List Nat := (sortBy (fun (e : Nat × Band) => e.2.first) (s.media.bands.filter (fun (e : Nat × Band) => decide (e.2.st = 1)))).map Prod.fst

/-- The stripes of a band of which two positions fail, as the places of their pages; they are discarded. -/
def State.tornStripes (s : State) (band : Nat) : List Nat :=
  let bad := fun (c g : Nat) => (smFind (ppaOf band c g * 128 + 127) s.media.flips).isSome || (smFind (ppaOf band c g * 128 + 64) s.media.flips).isSome
  (List.range (s.band band).next).filter (fun g => decide (2 ≤ ((s.band band).included.filter (fun c => bad c g)).length))

/-- Discards the stripes of a band that do not decode, and counts them. -/
def State.discardTorn (s : State) (band : Nat) : State :=
  (s.tornStripes band).foldl (fun s g =>
    let bad := (s.band band).included.filter (fun c => (smFind (ppaOf band c g * 128 + 127) s.media.flips).isSome || (smFind (ppaOf band c g * 128 + 64) s.media.flips).isSome)
    let seq := ((smFind (ppaOf band (bad.getD 0 0) g) s.media.pages).map MPage.seq).getD 0
    let s := { s with media := { s.media with pages := s.media.pages.filter (fun (e : Nat × MPage) => !(decide (ppaBand e.1 = band) && decide (ppaPage e.1 = g))) } }
    s.on (fun b => (b.count pCKP F.CKP_REPLAY_DROP.COUNT 1).raise pCKP (ev E.CKP.STRIPE_DISCARDED (bad.getD 0 0 + bad.getD 1 0 * 16) band seq g))) s

/-- Step 3: the headers of the base pages of an open band; a newer generation makes its page current. -/
def State.replayHeaders (s : State) (band : Nat) : State :=
  let pages := sortBy (fun (e : Nat × MPage) => e.2.seq) (s.media.pages.filter (fun (e : Nat × MPage) => decide (ppaBand e.1 = band) && decide (e.2.kind = 1)))
  pages.foldl (fun s (e : Nat × MPage) =>
    let m := s.mapEntry e.2.page
    if serialNewer 24 e.2.gen m.gen then
      let s := s.setMap e.2.page { m with ppa := e.1, gen := e.2.gen, stream := e.2.stream, patched := false, poison := false, zero := false, unmapped := false, fresh := false }
      s.on (fun b => b.count pCKP F.CKP_REPLAY_HDR.COUNT 1)
    else s) s

/-- Step 4: one descriptor of a patch-log page. -/
def State.replayPatch (s : State) (ppa frame : Nat) (f : MFrame) : State :=
  let m := s.mapEntry (f.lln / 64)
  if f.gen % 4096 ≠ m.gen % 4096 then s
  else
    let old := s.slotOf f.lln
    if f.pseq = 0 then
      ((match old with
        | some x => s.putSlot f.lln x.staged true x.loc x.pslot x.pseq
        | none => s.putSlot f.lln false true ppa frame 0).getD s)
    else
      let newer := match old with | none => true | some x => decide (x.pseq < f.pseq)
      if newer then ((s.putSlot f.lln false false ppa frame f.pseq).getD s).on (fun b => b.count pCKP F.CKP_REPLAY_PATCH.COUNT 1) else s

/-- Step 4: the patch-log pages in LOG_SEQ order. -/
def State.replayLog (s : State) : State :=
  let pages := sortBy (fun (e : Nat × MPage) => e.2.kindData.getD 0 0) (s.media.pages.filter (fun (e : Nat × MPage) => decide (e.2.kind = 2)))
  pages.foldl (fun s (e : Nat × MPage) => e.2.frames.foldl (fun s (f : Nat × MFrame) => s.replayPatch e.1 f.1 f.2) s) s

/-- Step 5: PATCHED is set from the slots. -/
def State.recount (s : State) : State :=
  s.mapx.map.foldl (fun s (e : Nat × MapEntry) => s.setMap e.1 { s.mapEntry e.1 with patched := !(s.mapEntry e.1).poison && s.pageHasSlot e.1 }) s

/-- REPLAY (R214): after a start without a clean mark, replay runs through step 5. -/
def State.replay (s : State) : State :=
  if s.seq.stage ≠ 2 then s
  else
    let tail := s.journalTail
    let recs := (s.wp.jpages.map (fun (p : Nat × Nat × Nat) => p.1 + p.2.2 - max p.1 tail)).sum
    let s := s.on (fun b =>
      (((b.put pCKP F.CKP_REPLAY_REC.COUNT recs).put pCKP F.CKP_REPLAY_HDR.COUNT 0).put pCKP F.CKP_REPLAY_PATCH.COUNT 0).put pCKP F.CKP_REPLAY_DROP.COUNT 0)
    let bands := s.openBands
    let s := bands.foldl (fun s x => ((s.discardTorn x).replayHeaders x).closeBand x false) s
    let s := (s.replayLog).recount
    let s := { s with wp := { s.wp with replayFrom := s.bd.now }, seq := { s.seq with stage := 3 } }
    s.on (fun b => b.put pCKP F.CKP_STAT.PHASE 6)

/-! ### Listed regions (R379) -/

/-- Does a local extent serve a mirrored shelf extent, as far as this part's tables show it (log entry 103)? -/
def State.servesMirror (s : State) (x : Nat) : Bool :=
  let e := s.lxt x
  decide (e.role = 1) || s.xtn.hxt.any (fun (h : Nat × Hxt) => h.2.mirror && decide (h.2.sxn = e.sxn))
    || s.shelf.grants.any (fun g => decide (g.sxn = e.sxn) && decide (2 ≤ (g.owners.filter (fun o => decide (o.1 = s.bd.selfId ∨ o.1 = Nat.xor s.bd.selfId 1))).length))

/-- A page of a listed region is poisoned: ZERO and PATCHED clear, its slots are free, and MAP_SET is journalled. -/
def State.poisonListed (s : State) (page : Nat) : State :=
  let e := s.mapEntry page
  let s := (List.range 64).foldl (fun s n => s.freeSlot (page * 64 + n)) s
  (s.mapSet page { e with poison := true, zero := false, patched := false, fresh := false } false).on (fun b => b.count pPDR F.PDR_POISONED.PAGES 1)

/-- One listed region: 4,096 pages, which all lie in one local extent; a mirrored one is deferred. -/
def State.listedRegion (s : State) (r : Nat) (defer : Bool) : State :=
  let x := r * 2 ^ 12 / 2 ^ 16
  if (s.lxt x).st ≠ 1 then s
  else if defer ∧ s.servesMirror x then
    ({ s with seq := { s.seq with deferred := nsInsert r s.seq.deferred } }).on (fun b => b.count pPDR F.PDR_DEFERRED.REGIONS 1)
  else (List.range 4096).foldl (fun s i => s.poisonListed (r * 4096 + i)) s

/-- The regions of the ledger's runs. -/
def State.listedRegions (s : State) : List Nat := s.seq.runs.flatMap (fun (r : Nat × Nat) => (List.range r.2).map (fun i => r.1 + i))

/-- The deferred regions are settled when the part has joined: dropped where the partner is a MEMBER, poisoned otherwise (R379). -/
def State.settleDeferred (s : State) : State :=
  if s.seq.deferred = [] ∨ s.bd.joined = false ∨ s.seq.stage ≠ 5 then s
  else
    let rs := s.seq.deferred
    let s := ({ s with seq := { s.seq with deferred := [] } }).on (fun b => b.put pPDR F.PDR_DEFERRED.REGIONS 0)
    if s.member (Nat.xor s.bd.selfId 1) = 2 then s else rs.foldl (fun s r => s.listedRegion r false) s

/-- REPLAY_DONE (R215, R379): `lost` says that a channel was lost meanwhile. Every object is resident; the listed regions are handled. -/
def State.replayDone (s : State) (lost : Bool) : State :=
  if s.seq.stage ≠ 3 then s
  else
    let ms := min 65535 ((s.bd.now - s.wp.replayFrom) / 1000)
    let s := { s with mapx := { s.mapx with loadedAll := true, loaded := [] }, seq := { s.seq with stage := 4 } }
    let s := s.on (fun b => (((b.put pCKP F.CKP_STAT.PHASE 0).put pCKP F.CKP_REPLAY_MS.MS ms).put pMAP F.MAP_SEG_STAT.ALL_LOADED 1).put pPDR F.PDR_POISONED.PAGES 0
      |>.put pPDR F.PDR_DEFERRED.REGIONS 0)
    let s := s.on (fun b => ((b.endInit pMAP false).endInit pPTX false).endInit pCKP false)
    let l := s.ledgerFound
    let s := if l.st = 4 ∧ l.declared then
        let s := s.listedRegions.foldl (fun s r => s.listedRegion r true) s
        let n := s.listedRegions.length - s.seq.deferred.length
        s.on (fun b => b.raise pPDR (ev E.PDR.LEDGER_POISON 0 n (b.get pPDR F.PDR_POISONED.PAGES) (b.get pPDR F.PDR_DEFERRED.REGIONS)))
      else s
    s.on (fun b => b.raise pCKP (ev E.CKP.REPLAY_DONE (bit lost) ms (b.get pCKP F.CKP_REPLAY_REC.COUNT) (b.get pCKP F.CKP_REPLAY_DROP.COUNT)))

/-! ### Loading on demand and entry to service (R385, R386) -/

/-- OBJECT_LOAD_DONE (R386): object `j` is resident; with the last one, PHASE is 0 and the units leave INIT. -/
def State.objectLoadDone (s : State) (j : Nat) : State :=
  if s.bd.get pCKP F.CKP_STAT.PHASE ≠ 7 ∨ j ∈ s.mapx.loaded ∨ s.mapx.loadedAll then s
  else
    let loaded := nsInsert j s.mapx.loaded
    if loaded.length < 32768 then
      ({ s with mapx := { s.mapx with loaded := loaded } }).on (fun b =>
        b.put pMAP F.MAP_SEG_STAT.LOADED (loaded.filter (fun k => decide (k < 24576))).length)
    else
      let s := { s with mapx := { s.mapx with loaded := [], loadedAll := true } }
      s.on (fun b =>
        let b := (b.put pCKP F.CKP_STAT.PHASE 0).put pMAP F.MAP_SEG_STAT.ALL_LOADED 1
        ((b.endInit pMAP false).endInit pPTX false).endInit pCKP false)

/-- May the part enter service: the map is ready, the firmware runs, the keys are restored, and XTN is not CONTAINED (R383 to R385, R404, R411)? -/
def State.mayServe (s : State) : Bool :=
  decide (s.seq.stage = 4) && decide (s.bd.seqState = 12) && s.bd.on pSEC F.SEC_STAT.RT_VERIFIED && !s.bd.on pSEC F.SEC_CAUSE.PUF_FAIL
    && !s.bd.on pSEC F.SEC_CAUSE.FW_INVALID && decide (s.bd.unit pKEY ≠ stINIT) && decide (s.bd.unit pXTN = stINIT)

/-- ENTER_SERVICE (R385, R410, R411): the dirty region map and the run area are cleared, XTN serves, the ledger takes RUN, the counters advance, and the part joins. -/
def State.enterService (s : State) : State :=
  if !s.mayServe then s
  else
    let used := (List.range 252).filter (fun k => decide (s.pst.page (runArea + k) ≠ 0))
    let s := if used = [] then s else s.pstQueue ⟨1, 0, used.map (fun k => (runArea + k, 0)), .store⟩
    let s := { s with seq := { s.seq with stage := 5, regions := [] } }
    let s := s.on (fun b => b.endInit pXTN false)
    let s := s.writeLedger (s.ledgerNow 1 0 63)
    (s.enterCounters).sendJoin

/-! ### Provisioning (R388) -/

/-- PROVISION (R388): CONFLICT unless a start has left CKP CONTAINED for want of a valid CKP_ROOT, or for another SHELF_ID than the straps gave. -/
def State.provision (s : State) (shelf : Nat) : Code × State :=
  let open_ := nbit (smGet (fun _ => 0) s.bd.causes pCKP) 1
  if s.bd.unit pCKP ≠ stCONTAINED ∨ !open_ ∨ shelf ≠ s.seq.shelfId then (.conflict, s)
  else
    let s := { s with
      mapx := { s.mapx with map := [], slots := [] }
      xtn := { s.xtn with hxt := [], xmb := [], lxt := [], eet := [], zeroed := [] }
      media := { s.media with bands := [], fields := [] }
      age := { s.age with clocks := List.replicate 16 0, hist := [], histMs := [] } }
    let w : Wp := { s.wp with
      jrec := [], jpages := [], jsn := 2, journalled := 2, objects := [], dirtyObjs := [], objRun := none, segDone := 0, dirPpa := 0, dirJsn := 1, ckptBands := [],
      metaIdx := [], metaDirty := [], metaDone := [], cleanMark := true, logSeq := 1 }
    let s := { s with wp := w, sec := { s.sec with provEpoch := s.keyEpoch } }
    let s := (s.storeRoot).storeBoot
    let s := s.on (fun b =>
      let b := (b.put pWGV F.WGV_SERVICE.HOURS 0).wr pHLT F.HLT_TEMP_PEAK.DIE.off 0
      let b := lifeCounters.foldl (fun b f => b.put pHLT f 0) b
      let b := (b.put pPTL F.PTL_LAP.LAP 0).wr pPTL F.PTL_POS.BAND.off 0
      let b := (b.closeHidden pCKP 1).toState pCKP stINIT
      if b.on pSEC F.SEC_STAT.PUF_OK then b.endInit pKEY false else b)
    let s := { s with mgmt := { s.mgmt with lastOp := (0x50, 0) } }
    (.ok, s.cleanStart)

/-! ### The end of a unit's initialisation (R24) -/

/-- Does a unit leave INIT by work of its own that another row names? -/
def State.initElsewhere (s : State) (page : Nat) : Bool :=
  match blockOf page with
  | none => true
  | some (.hpt, h) => !(s.bd.on (pHPT h) F.HPT_LINK_STAT.UP && s.bd.on (pHPT h) F.HPT_LINK_STAT.CXL_MEM) || (s.head? h).any (fun (d : Head) => d.resetting)
  | some (.shl, _) | some (.rtm, _) => true
  | some (.seq0, _) => decide (s.bd.seqState = 0)
  | some (.fcc, k) => decide (k ∉ s.cache.trained)
  | some (.fcm, _) | some (.vwn, _) => decide (s.seq.stage = 0)
  | some (.mch, c) => decide (s.bd.get (pMCH c) F.MCH_CAUSE.REBUILD = 0) && (s.media.dieIds.filter (fun (e : Nat × Nat) => decide (e.1 / 8 = c))).isEmpty
  | some (.key, _) => decide (s.seq.stage < 2) || !s.bd.on pSEC F.SEC_STAT.PUF_OK
  | some (.sec, _) => !s.bd.on pSEC F.SEC_STAT.PUF_OK
  | some (.xtn, _) => decide (s.seq.stage ≠ 5)
  | some (.map, _) | some (.ptx, _) | some (.ckp, _) => !s.mapx.loadedAll
  | some (.age, _) => decide (s.seq.stage < 2)
  | _ => false

/-- Is the redundancy of a unit reduced (R24)? -/
def State.reduced (s : State) (page : Nat) : Bool :=
  match blockOf page with
  | some (.fcc, k) => s.bd.on (pFCC k) F.FCC_CAUSE.PARTNER_LOSS || decide (s.bd.get (pFCC k) F.FCC_PC_FAIL.PC_FAIL ≠ 0)
  | some (.vwn, _) => !s.cache.lost.isEmpty
  | some (.pst, _) => s.pstReduced
  | some (.age, _) => s.bd.ageReduced
  | some (.hpt, h) => s.bd.headReduced h
  | some (.shl, k) => s.bd.on (pSHL k) F.SHL_CAUSE.NARROW || s.bd.on (pSHL k) F.SHL_CAUSE.SLOW
  | some (.shm, _) => s.bd.shelfReduced
  | some (.mch, c) => (List.range 8).any (fun d => decide (s.bd.dieState c d = 3)) || !(s.leftOut c).isEmpty
  | some (.rtm, _) => decide (s.bd.get pRTM F.RTM_STAT.TICK ≠ 1)
  | some (.thm, _) => decide (s.bd.get pTHM F.THM_SUSPECT_LO.SENSORS ≠ 0 ∨ s.bd.get pTHM F.THM_SUSPECT_HI.SENSORS ≠ 0 ∨
      s.bd.get pTHM F.THM_MISSING_LO.SENSORS ≠ 0 ∨ s.bd.get pTHM F.THM_MISSING_HI.SENSORS ≠ 0)
  | _ => false

/-- UNIT_INIT_DONE (R24): a unit in INIT whose initialisation is its own enters SERVICE, DEGRADED or CONTAINED. -/
def State.unitInitDone (s : State) (page : Nat) : State :=
  if s.initElsewhere page ∨ s.bd.unit page ≠ stINIT then s else s.on (fun b => b.endInit page (s.reduced page))

/-! ### Timed work of a sweep (R299 to R301) -/

/-- Seconds since a sweep began. -/
def State.sweepSeconds (s : State) (w : Sweep) : Nat := (s.bd.now - w.start) / 1000000

/-- The lowest page of a sweep whose fold has not been journalled: the lowest one left, or, while the last records wait, the cursor saved before. -/
def State.sweepCursor (s : State) (w : Sweep) : Nat :=
  match w.left.map Prod.fst with
  | [] => if w.journalAt ≤ s.wp.journalled then 0xFFFFFFFF else w.cursor
  | p :: ps => if w.journalAt ≤ s.wp.journalled then ps.foldl min p else min w.cursor (ps.foldl min p)

/-- SWEEP_RATE_PERIOD (R299): each sweep takes its rate for the next second and asks for that many folds. A drain issues none (R371). -/
def State.sweepRate (s : State) : State :=
  let s := s.on (fun b => b.elapse 16 1000000)
  if s.bd.get pPDR F.PDR_STAT.PHASE = 1 ∨ s.bd.get pPDR F.PDR_STAT.PHASE = 2 then s
  else
    (s.keys.sweeps.filter (fun w => decide ((s.keySlot w.slot).st = 3))).foldl (fun s w =>
      let rate := ceilDiv w.left.length (max 1 (s.bd.get pRKY F.RKY_CFG.TARGET_S - s.sweepSeconds w))
      let ask := ((w.left.filter (fun e => decide (e.2 = 0))).take rate).map Prod.fst
      let s := ask.foldl (fun s p => s.wantFold p 6) s
      s.onSweep w.slot (fun w => { w with rate := rate, left := w.left.map (fun (e : Nat × Nat) => if e.1 ∈ ask then (e.1, 1) else e) })) s

/-- SWEEP_CURSOR_SAVE (R301): the record KEY_SWEEP, one entry of 8 B for each slot in PREPARE, SWEEP or RETIRE. -/
def State.sweepSave (s : State) : State :=
  let s := s.on (fun b => b.elapse 9 60000000)
  if s.keys.sweeps = [] then s
  else
    let body := s.keys.sweeps.flatMap (fun w =>
      leBytes 8 (w.slot % 2 ^ 12 + s.sweepCursor w % 2 ^ 32 * 2 ^ 12 + min (2 ^ 20 - 1) (s.sweepSeconds w) * 2 ^ 44))
    let s := { s with keys := { s.keys with sweeps := s.keys.sweeps.map (fun (w : Sweep) => { w with cursor := s.sweepCursor w }) } }
    s.store 11 body

/-- SWEEP_LATE (R300): the sweep of a slot passes 900 s. -/
def State.sweepLate (s : State) (k : Nat) : State :=
  match s.sweepOf k with
  | none => s
  | some w =>
    if w.late ∨ (s.keySlot k).st ≠ 3 then s
    else
      let s := s.on (fun b => { b with now := max b.now (w.start + 900000000) })
      (s.onSweep k (fun w => { w with late := true })).on (fun b =>
        (b.count pRKY F.RKY_LATE.COUNT 1).raise pRKY (ev E.RKY.SWEEP_LATE k w.left.length (s.sweepSeconds w) 0))

end Sys2Proof.Machine
end

