-- ==== Sys2Proof/Machine/Copy.lean ====
section
/-! DEFINITION. The copy engines (chapter *Copy engines and event queues*, R437 to R447): descriptors, their lines, halts, resumes and aborts. Channels 0 to 31 are the descriptor
channels, 32 to 39 the simple channels. -/

namespace Sys2Proof.Machine

/-! ### Registers of a channel (Table 18-3) -/

/-- The page of a channel. -/
def chanPage (c : Nat) : Nat := if c < 32 then pCPD (c / 4) else pCPS

/-- Its place in the page. -/
def chanPos (c : Nat) : Nat := if c < 32 then c % 4 else c - 32

/-- The offset of its CTL register. -/
def chanCtl (c : Nat) : Nat := if c < 32 then 0x100 + 0x100 * (c % 4) else 0x100 + 0x40 * (c - 32)

/-- The offset of the set that it runs. -/
def chanSet (c : Nat) : Nat := chanCtl c + (if c < 32 then 0x20 else 0x14)

/-- A field of its STAT register. -/
def chanStat (c : Nat) (f : Fld) : Fld := ⟨chanCtl c + 4, f.lo, f.width, 0⟩

/-- STATE of a channel: 0 IDLE, 1 BUSY, 2 HALTED, 3 ABORTED. -/
def Board.chanState (b : Board) (c : Nat) : Nat := b.get (chanPage c) (chanStat c F.CPD_STAT.STATE)

/-- A channel with nothing to do. -/
def CopyChan.idle : CopyChan := ⟨0, [], none, [], [], false, false, false⟩

/-- What a channel holds. -/
def State.chan (s : State) (c : Nat) : CopyChan := smGet (fun _ => CopyChan.idle) s.copy.chans c

/-- The state with a channel replaced. -/
def State.setChan (s : State) (c : Nat) (x : CopyChan) : State :=
  { s with copy := { s.copy with chans := smSet (fun _ => CopyChan.idle) c x s.copy.chans } }

/-- A descriptor (R438). -/
structure Desc where
  src : Nat
  dst : Nat
  pattern : Nat
  len : Nat
  head : Nat
  op : Nat
  key : Nat
  fence : Bool
  scope : Nat
  pass : Bool
  record : Bool
  queue : Nat
deriving DecidableEq, Repr

/-- The set that a channel runs. -/
def Board.desc (b : Board) (c : Nat) : Desc :=
  let w := fun (k : Nat) => (b.rd (chanPage c) (chanSet c + 4 * k)).toNat
  let a := w 5
  { src := w 0 / 16 * 16 + w 1 * 2 ^ 32, dst := w 2 / 16 * 16 + w 3 * 2 ^ 32, pattern := w 1, len := w 4 % 2 ^ 28 * 16, head := nbits a 0 3, op := nbits a 3 2,
    key := nbits a 5 12, fence := nbit a 17, scope := nbits a 18 2, pass := nbit a 20, record := nbit a 21, queue := nbits a 22 6 }

/-- The identifier under which a channel's requests travel (R437). -/
def Board.chanOid (b : Board) (c : Nat) : Nat := if c < 32 then oidOf b.selfId 1 c else oidOf b.selfId 2 (c - 32)

/-- The channel of an identifier of this part. -/
def chanOf (oid : Nat) : Option Nat := match oidClass oid with | 1 => some (oidInst oid) | 2 => some (32 + oidInst oid) | _ => none

/-! ### Ends (R444, R450) -/

/-- DONE: every byte below it has been written. -/
def CopyChan.done (x : CopyChan) : Nat := ((x.lines.map CopyLine.off) ++ x.failed).foldl min x.pos

/-- The lines of a channel in flight: a whole page of a ZERO is 64 of them. -/
def CopyChan.inFlight (x : CopyChan) : Nat := (x.lines.map (fun l => ceilDiv l.size 64)).sum

/-- DONE and INFLIGHT are shown. -/
def State.showChan (s : State) (c : Nat) : State :=
  let x := s.chan c
  s.on (fun b => (b.put (chanPage c) ⟨chanCtl c + 8, 0, 32, 0⟩ x.done).put (chanPage c) (chanStat c F.CPD_STAT.INFLIGHT) x.inFlight)

/-- The copy record of a channel (Table 18-2). -/
def Board.copyRecord (b : Board) (c : Nat) : List Byte :=
  let p := chanPage c
  let st := fun (f : Fld) => b.get p (chanStat c f)
  let w := fun (k : Nat) => (b.rd p (chanSet c + 4 * k)).toNat
  leBytes 2 p ++ leBytes 1 (chanPos c) ++ leBytes 1 (st F.CPD_STAT.RESULT)
    ++ leBytes 4 (st F.CPD_STAT.CAUSE + st F.CPD_STAT.FSTATUS * 2 ^ 4 + st F.CPD_STAT.DURABLE * 2 ^ 6 + st F.CPD_STAT.NOT_DURABLE * 2 ^ 7)
    ++ leBytes 4 (b.rd p (chanCtl c + 8)).toNat ++ leBytes 4 (b.rd p (chanCtl c + 0xC)).toNat ++ leBytes 4 (b.rd p (chanCtl c + 0x10)).toNat
    ++ leBytes 8 b.rackTime ++ leBytes 4 (w 4) ++ leBytes 4 0 ++ leBytes 4 (w 0) ++ leBytes 4 (w 1) ++ leBytes 4 (w 2) ++ leBytes 4 (w 3)
    ++ leBytes 4 (w 5) ++ leBytes 4 0

/-- A descriptor ends: state, CAUSE, RESULT and ERR_ADDR are shown, its event is raised where `event` names one, and its record is queued. -/
def State.endDesc (s : State) (c st cause result addr : Nat) (event : Option Nat) : State :=
  let p := chanPage c
  let s := s.showChan c
  s.on (fun b =>
    let b := (b.put p (chanStat c F.CPD_STAT.STATE) st).put p (chanStat c F.CPD_STAT.CAUSE) cause
    let b := b.put p (chanStat c F.CPD_STAT.RESULT) result
    let b := (b.wr p (chanCtl c + 0xC) (BitVec.ofNat 32 addr)).wr p (chanCtl c + 0x10) (BitVec.ofNat 32 (addr / 2 ^ 32))
    let b := match event with
      | some e => b.raise p (ev (2 * chanPos c + e) (cause + b.get p (chanStat c F.CPD_STAT.FSTATUS) * 16) (b.rd p (chanCtl c + 8)).toNat addr (addr / 2 ^ 32))
      | none => b
    let b := if st = 2 then b.count pCPE F.CPE_HALTS.COUNT 1 else b
    if (b.desc c).record then b.offer (b.desc c).queue 1 (b.copyRecord c) else b)

/-! ### The start of a descriptor (R439, R441) -/

/-- Does a range lie wholly within one committed window of a head, below 2^64? -/
def Board.inWindow (b : Board) (h lo len : Nat) : Bool :=
  decide (lo + len ≤ 2 ^ 64) && (match b.windowAt h lo with
    | some w => decide (lo + len ≤ b.winBase (8 * h + w) + b.winSize (8 * h + w))
    | none => false)

/-- The checks of R439 but the first: the result of a set that fails one. -/
def Board.descFault (b : Board) (d : Desc) : Option Code :=
  if d.op = 3 ∨ b.unit (pHPT d.head) = stOFF then some .unsupported
  else if b.inWindow d.head d.dst d.len = false ∨ (d.op = 0 ∧ b.inWindow d.head d.src d.len = false) then some .length
  else if d.op = 0 ∧ d.src < d.dst + d.len ∧ d.dst < d.src + d.len then some .conflict
  else none

/-- A channel begins the set that it holds. -/
def State.startDesc (s : State) (c : Nat) : State :=
  let d := s.bd.desc c
  let p := chanPage c
  let s := (s.setChan c CopyChan.idle).on (fun b =>
    let b := b.wr p (chanCtl c + 4) (BitVec.ofNat 32 (b.get p (chanStat c F.CPD_STAT.SHADOW_ARMED) * 8))
    ((b.wr p (chanCtl c + 8) 0).wr p (chanCtl c + 0xC) 0).wr p (chanCtl c + 0x10) 0)
  if d.len = 0 then s.endDesc c 0 0 Code.empty.num 0 (some 0)
  else match s.bd.descFault d with
    | some e => s.endDesc c 2 5 e.num 0 (some 1)
    | none =>
      if s.bd.serves p then s.on (fun b => b.put p (chanStat c F.CPD_STAT.STATE) 1)
      else s.endDesc c 3 7 0 0 none

/-- The shadow set passes to the active set and its descriptor starts; an empty one that completes at once lets nothing follow, as nothing is armed (R441). -/
def State.passShadow (s : State) (c : Nat) : State :=
  let p := chanPage c
  let s := s.on (fun b =>
    let b := (List.range 6).foldl (fun b k => b.wr p (chanCtl c + 0x20 + 4 * k) (b.rd p (chanCtl c + 0x40 + 4 * k))) b
    b.put p (chanStat c F.CPD_STAT.SHADOW_ARMED) 0)
  s.startDesc c

/-- Is a channel's shadow set armed? -/
def Board.armed (b : Board) (c : Nat) : Bool := b.on (chanPage c) (chanStat c F.CPD_STAT.SHADOW_ARMED)

/-- A descriptor completes (R441, R442, R445). -/
def State.completeDesc (s : State) (c result : Nat) : State :=
  let s := (s.endDesc c 0 0 result 0 (some 0)).setChan c CopyChan.idle
  if c < 32 ∧ s.bd.armed c then s.passShadow c else s

/-! ### Lines (R440) -/

/-- The bytes of the next line at offset `off`: to the end of its destination line, or a whole page of a ZERO. -/
def Desc.chunk (d : Desc) (off : Nat) : Nat :=
  let a := d.dst + off
  if d.op = 2 ∧ a % 4096 = 0 ∧ off + 4096 ≤ d.len then 4096 else min (64 - a % 64) (d.len - off)

/-- Where a channel's access to an HPA goes. -/
def State.chanRoute (s : State) (c : Nat) (ask : Ask) (hpa : Nat) (data : Line) (mask : Nat) (poison : Bool) : Decoded × Option ((Req × Nat) × Option (Req × Nat)) :=
  let d := s.bd.desc c
  let dec := s.decode d.head hpa (decide (ask ≠ .read)) (some d.key)
  let r : Req := ⟨s.home.nextId, ask, s.bd.chanOid c, 0, hpa / 64 * 64, false, 0, 0, 0, 0, 0, false, 0, 0, data, mask, poison⟩
  (dec, s.destination r dec)

/-- Is an aligned 4 KiB of the destination one page of one part, so that R55's fill applies? -/
def State.onePage (s : State) (c hpa : Nat) : Bool :=
  match (s.chanRoute c .write hpa 0 allBytes false).2, (s.chanRoute c .write (hpa + 4032) 0 allBytes false).2 with
  | some ((a, p), _), some ((b, q), _) => decide (a.volatile = false) && decide (p = q) && decide (a.lln % 64 = 0) && decide (b.lln = a.lln + 63)
  | _, _ => false

/-- A line of a channel replaced or, with none, taken out. -/
def State.setLine (s : State) (c off : Nat) (l : Option CopyLine) : State :=
  let x := s.chan c
  s.setChan c { x with lines := match l with
    | some n => x.lines.map (fun (y : CopyLine) => if y.off = off then n else y)
    | none => x.lines.filter (fun (y : CopyLine) => decide (y.off ≠ off)) }

/-- A channel comes to a halt or an abort: an abort takes the place of a halt that is not yet reached, else the first reason stands, and ERR_ADDR is that of the first
line that failed. Lines that wait for a retry have failed (R444, R445). -/
def State.stopChan (s : State) (c cause result addr : Nat) : State :=
  let x := s.chan c
  let waiting := x.lines.filter (fun (l : CopyLine) => decide (l.phase = 2))
  s.setChan c { x with
    stop := match x.stop with
      | none => some (cause, result, addr)
      | some (k, r, a) =>
        let aborts := decide (6 ≤ cause) && decide (k < 6)
        some (if aborts then cause else k, if aborts then result else r, if a = 0 then addr else a)
    lines := x.lines.filter (fun (l : CopyLine) => decide (l.phase ≠ 2))
    failed := x.failed ++ waiting.map CopyLine.off }

/-- The owner, line and SXN that an HPA of a head has, reachable or not (R269). -/
def State.lineOwner (s : State) (h hpa : Nat) : Option (Nat × Nat) :=
  (s.bd.windowAt h hpa).bind (fun win =>
    let dpa := s.dpaOf (8 * h + win) hpa
    let roff := dpa % 2 ^ 49
    (s.extentAt h (dpa / 2 ^ 49 - 1) roff).map (fun e =>
      let (part, lln, _) := s.extentLine e.2 (roff - e.2.unit * 2 ^ 28)
      (part, lln)))

/-- A loss record for a line of a channel, in the loss log of its head and with the channel's identifier (R442). -/
def State.copyLoss (s : State) (c hpa cause : Nat) : State :=
  let d := s.bd.desc c
  match s.lineOwner d.head hpa with
  | none => s
  | some (part, lln) =>
    let l : Loss := ⟨hpa / 64 * 64, 1, d.head, d.key, part, cause, s.bd.chanOid c, 0, false, lln⟩
    let s := (s.recordLoss d.head l).2
    s.reportLoss part (l.words ++ [l.lln])

/-- A line fails (Table 18-1): poison (1) and decode (2) are retried; the others, and the last retry, halt the channel. -/
def State.lineFails (s : State) (c : Nat) (l : CopyLine) (cause result addr : Nat) : State :=
  let x := s.chan c
  let again := (decide (cause = 1) || decide (cause = 2)) && decide (l.tries < s.bd.get pCPE F.CPE_CFG.RETRY) && x.stop.isNone
  if again then s.setLine c l.off (some { l with phase := 2, reads := [], need := 0, since := s.bd.now })
  else
    let s := (s.setLine c l.off none)
    let x := s.chan c
    let write := decide (l.phase = 1)
    (s.setChan c { x with
      failed := x.failed ++ [l.off]
      undurable := if write then x.undurable.filter (fun u => decide (u.1 ≠ l.id)) else x.undurable
      lost := x.lost || (write && decide (cause = 3))
      notDurable := x.notDurable || (write && decide (cause = 3)) }).stopChan c cause result (addr / 64 * 64)

/-- The data of a line once it is read, or the fill of the descriptor; with its byte mask in the destination line. -/
def Desc.lineData (d : Desc) (l : CopyLine) : Line × Nat :=
  let at_ := (d.dst + l.off) % 64
  let mask := (2 ^ l.size - 1) * 2 ^ at_
  let bytes := match d.op with
    | 0 => (l.lo.toNat + l.hi.toNat * 2 ^ 512) / 2 ^ (8 * ((d.src + l.off) % 64)) % 2 ^ (8 * l.size)
    | 1 => (List.range 16).foldl (fun v k => v + d.pattern * 2 ^ (32 * k)) 0 % 2 ^ (8 * l.size)
    | _ => 0
  (BitVec.ofNat 512 (bytes * 2 ^ (8 * at_)), mask)

/-- The write of a line is issued (R440): to both copies of a mirrored line. `l` is in the channel's list. -/
def State.writeLine (s : State) (c : Nat) (l : CopyLine) : State :=
  let d := s.bd.desc c
  let hpa := d.dst + l.off
  let (data, mask) := d.lineData l
  let ask : Ask := if l.size = 4096 then .zeroPage else .write
  match s.chanRoute c ask hpa data (if l.size = 4096 then allBytes else mask) l.poison with
  | (.fail 4 w, _) => ((s.decodeFailed d.head 4 w true hpa 64).copyLoss c hpa 1).lineFails c { l with phase := 1, id := s.home.nextId } 3 Code.conflict.num hpa
  | (.fail k w, _) => (s.decodeFailed d.head k w true hpa 64).lineFails c l 2 (decodeCode k).num hpa
  | (_, none) => s
  | (_, some ((r, owner), other)) =>
    let wants := if r.volatile then 0 else 2 ^ r.role + (match other with | some (q, _) => 4 + 2 ^ q.role | none => 0)
    let s := s.setLine c l.off (some { l with phase := 1, id := r.id, need := if other.isSome then 2 else 1, reads := [] })
    let x := s.chan c
    let s := if d.fence ∧ d.scope = 3 ∧ wants ≠ 0 then s.setChan c { x with undurable := x.undurable ++ [(r.id, owner, wants, hpa)] } else s
    let s := (s.bump.issueLine r).dispatch r owner true
    match other with
    | some (q, p) => s.dispatch q p false
    | none => s

/-- One read of a line: half `k` of its source. -/
def State.readHalf (s : State) (c : Nat) (l : CopyLine) (k : Nat) : State :=
  let d := s.bd.desc c
  let hpa := (d.src + l.off) / 64 * 64 + 64 * k
  match s.chanRoute c .read hpa 0 0 false with
  | (.fail n w, _) =>
    (s.decodeFailed d.head n w false hpa 64).lineFails c l (if n = 4 then 3 else 2) (if n = 4 then Code.conflict.num else (decodeCode n).num) hpa
  | (_, none) => s
  | (_, some ((r, owner), _)) =>
    let l := ((s.chan c).lines.find? (fun y => decide (y.off = l.off))).getD l
    let s := s.setLine c l.off (some { l with reads := l.reads ++ [(r.id, k)] })
    (s.bump.issueLine r).dispatch r owner true

/-- A line starts, or starts again: its read for a COPY, its write otherwise. -/
def State.startLine (s : State) (c : Nat) (l : CopyLine) : State :=
  let d := s.bd.desc c
  if d.op ≠ 0 then s.writeLine c l
  else
    let two := decide (64 < (d.src + l.off) % 64 + l.size)
    let s := s.setLine c l.off (some { l with phase := 0, reads := [], poison := false })
    let s := s.readHalf c { l with phase := 0, reads := [], poison := false } 0
    match (s.chan c).lines.find? (fun y => decide (y.off = l.off)) with
    | some y => if two ∧ y.phase = 0 then s.readHalf c y 1 else s
    | none => s

/-- The bytes of the channel's next line. -/
def State.nextChunk (s : State) (c : Nat) : Nat :=
  let x := s.chan c
  let d := s.bd.desc c
  let size := d.chunk x.pos
  if size = 4096 ∧ s.onePage c (d.dst + x.pos) = false then 64 else size

/-- May a channel issue a line now: it is BUSY, not coming to an end, has a line left, which ends no further than 4 KiB past DONE, no more than 64 lines are in flight
with it, and its master may issue to the owner (R437, R444, R460)? -/
def State.mayIssue (s : State) (c : Nat) : Bool :=
  let x := s.chan c
  let d := s.bd.desc c
  let size := s.nextChunk c
  decide (s.bd.chanState c = 1) && x.stop.isNone && decide (x.pos < d.len) && decide (x.pos + size ≤ x.done + 4096) && decide (x.inFlight + ceilDiv size 64 ≤ 64)
    && (match (if d.op = 0 then s.chanRoute c .read ((d.src + x.pos) / 64 * 64) 0 0 false else s.chanRoute c .write (d.dst + x.pos) 0 0 false) with
      | (_, some ((r, owner), _)) => (s.mayLeave r owner).1
      | _ => true)

/-- A channel issues its next line. -/
def State.issueNext (s : State) (c : Nat) : State :=
  let x := s.chan c
  let size := s.nextChunk c
  let l : CopyLine := ⟨x.pos, size, 0, [], 0, 0, 0, 0, 0, false, 0⟩
  (s.setChan c { x with pos := x.pos + size, lines := x.lines ++ [l] }).startLine c l

/-- One round over the channels that are busy, each in its turn (R437). -/
def State.issueRound (s : State) (cs : List Nat) : State := cs.foldl (fun s c => if s.mayIssue c then s.issueNext c else s) s

/-- Busy channels issue lines, in round-robin order from the one whose turn it is. -/
def State.issueLines (s : State) : State :=
  let busy := (List.range 40).filter (fun c => decide (s.bd.chanState c = 1))
  if busy = [] then s
  else
    let order := busy.filter (fun c => decide (s.copy.next ≤ c)) ++ busy.filter (fun c => decide (c < s.copy.next))
    let s := (List.range 64).foldl (fun s _ => s.issueRound order) s
    { s with copy := { s.copy with next := (order.headD 0 + 1) % 40 } }

/-! ### Answers (R443) -/

/-- A line has been written: the bytes count towards CPE_MIB. -/
def State.lineWritten (s : State) (c : Nat) (l : CopyLine) : State :=
  let s := s.setLine c l.off none
  let moved := s.copy.moved + l.size
  ({ s with copy := { s.copy with moved := moved % 2 ^ 20 } }).on (fun b => b.count pCPE F.CPE_MIB.COUNT (moved / 2 ^ 20))

/-- A read of a line is answered. -/
def State.readAnswered (s : State) (c : Nat) (l : CopyLine) (a : Answer) (half : Nat) : State :=
  let d := s.bd.desc c
  let hpa := d.src + l.off + 64 * half
  let s := s.answered a.oid a.id
  match a.status with
  | 2 => s.lineFails c l 2 Code.conflict.num hpa
  | 4 => s.lineFails c l 3 Code.conflict.num hpa
  | st =>
    let l := { l with
      reads := l.reads.filter (fun r => decide (r.1 ≠ a.id)), poison := l.poison || decide (st = 1)
      lo := if half = 0 then a.data else l.lo, hi := if half = 1 then a.data else l.hi }
    let s := s.setLine c l.off (some l)
    if l.reads ≠ [] then s
    else if !l.poison then s.writeLine c l
    else if l.tries < s.bd.get pCPE F.CPE_CFG.RETRY then s.lineFails c l 1 Code.integrity.num hpa
    else if d.pass then (s.writeLine c l).on (fun b => b.count pCPE F.CPE_POISON_PASS.COUNT 1)
    else s.lineFails c l 1 Code.integrity.num hpa

/-- A write of a line is answered by a copy. -/
def State.writeAnswered (s : State) (c : Nat) (l : CopyLine) (a : Answer) : State :=
  let hpa := (s.bd.desc c).dst + l.off
  match a.status with
  | 2 => (s.answered a.oid a.id).lineFails c l 2 Code.conflict.num hpa
  | 4 => ((s.answered a.oid a.id).copyLoss c hpa 0).lineFails c l 3 Code.conflict.num hpa
  | 5 => (s.answered a.oid a.id).lineFails c l 4 Code.denied.num hpa
  | st =>
    let solo := decide (st = 3)
    let x := s.chan c
    let s := if solo then
        s.setChan c { x with solo := true, undurable := x.undurable.map (fun (u : Nat × Nat × Nat × Nat) => if u.1 = a.id then (u.1, 99, u.2.2) else u) }
      else s
    if solo ∨ l.need ≤ 1 then (s.answered a.oid a.id).lineWritten c l
    else s.setLine c l.off (some { l with need := l.need - 1 })

/-- An answer for a channel. -/
def State.lineAnswer (s : State) (c : Nat) (a : Answer) : State :=
  match (s.chan c).lines.find? (fun l => decide (l.phase = 1 ∧ l.id = a.id) || l.reads.any (fun r => decide (r.1 = a.id))) with
  | none => s
  | some l =>
    match l.reads.find? (fun r => decide (r.1 = a.id)) with
    | some r => s.readAnswered c l a r.2
    | none => s.writeAnswered c l a

/-- A channel whose lines have all resolved ends: halted, aborted, or complete under its fence (R442 to R445). -/
def State.followChan (s : State) (c : Nat) : State :=
  let x := s.chan c
  let d := s.bd.desc c
  if s.bd.chanState c ≠ 1 then s
  else
    let s := s.showChan c
    if x.lines ≠ [] then s
    else
      match x.stop with
      | some (cause, result, addr) =>
        let s := if 6 ≤ cause then s.endDesc c 3 cause result addr none else s.endDesc c 2 cause result addr (some 1)
        if 6 ≤ cause ∧ c < 32 then s.on (fun b => b.put (chanPage c) (chanStat c F.CPD_STAT.SHADOW_ARMED) 0) else s
      | none =>
        if x.pos < d.len then s
        else if d.fence ∧ d.scope = 3 ∧ x.undurable ≠ [] then s
        else
          let s := if d.fence then
              s.on (fun b =>
                let p := chanPage c
                let b := b.put p (chanStat c F.CPD_STAT.FSTATUS) (if x.lost then 2 else if x.solo then 1 else 0)
                if d.scope ≠ 3 then b
                else if x.notDurable then b.put p (chanStat c F.CPD_STAT.NOT_DURABLE) 1 else b.put p (chanStat c F.CPD_STAT.DURABLE) 1)
            else s
          s.completeDesc c 0

/-- Writes of a channel whose owner has failed before they were persistent: one to a mirrored extent rests on the other copy, another one is lost, with a loss record,
while the fence of its descriptor runs (R263, R442). -/
def State.dropUndurable (s : State) (c : Nat) : State :=
  let x := s.chan c
  let dead := fun (m : Nat) => decide (m ≠ 99) && decide (m ≠ s.bd.selfId) && decide (s.member m = 4)
  let gone := fun (u : Nat × Nat × Nat × Nat) => dead u.2.1 && (decide (u.2.2.1 < 4) || dead (Nat.xor u.2.1 1))
  let rest := fun (u : Nat × Nat × Nat × Nat) =>
    let other := decide (4 ≤ u.2.2.1) && decide (u.2.1 ≠ 99)
    let w := if other && dead u.2.1 then nsetbit u.2.2.1 0 false else u.2.2.1
    let w := if other && dead (Nat.xor u.2.1 1) then nsetbit w 1 false else w
    (u.1, u.2.1, w, u.2.2.2)
  let lost := x.undurable.filter gone
  let kept := ((x.undurable.filter (fun u => !gone u)).map rest).filter (fun u => decide (u.2.2.1 % 4 ≠ 0) && !(decide (u.2.1 = 99) && decide (u.2.2.1 % 4 ≠ 3)))
  if lost = [] ∧ kept = x.undurable then s
  else
    let s := s.setChan c { x with undurable := kept, lost := x.lost || !lost.isEmpty, notDurable := x.notDurable || !lost.isEmpty }
    lost.foldl (fun s u => s.copyLoss c u.2.2.2 0) s

/-- The copy engines after a command: lines are issued, channels that have come to their end show it, and a descriptor that starts in its place issues its lines. -/
def State.followCopy (s : State) : State :=
  let s := (s.copy.chans.map Prod.fst).foldl (fun s c => s.dropUndurable c) s
  let s := s.issueLines
  let s := ((List.range 40).filter (fun c => decide (s.bd.chanState c = 1))).foldl State.followChan s
  let s := s.issueLines
  s.on (fun b => b.put pCPE F.CPE_STAT.ACTIVE ((List.range 40).filter (fun c => decide (b.chanState c = 1))).length)

/-- COPY_LINE_DONE: the oldest answer for a channel is taken, and advances, halts or completes it (R440, R443). -/
def State.copyLineDone (s : State) (c : Nat) : State :=
  match s.home.answers.find? (fun a => decide (chanOf a.oid = some c)) with
  | none => s
  | some a => ({ s with home := { s.home with answers := s.home.answers.erase a } }).lineAnswer c a

/-- COPY_LINE_RETRY (R443): 1 µs after its failure, the oldest line of a channel that waits is issued again. -/
def State.copyLineRetry (s : State) (c : Nat) : State :=
  match (s.chan c).lines.find? (fun l => decide (l.phase = 2)) with
  | none => s
  | some l =>
    let s := s.on (fun b => ({ b with now := max b.now (l.since + 1) }).count pCPE F.CPE_RETRIES.COUNT 1)
    s.startLine c { l with tries := l.tries + 1, poison := false }

/-! ### Commands (R441, R445 to R447) -/

/-- CPD_ARM (R441): a write of ARM = 1; BUSY while the shadow set is armed. -/
def State.cpdArm (s : State) (p : Path) (c : Nat) : State :=
  s.written p (chanPage c) (chanCtl c) false false (fun s =>
    if s.bd.armed c then s.rejects p (chanPage c) (chanCtl c) .busy
    else
      let s := s.on (fun b => b.put (chanPage c) (chanStat c F.CPD_STAT.SHADOW_ARMED) 1)
      if s.bd.chanState c = 0 ∨ s.bd.chanState c = 3 then s.passShadow c else s)

/-- Stops a channel that is BUSY or HALTED for a cause (R445, R446). -/
def State.abortChan (s : State) (c cause : Nat) : State :=
  match s.bd.chanState c with
  | 1 => s.stopChan c cause 0 0
  | 2 =>
    let w := fun (k : Nat) => (s.bd.rd (chanPage c) (chanCtl c + k)).toNat
    let s := s.endDesc c 3 cause 0 (w 0xC + w 0x10 * 2 ^ 32) none
    if c < 32 then s.on (fun b => b.put (chanPage c) (chanStat c F.CPD_STAT.SHADOW_ARMED) 0) else s
  | _ => s

/-- ABORT and CPS_ABORT (R445). -/
def State.abortCopy (s : State) (p : Path) (c : Nat) : State := s.written p (chanPage c) (chanCtl c) false false (fun s => s.abortChan c 6)

/-- A UNIT_CMD takes the unit of a page to CONTAINED or TEST (R446). -/
def State.abortPage (s : State) (page : Nat) : State :=
  ((List.range 40).filter (fun c => decide (chanPage c = page))).foldl (fun s c => s.abortChan c 7) s

/-- A halted channel goes on from an offset; after CAUSE 5, RETRY checks the set again and SKIP completes it (R445). CONFLICT on a channel that is not HALTED. -/
def State.resumeCopy (s : State) (p : Path) (c : Nat) (skip : Bool) : State :=
  s.written p (chanPage c) (chanCtl c) false false (fun s =>
    let page := chanPage c
    if s.bd.chanState c ≠ 2 then s.rejects p page (chanCtl c) .conflict
    else
      let x := s.chan c
      let checked := decide (s.bd.get page (chanStat c F.CPD_STAT.CAUSE) = 5)
      let s := if skip ∧ checked = false then s.on (fun b => b.count pCPE F.CPE_SKIPPED.COUNT 1) else s
      if checked then (if skip then s.completeDesc c 0 else s.startDesc c)
      else
        let pos := min (s.bd.desc c).len (x.done + (if skip then 64 else 0))
        let s := s.setChan c { x with pos := pos, lines := [], stop := none, failed := [] }
        s.on (fun b => ((b.put page (chanStat c F.CPD_STAT.STATE) 1).put page (chanStat c F.CPD_STAT.CAUSE) 0).put page (chanStat c F.CPD_STAT.RESULT) 0))

/-- GO (R447): a simple channel starts its set; BUSY while it runs. -/
def State.cpsGo (s : State) (p : Path) (n : Nat) : State :=
  s.written p pCPS (chanCtl (32 + n)) false false (fun s =>
    if s.bd.chanState (32 + n) = 1 then s.rejects p pCPS (chanCtl (32 + n)) .busy else s.startDesc (32 + n))

end Sys2Proof.Machine
end

