-- ==== Sys2Proof/Machine/EvQueues.lean ====
section
/-! DEFINITION. The event queues as software uses them (chapter *Copy engines and event queues*, R448 to R454): the push ports, POP, and what the registers of
the selected queue show. Records of the part itself go through Board.offer. -/

namespace Sys2Proof.Machine

/-- The push port of a path (R453). -/
def Board.port (b : Board) : Path → PushPort
  | .host _ => b.pushHost
  | .mgmt => b.pushMgmt

/-- The board with the push port of a path replaced. -/
def Board.setPort (b : Board) (p : Path) (v : PushPort) : Board :=
  match p with
  | .host _ => { b with pushHost := v }
  | .mgmt => { b with pushMgmt := v }

/-- The number that marks a port's open packet in its queue. -/
def portNum : Path → Nat
  | .host _ => 1
  | .mgmt => 2

/-- POOL_LOW when the free cells have just fallen below EVQ_POOL.LOW_MARK. -/
def Board.poolLow (b : Board) (before : Nat) : Board :=
  if b.get pEVQ F.EVQ_POOL.LOW_MARK ≤ before ∧ b.freeCells < b.get pEVQ F.EVQ_POOL.LOW_MARK then
    b.raise pEVQ (ev E.EVQ.POOL_LOW 0 b.freeCells 0 0)
  else b

/-- Can queue `q` take a further cell (R452)? -/
def Board.cellFree (b : Board) (q : Nat) : Bool := decide ((b.queue q).cells < (b.queue q).maxCells) && decide (0 < b.freeCells)

/-- The open packet of a port, changed. -/
def Board.onOpen (b : Board) (p : Path) (f : Pkt → Pkt) : Board :=
  let q := (b.port p).queue
  b.setQueue q { b.queue q with pkts := (b.queue q).pkts.map (fun (k : Pkt) => if k.port = portNum p then f k else k) }

/-- The length word of a port's open packet is written with the bytes received: the packet becomes visible (R449, R453). -/
def Board.closePush (b : Board) (p : Path) (trunc : Bool) : Board :=
  let o := b.port p
  let b := b.onOpen p (fun k => { k with len := o.bytes.length, trunc := trunc, payload := o.bytes, written := true, port := 0 })
  Board.run 256 [.announce o.queue] (b.setPort p { o with isOpen := false })

/-- A push that is cut short is closed with TRUNCATED and the bytes stored (R452). -/
def Board.truncatePush (b : Board) (p : Path) (timeout : Bool) : Board :=
  let o := b.port p
  let b := (b.closePush p true).count pEVQ F.EVQ_TRUNC.COUNT 1
  b.raise pEVQ (ev E.EVQ.TRUNCATED (o.queue + bit timeout * 64) (b.queue o.queue).seq o.bytes.length 0)

/-- START of a packet of `len` bytes on queue `q`: its result, and the first cell reserved where it is accepted (R453). -/
def Board.pushStart (b : Board) (p : Path) (q len : Nat) : Board :=
  let o := b.port p
  let answer := fun (b : Board) (c : Code) => b.setPort p { b.port p with result := c.num }
  if len = 0 then answer b .empty
  else if o.isOpen then answer b .busy
  else if (b.queue q).maxCells < ceilDiv (len + 4) 64 then answer b .length
  else
    let seq := ((b.queue q).seq + 1) % 2 ^ 32
    if (b.queue q).en && b.cellFree q then
      let before := b.freeCells
      let b := b.setQueue q { b.queue q with seq := seq, pkts := (b.queue q).pkts ++ [⟨2, 0, false, [], 1, false, false, portNum p⟩] }
      (answer (b.setPort p { o with isOpen := true, queue := q, len := len, bytes := [], openedAt := b.now }) .ok).poolLow before
    else
      let b := (b.setQueue q { b.queue q with seq := seq }).count pEVQ F.EVQ_DROPPED.COUNT 1
      (answer b .exhausted).raise pEVQ (ev E.EVQ.OVERRUN (q + bit (!(b.queue q).en) * 64) seq b.freeCells 0)

/-- Bytes appended to an open packet: a further cell is taken where they need one, and without one the packet is truncated (R452). -/
def Board.pushBytes (b : Board) (p : Path) (bytes : List Byte) : Board :=
  let o := b.port p
  let size := o.bytes.length + bytes.length
  let cells := ceilDiv (o.bytes.length + 4) 64
  if ceilDiv (size + 4) 64 ≤ cells then b.setPort p { o with bytes := o.bytes ++ bytes }
  else if b.cellFree o.queue then
    let before := b.freeCells
    let b := b.onOpen p (fun k => { k with cells := k.cells + 1 })
    (b.setPort p { o with bytes := o.bytes ++ bytes }).poolLow before
  else (b.setPort p { o with bytes := o.bytes ++ bytes.take (64 * cells - 4 - o.bytes.length) }).truncatePush p false

/-- A write of EVQ_PUSH_DATA: 4 B, of which those beyond LEN are discarded and record LENGTH (R453; log entry 102). -/
def Board.pushData (b : Board) (p : Path) (data : Word) : Board :=
  let o := b.port p
  if o.isOpen then
    let room := o.len - o.bytes.length
    let b := if room < 4 then b.reject pEVQ p 0x05C .length else b
    b.pushBytes p ((leBytes 4 data.toNat).take room)
  else b

/-- END: the packet becomes visible with the bytes received (R453). -/
def Board.pushEnd (b : Board) (p : Path) : Board := if (b.port p).isOpen then b.closePush p false else b

/-- A write of EVQ_PUSH_CTL: LEN and QUEUE are kept at the port, END acts on the packet that is open, then START opens the next (log entry 102). -/
def Board.pushCtl (b : Board) (p : Path) (w : Word) : Board :=
  let b := b.setPort p { b.port p with ctl := w &&& 0x00FCFFFF }
  let b := if wordBits w 17 1 = 1 then b.pushEnd p else b
  if wordBits w 16 1 = 1 then b.pushStart p (wordBits w 18 6) (wordBits w 0 16) else b

/-- START on a path. -/
def State.pushStart (s : State) (p : Path) (q len : Nat) : State :=
  s.written p pEVQ 0x058 false false (fun s => s.on (·.pushCtl p (BitVec.ofNat 32 (len + 2 ^ 16 + q * 2 ^ 18))))

/-- PUSH_DATA on a path. -/
def State.pushData (s : State) (p : Path) (data : Word) : State := s.written p pEVQ 0x05C false false (fun s => s.on (·.pushData p data))

/-- END on a path, with LEN and QUEUE as they stand. -/
def State.pushEnd (s : State) (p : Path) : State :=
  s.written p pEVQ 0x058 false false (fun s => s.on (fun b => b.pushCtl p ((b.port p).ctl ||| 0x20000)))

/-- PUSH_TIMEOUT (R452): 10 ms after START the open packet is closed with TRUNCATED. -/
def State.pushTimeout (s : State) (p : Path) : State :=
  let o := s.bd.port p
  if o.isOpen then s.on (fun b => { b with now := max b.now (o.openedAt + 10000) }.truncatePush p true) else s

/-- The head packet that a queue shows (R449). -/
def Queue.head (q : Queue) : Option Pkt :=
  match q.pkts with
  | [] => none
  | k :: _ => if k.written then some k else none

/-- POP of the selected queue (R454). -/
def Board.pop (b : Board) : Board :=
  let n := b.get pEVQ F.EVQ_QSEL.QUEUE
  match (b.queue n).head with
  | none => (b.put pEVQ F.EVQ_RD_STAT.RESULT Code.empty.num).count pEVQ F.EVQ_UNDERRUN.COUNT 1
  | some _ => (b.setQueue n { b.queue n with pkts := (b.queue n).pkts.drop 1 }).put pEVQ F.EVQ_RD_STAT.RESULT Code.ok.num

/-- POP on a path. -/
def State.pop (s : State) (p : Path) : State := s.written p pEVQ 0x050 false false (fun s => s.on Board.pop)

/-- The length word of a packet (R448). -/
def Pkt.lengthWord (k : Pkt) : Nat := k.len + bit k.trunc * 2 ^ 16 + k.kind * 2 ^ 24

/-- The bytes of cell `i` of a packet, zero beyond its end (R448). -/
def Pkt.cell (k : Pkt) (i : Nat) : List Byte :=
  let all := (leBytes 4 k.lengthWord ++ k.payload).drop (64 * i)
  (all ++ List.replicate 64 0).take 64

/-- What a register of the EVQ page shows of the queues and the ports; none where it shows what is stored. -/
def Board.evqView (b : Board) (p : Path) (off : Nat) : Option Word :=
  let n := b.get pEVQ F.EVQ_QSEL.QUEUE
  let q := b.queue n
  if off = 0x040 then some (BitVec.ofNat 32 (b.freeCells % 2 ^ 16 + b.get pEVQ F.EVQ_POOL.LOW_MARK * 2 ^ 16))
  else if off = 0x048 then some q.cfg
  else if off = 0x04C then some (BitVec.ofNat 32 (q.cells % 2 ^ 16 + q.seq % 2 ^ 16 * 2 ^ 16))
  else if off = 0x054 then
    some (BitVec.ofNat 32 ((q.head.map Pkt.lengthWord).getD 0 % 2 ^ 24 + b.get pEVQ F.EVQ_RD_STAT.RESULT * 2 ^ 24))
  else if off = 0x058 then some (b.port p).ctl
  else if off = 0x060 then
    some (BitVec.ofNat 32 (bit (b.port p).isOpen + (b.port p).result * 2 ^ 8 + (b.port p).bytes.length % 2 ^ 16 * 2 ^ 16))
  else if 0x400 ≤ off ∧ off < 0x440 then
    match q.head with
    | none => some 0
    | some k => some (BitVec.ofNat 32 (ofBytes (((k.cell (b.get pEVQ F.EVQ_RD_CTL.OFF)).drop (off - 0x400)).take 4)))
  else none

end Sys2Proof.Machine
end

