-- ==== Sys2Proof/Machine/Trv.lean ====
section
/-! DEFINITION. The triplicated critical words (chapter *Faults, containment and in-flight disclosure*, R479 to R485). The three copies of a word agree between scrubs, so
the model keeps one value for them, in the registers of the word's owner; an upset comes with the scrub that meets it (log entry 105). -/

namespace Sys2Proof.Machine

/-- The fields of a word's content, from bit 0 up in the order of Table 20-5 (log entry 105), for the words whose owner keeps registers. -/
def trvFields : Nat → List (Nat × Fld)
  | 0 => [(pXTN, F.XTN_SELF.SHELF_ID), (pXTN, F.XTN_SELF.MANAGER)]
  | 1 => [(pSHM, F.SHM_SELF.MANAGER), (pSHM, F.SHM_SELF.DEPUTY), (pSHM, F.SHM_MGR.TERM)]
  | 4 => [(pRTM, F.RTM_SLOT_CFG.UNITS), (pRTM, F.RTM_SLOT_CFG.RESET_COST)]
  | 5 => [(pRTM, F.RTM_STAT.TICK), (pRTM, F.RTM_STAT.VALID), (pRTM, F.RTM_STAT.UNCERTAIN)]
  | 6 => [(pPDR, F.PDR_CFG.DECLARED), (pPDR, F.PDR_HOLDUP_US.US)]
  | 8 => [(pSEQ0, F.SEQ_STAT.STATE), (pSEQ0, F.SEQ_STAT.DOWN), (pSEQ0, F.SEQ_STAT.ATTEMPT)]
  | 9 => [(pSEQ1, F.SEQ_RAIL_EN.EN)]
  | 10 => [(pTHM, F.THM_STAT.LEVEL), (pTHM, F.THM_STAT.MEDIA_THROTTLE)]
  | 11 => [(pWGV, F.WGV_CEIL.PCT)]
  | 12 => [(pLOOP, F.LOOP_AMP.CAP_MLC), (pLOOP, F.LOOP_AMP.CAP_SLC)]
  | 13 => [(pLOOP, F.LOOP_BIN.MIN_BIN), (pLOOP, F.LOOP_BIN.MAX_BIN)]
  | 14 => [(pLOOP, F.LOOP_WRATE.MIN_PCT), (pLOOP, F.LOOP_WRATE.MAX_PCT)]
  | 15 => [(pLOOP, F.LOOP_PLACE.DEFAULT)]
  | 16 => [(pLOOP, F.LOOP_PATROL.MAX_RATE)]
  | 17 => [(pPST, F.PST_PROTECT.QUARTER), (pPST, F.PST_PROTECT.HALF), (pPST, F.PST_PROTECT.WHOLE)]
  | 18 => [(pSEC, F.SEC_CFG.MUTUAL), (pSEC, F.SEC_CFG.DEBUG_EN), (pSEC, F.SEC_STAT.TAMPERED), (pSEC, F.SEC_STAT.DEBUG_OPEN)]
  | 20 => [(pMGT, F.MGT_CFG.SESSION_REQ), (pMGT, F.MGT_CFG.SDA_EN), (pMGT, F.MGT_CFG.ALERT_EN)]
  | 21 => [(pVWN, F.VWN_CFG.SIZE), (pVWN, F.VWN_STAT.CURRENT)]
  | 23 => (List.range 4).map (fun k => (pFCC k, F.FCC_CAUSE.PARTNER_LOSS))
  | 29 => [(pSHM, F.SHM_TOPO.TOPO), (pSHM, F.SHM_TOPO.BREAK0), (pSHM, F.SHM_TOPO.BREAK0_VALID), (pSHM, F.SHM_TOPO.BREAK1), (pSHM, F.SHM_TOPO.BREAK1_VALID)]
  | 30 => [(pSHM, F.SHM_PAIR.PARTNER), (pSHM, F.SHM_PAIR.STATE)]
  | 31 => [(pFLT, F.FLT_STAT.FATAL), (pFLT, F.FLT_STAT.FATAL_CLASS)]
  | _ => []

/-- Packs fields from bit 0 up. -/
def Board.pack (b : Board) : List (Nat × Fld) → Nat
  | [] => 0
  | (page, f) :: rest => b.get page f + 2 ^ f.width * b.pack rest

/-- Unpacks a word into its fields. -/
def Board.unpack (b : Board) : List (Nat × Fld) → Nat → Board
  | [], _ => b
  | (page, f) :: rest, v => (b.put page f (v % 2 ^ f.width)).unpack rest (v / 2 ^ f.width)

/-- Failed dies of four channels from channel 4k on, bit 8c + d (words 24 to 27). -/
def Board.failedDies (b : Board) (k : Nat) : Nat :=
  ((List.range 32).map (fun n => if b.dieState (4 * k + n / 8) (n % 8) = 3 then 2 ^ n else 0)).sum

/-- The value of a triplicated word, as its owner has written it (Table 20-5). -/
def State.trvWord (s : State) (w : Nat) : Nat :=
  if w = 2 then s.slot.mask % 2 ^ 32
  else if w = 3 then s.slot.mask / 2 ^ 32 % 2 ^ 32
  else if w = 7 then s.bd.dirtyLimit % 2 ^ 32
  else if w = 19 then s.keyEpoch % 2 ^ 32
  else if w = 22 then
    ((List.range 12).map (fun n => bit (s.bd.stackLost (n % 4)) * 2 ^ n)).sum + ((List.range 4).map (fun k => bit (s.bd.stackLost k) * 2 ^ (12 + k))).sum
  else if 24 ≤ w ∧ w ≤ 27 then s.bd.failedDies (w - 24)
  else if w = 28 then bit s.wp.cleanMark + 2 * s.bd.get pCKP F.CKP_STAT.PHASE
  else s.bd.pack (trvFields w)

/-- The owner of a word reads `v` from now on (R480). -/
def State.setTrv (s : State) (w v : Nat) : State :=
  if w = 2 then { s with slot := { s.slot with mask := s.slot.mask / 2 ^ 32 * 2 ^ 32 + v } }
  else if w = 3 then { s with slot := { s.slot with mask := s.slot.mask % 2 ^ 32 + v * 2 ^ 32 } }
  else if w = 7 ∨ w = 19 then
    let raw := if w = 7 then s.bd.rawLimit else s.rawEpoch % 2 ^ 32
    s.on (fun b => { b with trvErr := if raw = v then smDel w b.trvErr else smPut w (raw, Nat.xor raw v) b.trvErr })
  else if w = 22 then
    (List.range 4).foldl (fun s k => s.on (fun b => b.put (pFCC k) F.FCC_CAUSE.STACK_LOST (bit (nbit v (12 + k))))) s
  else if 24 ≤ w ∧ w ≤ 27 then
    (List.range 32).foldl (fun (s : State) n =>
      let c := 4 * (w - 24) + n / 8
      if nbit v n = decide (s.bd.dieState c (n % 8) = 3) then s else s.on (fun b => b.setDie c (n % 8) (if nbit v n then 3 else 2))) s
  else if w = 28 then
    let s := { s with wp := { s.wp with cleanMark := nbit v 0 } }
    s.on (fun b => b.put pCKP F.CKP_STAT.PHASE (v / 2))
  else s.on (fun b => b.unpack (trvFields w) v)

/-- The bitwise majority of three copies (R480). -/
def majority (a b c : Nat) : Nat := Nat.lor (Nat.lor (Nat.land a b) (Nat.land a c)) (Nat.land b c)

/-- TRV compares the three copies of a word with the voted value (R481, R483). -/
def State.vote (s : State) (w : Nat) (copies : List Nat) : State :=
  let old := s.trvWord w
  let v := majority (copies.getD 0 0) (copies.getD 1 0) (copies.getD 2 0)
  let s := if v = old then s else s.setTrv w v
  let bad := (List.range 3).filter (fun k => decide (copies.getD k 0 ≠ v))
  match bad with
  | [] => s
  | [k] =>
    s.on (fun b =>
      ((b.count pTRV F.TRV_REPAIRS.COUNT 1).raise pTRV (ev E.TRV.REPAIRED (w + k * 2 ^ 5) v (copies.getD k 0) 0)).logFault pTRV E.TRV.REPAIRED 11 0 v false)
  | _ =>
    s.on (fun b =>
      let b := (b.count pTRV F.TRV_DOUBLES.COUNT 1).raise pTRV (ev E.TRV.DOUBLE w (copies.getD 0 0) (copies.getD 1 0) (copies.getD 2 0))
      let b := b.logFault pTRV E.TRV.DOUBLE 12 0 (copies.getD 0 0) true
      { b with fatal := some (pTRV, E.TRV.DOUBLE, 12) })

/-- The copies of word `w` as a scrub finds them: what upsets have changed (word, copy, bits). -/
def State.copiesOf (s : State) (upsets : List (Nat × Nat × Nat)) (w : Nat) : List Nat :=
  (List.range 3).map (fun k =>
    (upsets.filter (fun (u : Nat × Nat × Nat) => decide (u.1 = w) && decide (u.2.1 = k))).foldl (fun v u => Nat.xor v u.2.2) (s.trvWord w))

/-- TRV_SCRUB (R480, R481, R485): every word is read and voted; an armed flip is applied first. -/
def State.trvScrub (s : State) (upsets : List (Nat × Nat × Nat)) : State :=
  let s := s.on (fun b => b.elapse 15 (b.get pTRV F.TRV_CFG.SCRUB_US))
  let armed := s.bd.on pTRV F.TRV_FLIP_CTL.ARM
  let w := s.bd.get pTRV F.TRV_FLIP_CTL.WORD
  let k := s.bd.get pTRV F.TRV_FLIP_CTL.COPY
  let m := s.bd.get pTRV F.TRV_FLIP_MASK.MASK
  let hits := if armed then (w, k, m) :: upsets else upsets
  let s := if armed then
      s.on (fun b => (b.put pTRV F.TRV_FLIP_CTL.ARM 0).raise pTRV (ev E.TRV.FLIP_APPLIED (w + k * 2 ^ 5) m 0 0))
    else s
  (List.range 32).foldl (fun s w => if hits.any (fun u => u.1 == w) then s.vote w (s.copiesOf hits w) else s) s

/-- What a write of TRV_FLIP_CTL leaves (R485): DENIED outside TEST, EMPTY for ARM with a mask of zero. -/
def Board.flipCtl (b : Board) (p : Path) (w : Word) : Board :=
  if b.unit pTRV ≠ stTEST then b.reject pTRV p 0x058 .denied
  else if wordBits w 0 1 = 1 ∧ b.get pTRV F.TRV_FLIP_MASK.MASK = 0 then b.reject pTRV p 0x058 .empty
  else b.wr pTRV 0x058 (w &&& 0xFF)

/-- TRV_FLIP_ARM on a path. -/
def State.trvFlipArm (s : State) (p : Path) (copy word : Nat) : State :=
  s.written p pTRV 0x058 false false (fun s => s.on (·.flipCtl p (BitVec.ofNat 32 (1 + copy * 2 + word * 8))))

/-- What TRV_VOTED and TRV_COPY show of the selected word: between scrubs the copies agree. -/
def State.trvView (s : State) (off : Nat) : Option Word :=
  if off = 0x048 ∨ off = 0x04C ∨ off = 0x050 ∨ off = 0x054 then some (BitVec.ofNat 32 (s.trvWord (s.bd.get pTRV F.TRV_SEL.WORD))) else none

end Sys2Proof.Machine
end

