-- ==== Sys2Proof/Machine/Views.lean ====
section
/-! DEFINITION. The registers that show what another part of the state holds: computed as they are read, so that there is one home for every fact. -/

namespace Sys2Proof.Machine

/-- DEV_SERIAL (R494): never all zeros or all ones. -/
def serialValue : Nat :=
  let v := Config.serialSeed.toNat
  if v = 0 ∨ v = 2 ^ 64 - 1 then 1 else v

/-- What a head's page shows of the head (Table 03-8, Table 09-8). -/
def State.headView (s : State) (h off : Nat) : Option Nat :=
  match s.head? h with
  | none => none
  | some d =>
    let page := pHPT h
    if off = 0x050 then some (d.occupied + s.bd.get page F.HPT_PWB.HIGH_WATER * 2 ^ 9)
    else if off = 0x054 then some (d.reads.length + s.bd.get page F.HPT_RDQ.HIGH_WATER * 2 ^ 11)
    else if off = 0x05C then some (s.devLoad h + d.fill * 4)
    else if off = 0x064 then some (d.info.recs.length + d.warn.recs.length * 2 ^ 8 + d.fail.recs.length * 2 ^ 16 + d.fatal.recs.length * 2 ^ 24)
    else if off = 0x068 then some (d.dc.length + d.forced.length * 2 ^ 16)
    else if 0x258 ≤ off ∧ off ≤ 0x264 then
      some (((d.losses[s.bd.get page F.HPT_LOSS_SEL.INDEX]?).map (fun (l : Loss) => l.words.getD ((off - 0x258) / 4) 0)).getD 0)
    else none

/-- FCC_WAYS and FCC_MIRROR_USED of a stack (Table 04-6): a way of a lost stack is disabled. -/
def State.stackView (s : State) (k off : Nat) : Option Nat :=
  if off = 0x04C then
    let lost := s.bd.stackLost k
    some (((List.range 3).map (fun n =>
      let w := 4 * n + k
      let window := decide (12 - s.bd.windowWays ≤ w)
      (if lost then 2 ^ (6 + n) else if window then 0 else 2 ^ n) + (if window then 2 ^ (3 + n) else 0))).sum)
  else if off = 0x06C then some (s.cache.slots.filter (fun (e : Nat × (Nat × Nat × Nat × Nat)) => decide (e.1 / slotsPerStack = k))).length
  else none

/-- MCH_PSTATE and MCH_DIE_ID of the selected die (Table 05-11). -/
def State.channelView (s : State) (c off : Nat) : Option Nat :=
  let d := s.bd.get (pMCH c) F.MCH_DIE_SEL.DIE
  if off = 0x050 then
    some (((List.range 16).map (fun p =>
      match smFind ((c * 8 + d) * 16 + p) s.media.ops with
      | none => 0
      | some o => (if o.susp then 3 else if o.reset then 2 else 1) * 4 ^ p)).sum)
  else if 0x094 ≤ off ∧ off < 0x0A4 then some (smGet (fun _ => 0) s.media.dieIds (c * 8 + d) / 2 ^ (8 * (off - 0x094)) % 2 ^ 32)
  else none

/-- What the home's and the write path's pages show. -/
def State.tableView (s : State) (page off : Nat) : Option Nat :=
  if page = pFCM then
    if off = 0x064 then some s.dirty else if off = 0x068 then some s.bd.dirtyLimit else none
  else if page = pVWN then
    if off = 0x044 then some ((s.bd.rd page off).toNat - s.bd.get page F.VWN_STAT.BYPASS * 16 + bit s.bd.bypass * 16) else none
  else if page = pMAP then
    if off = 0x044 then some (s.inFlight + s.bgInFlight * 2 ^ 13 + s.bd.get page F.MAP_RD_STAT.FULL * 2 ^ 26) else none
  else if page = pPTX then
    if off = 0x040 then some s.live else if off = 0x044 then some s.stagedSlots else if off = 0x048 then some s.poisonSlots
    else if off = 0x118 then some s.wp.folds.length else none
  else if page = pRCL then
    match s.wp.victim with
    | none => if off = 0x058 ∨ off = 0x05C then some 0 else none
    | some (band, item) =>
      if off = 0x058 then
        let v := s.band band
        let phase := if v.st ≠ 5 then 0 else if v.reset then 3 else if s.emptied band then 2 else 1
        some (band + phase * 2 ^ 16 + item * 2 ^ 19)
      else if off = 0x05C then some (s.wp.copied + s.bandValid band * 2 ^ 16)
      else none
  else none

/-- What the pages of age, health, temperature and regulation show of the selected channel, cell, sensor or master. -/
def State.ageView (s : State) (page off : Nat) : Option Nat :=
  if page = pAGE then
    let c := s.bd.get page F.AGE_CLK_SEL.CHANNEL
    if off = 0x050 then some (s.stamp c)
    else if off = 0x054 then
      let (t, source) := s.ageTemp c
      some (ageFactor t / 2 ^ 8 + source * 2 ^ 24)
    else none
  else if page = pPTL then (if off = 0x058 then some s.age.suspects.length else none)
  else if page = pHLT then (if off = 0x064 then some (smGet (fun _ => 0) s.age.hist (s.bd.get page F.HLT_TEMP_SEL.CELL) % 2 ^ 32) else none)
  else if page = pTHM then
    if off = 0x064 then
      let n := s.bd.get page F.THM_SEL.SENSOR
      let half := fun (x : Option Int) => (x.map (fun v => (v % 2 ^ 16).toNat)).getD 0
      some (half (s.thm.temps.getD n none) + half (s.thm.medians.getD n none) * 2 ^ 16)
    else none
  else if page = pQOS then
    let m := s.bd.get page F.QOS_SEL.MASTER
    if off = 0x04C then some (min (2 ^ 20 - 1) (s.qosUsed m) + bit (s.lowNow m) * 2 ^ 20 + bit (s.urgent m) * 2 ^ 21)
    else if off = 0x050 then some (s.outstanding m)
    else none
  else none

/-- What the key pages show: loaded slots, the encapsulation key, the sweep of the selected slot, and the selected erase epoch. -/
def State.keyView (s : State) (page off : Nat) : Option Nat :=
  if page = pKEY then
    if off = 0x05C then some (s.keys.slots.filter (fun (e : Nat × KeySlot) => decide (e.2.st ≠ 0))).length
    else if off = 0x064 then some (Config.ekWord s.keys.ekDraw (s.bd.get page F.KEY_EK_IDX.WORD)).toNat
    else none
  else if page = pRKY then
    if off = 0x048 then
      some (s.keys.sweeps.length + (s.keys.slots.filter (fun (e : Nat × KeySlot) => e.2.again)).length * 2 ^ 13)
    else
      match s.sweepOf (s.bd.get page F.RKY_SEL.KEY) with
      | none => if 0x050 ≤ off ∧ off ≤ 0x05C then some 0 else none
      | some w =>
        if off = 0x050 then some (s.sweepCursor w)
        else if off = 0x054 then some w.done
        else if off = 0x058 then some w.left.length
        else if off = 0x05C then some (min 65535 (s.sweepSeconds w))
        else none
  else if page = pCRY then
    let e := s.eet (s.bd.get page F.CRY_EET_SEL.LXN)
    if off = 0x048 then some (e % 2 ^ 32) else if off = 0x04C then some (e / 2 ^ 32) else none
  else none

/-- What the shelf pages show: the age of link keys, and on the manager the last summary of the selected part (R328). -/
def State.shelfView (s : State) (page off : Nat) : Option Nat :=
  if page = pSHL 0 ∨ page = pSHL 1 then
    if off = 0x050 then
      let k := page - pSHL 0
      let at' := ((s.shelf.links[k]?).map Link.keyAt).getD 0
      some (s.bd.get page F.SHL_KEYS.ROTATIONS + min 65535 ((s.bd.now - at') / 1000000) * 2 ^ 16)
    else none
  else if page = pSHM ∧ 0x068 ≤ off ∧ off ≤ 0x074 then
    match smFind (s.bd.get page F.SHM_HLT_SEL.PART) s.shelf.health with
    | none => some 0
    | some h =>
      let w := fun k => h.words.getD k 0
      if !s.bd.manages then some 0
      else if off = 0x068 then some (w 0 + w 1 * 2 ^ 4 + w 2 * 2 ^ 11)
      else if off = 0x06C then some (w 3 + w 4 * 2 ^ 16)
      else if off = 0x070 then some (w 5 + w 6 * 2 ^ 16)
      else some (min 65535 ((s.bd.now - h.since) / 1000) + bit h.told * 2 ^ 16)
  else none

/-- What the pages of PD00 show of the sequence, the drain, the parameter store, the management path, the security island and the fault log. -/
def State.aonView (s : State) (page off : Nat) : Option Nat :=
  if page = pDEV then
    if off = 0x04C then some (serialValue % 2 ^ 32) else if off = 0x050 then some (serialValue / 2 ^ 32) else none
  else if page = pRTM then (if off = F.RTM_SLOT_MASK_LO.MASK.off then s.slot.heldLo else none)
  else if page = pSEQ0 then
    if off = 0x058 then some (min (2 ^ 24 - 1) (smGet (fun _ => 0) s.seq.stepUs (s.bd.get page F.SEQ_STEP_SEL.STATE))) else none
  else if page = pPDR then
    let run := s.seq.runs[s.bd.get page F.PDR_RUN_SEL.INDEX]?
    if off = 0x05C then some s.regions.length
    else if off = 0x060 then some s.drainCursor
    else if off = 0x06C then some ((run.map Prod.fst).getD 0)
    else if off = 0x070 then some ((run.map Prod.snd).getD 0)
    else none
  else if page = pPST then
    let r := s.bd.get page F.PST_REC_SEL.RECORD
    if off = 0x040 then
      some ((s.bd.rd page off).toNat % 8 + min 512 ((s.pst.queue.map (fun (j : PstJob) => j.writes.length)).sum) * 8)
    else if off = 0x070 then
      some (if (recInfo r).isSome then smGet (fun _ => 0) s.pst.loads r % 128 else 0)
    else if off = 0x074 then some (if (recInfo r).isSome then smGet (fun _ => 0) s.pst.seqs r else 0)
    else none
  else if page = pMGT then
    if off = 0x048 then some (s.bd.stateQ.length + s.bd.eventQ.length * 2 ^ 11)
    else if off = 0x050 then some s.mgmt.reqs.length
    else none
  else if page = pSEC then
    let v := (s.pst.counter (s.bd.get page F.SEC_CTR_SEL.COUNTER)).getD 0
    if off = 0x058 then some (v % 2 ^ 32) else if off = 0x05C then some (v / 2 ^ 32) else none
  else if page = pFLT ∧ 0x054 ≤ off ∧ off ≤ 0x064 then
    match s.bd.faultLog[s.bd.get page F.FLT_LOG_SEL.INDEX]? with
    | none => some 0
    | some e =>
      if off = 0x054 then some (e.page + e.event * 2 ^ 9 + e.cls * 2 ^ 14 + bit e.fatal * 2 ^ 18)
      else if off = 0x058 then some e.stall
      else if off = 0x05C then some (e.time % 2 ^ 32)
      else if off = 0x060 then some (e.time / 2 ^ 32)
      else some e.info
  else none

/-- What a register shows when it is read on a path and its page is powered: what its own part of the state holds, or the word stored for it. -/
def State.shows (s : State) (p : Path) (page off : Nat) : Word :=
  let plain := s.bd.rd page off
  let num := fun (v : Option Nat) => (v.map (BitVec.ofNat 32)).getD plain
  if off < 0x040 ∨ 0xC00 ≤ off then plain
  else
    match blockOf page with
    | some (.hpt, h) => num (s.headView h off)
    | some (.fcc, k) => num (s.stackView k off)
    | some (.mch, c) => num (s.channelView c off)
    | some (.evq, _) => (s.bd.evqView p off).getD plain
    | some (.trv, _) => (s.trvView off).getD plain
    | some (.fcm, _) | some (.vwn, _) | some (.map, _) | some (.ptx, _) | some (.rcl, _) => num (s.tableView page off)
    | some (.age, _) | some (.ptl, _) | some (.hlt, _) | some (.thm, _) | some (.qos, _) => num (s.ageView page off)
    | some (.key, _) | some (.rky, _) | some (.cry, _) => num (s.keyView page off)
    | some (.shl, _) | some (.shm, _) => num (s.shelfView page off)
    | some _ => num (s.aonView page off)
    | none => plain

end Sys2Proof.Machine
end

