-- ==== Sys2Proof/Machine/Registers.lean ====
section
/-! DEFINITION. Accesses of the control space (chapters *Scope and conventions* and *Control space and page index*): reads and writes on either path, the checks of R7 to R13,
events (R18 to R20), unit state requests (R22 to R26), locks (R21, R493) and containment (R476). -/

namespace Sys2Proof.Machine

/-! ### Unit states (R22 to R26) -/

/-- What Table 00-9 says of a request: 0 CONFLICT, 1 no change, 2 accepted. -/
def permitted (st target : Nat) : Nat :=
  if st = target then 1
  else match st, target with
    | 0, 1 => 2
    | 2, 3 => 1
    | 3, 2 => 1
    | 2, 4 => 2
    | 3, 4 => 2
    | 4, 0 => 2 | 4, 1 => 2 | 4, 2 => 2 | 4, 3 => 2 | 4, 5 => 2 | 4, 6 => 2
    | 6, 0 => 2 | 6, 1 => 2 | 6, 2 => 2 | 6, 3 => 2 | 6, 4 => 2
    | _, _ => 0

/-- The checks 3 to 6 of R22 for a request: the code of the first that fails, or whether the unit changes. -/
def Board.requestCheck (b : Board) (page target : Nat) : Except Code Bool :=
  if 7 ≤ target ∨ nbit (b.states page) target = false then .error .unsupported
  else if b.unit page = stRETIRED then .error .denied
  else
    match permitted (b.unit page) target with
    | 0 => .error .conflict
    | n =>
      if (target = stSERVICE ∨ target = stDEGRADED ∨ target = stINIT) ∧ b.get page F.UNIT_STATE.CAUSE_OPEN = 1 then .error .causeOpen
      else .ok (decide (n = 2))

/-- A UNIT_CMD request (R22): TARGET and EXP_EPOCH take what is written, and RESULT the outcome. An accepted change is pending until it completes. -/
def Board.unitCmd (b : Board) (page target epoch : Nat) : Board :=
  let busy := b.on page F.UNIT_CMD.PENDING
  let b := (b.put page F.UNIT_CMD.TARGET target).put page F.UNIT_CMD.EXP_EPOCH epoch
  let answer := fun (c : Code) => b.put page F.UNIT_CMD.RESULT c.num
  if epoch ≠ b.get page F.UNIT_STATE.EPOCH then answer .staleEpoch
  else if busy then answer .busy
  else
    match b.requestCheck page target with
    | .error c => answer c
    | .ok false => answer .ok
    | .ok true => { (answer .ok).put page F.UNIT_CMD.PENDING 1 with cmds := smPut page target b.cmds }

/-- The registers of a page that show what a UNIT reset leaves alone (log entry 107): a link that is up, its causes, the window in use, the straps. -/
def unitKept : Block → List Nat
  | .hpt => [0x044, 0x04C, 0x074]
  | .vwn => [0x044]
  | .xtn => [0x040]
  | _ => []

/-- What a UNIT reset of a block resets beside its registers (R12, R122, R128; log entry 107). -/
def State.unitReset (s : State) (page : Nat) : State :=
  let s := match blockOf page with
    | some (.fcm, _) => (s.abortOp).opDone
    | some (.vwn, _) => { s with cache := { s.cache with bitmap := [] } }
    | some (.mch, c) => { s with media := { s.media with dieIds := s.media.dieIds.filter (fun (e : Nat × Nat) => decide (e.1 / 8 ≠ c)) } }
    | some (.cpd, _) => { s with copy := { s.copy with chans := s.copy.chans.filter (fun (e : Nat × CopyChan) => decide (chanPage e.1 ≠ page)) } }
    | some (.cps, _) => { s with copy := { s.copy with chans := s.copy.chans.filter (fun (e : Nat × CopyChan) => decide (chanPage e.1 ≠ page)) } }
    | some (.key, _) => { s with keys := { s.keys with busy := none } }
    | some (.shl, k) => s.onLink k (fun _ => Link.down)
    | some (.map, _) => { s with mapx := { s.mapx with inspectMap := none } }
    | some (.ptx, _) => { s with mapx := { s.mapx with inspectPtx := none } }
    | some (.xtn, _) => { s with xtn := { s.xtn with access := none } }
    | some (.hpt, h) => s.onHead h (fun d => { d with
        info := logReset, warn := logReset, fail := logReset, fatal := logReset, merges := [], poisonList := [], poisonOver := false, poisonOverTime := 0,
        injected := [] })
    | _ => s
  let s := s.on (fun b =>
    let kept := match blockOf page with | none => [] | some (k, _) => (unitKept k).map (fun off => (off, b.rd page off))
    let b := b.resetPage page keepNarrow
    let b := kept.foldl (fun (b : Board) (e : Nat × Word) => b.wr page e.1 e.2) b
    b.toState page stINIT)
  match blockOf page with
  | some (.key, _) => s.drawNonce
  | some (.shm, _) =>
    let s := { s with shelf := { Shelf.empty s.shelf.links with grants := s.shelf.grants, nextSxn := s.shelf.nextSxn, owed := s.shelf.owed } }
    s.on (fun b =>
      let b := (b.put pSHM F.SHM_SELF.SHELF_ID s.seq.shelfId).put pSHM F.SHM_SELF.ROLE (bit s.seq.role)
      (b.put pSHM F.SHM_MGR.TERM ((s.recordWords 8).headD 0)).strapCheck false)
  | _ => s

/-- An accepted request changes the state of its unit (R23, R24, R446). -/
def State.applyTarget (s : State) (page target : Nat) : State :=
  if target = stINIT then s.unitReset page
  else if target = stSERVICE ∨ target = stDEGRADED then s.on (fun b => b.toState page (if s.reduced page then stDEGRADED else stSERVICE))
  else
    let s := if target = stCONTAINED ∨ target = stTEST then s.abortPage page else s
    let s := s.on (fun b => b.toState page target)
    if target = stRETIRED then s.storeFaults else s

/-- UNIT_STATE_CHANGE_DONE (R24, R26): a pending request completes. Where the unit has moved since it was accepted, the request is checked again, and may fail
(log entry 107). -/
def State.unitDone (s : State) (page : Nat) : State :=
  match smFind page s.bd.cmds with
  | none => s
  | some target =>
    let s := s.on (fun b => { b with cmds := smDel page b.cmds })
    if s.bd.on page F.UNIT_CMD.PENDING = false then s
    else
      let done := fun (s : State) (c : Code) => s.on (fun b => (b.put page F.UNIT_CMD.PENDING 0).put page F.UNIT_CMD.RESULT c.num)
      match s.bd.requestCheck page target with
      | .error c => done s c
      | .ok false => done s .ok
      | .ok true => (done s .ok).applyTarget page target

/-- The cause register of a page with its INTERNAL bit. -/
def internalOf (page : Nat) : Option (Nat × Nat) :=
  match blockOf page with
  | none => none
  | some (k, _) => match causeReg k with
    | some (off, _, some n) => some (off, n)
    | _ => none

/-- CONTAINMENT (R476): a unit's own checkers find an uncorrectable fault in its logic. INTERNAL opens where the page has it (HPT_CAUSE, FCC_CAUSE, MCH_CAUSE, SHL_CAUSE, SEC_CAUSE,
and MAP, whose INTERNAL has no register); otherwise it is a fault of the processor complex. -/
def State.containment (s : State) (page code i1 i2 : Nat) : State :=
  if !implemented page ∨ s.bd.powered page = false ∨ s.bd.unit page = stOFF ∨ s.bd.unit page = stRETIRED then s
  else
    match blockOf page with
    | some (.hpt, _) =>
      s.on (fun b => ((b.openCause page F.HPT_CAUSE.INTERNAL).raise page (ev E.HPT.INTERNAL code i1 i2 0)).logFault page E.HPT.INTERNAL 6 0 i1 false)
    | some (.map, _) => s.on (fun b => (b.openHidden page 0).logFault page 0 0 0 i1 false)
    | _ =>
      match internalOf page with
      | some (off, n) => s.on (fun b => (b.openCause page ⟨off, n, 1, 0⟩).logFault page 0 0 0 i1 false)
      | none => s.cpxFault page 0 i1

/-! ### Events as software drives them (R18 to R20) -/

/-- The implemented event bits of a page. -/
def evtMask (page : Nat) : Word := BitVec.ofNat 32 (2 ^ evtCount page - 1)

/-- EVT_STATUS_CLEAR: bits written 1 clear, and the capture is released with the captured event's bit (R18). -/
def Board.clearEvents (b : Board) (page : Nat) (w : Word) : Board :=
  let b := b.wr page 0x010 (b.rd page 0x010 &&& ~~~w)
  if page ∈ b.held ∧ wordBits w (b.get page F.ERR_INFO0.EVENT) 1 = 1 then
    let b := (((b.wr page 0x020 0).wr page 0x024 0).wr page 0x028 0).wr page 0x02C 0
    { b with held := nsErase page b.held }
  else b

/-- EVT_ENABLE_WRITE (R19). -/
def Board.enableEvents (b : Board) (page : Nat) (w : Word) : Board :=
  let before := b.enabledStatus page
  let b := b.wr page 0x014 (w &&& evtMask page)
  let after := b.enabledStatus page
  if before = 0 ∧ after ≠ 0 then Board.run 256 [.notice page (lowestBit after)] b else b

/-- EVT_FORCE (R20). -/
def Board.forceEvents (b : Board) (page : Nat) (w : Word) : Board :=
  b.raises page ((bitList (w &&& evtMask page).toNat 32).map (fun n => ⟨n, 0, 0, 0, 0, 0, true⟩))

/-! ### Checks of a written value (R10) -/

/-- The code that a field's written value breaks (R10). -/
def rowBreaks (r : Row) (f : Fld) (w : Word) : Option Code :=
  let v := wordBits w f.lo f.width
  match r.chk with
  | .any => none
  | .range empty lo hi => if empty && v == 0 then some .empty else if v < lo ∨ hi < v then some .length else none
  | .enum hi => if hi < v then some .unsupported else none
  | .signed lo hi => if toSigned f.width v < lo ∨ hi < toSigned f.width v then some .length else none
  | .confl lo hi => if v = 0 then some .empty else if v < lo then some .conflict else if hi < v then some .length else none

/-- The checks of a block beyond those of single fields. -/
def Board.blockBreaks (b : Board) (page off : Nat) (w : Word) : List Code :=
  let f := fun (x : Fld) => wordBits w x.lo x.width
  let here := fun (c : Bool) (k : Code) => if c then [k] else []
  if off = 0x01C then
    here (decide (page = pEVQ) && decide (f F.EVT_ROUTE.DEST = 3)) .unsupported ++ here (decide (255 < f F.EVT_ROUTE.VECTOR)) .length
  else if 0xC40 ≤ off ∧ off < 0xC60 then here (decide (pmcTop page < wordBits w 0 8)) .length
  else
    match blockOf page with
    | some (.hpt, _) =>
      if off = 0x058 then
        here (decide (64 < f F.HPT_QOS_CFG.T_OPT) || decide (64 < f F.HPT_QOS_CFG.T_MOD) || decide (64 < f F.HPT_QOS_CFG.T_SEV)) .length
          ++ here (decide (f F.HPT_QOS_CFG.T_MOD < f F.HPT_QOS_CFG.T_OPT) || decide (f F.HPT_QOS_CFG.T_SEV < f F.HPT_QOS_CFG.T_MOD)) .conflict
      else []
    | some (.rcl, _) =>
      let bad := fun (n : Nat) => decide (n % 8 ≠ 0) || decide (n < 8) || decide (96 < n)
      let sum := fun (x : Nat) (n : Nat) => ((List.range n).map (fun i => x / 256 ^ i % 256)).sum
      if off = F.RCL_CFG.FREE_LOW.off then
        here (decide (f F.RCL_CFG.FREE_CRIT < 33) || decide (f F.RCL_CFG.FREE_LOW ≤ f F.RCL_CFG.FREE_CRIT)) .conflict
      else if off = 0x044 then
        here ((List.range 4).any (fun i => bad (wordBits w (8 * i) 8)) || decide (192 < sum w.toNat 4 + sum (b.rd page 0x048).toNat 2)) .conflict
      else if off = 0x048 then
        here ((List.range 2).any (fun i => bad (wordBits w (8 * i) 8)) || decide (192 < sum w.toNat 2 + sum (b.rd page 0x044).toNat 4)) .conflict
      else []
    | some (.loop, _) =>
      here ((decide (off = F.LOOP_BIN.MIN_BIN.off) && decide (f F.LOOP_BIN.MAX_BIN < f F.LOOP_BIN.MIN_BIN))
        || (decide (off = F.LOOP_WRATE.MIN_PCT.off) && decide (f F.LOOP_WRATE.MAX_PCT < f F.LOOP_WRATE.MIN_PCT))) .conflict
    | some (.fcm, _) => here (decide (off = 0x048) && decide (wordBits w 8 1 = 0) && decide (6 < f F.FCM_OP.OP)) .unsupported
    | some (.vwn, _) => here (decide (off = 0x040) && decide (4 < f F.VWN_CFG.SIZE)) .unsupported
    | some (.xtn, _) =>
      if 0x100 ≤ off ∧ off < 0x500 ∧ off % 16 = 0 then
        let hw := (off - 0x100) / 16
        here (b.on page (F.WIN_CTL.COMMITTED.ix hw) && decide (wordBits w 16 13 ≠ wordBits (b.rd page off) 16 13)) .conflict
      else []
    | _ => []

/-- Of the codes that one write breaks, the one that is recorded (R10). -/
def firstCode (l : List Code) : Option Code := [Code.unsupported, .length, .empty, .conflict].find? (fun c => decide (c ∈ l))

/-- The code that a write of `w` to a register breaks under R10, or the lock (R11). -/
def Board.writeCode (b : Board) (page off : Nat) (w : Word) : Option Code :=
  let rows := rowsAt page off
  if b.on page F.PAGE_LOCK.LOCK && rows.any (fun (r : Row) => r.acc == Acc.rwl) then some .denied
  else
    firstCode ((rows.filterMap (fun (r : Row) => if r.acc == Acc.rw || r.acc == Acc.rwl then rowBreaks r r.fld w else none)) ++ b.blockBreaks page off w)

/-- The word of a register after a write, by the access codes of its fields (R11). -/
def Board.written (b : Board) (page off : Nat) (w : Word) : Word :=
  (rowsAt page off).foldl (fun old (r : Row) =>
    let v := wordBits w r.fld.lo r.fld.width
    let o := wordBits old r.fld.lo r.fld.width
    match r.acc with
    | .rw | .rwl => wordSet old r.fld.lo r.fld.width v
    | .w1c => wordSet old r.fld.lo r.fld.width (Nat.land o (2 ^ r.fld.width - 1 - v))
    | .w1s => wordSet old r.fld.lo r.fld.width (Nat.lor o v)
    | .ro | .rc => old) (b.rd page off)

/-- A plain write. -/
def State.plainWrite (s : State) (page off : Nat) (w : Word) : State :=
  let s := s.on (fun b => b.wr page off (b.written page off w))
  if configFields.any (fun (e : Nat × Fld) => decide (e.1 = page) && decide (e.2.off = off)) then s.storeConfig else s

/-! ### Writes with an effect of their own -/

/-- Writes of CPD_CTL: RESUME acts before ABORT, and ARM last (log entry 108). -/
def State.cpdWrite (s : State) (p : Path) (page off : Nat) (w : Word) : State :=
  let pos := (off - 0x100) / 0x100
  let c := 4 * (page - pCPD 0) + pos
  if off % 0x100 = 0 then
    let s := if wordBits w 2 2 = 1 then s.resumeCopy p c false else if wordBits w 2 2 = 2 then s.resumeCopy p c true else s
    let s := if wordBits w 1 1 = 1 then s.abortCopy p c else s
    if wordBits w 0 1 = 1 then s.cpdArm p c else s
  else if 0x40 ≤ off % 0x100 ∧ off % 0x100 ≤ 0x54 ∧ s.bd.armed c then s.rejects p page off .busy
  else s.plainWrite page off w

/-- Writes of CPS registers. -/
def State.cpsWrite (s : State) (p : Path) (off : Nat) (w : Word) : State :=
  let n := (off - 0x100) / 0x40
  if off % 0x40 = 0 then
    let s := if wordBits w 1 1 = 1 then s.abortCopy p (32 + n) else s
    if wordBits w 0 1 = 1 then s.cpsGo p n else s
  else if s.bd.chanState (32 + n) = 1 then s.rejects p pCPS off .busy
  else s.plainWrite pCPS off w

/-- An outcome that the world decides and that a plain register write does not carry: one open value (log entry 108). -/
def State.openBit (s : State) : Bool × State := (decide (s.bd.openVal % 2 = 1), s.on Board.useOpen)

/-- DEV_CTL.LOCK_ALL (R493): every implemented, powered page is locked. -/
def Board.lockAll (b : Board) : Board := (allPages.filter b.powered).foldl (fun b p => b.put p F.PAGE_LOCK.LOCK 1) b

/-- Writes of PD00 pages and of the security island. -/
def State.aonWrite (s : State) (p : Path) (auth : Bool) (page off : Nat) (w : Word) : State :=
  let one := fun (n : Nat) => decide (wordBits w n 1 = 1)
  if page = pDEV ∧ off = F.DEV_CTL.LOCK_ALL.off then (if one 0 then s.on Board.lockAll else s)
  else if page = pTRV ∧ off = 0x058 then s.on (fun b => b.flipCtl p w)
  else if page = pSEQ0 ∧ off = 0x048 then
    if wordBits w 0 2 = 1 then s.seqStart p else if wordBits w 0 2 = 2 then s.powerDown p else s.plainWrite page off w
  else if page = pRTM ∧ off = F.RTM_SET_HI.VALUE.off then s.rtmSet p w.toNat
  else if page = pRTM ∧ off = F.RTM_SLOT_MASK_LO.MASK.off then s.maskLo p w.toNat
  else if page = pRTM ∧ off = F.RTM_SLOT_MASK_HI.MASK.off then s.maskHi p w.toNat
  else if page = pPST ∧ off = 0x048 then s.rawCommand p (wordBits w 0 12) (one 12)
  else if page = pPST ∧ off = 0x050 then
    if wordBits w 6 2 = 1 then s.counterRead p (wordBits w 0 6) else if wordBits w 6 2 = 2 then s.counterIncrement p (wordBits w 0 6)
    else s.plainWrite page off w
  else if page = pSEC ∧ off = 0x070 then (if wordBits w 0 2 = 1 then s.storeOpr p auth else s.plainWrite page off w)
  else if page = pKEY ∧ off = 0x040 then
    let k := wordBits w 4 12
    match wordBits w 0 2 with
    | 1 =>
      let (ok, s) := s.openBit
      let seed := s.bd.openVal
      (s.on Board.useOpen).keyCommand p 1 k (fun s => s.importSeed k (if ok then some seed else none))
    | 2 => s.keyCommand p 2 k (fun s => s.clearSlot k)
    | 3 => s.keyCommand p 3 k (fun s => s.inspect k)
    | _ => s.plainWrite page off w
  else s.plainWrite page off w

/-- Writes of the front cache, window, media, map and write-path pages. -/
def State.coreWrite (s : State) (p : Path) (page off : Nat) (w : Word) : State :=
  let one := fun (n : Nat) => decide (wordBits w n 1 = 1)
  match blockOf page with
  | some (.fcc, k) =>
    if off = 0x060 then
      if one 0 then s.fccFlipArm p k (wordBits w 1 3)
      else s.written p page off (decide (s.bd.unit page ≠ stTEST)) false (fun s => s.plainWrite page off w)
    else s.plainWrite page off w
  | some (.mch, c) => if off = F.MCH_FLIP_CTL.ARM.off then s.flipArm p c w else s.plainWrite page off w
  | some (.fcm, _) =>
    if off = 0x040 then (if one 0 then s.cacheEnable p else s.cacheDisable p)
    else if off = 0x048 then
      if one 8 then s.fcmAbort p
      else if wordBits w 0 4 = 0 then s.plainWrite page off w
      else s.fcmOp p (wordBits w 0 4) (one 4) (wordBits w 5 3)
    else s.plainWrite page off w
  | some (.vwn, _) =>
    if off = 0x040 then s.vwnResize p (wordBits w 0 3) else if off = 0x048 then (if one 0 then s.remap p else s) else s.plainWrite page off w
  | some (.map, _) => if off = 0x050 then s.mapAccPage p w.toNat else s.plainWrite page off w
  | some (.ptx, _) => if off = 0x068 ∧ one 6 then s.ptxAccStart p (wordBits w 0 6) else s.plainWrite page off w
  | some (.age, _) => if off = F.AGE_INSP.FIELD.off then s.ageInsp p (wordBits w 0 20) (one 20) else s.plainWrite page off w
  | some (.rky, _) => if off = 0x044 ∧ one 12 then s.rkyStart p (wordBits w 0 12) else s.plainWrite page off w
  | some (.cpd, _) => if 0x100 ≤ off ∧ off < 0x500 then s.cpdWrite p page off w else s.plainWrite page off w
  | some (.cps, _) => if 0x100 ≤ off ∧ off < 0x300 then s.cpsWrite p off w else s.plainWrite page off w
  | some (.pmc, _) =>
    if off = 0x040 then
      let s := s.plainWrite page off (wordSet w 1 1 0)
      if one 1 then s.snap p else s
    else s.plainWrite page off w
  | some (.shm, _) =>
    if off = 0x060 then
      match wordBits w 0 2 with
      | 1 => let (plain, s) := s.openBit; s.leave p plain
      | 2 => s.handback p
      | _ => s.plainWrite page off w
    else s.plainWrite page off w
  | some (.xtn, _) => if off = 0x044 then s.xtnCommand p (wordBits w 0 2) (wordBits w 4 16) (one 2) else s.plainWrite page off w
  | _ => s.plainWrite page off w

/-- Writes of the event-queue page. -/
def State.evqWrite (s : State) (p : Path) (off : Nat) (w : Word) : State :=
  if off = 0x048 then s.on (fun b => let n := b.get pEVQ F.EVQ_QSEL.QUEUE; b.setQueue n { b.queue n with cfg := w &&& 0xFFFFFF3F })
  else if off = 0x050 then
    let s := s.on (fun b => b.put pEVQ F.EVQ_RD_CTL.OFF (wordBits w 0 11))
    if wordBits w 11 1 = 1 then s.pop p else s
  else if off = 0x058 then s.on (fun b => b.pushCtl p w)
  else if off = 0x05C then s.on (fun b => b.pushData p w)
  else s.plainWrite pEVQ off w

/-- Writes of a head's page. -/
def State.headWrite (s : State) (p : Path) (h off : Nat) (w : Word) : State :=
  if off = 0x040 then s.portCfgWrite p h w
  else if 0x200 ≤ off ∧ off < 0x240 ∧ off % 8 = 0 then s.fenceStart p h ((off - 0x200) / 8) w
  else if off = 0x268 then (if wordBits w 0 1 = 1 then s.lossPop p h else s)
  else if 0x300 ≤ off ∧ off < 0x400 ∧ off % 64 = 8 then
    if wordBits w 0 2 = 0 then s.plainWrite (pHPT h) off w else s.rsvCommand p h ((off - 0x300) / 64) (wordBits w 0 2)
  else s.plainWrite (pHPT h) off w

/-- The effect of a write that passes the path and R10. -/
def State.writeEffect (s : State) (p : Path) (auth : Bool) (page off : Nat) (w : Word) : State :=
  if off = 0x010 then s.on (fun b => b.clearEvents page w)
  else if off = 0x014 then s.on (fun b => b.enableEvents page w)
  else if off = 0x018 then s.on (fun b => b.forceEvents page w)
  else if off < 0x040 ∨ 0xC00 ≤ off then s.plainWrite page off w
  else
    match internalOf page with
    | some (o, n) =>
      if off = o then s.on (fun b => (b.wr page off (b.written page off (if wordBits w n 1 = 1 then w else wordSet w n 1 0))).followCauses page)
      else
        match blockOf page with
        | some (.hpt, h) => s.headWrite p h off w
        | some (.sec, _) => s.aonWrite p auth page off w
        | _ => s.coreWrite p page off w
    | none =>
      match blockOf page with
      | some (.evq, _) => s.evqWrite p off w
      | some (.dev, _) | some (.trv, _) | some (.seq0, _) | some (.rtm, _) | some (.pst, _) | some (.key, _) => s.aonWrite p auth page off w
      | _ => s.coreWrite p page off w

/-- Register-level restrictions of the paths (Table 21-2): does the host path, does the management path, find a write of `w` DENIED? -/
def Board.restricted (page off : Nat) (h : Option (Fin 8)) (w : Word) : Bool × Bool :=
  let internal := match internalOf page with | some (o, n) => decide (off = o) && decide (wordBits w n 1 = 1) | none => false
  match blockOf page with
  | some (.hpt, _) =>
    (internal || decide (off = 0x040),
      (decide (0x200 ≤ off) && decide (off < 0x240) && decide (off % 8 = 0)) || (decide (0x300 ≤ off) && decide (off < 0x400) && decide (off % 64 = 8)))
  | some (.xtn, _) =>
    let other := match h with | none => false | some h => decide (0x100 ≤ off) && decide (off < 0x500) && decide ((off - 0x100) / 0x80 ≠ h.val)
    (other || (decide (off = 0x044) && decide (wordBits w 2 1 = 1)), false)
  | some (.key, _) => (decide (off = 0x040) || decide (off = F.KEY_EK_IDX.WORD.off) || decide (F.KEY_BLOB.DATA.off ≤ off ∧ off < 0xC00), false)
  | some (.rky, _) => (decide (off = 0x044), false)
  | some (.shm, _) => (decide (off = 0x060), false)
  | some (.thm, _) => (decide (off = F.THM_CFG.MEDIA_LIMIT.off), false)
  | some (.pdr, _) => (decide (off = F.PDR_CFG.DECLARED.off) || decide (off = F.PDR_HOLDUP_US.US.off), false)
  | some (.rtm, _) =>
    (decide (off ∈ [F.RTM_CFG.SOURCE.off, F.RTM_SET_LO.VALUE.off, F.RTM_SET_HI.VALUE.off, F.RTM_SLOT_MASK_LO.MASK.off, F.RTM_SLOT_MASK_HI.MASK.off,
      F.RTM_SLOT_CFG.UNITS.off]), false)
  | some (.pst, _) => (decide (off ∈ [0x044, 0x048, 0x050]), false)
  | _ => (internal, false)

/-- A 4 B write of a register that lies in an implemented page (R8 to R13). -/
def State.writeWord (s : State) (p : Path) (auth : Bool) (page off : Nat) (w : Word) : State :=
  let (hostNo, mgmtNo) := Board.restricted page off (match p with | .host h => some h | .mgmt => none) w
  s.written p page off hostNo mgmtNo (fun s =>
    if off = 0x00C then s.on (fun b => b.unitCmd page (wordBits w 0 4) (wordBits w 16 16))
    else if (rowsAt page off).isEmpty then s
    else
      match s.bd.writeCode page off w with
      | some c => s.rejects p page off c
      | none => s.writeEffect p auth page off w)

/-- An access of an unimplemented page (R488): it is counted and raises UNMAPPED_ACCESS. -/
def State.unmapped (s : State) (p : Path) (write : Bool) (offset size : Nat) : State :=
  let path := match p with | .host h => h.val * 4 | .mgmt => 2
  s.on (fun b => (b.count pDEV F.DEV_UNMAPPED.COUNT 1).raise pDEV (ev E.DEV.UNMAPPED_ACCESS (bit write + path) offset size 0))

/-- Is an access aligned and of a size that R6 takes? -/
def sized (off size : Nat) : Bool := (decide (size = 4) || decide (size = 8)) && decide (off % size = 0)

/-- A write on a path (R6, R7, R488, R491): the lower register first. -/
def State.writeAccess (s : State) (p : Path) (auth : Bool) (offset size v : Nat) : State :=
  let page := offset / 4096
  let off := offset % 4096
  if !implemented page then s.unmapped p true offset size
  else if s.bd.powered page = false then s
  else if !sized off size then s.rejects p page off .unsupported
  else
    let s := s.writeWord p auth page off (BitVec.ofNat 32 v)
    if size = 8 then s.writeWord p auth page (off + 4) (BitVec.ofNat 32 (v / 2 ^ 32)) else s

/-! ### Reads -/

/-- The RC fields of a register clear after they have been read (R11). -/
def Board.readClear (b : Board) (page off : Nat) : Board :=
  let rows := (rowsAt page off).filter (fun (r : Row) => r.acc == Acc.rc)
  if rows.isEmpty then b else b.wr page off (rows.foldl (fun w (r : Row) => wordSet w r.fld.lo r.fld.width 0) (b.rd page off))

/-- Does the host path read zero here whatever the register holds (R43, R427, R489)? -/
def hostBlind (page off : Nat) (h : Fin 8) : Bool :=
  decide (pagePolicy page = .m) || (decide (page = pPST) && decide (off = 0x044))
    || (decide (page = pXTN) && decide (0x100 ≤ off) && decide (off < 0x500) && decide ((off - 0x100) / 0x80 ≠ h.val))

/-- A 4 B read of a register of an implemented, powered page: its value, and what the read changes. -/
def State.readWord (s : State) (p : Path) (page off : Nat) : Word × State :=
  let blind := match p with | .host h => hostBlind page off h | .mgmt => false
  if blind then (0, s)
  else if page ∈ s.bd.resetting then (resetWord page off, s)
  else if (rowsAt page off).isEmpty ∧ off ≠ 0x000 ∧ off ≠ 0x004 then (0, s)
  else if page = pRTM ∧ off = F.RTM_TIME_LO.TIME.off then
    let t := s.bd.rackTime
    (BitVec.ofNat 32 t, s.on (fun b => (b.put pRTM F.RTM_TIME_LO.TIME t).put pRTM F.RTM_TIME_HI.TIME (t / 2 ^ 32)))
  else if off = 0x004 then
    (wordSet (s.shows p page off) 0 7 (s.bd.states page), s)
  else (s.shows p page off, s.on (fun b => b.readClear page off))

/-- The words of a read of `n` registers from `off`, in order, as one little-endian number. -/
def State.readWords (s : State) (p : Path) (page off : Nat) : Nat → Nat × State
  | 0 => (0, s)
  | n + 1 =>
    let (w, s) := s.readWord p page off
    let (v, s) := s.readWords p page (off + 4) n
    (w.toNat + 2 ^ 32 * v, s)

/-- A read on a path, answered with its bytes (R6, R7, R488, R491). -/
def State.readAccess (s : State) (p : Path) (offset size : Nat) : State :=
  let page := offset / 4096
  let off := offset % 4096
  if !implemented page then (s.unmapped p false offset size).say (.regRead p offset size 0)
  else if s.bd.powered page = false then s.say (.regRead p offset size 0)
  else if !sized off size then (s.rejects p page off .unsupported).say (.regRead p offset size (2 ^ (8 * size) - 1))
  else
    let (v, s) := s.readWords p page off (size / 4)
    s.say (.regRead p offset size v)

end Sys2Proof.Machine
end

