-- ==== Sys2Proof/Machine/Management.lean ====
section
/-! DEFINITION. The management path (chapter *Management path*, R389 to R403): the I3C target, in-band interrupts and ALERT_N, MCTP, PLDM, the Abager messages and the CXL FM API.
Where DSP0236, DSP0240, DSP0248, CXL 3.1 or I3C Basic lay bytes out, or a table gives only the order of fields, the layout is the model's (log entry 109). -/

namespace Sys2Proof.Machine

/-! ### The I3C target (R389) -/

/-- A command code that the part takes; a directed one needs a dynamic address. -/
def State.ccc (s : State) (directed : Bool) (f : State → State) : State :=
  if !s.bd.answers ∨ (directed ∧ s.bd.on pMGT F.MGT_STAT.ADDR_VALID = false) then s else f s

/-- The part's answer to a command code. -/
def State.cccSay (s : State) (code : Nat) (bytes : List Byte) : State := s.say (.i3c code bytes)

/-- The static address: 0x40 + SHELF_ID (Table 15-1). -/
def State.staticAddr (s : State) : Nat := 0x40 + s.seq.shelfId % 32

/-- The dynamic address is set. -/
def State.setAddr (s : State) (a : Nat) : State := s.on (fun b => (b.put pMGT F.MGT_STAT.DYN_ADDR a).put pMGT F.MGT_STAT.ADDR_VALID 1)

/-- ENEC and DISEC with ENINT set enable and disable target interrupts. -/
def State.enableIbi (s : State) (events : Nat) (on : Bool) : State :=
  s.ccc false (fun s => if nbit events 0 then s.on (fun b => b.put pMGT F.MGT_STAT.IBI_EN (bit on)) else s)

/-- The provisional ID, most significant byte first (Table 15-1). -/
def State.pid (s : State) : List Byte :=
  (leBytes 6 (s.bd.get pDEV F.DEV_VENDOR.VENDOR * 2 ^ 33 + s.bd.get pDEV F.DEV_PART.PART * 2 ^ 16 + s.bd.get pDEV F.DEV_STEP.STEPPING % 8 * 2 ^ 13
    + s.seq.shelfId % 32 * 2 ^ 8)).reverse

/-- BCR (Table 15-1). -/
def bcr : Nat := 0x27

/-- ENTDAA: a target without a dynamic address sends its provisional ID, BCR and DCR, and takes the address. -/
def State.entdaa (s : State) (a : Nat) : State :=
  s.ccc false (fun s => if s.bd.on pMGT F.MGT_STAT.ADDR_VALID then s else (s.cccSay 0x07 (s.pid ++ leBytes 1 bcr ++ leBytes 1 0)).setAddr a)

/-- SETDASA: the static address is offered while SDA_EN = 1. -/
def State.setdasa (s : State) (static a : Nat) : State :=
  s.ccc false (fun s =>
    if s.bd.on pMGT F.MGT_CFG.SDA_EN ∧ static = s.staticAddr ∧ s.bd.on pMGT F.MGT_STAT.ADDR_VALID = false then s.setAddr a else s)

/-- SETNEWDA. -/
def State.setnewda (s : State) (a : Nat) : State := s.ccc true (fun s => s.setAddr a)

/-- RSTDAA. -/
def State.rstdaa (s : State) : State :=
  s.ccc false (fun s => s.on (fun b => (b.put pMGT F.MGT_STAT.DYN_ADDR 0).put pMGT F.MGT_STAT.ADDR_VALID 0))

/-- SETMWL and SETMRL outside 69 to 1,024 leave the value unchanged (Table 15-1). -/
def lengthOk (n : Nat) : Bool := decide (69 ≤ n ∧ n ≤ 1024)

/-- SETMWL. -/
def State.setmwl (s : State) (n : Nat) : State := s.ccc false (fun s => if lengthOk n then { s with mgmt := { s.mgmt with mwl := n } } else s)

/-- SETMRL. -/
def State.setmrl (s : State) (n : Nat) : State := s.ccc false (fun s => if lengthOk n then { s with mgmt := { s.mgmt with mrl := n } } else s)

/-- A command code that reads a value of the target. -/
def State.cccGet (s : State) (code : Nat) (bytes : State → List Byte) : State := s.ccc true (fun s => s.cccSay code (bytes s))

/-- GETSTATUS: I3C Basic defines the word; the spec states no value of it (log entry 109). -/
def State.getStatus (s : State) : State := s.ccc true (fun s => (s.cccSay 0x90 (leBytes 2 s.bd.openVal)).on Board.useOpen)

/-- The I3C and MCTP state and the session keys of the management path are reset, and nothing else (RSTACT). -/
def State.resetBus (s : State) : State :=
  let s := (s.sec.sessions.filter (fun (x : Session) => x.doe.isNone)).foldl (fun s (x : Session) => s.endSession x.id) s
  let s := { s with mgmt := { s.mgmt with mwl := 256, mrl := 256, hdr := false, asm := none, ready := 0 } }
  s.on (fun b =>
    let b := (b.put pMGT F.MGT_STAT.DYN_ADDR 0).put pMGT F.MGT_STAT.ADDR_VALID 0
    let b := (b.put pMGT F.MGT_STAT.EID 0).put pMGT F.MGT_STAT.EID_VALID 0
    b.put pMGT F.MGT_STAT.IBI_EN 0)

/-- RSTACT: the peripheral reset (defining byte 1) alone is supported. -/
def State.rstact (s : State) (action : Nat) : State := s.ccc false (fun s => if action = 1 then s.resetBus else s)

/-- ENTHDR0: HDR-DDR until the transfer ends. -/
def State.enthdr0 (s : State) : State := s.ccc false (fun s => { s with mgmt := { s.mgmt with hdr := true } })

/-- The command codes of Table 15-1, broadcast and directed. -/
def cccCodes : List Nat :=
  [0x00, 0x01, 0x06, 0x07, 0x09, 0x0A, 0x20, 0x2A, 0x80, 0x81, 0x87, 0x88, 0x89, 0x8A, 0x8B, 0x8C, 0x8D, 0x8E, 0x8F, 0x90, 0x94, 0x9A]

/-- CCC_NACK: any other command code is answered with nothing. -/
def State.cccNack (s : State) (code : Nat) : State := if code ∈ cccCodes then s else s.ccc false (fun s => s.cccSay code [])

/-- A bus error TE0 to TE6, or with `pec` a packet that fails its PEC: counted, and raised as BUS_ERROR (R389, R393). -/
def State.busFault (s : State) (n : Nat) (pec : Bool) : State :=
  ({ s with mgmt := { s.mgmt with hdr := false } }).on (fun b =>
    let b := b.count pMGT F.MGT_BUS_ERR.COUNT 1
    b.raise pMGT (ev E.MGT.BUS_ERROR (n + bit pec * 8) (b.get pMGT F.MGT_BUS_ERR.COUNT) 0 0))

/-- BUS_ERROR (R389): the transfer in progress is discarded. -/
def State.busError (s : State) (n : Nat) : State := if s.bd.answers then s.busFault n false else s

/-! ### In-band interrupts (R390 to R392) -/

/-- A Resynchronise notice is queued for the queues that overflowed and have room again, and IBI_OVERFLOW is raised (R391). -/
def Board.followNotices (b : Board) : Board :=
  let now := bit (nbit b.resyncDue 0 && decide (b.stateQ.length < 1024)) + 2 * bit (nbit b.resyncDue 1 && decide (b.eventQ.length < 256))
  if now = 0 then b
  else
    let q := match b.resyncQ with | some (v, t) => (Nat.lor v now, t) | none => (now, b.now)
    { b with resyncDue := b.resyncDue - now, resyncQ := some q }.raise pMGT (ev E.MGT.IBI_OVERFLOW now (b.get pMGT F.MGT_IBI_DROP.COUNT) 0 0)

/-- The oldest notice that waits, and since when. -/
def Board.noticeSince (b : Board) : Option Nat :=
  (b.stateQ.head?.toList ++ b.eventQ.head?.toList).foldl (fun (m : Option Nat) (n : Notice) => some (match m with | some t => min t n.since | none => n.since)) none

/-- ALERT_N follows the notices that wait (R392). -/
def Board.followAlert (b : Board) : Board :=
  let old := match b.noticeSince with | some t => decide (t + 1000 ≤ b.now) | none => false
  let low := b.on pMGT F.MGT_CFG.ALERT_EN && (old || b.resyncQ.isSome)
  if low = b.on pMGT F.MGT_STAT.ALERT then b else (b.put pMGT F.MGT_STAT.ALERT (bit low)).emit (.pin "ALERT_N" (bit (!low)))

/-- ALERT_TIMEOUT (R392): the oldest notice has waited 1 ms. -/
def State.alertTimeout (s : State) : State :=
  match s.bd.noticeSince with
  | none => s
  | some t => s.on (fun b => { b with now := max b.now (t + 1000) }.followAlert)

/-- The interrupt that is next in line, as its bytes, and the board once it has been delivered: Resynchronise, an MCTP message that is ready, unit states, page
events. -/
def State.nextIbi (s : State) : Option (List Byte × State) :=
  match s.bd.resyncQ, s.bd.stateQ, s.bd.eventQ with
  | some (v, _), _, _ => some (leBytes 1 0xB3 ++ leBytes 1 v, s.on (fun b => { b with resyncQ := none }))
  | none, st, ev =>
    if s.mgmt.ready ≠ 0 then some (leBytes 1 0xAE, { s with mgmt := { s.mgmt with ready := s.mgmt.ready - 1 } })
    else match st, ev with
      | n :: rest, _ =>
        some (leBytes 1 0xB1 ++ leBytes 2 n.page ++ leBytes 1 (n.a + n.b * 16) ++ leBytes 2 n.epoch, s.on (fun b => { b with stateQ := rest }))
      | [], n :: rest => some (leBytes 1 0xB2 ++ leBytes 2 n.page ++ leBytes 1 n.a ++ leBytes 1 n.b, s.on (fun b => { b with eventQ := rest }))
      | [], [] => none

/-- IBI_SEND (R390, R391): at Bus Available the part requests an interrupt, which the controller takes or, with `ack` false, leaves queued. -/
def State.ibiSend (s : State) (ack : Bool) : State :=
  if !s.bd.answers ∨ s.bd.on pMGT F.MGT_STAT.ADDR_VALID = false ∨ s.bd.on pMGT F.MGT_STAT.IBI_EN = false ∨ !ack then s
  else match s.nextIbi with
    | none => s
    | some (bytes, t) => t.say (.ibi bytes)

/-! ### MCTP control (R394) -/

/-- A message leaves for an endpoint: it is ready to be read (R391). -/
def State.mctp (s : State) (type dest : Nat) (body : List Byte) : State :=
  { s.say (.mctp type dest body) with mgmt := { s.mgmt with ready := s.mgmt.ready + 1 } }

/-- A control command with instance number `inst` from `src` to `dest`: before Set Endpoint ID it must be addressed to the null EID. `f` gives the completion code, the data and
the state after it. -/
def State.control (s : State) (src dest inst cmd : Nat) (f : State → Nat × List Byte × State) : State :=
  if !s.bd.answers ∨ (dest ≠ 0 ∧ (s.bd.on pMGT F.MGT_STAT.EID_VALID = false ∨ dest ≠ s.bd.get pMGT F.MGT_STAT.EID)) then s
  else
    let (code, data, s) := f (s.on (fun b => b.received true))
    s.mctp 0x00 src (leBytes 1 (inst % 32) ++ leBytes 1 cmd ++ leBytes 1 code ++ data)

/-- SET_ENDPOINT_ID: operations 0 and 1 assign; reset and Set Discovered Flag are for other endpoints. -/
def State.setEid (s : State) (src dest inst op eid : Nat) : State :=
  s.control src dest inst 0x01 (fun s =>
    if 2 ≤ op ∨ eid = 0 ∨ eid = 0xFF then (0x02, [], s)
    else
      let s := s.on (fun b =>
        let b := (b.put pMGT F.MGT_STAT.EID eid).put pMGT F.MGT_STAT.EID_VALID 1
        b.raise pMGT (ev E.MGT.EID_ASSIGNED eid (b.get pMGT F.MGT_STAT.DYN_ADDR) 0 0))
      (0, leBytes 1 0 ++ leBytes 1 eid ++ leBytes 1 0, s))

/-- GET_ENDPOINT_ID. -/
def State.getEid (s : State) (src dest inst : Nat) : State :=
  s.control src dest inst 0x02 (fun s => (0, leBytes 1 (s.bd.get pMGT F.MGT_STAT.EID) ++ leBytes 1 0 ++ leBytes 1 0, s))

/-- GET_ENDPOINT_UUID (Table 16-1): not ready until the device identity key is there. -/
def State.getUuid (s : State) (src dest inst : Nat) : State :=
  s.control src dest inst 0x03 (fun s =>
    if s.bd.powered pSEC ∧ s.bd.on pSEC F.SEC_STAT.PUF_OK then (0, leBytes 16 uuidValue, s) else (0x04, [], s))

/-- The message types of Table 15-3. -/
def Board.messageTypes (b : Board) : List Nat := [0x00, 0x01, 0x05, 0x06] ++ (if b.manages then [0x07] else []) ++ [0x7F]

/-- GET_MCTP_VERSION_SUPPORT: 1.3 of the base specification (R393); the spec states no version for the other types. -/
def State.getMctpVersion (s : State) (src dest inst type : Nat) : State :=
  s.control src dest inst 0x04 (fun s =>
    if type = 0xFF ∨ type = 0 then (0, leBytes 1 1 ++ leBytes 4 0x00FFF3F1, s)
    else if type ∈ s.bd.messageTypes then (0, leBytes 1 1 ++ leBytes 4 s.bd.openVal, s.on Board.useOpen)
    else (0x80, [], s))

/-- GET_MESSAGE_TYPE_SUPPORT (Table 15-3). -/
def State.getTypes (s : State) (src dest inst : Nat) : State :=
  s.control src dest inst 0x05 (fun s => (0, leBytes 1 s.bd.messageTypes.length ++ s.bd.messageTypes.flatMap (leBytes 1), s))

/-- GET_VENDOR_DEFINED_MESSAGE_SUPPORT: the one set, with IANA enterprise number 0x0000_B5E1. -/
def State.getVendor (s : State) (src dest inst selector : Nat) : State :=
  s.control src dest inst 0x06 (fun s =>
    if selector ≠ 0 then (0x02, [], s)
    else (0, leBytes 1 0xFF ++ leBytes 1 1 ++ (leBytes 4 0xB5E1).reverse ++ leBytes 2 1, s))

/-- MCTP_CONTROL_UNSUPPORTED: every other control command is answered ERROR_UNSUPPORTED_CMD. -/
def State.controlOther (s : State) (src dest inst cmd : Nat) : State :=
  if 1 ≤ cmd ∧ cmd ≤ 6 then s else s.control src dest inst cmd (fun s => (0x05, [], s))

/-! ### PLDM (R396) -/

/-- A PLDM command of a type. -/
def State.pldm (s : State) (eid inst type cmd : Nat) (f : State → Nat × List Byte × State) : State :=
  if !s.bd.hears then s
  else
    let (code, data, s) := f (s.on (fun b => b.received true))
    s.mctp 0x01 eid (leBytes 1 (inst % 32) ++ leBytes 1 type ++ leBytes 1 cmd ++ leBytes 1 code ++ data)

/-- GET_TID: the spec states no terminus ID. -/
def State.getTid (s : State) (eid inst : Nat) : State := s.pldm eid inst 0 0x02 (fun s => (0, leBytes 1 s.bd.openVal, s.on Board.useOpen))

/-- GET_PLDM_VERSION of types 0 and 2, whose versions the spec does not state. -/
def State.getPldmVersion (s : State) (eid inst type : Nat) : State :=
  s.pldm eid inst 0 0x03 (fun s => if type = 0 ∨ type = 2 then (0, leBytes 4 s.bd.openVal, s.on Board.useOpen) else (0x83, [], s))

/-- GET_PLDM_TYPES: types 0 and 2. -/
def State.getPldmTypes (s : State) (eid inst : Nat) : State := s.pldm eid inst 0 0x04 (fun s => (0, leBytes 8 0x05, s))

/-- The commands of a PLDM type. -/
def pldmCommands : Nat → List Nat
  | 0 => [0x02, 0x03, 0x04, 0x05]
  | _ => [0x04, 0x05, 0x0A, 0x11, 0x21, 0x50, 0x51]

/-- GET_PLDM_COMMANDS. -/
def State.getPldmCommands (s : State) (eid inst type : Nat) : State :=
  s.pldm eid inst 0 0x05 (fun s =>
    if type = 0 ∨ type = 2 then (0, leBytes 32 ((pldmCommands type).foldl (fun v c => v + 2 ^ c) 0), s) else (0x83, [], s))

/-- The page whose domain a sensor needs (Table 15-4). -/
def sensorPage (id : Nat) : Nat :=
  if id = 1 then pTHM else if id ≤ 5 then pFCC (id - 2) else if id ≤ 21 then pMCH (id - 6) else if id ≤ 23 then pHLT else if id = 24 then pFCM
  else if id = 25 then pDEV else if id = 26 then pPDR else pRTM

/-- The reading of a sensor, in its unit and resolution; none while its domain is unpowered (Table 15-4). A temperature without a conversion in the last round reads as none too. -/
def State.sensor (s : State) (id : Nat) : Option Int :=
  let b := s.bd
  if b.powered (sensorPage id) = false then none
  else if id = 1 then some (toSigned 16 (b.get pTHM F.THM_JMAX.TEMP))
  else if id ≤ 21 then s.thm.temps.getD (id + 30) none
  else some (match id with
    | 22 => b.get pHLT F.HLT_STATUS.SPARE_PCT
    | 23 => b.get pHLT F.HLT_STATUS.LIFE_PCT
    | 24 => (s.shows .mgmt pFCM F.FCM_DIRTY.LINES.off).toNat
    | 25 => b.worstState
    | 26 => b.get pPDR F.PDR_LEDGER.STATE
    | _ => b.get pRTM F.RTM_STAT.TICK)

/-- The thresholds of a sensor: whether they are upper ones, and the values in rising severity (Table 15-4). -/
def Board.thresholds (b : Board) (id : Nat) : Bool × List Int :=
  let warn : Int := b.get pHLT F.HLT_WARN.TEMP_WARN * 8
  if id ≤ 5 then (true, [warn, 118 * 8, 130 * 8])
  else if id ≤ 21 then (true, [warn])
  else if id = 22 then (false, [b.get pHLT F.HLT_WARN.SPARE_WARN])
  else if id = 23 then (true, [b.get pHLT F.HLT_WARN.LIFE_WARN])
  else (true, [])

/-- The state that a sensor's events tell of: thresholds crossed, or the state itself; sensors 24 and 26 have no events. None while unavailable. -/
def State.sensorState (s : State) (id : Nat) : Option Nat :=
  (s.sensor id).map (fun v =>
    if id = 25 ∨ id = 27 then v.toNat
    else if id = 24 ∨ id = 26 then 0
    else
      let (upper, ts) := s.bd.thresholds id
      (ts.filter (fun t => if upper then decide (t ≤ v) else decide (v < t))).length)

/-- Is a sensor a numeric one? -/
def numericSensor (id : Nat) : Bool := decide (1 ≤ id ∧ id ≤ 24)

/-- GET_PDR_REPOSITORY_INFO: 27 records. -/
def State.getPdrInfo (s : State) (eid inst : Nat) : State := s.pldm eid inst 2 0x50 (fun s => (0, leBytes 1 0 ++ leBytes 4 27, s))

/-- GET_PDR: record `n` is that of sensor `n`; handle 0 asks for the first. -/
def State.getPdr (s : State) (eid inst n : Nat) : State :=
  s.pldm eid inst 2 0x51 (fun s =>
    let id := if n = 0 then 1 else n
    if 27 < id then (0x82, [], s)
    else
      let (upper, ts) := s.bd.thresholds id
      (0, leBytes 4 (if id = 27 then 0 else id + 1) ++ leBytes 2 id ++ leBytes 1 (bit (numericSensor id)) ++ leBytes 1 (bit upper) ++ leBytes 1 ts.length
        ++ ts.flatMap (fun t => leBytes 4 (ofSigned 32 t)), s))

/-- GET_SENSOR_READING: operational state 0 enabled or 4 unavailable, then the reading. -/
def State.getSensor (s : State) (eid inst id : Nat) : State :=
  s.pldm eid inst 2 0x11 (fun s =>
    if !numericSensor id then (0x80, [], s)
    else match s.sensor id with
      | none => (0, leBytes 1 4 ++ leBytes 4 0, s)
      | some v => (0, leBytes 1 0 ++ leBytes 4 (ofSigned 32 v), s))

/-- GET_STATE_SENSOR_READINGS. -/
def State.getStateSensor (s : State) (eid inst id : Nat) : State :=
  s.pldm eid inst 2 0x21 (fun s =>
    if id < 25 ∨ 27 < id then (0x80, [], s)
    else match s.sensor id with
      | none => (0, leBytes 1 1 ++ leBytes 1 4 ++ leBytes 1 0, s)
      | some v => (0, leBytes 1 1 ++ leBytes 1 0 ++ leBytes 1 v.toNat, s))

/-- SET_EVENT_RECEIVER: events are enabled for an endpoint, or disabled. -/
def State.setReceiver (s : State) (eid inst : Nat) (tgt : Option Nat) : State :=
  s.pldm eid inst 2 0x04 (fun s => (0, [], { s with mgmt := { s.mgmt with receiver := tgt } }))

/-- GET_EVENT_RECEIVER. -/
def State.getReceiver (s : State) (eid inst : Nat) : State :=
  s.pldm eid inst 2 0x05 (fun s => (0, leBytes 1 0 ++ leBytes 1 (s.mgmt.receiver.getD 0), s))

/-- A sensor whose state has changed sends one event to the receiver, if there is one. -/
def State.followSensor (s : State) (id : Nat) : State :=
  match s.sensorState id with
  | none => s
  | some v =>
    let old := smGet (fun _ => 0) s.mgmt.sensors id
    if v = old then s
    else
      let s := { s with mgmt := { s.mgmt with sensors := smSet (fun _ => 0) id v s.mgmt.sensors } }
      match s.mgmt.receiver with
      | none => s
      | some tgt => s.mctp 0x01 tgt (leBytes 1 2 ++ leBytes 1 0x0A ++ leBytes 2 id ++ leBytes 1 v ++ leBytes 1 old)

/-- Sensor events after a command. -/
def State.followSensors (s : State) : State :=
  if !s.bd.hears then s else (List.range 27).foldl (fun s k => s.followSensor (k + 1)) s

/-! ### Abager requests (R395, R397, R398) -/

/-- The session that a request came in, if it is open. -/
def State.sessionOf (s : State) (m : Abager) : Option Session := m.session.bind (fun k => s.sec.sessions.find? (fun x => decide (x.id = k.toNat)))

/-- A response (Table 15-5); MGT_LAST keeps code and result. -/
def State.respond (s : State) (code eid : Nat) (session : Bool) (c : Code) (body : List Byte) : State :=
  (s.on (fun b => (b.put pMGT F.MGT_LAST.CODE code).put pMGT F.MGT_LAST.RESULT c.num)).mctp 0x7F eid
    (leBytes 1 1 ++ leBytes 1 code ++ leBytes 1 (1 + 2 * bit session) ++ leBytes 1 c.num ++ leBytes 2 body.length ++ leBytes 2 0 ++ body)

/-- The checks of R395 and R397 before a code's own, for a request body of `want` bytes; `needs` marks a code S. None when all pass. -/
def State.abagerCheck (s : State) (m : Abager) (want : Nat) (needs : Bool) : Option Code :=
  if 4 ≤ s.mgmt.reqs.length then some .busy
  else if m.version ≠ 1 then some .unsupported
  else if m.len.toNat ≠ want ∨ m.body.length ≠ want then some .length
  else if needs ∧ s.bd.on pMGT F.MGT_CFG.SESSION_REQ ∧ m.session = none then some .denied
  else none

/-- A request refused by check 3 is counted and raised (R397). -/
def State.noteDenied (s : State) (code : Nat) (c : Code) : State :=
  if c ≠ .denied then s
  else s.on (fun b =>
    let b := b.count pMGT F.MGT_SESSION_DENY.COUNT 1
    b.raise pMGT (ev E.MGT.REQUEST_DENIED code (b.get pMGT F.MGT_SESSION_DENY.COUNT) 0 0))

/-- Is a message heard at all: addressed to this endpoint, and in no session or an open one? It is counted then. -/
def State.heard (s : State) (m : Abager) : Bool := s.bd.hears && (m.session.isNone || (s.sessionOf m).isSome)

/-- An Abager request: after the common checks `f` gives the result, the body that goes with OK, and the state; or none while the answer is still to come, with the state
in which it is. A failure has an empty body, but for `other`. -/
def State.request (s : State) (m : Abager) (code want : Nat) (needs : Bool) (other : State → List Byte) (f : State → Option (Code × List Byte) × State) : State :=
  if !s.heard m then s
  else
    let s := s.on (fun b => b.count pMGT F.MGT_RX_MSG.COUNT 1)
    match s.abagerCheck m want needs with
    | some c => let s := s.noteDenied code c; s.respond code m.eid.toNat m.session.isSome c (other s)
    | none =>
      match f s with
      | (none, s) => s
      | (some (.ok, body), s) => s.respond code m.eid.toNat m.session.isSome .ok body
      | (some (c, _), s) => s.respond code m.eid.toNat m.session.isSome c (other s)

/-- A request that is answered at once. -/
def State.simple (s : State) (m : Abager) (code want : Nat) (needs : Bool) (f : State → Code × List Byte × State) : State :=
  s.request m code want needs (fun _ => []) (fun s => let (c, body, s) := f s; (some (c, body), s))

/-- Bytes [off+n-1:off] of a body, as a little-endian number. -/
def bodyNum (m : Abager) (off n : Nat) : Nat := ofBytes ((m.body.drop off).take n)

/-- The version of the runtime image that runs. -/
def State.fwVersion (s : State) : Nat := if s.bd.on pSEC F.SEC_STAT.RT_VERIFIED then imageVersion (s.sec.image (s.bd.get pSEC F.SEC_STAT.RT_SLOT)) else 0

/-- GET_INFO. -/
def State.getInfo (s : State) (m : Abager) : State :=
  s.simple m 0x01 0 false (fun s =>
    (.ok, leBytes 2 (s.bd.get pDEV F.DEV_VENDOR.VENDOR) ++ leBytes 2 (s.bd.get pDEV F.DEV_PART.PART) ++ leBytes 8 serialValue ++ leBytes 1 (s.bd.get pDEV F.DEV_STEP.STEPPING)
      ++ leBytes 1 s.seq.shelfId ++ leBytes 1 (bit s.seq.role) ++ leBytes 4 s.fwVersion ++ leBytes 1 (s.bd.get pMGT F.MGT_STAT.EID) ++ List.replicate 12 0, s))

/-- A register of a powered page as the management path reads it, and 0 elsewhere. -/
def State.peek (s : State) (page off : Nat) : Nat := if s.bd.powered page then (s.shows .mgmt page off).toNat else 0

/-- GET_HEALTH. -/
def State.getHealth (s : State) (m : Abager) : State :=
  s.simple m 0x02 0 false (fun s =>
    let status := s.peek pHLT F.HLT_STATUS.SPARE_PCT.off
    (.ok, leBytes 4 s.bd.worstState ++ leBytes 4 (status % 128) ++ leBytes 4 (status / 128 % 128) ++ leBytes 4 (s.peek pHLT F.HLT_GRANTABLE.EXTENTS.off)
      ++ leBytes 4 (s.peek pHLT F.HLT_TEMP_PEAK.DIE.off) ++ leBytes 4 (s.peek pPDR F.PDR_LEDGER.STATE.off) ++ leBytes 4 (s.peek pSEQ0 F.SEQ_STAT.STATE.off)
      ++ leBytes 4 (s.peek pRTM F.RTM_STAT.TICK.off) ++ List.replicate 32 0, s))

/-- GET_OP_STATUS. -/
def State.getOpStatus (s : State) (m : Abager) : State :=
  s.simple m 0x03 0 false (fun s =>
    let run := (s.mgmt.running.map Prod.fst).getD 0
    let pct := if run ≠ 0 then s.bd.get pSEC F.SEC_ACT.PCT else if s.mgmt.lastOp.1 = 0 then 0 else 100
    (.ok, leBytes 1 run ++ leBytes 1 s.mgmt.lastOp.2 ++ leBytes 2 pct ++ leBytes 4 0, s))

/-! ### Registers (R399) -/

/-- The checks of REG_READ and REG_WRITE: count, range and alignment, then the pages touched. -/
def State.rangeCheck (s : State) (write : Bool) (off count : Nat) : Code × State :=
  let pages := (List.range (count / 1024 + 2)).filterMap (fun k => if (off / 4096 + k) * 4096 < off + 4 * count then some (off / 4096 + k) else none)
  if count = 0 then (.empty, s)
  else if 1024 < count ∨ 0x200000 < off + 4 * count then (.length, s)
  else if off % 4 ≠ 0 then (.unsupported, s)
  else if pages.any (fun p => !implemented p) then
    (.denied, s.unmapped .mgmt write (max off ((pages.find? (fun p => !implemented p)).getD 0 * 4096)) 4)
  else if pages.any (fun p => s.bd.powered p = false) then (.busy, s)
  else (.ok, s)

/-- Reads `n` words from an offset, in ascending order. -/
def State.readRange (s : State) (off : Nat) : Nat → List Byte × State
  | 0 => ([], s)
  | n + 1 =>
    let (w, s) := s.readWord .mgmt (off / 4096) (off % 4096)
    let (rest, s) := s.readRange (off + 4) n
    (leBytes 4 w.toNat ++ rest, s)

/-- REG_READ. -/
def State.regRead (s : State) (m : Abager) : State :=
  s.simple m 0x10 8 false (fun s =>
    match s.rangeCheck false (bodyNum m 0 4) (bodyNum m 4 2) with
    | (.ok, s) => let (bytes, s) := s.readRange (bodyNum m 0 4) (bodyNum m 4 2); (.ok, bytes, s)
    | (c, s) => (c, [], s))

/-- REG_WRITE: as many words as the body has room for. -/
def State.regWrite (s : State) (m : Abager) : State :=
  let n := bodyNum m 4 2
  s.simple m 0x11 (8 + 4 * n) true (fun s =>
    match s.rangeCheck true (bodyNum m 0 4) n with
    | (.ok, s) =>
      let auth := (s.sessionOf m).any (fun (x : Session) => x.auth)
      let s := (List.range n).foldl (fun (s : State) k =>
        let a := bodyNum m 0 4 + 4 * k
        s.writeWord .mgmt auth (a / 4096) (a % 4096) (BitVec.ofNat 32 (bodyNum m (8 + 4 * k) 4))) s
      (.ok, leBytes 4 n, s)
    | (c, s) => (c, [], s))

/-! ### UNIT_CMD and UNIT_STATE_LIST (R402, R403) -/

/-- The 8 bytes that every UNIT_CMD response carries: page, state, CAUSE_OPEN and epoch as they are now (R402). -/
def Board.unitBytes (b : Board) (page : Nat) : List Byte :=
  leBytes 2 page ++ leBytes 1 (b.unit page) ++ leBytes 1 (b.get page F.UNIT_STATE.CAUSE_OPEN) ++ leBytes 2 (b.get page F.UNIT_STATE.EPOCH) ++ leBytes 2 0

/-- UNIT_CMD as a message: the same request as a write of the register (R402), but that it answers for itself. An unpowered page is OFF and answers BUSY (R381); a page that
is not implemented has no state to move to. -/
def State.unitMessage (s : State) (m : Abager) : State :=
  let page := bodyNum m 0 2
  s.request m 0x12 8 true (fun s => s.bd.unitBytes page) (fun s =>
    if 511 < page then (some (.length, []), s)
    else if !implemented page then (some (.denied, []), s.unmapped .mgmt true (page * 4096 + 0xC) 4)
    else if s.bd.powered page = false ∨ page ∈ s.bd.resetting then (some (.busy, []), s)
    else
      let s := s.on (fun b => b.unitCmd page (bodyNum m 2 1 % 16) (bodyNum m 4 2))
      let r := s.bd.get page F.UNIT_CMD.RESULT
      let c := ([Code.staleEpoch, .busy, .unsupported, .denied, .conflict, .causeOpen].find? (fun c => decide (c.num = r))).getD .ok
      (some (c, s.bd.unitBytes page), s))

/-- UNIT_CMD in either form (R22, R402). -/
def State.unitRequest (s : State) : UnitRequest → State
  | .write p page target epoch => s.writeAccess p false (page.val * 4096 + 0xC) 4 (target.val + epoch.toNat * 2 ^ 16)
  | .message m => s.unitMessage m

/-- UNIT_STATE_LIST. -/
def State.unitList (s : State) (m : Abager) : State :=
  s.simple m 0x13 0 false (fun s =>
    (.ok, (List.range 512).flatMap (fun p => leBytes 4 (if implemented p then (s.bd.rd p 0x008).toNat else 0)), s))

/-! ### The pool (R400) -/

/-- The requests of a MEM_READ or MEM_WRITE are issued, line by line (R58, R265). -/
def State.memIssue (s : State) (m : Abager) (write : Bool) : State :=
  let addr := bodyNum m 0 8
  let n := bodyNum m 14 2 / 64
  let part := addr / 2 ^ 44 % 32
  let (left, s) := (List.range n).foldl (fun (x : List (Nat × Nat × Nat) × State) i =>
    let s := x.2
    let data := BitVec.ofNat 512 (bodyNum m (20 + 64 * i) 64)
    let r : Req := ⟨s.home.nextId, if write then .write else .read, oidOf s.bd.selfId 3 0, 0, 0, false, addr % 2 ^ 44 / 64 + i, bodyNum m 8 2 % 4096, bodyNum m 10 3 % 2 ^ 21,
      bodyNum m 13 1 % 2, 0, false, 0, 0, if write then data else 0, allBytes, false⟩
    (x.1 ++ [(i, r.id, 1)], s.bump.issue r part)) ([], s)
  let q : MemReq := ⟨if write then 0x21 else 0x20, m.eid.toNat, m.session.isSome, left, [], n, false, 0⟩
  { s with mgmt := { s.mgmt with reqs := s.mgmt.reqs ++ [q] } }

/-- MEM_READ and MEM_WRITE. -/
def State.memAccess (s : State) (m : Abager) (write : Bool) : State :=
  let n := bodyNum m 14 2
  let part := bodyNum m 0 8 / 2 ^ 44 % 32
  s.request m (if write then 0x21 else 0x20) (if write then 20 + n else 20) true (fun _ => []) (fun s =>
    if n = 0 then (some (.empty, []), s)
    else if 4096 < n ∨ n % 64 ≠ 0 then (some (.length, []), s)
    else if !s.bd.reaches part then (some (.conflict, []), s)
    else (none, s.memIssue m write))

/-- An answer of a home to a request of the management path: a read's line with its poison, a line written, a line lost, or a decode failure at the owner. -/
def MemReq.take (q : MemReq) (a : Answer) : MemReq :=
  match q.left.find? (fun l => decide (l.2.1 = a.id)) with
  | none => q
  | some (i, _, _) =>
    let q := { q with left := q.left.filter (fun l => decide (l.2.1 ≠ a.id)) }
    if a.status = 2 then { q with failed := true }
    else if q.code = 0x20 then
      if a.status = 4 then { q with failed := true } else { q with got := q.got ++ [(i, decide (a.status = 1), a.data)] }
    else if a.status = 4 ∨ a.status = 5 then { q with lost := q.lost + 1 } else q

/-- What a finished request is answered with. -/
def MemReq.answer (q : MemReq) : Code × List Byte :=
  if q.failed then (.conflict, [])
  else if q.code = 0x21 then (.ok, leBytes 4 (q.total - q.lost))
  else
    let at_ := fun (i : Nat) => (q.got.find? (fun g => decide (g.1 = i))).getD (i, false, 0)
    (.ok, leBytes 8 ((List.range q.total).foldl (fun v i => v + bit (at_ i).2.1 * 2 ^ i) 0) ++ (List.range q.total).flatMap (fun i => leBytes 64 (at_ i).2.2.toNat))

/-- A write of the management path that was lost on its way: its loss record (R268, R270, R400). -/
def State.memLost (s : State) (a : Answer) : State :=
  match s.traffic.flight.find? (fun f => decide (f.1.oid = a.oid) && decide (f.1.id = a.id)) with
  | none => s
  | some (r, owner, _) =>
    if a.status ≠ 4 ∨ r.ask ≠ .write then s
    else
      let l : Loss := ⟨r.lln * 64, 1, 0, r.key, owner, 0, r.oid, 0, false, r.lln⟩
      s.reportLoss owner (l.words ++ [l.lln])

/-- A pending request has come to its end: the pool has answered for every line, or KEY has finished its command. -/
def State.reqDone (s : State) (q : MemReq) : Option (Code × List Byte) :=
  if q.code = 0x20 ∨ q.code = 0x21 then (if q.left = [] then some q.answer else none)
  else if s.bd.on pKEY F.KEY_STAT.BUSY then none
  else
    let r := s.bd.get pKEY F.KEY_STAT.RESULT
    some (([Code.busy, .denied, .conflict, .integrity, .unsupported, .exhausted].find? (fun c => decide (c.num = r))).getD .ok, [])

/-- Answers for the management path are taken, and requests that are finished are answered in order of arrival. -/
def State.followRequests (s : State) : State :=
  let mine := s.home.answers.filter (fun a => decide (oidClass a.oid = 3))
  let s := { s with home := { s.home with answers := s.home.answers.filter (fun a => decide (oidClass a.oid ≠ 3)) } }
  let s := mine.foldl (fun (s : State) a =>
    let s := (s.memLost a).answered a.oid a.id
    { s with mgmt := { s.mgmt with reqs := s.mgmt.reqs.map (fun q => q.take a) } }) s
  let done := s.mgmt.reqs.filterMap (fun q => (s.reqDone q).map (fun x => (q, x)))
  let s := { s with mgmt := { s.mgmt with reqs := s.mgmt.reqs.filter (fun q => (s.reqDone q).isNone) } }
  done.foldl (fun (s : State) (d : MemReq × Code × List Byte) => s.respond d.1.code d.1.eid d.1.session d.2.1 d.2.2) s

/-! ### Time, keys, provisioning and firmware -/

/-- TIME_SET (R336). -/
def State.timeSet (s : State) (m : Abager) : State := s.simple m 0x30 8 true (fun s => let (c, s) := s.deliver (bodyNum m 0 8) false; (c, [], s))

/-- TIME_GET. -/
def State.timeGet (s : State) (m : Abager) : State :=
  s.simple m 0x31 0 false (fun s => (.ok, leBytes 8 s.bd.rackTime ++ leBytes 4 (s.peek pRTM F.RTM_STAT.TICK.off) ++ leBytes 4 0, s))

/-- Does a request reach the key vault (R381)? -/
def Board.keyShut (b : Board) : Bool := b.powered pKEY = false || decide (pKEY ∈ b.resetting)

/-- KEY_EK_GET (R280): the encapsulation key, then KEY_NONCE. -/
def State.keyEkGet (s : State) (m : Abager) : State :=
  s.simple m 0x40 0 false (fun s =>
    if s.bd.keyShut then (.busy, [], s)
    else
      (.ok, (List.range 392).flatMap (fun k => leBytes 4 (Config.ekWord s.keys.ekDraw k).toNat)
        ++ leBytes 8 (s.bd.get64 pKEY F.KEY_NONCE_LO.NONCE F.KEY_NONCE_HI.NONCE), s))

/-- A command of the key vault that a message gives; it is answered when KEY_STAT.BUSY has cleared. -/
def State.keyMessage (s : State) (m : Abager) (code want op : Nat) (f : State → State) : State :=
  let k := bodyNum m 0 2
  s.request m code want true (fun _ => []) (fun s =>
    if 4095 < k then (some (.length, []), s)
    else if s.bd.keyShut ∨ s.bd.on pKEY F.KEY_STAT.BUSY then (some (.busy, []), s)
    else
      let s := f (s.on (fun b => ((b.put pKEY F.KEY_CMD.OP op).put pKEY F.KEY_CMD.SLOT k).put pKEY F.KEY_STAT.BUSY 1))
      let q : MemReq := ⟨code, m.eid.toNat, m.session.isSome, [], [], 0, false, 0⟩
      (none, { s with mgmt := { s.mgmt with reqs := s.mgmt.reqs ++ [q] } }))

/-- KEY_IMPORT (R281): `seed` is what the blob unwraps to. -/
def State.keyImport (s : State) (m : Abager) (seed : Option Nat) : State := s.keyMessage m 0x41 1632 1 (fun s => s.importSeed (bodyNum m 0 2) seed)

/-- KEY_CLEAR (R282). -/
def State.keyClear (s : State) (m : Abager) : State := s.keyMessage m 0x42 4 2 (fun s => s.clearSlot (bodyNum m 0 2))

/-- PROVISION (R388): a body that does not begin with 0x5052_4F56 is UNSUPPORTED. -/
def State.provisionMessage (s : State) (m : Abager) : State :=
  s.simple m 0x50 8 true (fun s =>
    if s.bd.powered pCKP = false then (.busy, [], s)
    else if bodyNum m 0 4 ≠ 0x50524F56 then (.unsupported, [], s)
    else let (c, s) := s.provision (bodyNum m 4 1); (c, [], s))

/-- FW_TRANSFER (R412): chunks of 64 to 4,096 B. -/
def State.fwChunk (s : State) (m : Abager) : State :=
  let n := bodyNum m 4 2
  s.simple m 0x60 (8 + n) true (fun s =>
    if s.bd.powered pSEC = false then (.busy, [], s)
    else if n < 64 ∨ 4096 < n then (.length, [], s)
    else let (c, s) := s.fwTransfer (bodyNum m 0 4) (m.body.drop 8); (c, [], s))

/-- FW_ACTIVATE (R412). -/
def State.fwStart (s : State) (m : Abager) : State :=
  s.simple m 0x61 4 true (fun s =>
    if s.bd.powered pSEC = false then (.busy, [], s) else let (c, s) := s.fwActivate (bodyNum m 0 1); (c, [], s))

/-! ### MCTP packets (R393) -/

/-- An Abager request by its code. What the world decides of an import is open (log entry 108); an unlisted code is UNSUPPORTED (R397). -/
def State.abager (s : State) (code : Nat) (m : Abager) : State :=
  match code with
  | 0x01 => s.getInfo m
  | 0x02 => s.getHealth m
  | 0x03 => s.getOpStatus m
  | 0x10 => s.regRead m
  | 0x11 => s.regWrite m
  | 0x12 => s.unitMessage m
  | 0x13 => s.unitList m
  | 0x20 => s.memAccess m false
  | 0x21 => s.memAccess m true
  | 0x30 => s.timeSet m
  | 0x31 => s.timeGet m
  | 0x40 => s.keyEkGet m
  | 0x41 =>
    let (ok, s) := s.openBit
    let seed := s.bd.openVal
    (s.on Board.useOpen).keyImport m (if ok then some seed else none)
  | 0x42 => s.keyClear m
  | 0x50 => s.provisionMessage m
  | 0x60 => s.fwChunk m
  | 0x61 => s.fwStart m
  | _ => s.request m code m.body.length false (fun _ => []) (fun s => (some (.unsupported, []), s))

/-- A whole control or PLDM message, after its type byte. -/
def State.standardMessage (s : State) (type src dest : Nat) (body : List Byte) : State :=
  let x := fun (k : Nat) => (body.getD k 0).toNat
  if type = 0 then
    match x 1 with
    | 1 => s.setEid src dest (x 0) (x 2 % 4) (x 3)
    | 2 => s.getEid src dest (x 0)
    | 3 => s.getUuid src dest (x 0)
    | 4 => s.getMctpVersion src dest (x 0) (x 2)
    | 5 => s.getTypes src dest (x 0)
    | 6 => s.getVendor src dest (x 0) (x 2)
    | c => s.controlOther src dest (x 0) c
  else
    match x 1 % 64, x 2 with
    | 0, 0x02 => s.getTid src (x 0)
    | 0, 0x03 => s.getPldmVersion src (x 0) (x 8)
    | 0, 0x04 => s.getPldmTypes src (x 0)
    | 0, 0x05 => s.getPldmCommands src (x 0) (x 3)
    | 2, 0x04 => s.setReceiver src (x 0) (if x 3 = 0 then none else some (x 5))
    | 2, 0x05 => s.getReceiver src (x 0)
    | 2, 0x11 => s.getSensor src (x 0) (x 3 + x 4 * 256)
    | 2, 0x21 => s.getStateSensor src (x 0) (x 3 + x 4 * 256)
    | 2, 0x50 => s.getPdrInfo src (x 0)
    | 2, 0x51 => s.getPdr src (x 0) (ofBytes ((body.drop 3).take 4))
    | t, c => s.pldm src (x 0) t c (fun s => (0x05, [], s))

/-- A whole message runs: control, PLDM and Abager messages, the last two inside a session as well. SPDM and FM API messages come as commands of their own, with what the world
adds to them (log entry 110). -/
def State.wholeMessage (s : State) (src dest : Nat) (session : Option (BitVec 16)) (bytes : List Byte) : State :=
  match bytes with
  | [] => s
  | t :: body =>
    if t.toNat % 128 = 0 ∨ t.toNat % 128 = 1 then s.standardMessage (t.toNat % 128) src dest body
    else if t.toNat % 128 = 0x7F ∧ ofBytes (body.take 4).reverse = 0xB5E1 ∧ 12 ≤ body.length then
      let h := body.drop 4
      s.abager (h.getD 1 0).toNat ⟨h.getD 0 0, BitVec.ofNat 16 (ofBytes ((h.drop 4).take 2)), session, BitVec.ofNat 8 src, h.drop 8⟩
    else s

/-- MCTP_PACKET (R393, R394): a packet with a wrong PEC is discarded; others are put together, and a message of up to 4,200 B is taken when its last packet has come. A packet
out of sequence ends its message. -/
def State.mctpPacket (s : State) (p : McPacket) : State :=
  let s := { s with mgmt := { s.mgmt with hdr := false } }
  if !s.bd.answers then s
  else if !p.pec then s.busFault 0 true
  else if p.dest ≠ 0 ∧ !(s.bd.hears && decide (p.dest.toNat = s.bd.get pMGT F.MGT_STAT.EID)) then s
  else
    let old : Option Assembly :=
      if p.som then some ⟨p.src.toNat, p.tag.val, p.seq.val, [], false⟩
      else s.mgmt.asm.bind (fun (a : Assembly) => if a.src = p.src.toNat ∧ a.tag = p.tag.val ∧ a.seq = p.seq.val then some a else none)
    match old with
    | none => { s with mgmt := { s.mgmt with asm := none } }
    | some a =>
      let long := a.ovr || decide (4200 < a.bytes.length + p.payload.length)
      let b : Assembly := { a with seq := (p.seq.val + 1) % 4, bytes := if long then [] else a.bytes ++ p.payload, ovr := long }
      if !p.eom then { s with mgmt := { s.mgmt with asm := some b } }
      else
        let s := { s with mgmt := { s.mgmt with asm := none } }
        if long then s.on (fun b => b.count pMGT F.MGT_REJECT.COUNT 1)
        else match b.bytes, p.opened with
          | t :: _, some (k, inner) =>
            if t.toNat % 128 = 6 ∧ s.sec.sessions.any (fun (x : Session) => decide (x.id = k.toNat)) then s.wholeMessage p.src.toNat p.dest.toNat (some k) inner
            else s
          | bytes, none => s.wholeMessage p.src.toNat p.dest.toNat none bytes
          | [], _ => s

/-! ### The CXL FM API (R401, R54) -/

/-- An FM API response: the opcode, a return code and a payload. -/
def State.fmReply (s : State) (eid opcode code : Nat) (payload : List Byte) : State := s.mctp 0x07 eid (leBytes 2 opcode ++ leBytes 2 code ++ payload)

/-- An FM API command: Unsupported on a part without manager duties. -/
def State.fmCommand (s : State) (eid opcode : Nat) (f : State → State) : State :=
  if !s.bd.hears then s
  else
    let s := s.on (fun b => b.received true)
    if !s.bd.manages then s.fmReply eid opcode rcUnsupported [] else f s

/-- GET_DCD_INFO: the hosts of the shelf, eight heads a part, with eight regions each (Table 02-2). -/
def State.fmInfo (s : State) (eid : Nat) : State :=
  s.fmCommand eid 0x5600 (fun s => s.fmReply eid 0x5600 rcSuccess (leBytes 2 (8 * s.bd.shelfSize) ++ leBytes 1 8 ++ leBytes 8 (2 ^ 49 / 2 ^ 28) ++ leBytes 8 (2 ^ 28)))

/-- GET_HOST_DC_REGION_CONFIGURATION: host 8 × part + head. -/
def State.fmRegions (s : State) (eid host : Nat) : State :=
  s.fmCommand eid 0x5601 (fun s =>
    if 8 * s.bd.shelfSize ≤ host then s.fmReply eid 0x5601 rcInvalidInput []
    else s.fmReply eid 0x5601 rcSuccess (leBytes 2 host ++ leBytes 1 8 ++ (List.range 8).flatMap (fun r => leBytes 8 ((r + 1) * 2 ^ 49) ++ leBytes 8 (2 ^ 49))))

/-- The head of a grant. -/
def Grant.head (g : Grant) : Nat := g.words.getD 0 0 / 4 % 8

/-- GET_DC_REGION_EXTENT_LISTS of a host: its grants in the shelf map. -/
def State.fmExtents (s : State) (eid host : Nat) : State :=
  s.fmCommand eid 0x5603 (fun s =>
    if 8 * s.bd.shelfSize ≤ host then s.fmReply eid 0x5603 rcInvalidInput []
    else
      let gs := s.shelf.grants.filter (fun g => decide (g.part * 8 + g.head = host))
      s.fmReply eid 0x5603 rcSuccess (leBytes 2 host ++ leBytes 4 gs.length
        ++ gs.flatMap (fun g => extentBytes (g.words.getD 0 0 / 32 % 8) (g.words.getD 0 0 / 256) (g.words.getD 3 0) g.sxn)))

/-- May the manager grant `n` more local extents on a part: its report is fresh and its grantable count holds them (R328)? -/
def State.grantable (s : State) (part n : Nat) : Bool :=
  match smFind part s.shelf.health with
  | none => false
  | some h => decide (s.bd.now < h.since + 3000000) && decide (h.words.getD 4 0 + n ≤ h.words.getD 3 0)

/-- The grant that a placement makes under the next shelf extent number. -/
def placementGrant (p : Placement) (sxn : Nat) : Grant :=
  let e : Hxt := ⟨1, p.head.val, p.region.val, p.unit.toNat, p.members.length - 1, p.mirror, p.perm.val, false, p.xmb.val, sxn, p.length.toNat⟩
  let owners := p.members.map (fun (m : Fin 32 × Fin 49152 × Fin 49152) => (m.1.val, m.2.1.val, 0))
    ++ (if p.mirror then p.members.map (fun (m : Fin 32 × Fin 49152 × Fin 49152) => (Nat.xor m.1.val 1, m.2.2.val, 1)) else [])
  ⟨sxn, p.part.val, p.hxt.val, e.words, owners, p.key.val, p.hint.val, 1⟩

/-- INITIATE_DYNAMIC_CAPACITY_ADD (R54): local extents ACTIVE on every member and partner, then the XMB entries, then the HXT entry OFFERED. -/
def State.fmAdd (s : State) (eid : Nat) (p : Placement) : State :=
  s.fmCommand eid 0x5604 (fun s =>
    let sxn := s.shelf.nextSxn
    let g := placementGrant p sxn
    let xmb := p.members.zipIdx.map (fun (m : (Fin 32 × Fin 49152 × Fin 49152) × Nat) => (p.part.val, 1, p.xmb.val + m.2, Xmb.words ⟨m.1.1.val, m.1.2.1.val, m.1.2.2.val⟩))
    if p.members = [] ∨ 16 < p.members.length ∨ g.span = 0 ∨ 2 ^ 21 ≤ sxn then s.fmReply eid 0x5604 rcInvalidInput []
    else if g.owners.any (fun o => !s.grantable o.1 g.span) then s.fmReply eid 0x5604 rcBusy []
    else
      let s := (s.change (.nextSxn (sxn + 1))).change (.grant sxn g.part g.hxt g.words g.key g.hint 1)
      let s := g.owners.foldl (fun (s : State) (o : Nat × Nat × Nat) => s.change (.owner sxn o.1 o.2.1 o.2.2)) s
      let op : FmOp := ⟨eid, 0x5604, sxn, false, g.lxtWrites 1 ++ xmb ++ [g.hxtWrite 1], false⟩
      { s with mgmt := { s.mgmt with fm := s.mgmt.fm ++ [op] } })

/-- INITIATE_DYNAMIC_CAPACITY_RELEASE (R54), in the reverse order: the HXT entry, the XMB entries, the local extents. Unless it is forced, an ACTIVE extent of this part's heads is
asked for with a Release Capacity event and released by its host (R79). -/
def State.fmRelease (s : State) (eid sxn : Nat) (forced : Bool) : State :=
  s.fmCommand eid 0x5605 (fun s =>
    match s.shelf.grants.find? (fun g => decide (g.sxn = sxn)) with
    | none => s.fmReply eid 0x5605 rcInvalidInput []
    | some g =>
      let first := if forced then [g.hxtWrite 3, g.hxtWrite 0] else [g.hxtWrite 0]
      let base := g.words.getD 1 0 / 256
      let xmb := (List.range (g.words.getD 1 0 % 16 + 1)).map (fun k => (g.part, 1, base + k, [0, 0, 0, 0]))
      let op : FmOp := ⟨eid, 0x5605, sxn, true, first ++ xmb ++ g.lxtWrites 2, false⟩
      let e := s.hxt g.hxt
      let s := if !forced ∧ g.part = s.bd.selfId ∧ e.st = 2 ∧ e.sxn = sxn then s.dcRecord 1 g.hxt e else s
      { s with mgmt := { s.mgmt with fm := s.mgmt.fm ++ [op] } })

/-- What becomes of a command when a table write gives a result: it goes on, waits to write again, or fails. A release waits while an entry is still in use, and a forced release
of an extent that was only offered goes on to withdraw it. -/
def FmOp.next (op : FmOp) (c : Nat) : Option FmOp :=
  match op.todo with
  | [] => some op
  | (_, t, _, ws) :: rest =>
    if c = 0 then some { op with todo := rest, sent := false }
    else if op.release ∧ c = Code.conflict.num then
      if t = 0 ∧ ws.getD 0 0 % 4 = 3 then some { op with todo := rest, sent := false } else some { op with sent := false }
    else none

/-- The first FM API command goes on as far as it can; `n` bounds the writes. Changes of the manager's state take effect before a table is written (R319). -/
def State.fmStep (s : State) (op : FmOp) : Nat → Option FmOp × State
  | 0 => (some op, s)
  | n + 1 =>
    match op.todo with
    | [] =>
      let s := s.fmReply op.eid op.opcode rcSuccess []
      (none, if op.release then s.change (.grant op.sxn 0 0 [] 0 0 0) else s)
    | (part, t, i, ws) :: _ =>
      let w := fun k => ws.getD k 0
      let go := fun (s : State) (c : Nat) =>
        match op.next c with
        | none => (none, s.fmReply op.eid op.opcode 4 [])
        | some op' => if op'.todo = op.todo then (some op', s) else s.fmStep op' n
      if s.shelf.syncs ≠ [] then (some op, s)
      else if part = s.bd.selfId then let (c, s) := s.tableWrite t i (w 0) (w 1) (w 2) (w 3); go s c.num
      else if op.sent then
        match s.shelf.tables.find? (fun r => decide (r.1 = part)) with
        | some r => if r.2 = 0x100 then (some op, s) else go { s with shelf := { s.shelf with tables := s.shelf.tables.erase r } } r.2
        | none => go s 0
      else if !s.bd.reaches part then go s Code.denied.num
      else
        let s := s.send 0x38 part ([s.bd.get pSHM F.SHM_MGR.TERM, t, i] ++ ws) none
        (some { op with sent := true }, { s with shelf := { s.shelf with tables := s.shelf.tables ++ [(part, 0x100)] } })

/-- FM API commands go on after a command, the oldest alone (log entry 111). -/
def State.followFm (s : State) : State :=
  match s.mgmt.fm with
  | [] => s
  | op :: rest =>
    if !s.bd.manages then { s with mgmt := { s.mgmt with fm := [] } }
    else
      let (left, s) := s.fmStep op 65536
      { s with mgmt := { s.mgmt with fm := left.toList ++ rest } }

end Sys2Proof.Machine
end

