-- ==== Sys2Proof/Machine/Settle.lean ====
section
/-! DEFINITION. What follows a command at once: the work that its effect makes due, done within the same step, and the two ways in which a meaning ends
(log entry 112). -/

namespace Sys2Proof.Machine

/-- CAUSE_OPEN of every powered unit that is not OFF follows its causes (R16, R24). -/
def Board.closing (b : Board) : Board := (allPages.filter (fun p => b.powered p && decide (b.unit p ≠ stOFF))).foldl Board.followCauses b

/-- The state with the causes settled. -/
def State.closing (s : State) : State := s.on Board.closing

/-- Frames with a dirty line that no patch holds and whose hold time has passed are folded (R190). -/
def State.denseDue (s : State) : State :=
  let due := s.cache.frames.filter (fun (e : Nat × Frame) =>
    e.2.lines.any (fun l => l.2.dirty && !l.2.patched && decide (l.2.since + s.bd.holdTime ≤ s.bd.now)))
  due.foldl (fun (s : State) (e : Nat × Frame) => s.wantFold e.2.page 1) s

/-- The write path: folds start and commit, patches are packed, poison that waited for a slot is placed, bands, META segments and checkpoint objects complete
(R188 to R216), keys and sweeps go on (R276, R282, R297 to R302). -/
def State.settleWrites (s : State) : State :=
  let s := ((s.denseDue).startFolds).commitDue
  let s := s.wp.poisonWait.foldl (fun (s : State) p => s.placePoison p.1 p.2.1 p.2.2) s
  let s := s.packPatches (s.wp.patches.length / 56 + 1)
  let s := ((s.closeReady).metaReady).objectDone
  let s := ((s.clearReady).sweepReady).recopyFailed
  ((s.followLimit).followJournal).followFree

/-- The home and the requests: held writes and mirrored orders are applied, waiting requests leave, what is answered is done with, fences hear of their writes (R105, R257, R258,
R262, R322 to R325). -/
def State.settleRequests (s : State) : State :=
  let s := s.releaseHolds (s.home.holds.length + 1)
  let s := (s.ackApplied).applyOrders (s.home.mirror.orders.length + 1)
  let s := (s.followFences).followFlight
  let s := s.releaseWaits s.traffic.waits.length
  ((s.followRecent).followFailover).sendOwed

/-- A die is declared failed once 16 of its pages have needed reconstruction within 1 ms (R158). -/
def State.weakDie (s : State) (c d : Nat) : State := if 16 ≤ s.weakPages c d then s.dieFailed c d 2 else s

/-- Everything that a command makes due at once. A fatal stop that one of its checks found is taken (R475). -/
def State.settle (s : State) : State :=
  let s := if s.bd.domainOn 1 then
      let s := s.media.weak.foldl (fun s w => s.weakDie (w.1 / 8) (w.1 % 8)) s
      let s := (s.settleWrites).settleRequests
      let s := (s.on Board.followShm).followHealth
      (s.settleDeferred).followCopy
    else s
  let s := s.followShutdown
  let s := (s.resetTamper).followSessions
  let s := (((s.followRequests).followFm).followSensors).on Board.followNotices
  let s := s.on (fun b => b.followAlert.followCounters)
  let s := match s.bd.fatal with
    | some (_, _, cls) => (s.on (fun b => { b with fatal := none })).fatalStop cls
    | none => s
  s.closing

/-- How the meaning of a command that can make work due ends: the queue stays as it was. -/
def State.run (s : State) (f : State → State) : Host.Outcome State Fault Refusal := .next { (f s).settle with pending := s.pending }

/-- How the meaning of a command ends whose effect makes nothing due: the queue stays as it was. -/
def State.quick (s : State) (f : State → State) : Host.Outcome State Fault Refusal := .next { (f s).closing with pending := s.pending }

/-- An event at the time `t`: the clock of the part moves on to it. -/
def State.upTo (s : State) (t : Nat) : State := s.on (fun b => { b with now := max b.now t })

end Sys2Proof.Machine
end

