-- ==== Sys2Proof/Machine/Events.lean ====
section
/-! DEFINITION. What the commands of the home, the media and the expiries do before the shared operations take over. -/

namespace Sys2Proof.Machine

/-! ### The home -/

/-- Requests that HOME_READ serialises: reads, hints and RESERVEs. -/
def Ask.isRead : Ask → Bool
  | .read | .hint | .reserve => true
  | _ => false

/-- The `k`-th request waiting at the home takes its turn, if it is of the row's kind and no LOW request yields (R251, R458). -/
def State.homeRow (s : State) (reads : Bool) (k bad : Nat) : State :=
  match s.home.queue[k]? with
  | none => s
  | some r => if r.ask.isRead = reads ∧ s.yields r = false then s.serialise r bad else s

/-- KEY_DERIVE_DONE (R278): the key set of the oldest waiting request has been derived, and the request goes on. -/
def State.deriveDone (s : State) : State :=
  match s.home.derive with
  | [] => s
  | r :: rest =>
    let s := { s with home := { s.home with derive := rest, queue := r :: s.home.queue } }
    (s.cacheKey (s.keySet r)).serialise r 0

/-- ALIAS_WRITEBACK_DONE (R99): the dirty lines that an alias access met are persistent, and the access goes on as a miss. -/
def State.aliasDone (s : State) (k : Nat) : State :=
  match s.home.aliases[k]? with
  | none => s
  | some a =>
    if s.pageDirty (a.req.lln / 64) ≠ 0 then s
    else
      let s := { s with home := { s.home with aliases := s.home.aliases.eraseIdx k, queue := a.req :: s.home.queue } }
      s.serialise a.req 0

/-! ### Media reads -/

/-- A miss whose base read stays uncollected until its patch-index slot is known (R176). -/
def Miss.undecided (m : Miss) : Bool := m.needSlot && m.slot.isNone

/-- MEDIA_READ_DATA (R171): the `k`-th outstanding read is collected; `errors` gives the bit errors of its codewords, 64 for the page header. -/
def State.readCollected (s : State) (k : Nat) (errors : List (Nat × Nat)) : State :=
  match s.mapx.reads[k]? with
  | none => s
  | some r =>
    let m? := s.mapx.misses.find? (fun m => decide (m.id = r.miss))
    if r.sent = false ∨ (match m? with | some m => m.undecided && !r.squashed && !r.whole | none => false) = true then s
    else
      let s := { s with mapx := { s.mapx with reads := s.mapx.reads.eraseIdx k } }
      let s := (s.resumeIfIdle r.ppa).dieAnswered (ppaChan r.ppa) (ppaDie r.ppa)
      let bits := ((errors.find? (fun e => decide (e.1 = r.frame))).map Prod.snd).getD 0
      if r.squashed then s.squashedData r bits
      else if r.whole then s.patrolData r errors
      else match m? with
        | some m => s.missData r m bits
        | none => s.squashedData r bits

/-- RECONSTRUCT_DONE (R146): every frame of the `k`-th miss's reconstruction read has been collected. -/
def State.reconRow (s : State) (k fixed bad : Nat) : State :=
  match s.mapx.misses[k]? with
  | none => s
  | some m => if m.undecided then s else s.reconstructed k fixed bad

/-! ### Expiries of the write path -/

/-- The least element of a list. -/
def leastOf : List Nat → Option Nat
  | [] => none
  | x :: xs => some (xs.foldl min x)

/-- FOLD_SPACING_EXPIRY (R297): 120 µs after the last commit of the page of a programmed fold. -/
def State.foldSpacing (s : State) : State :=
  match leastOf ((s.wp.folds.filter (fun f => f.programmed.isSome)).filterMap (fun f => (smFind f.page s.wp.lastCommit).map (· + 120))) with
  | none => s
  | some t => s.upTo t

/-- PATCH_HOLD_EXPIRY (R191): the oldest patch has waited its hold time. -/
def State.patchHold (s : State) : State :=
  match leastOf (s.wp.patches.map PatchRef.since) with
  | none => s
  | some t => s.upTo (t + s.bd.holdTime)

/-- DENSE_HOLD_EXPIRY (R190): the oldest dense line of a page's frame has waited its hold time. -/
def State.denseHold (s : State) (page : Nat) : State :=
  match s.frameOf page with
  | none => s
  | some (_, f) =>
    match leastOf ((f.lines.filter (fun l => l.2.dirty && !l.2.patched)).map (fun l => l.2.since)) with
    | none => s
    | some t => s.upTo (t + s.bd.holdTime)

/-- STRIPE_OVERDUE (R345): the oldest dirty line has waited 100 µs unadmitted. -/
def State.stripeOverdue (s : State) : State :=
  match s.oldestDirty with
  | none => s
  | some (_, t) => if s.bd.declared then s else (((s.upTo (t + 100)).judgeOverdue).issueOverdue)

/-- SLOT_START (R343, R372): during a drain the drain's own programs are made ready first. -/
def State.slotRow (s : State) (slot : Nat) : State :=
  (if s.bd.on pRTM F.RTM_STAT.DRAIN then s.drainPass else s).slotStart slot

/-! ### Mailbox and packets -/

/-- MAILBOX_UNSUPPORTED (R82): an opcode that Table 03-5 does not list. -/
def State.mbxUnlisted (s : State) (h opcode : Nat) : State :=
  if opcode ∈ celEntries.map Prod.fst ++ [0x0201, 0x0202, 0x0301, 0x4400, 0x4401] then s else s.mbxUnsupported h opcode

/-- The request that a line packet of the ring carries. -/
def ringLine (ask : Ask) (l : RingLine) (data : Line) (mask : Nat) (poison : Bool) : Req :=
  ringReq ask l.oid.toNat l.tag.toNat l.copy.val l.lln.toNat l.key.val l.sxn.toNat (l.mirror.map BitVec.toNat) data mask poison

/-- What OP of an RSV packet asks (Table 11-9): 1 RESERVE, 2 COND_WRITE, 3 RELEASE. -/
def rsvAsk : Nat → Ask
  | 1 => .reserve
  | 2 => .cond
  | _ => .release

/-- The request of an RSV packet: the word `w` of the line, its new value for a COND_WRITE, and the requester's slot. -/
def ringRsv (op : Nat) (l : RingLine) (w value slot : Nat) : Req :=
  let (data, mask) := if op = 2 then wordWrite w value else (0, 0)
  { ringLine (rsvAsk op) l data mask false with rsv := slot, word := w }

/-! ### Register writes with a row of their own -/

/-- A register write of a word at an offset of a page (R7 to R10). -/
def State.wordRow (s : State) (p : Path) (page off : Nat) (w : Word) : State := s.writeWord p false page off w

/-- INTERNAL_CLEAR (R476): a write of 1 to the INTERNAL bit of a page's cause register. -/
def State.internalRow (s : State) (p : Path) (page : Nat) : State :=
  match internalOf page with
  | none => s
  | some (off, n) => s.wordRow p page off (BitVec.ofNat 32 (2 ^ n))

end Sys2Proof.Machine
end

