-- ==== Sys2Proof/Machine/BusCmds.lean ====
section
/-! DEFINITION. Commands of the I3C bus, MCTP and PLDM (chapter 15). Each command is one definition over the shared operations: `run` where its effect can make
work due at once, `quick` where it cannot (log entry 112). -/

namespace Sys2Proof.Machine

/-- ENEC (R389): CCC ENEC enables target interrupts. -/
def execEnec (events : BitVec 8) (s : State) : Host.Outcome State Fault Refusal :=
  s.quick (fun s => s.enableIbi events.toNat true)

/-- DISEC (R389): CCC DISEC disables target interrupts. -/
def execDisec (events : BitVec 8) (s : State) : Host.Outcome State Fault Refusal :=
  s.quick (fun s => s.enableIbi events.toNat false)

/-- ENTDAA (R389): CCC ENTDAA assigns a dynamic address. -/
def execEntdaa (address : BitVec 7) (s : State) : Host.Outcome State Fault Refusal :=
  s.quick (fun s => s.entdaa address.toNat)

/-- SETDASA (R389): CCC SETDASA assigns a dynamic address from the static address. -/
def execSetdasa (static : BitVec 7) (address : BitVec 7) (s : State) : Host.Outcome State Fault Refusal :=
  s.quick (fun s => s.setdasa static.toNat address.toNat)

/-- SETNEWDA (R389): CCC SETNEWDA changes the dynamic address. -/
def execSetnewda (address : BitVec 7) (s : State) : Host.Outcome State Fault Refusal :=
  s.quick (fun s => s.setnewda address.toNat)

/-- RSTDAA (R389): CCC RSTDAA resets the dynamic address. -/
def execRstdaa (s : State) : Host.Outcome State Fault Refusal :=
  s.quick (fun s => s.rstdaa)

/-- SETMWL (R389): CCC SETMWL sets the maximum write length within 69 to 1,024 B. -/
def execSetmwl (length : BitVec 16) (s : State) : Host.Outcome State Fault Refusal :=
  s.quick (fun s => s.setmwl length.toNat)

/-- SETMRL (R389): CCC SETMRL sets the maximum read length within 69 to 1,024 B. -/
def execSetmrl (length : BitVec 16) (s : State) : Host.Outcome State Fault Refusal :=
  s.quick (fun s => s.setmrl length.toNat)

/-- GETMWL (R389): CCC GETMWL returns the maximum write length. -/
def execGetmwl (s : State) : Host.Outcome State Fault Refusal :=
  s.quick (fun s => s.cccGet 0x8B (fun s => [BitVec.ofNat 8 (s.mgmt.mwl / 256), BitVec.ofNat 8 s.mgmt.mwl]))

/-- GETMRL (R389): CCC GETMRL returns the maximum read length. -/
def execGetmrl (s : State) : Host.Outcome State Fault Refusal :=
  s.quick (fun s => s.cccGet 0x8C (fun s => [BitVec.ofNat 8 (s.mgmt.mrl / 256), BitVec.ofNat 8 s.mgmt.mrl, 8]))

/-- GETPID (R389): CCC GETPID returns the provisional ID. -/
def execGetpid (s : State) : Host.Outcome State Fault Refusal :=
  s.quick (fun s => s.cccGet 0x8D State.pid)

/-- GETBCR (R389): CCC GETBCR returns 0x27. -/
def execGetbcr (s : State) : Host.Outcome State Fault Refusal :=
  s.quick (fun s => s.cccGet 0x8E (fun _ => leBytes 1 bcr))

/-- GETDCR (R389): CCC GETDCR returns 0x00. -/
def execGetdcr (s : State) : Host.Outcome State Fault Refusal :=
  s.quick (fun s => s.cccGet 0x8F (fun _ => [0]))

/-- GETSTATUS (R389): CCC GETSTATUS returns the target status. -/
def execGetstatus (s : State) : Host.Outcome State Fault Refusal :=
  s.quick (fun s => s.getStatus)

/-- GETMXDS (R389): CCC GETMXDS returns the data speed limits. -/
def execGetmxds (s : State) : Host.Outcome State Fault Refusal :=
  s.quick (fun s => s.cccGet 0x94 (fun _ => leBytes 2 0 ++ leBytes 3 50))

/-- RSTACT (R389): CCC RSTACT resets I3C and MCTP state and session keys. -/
def execRstact (action : BitVec 8) (s : State) : Host.Outcome State Fault Refusal :=
  s.quick (fun s => s.rstact action.toNat)

/-- ENTHDR0 (R389): CCC ENTHDR0 enters HDR-DDR for a private transfer. -/
def execEnthdr0 (s : State) : Host.Outcome State Fault Refusal :=
  s.quick (fun s => s.enthdr0)

/-- CCC_NACK (R389): An unsupported CCC is NACKed. -/
def execCccNack (code : BitVec 8) (s : State) : Host.Outcome State Fault Refusal :=
  s.quick (fun s => s.cccNack code.toNat)

/-- BUS_ERROR (R389): An I3C bus error TE0 to TE6 discards the transfer and is counted. -/
def execBusError (error : Fin 7) (s : State) : Host.Outcome State Fault Refusal :=
  s.quick (fun s => s.busError error.val)

/-- IBI_SEND (R390): At Bus Available the part requests an in-band interrupt for the oldest queued notice. -/
def execIbiSend (ack : Bool) (s : State) : Host.Outcome State Fault Refusal :=
  s.quick (fun s => s.ibiSend ack)

/-- ALERT_TIMEOUT (R392): A notice has waited 1 ms and ALERT_N is driven low. -/
def execAlertTimeout (s : State) : Host.Outcome State Fault Refusal :=
  s.quick (fun s => s.alertTimeout)

/-- MCTP_PACKET (R393): An MCTP packet is checked and reassembled into a message. -/
def execMctpPacket (packet : McPacket) (s : State) : Host.Outcome State Fault Refusal :=
  s.run (fun s => s.mctpPacket packet)

/-- SET_ENDPOINT_ID (R394): MCTP control command assigns the endpoint ID. -/
def execSetEndpointId (source : BitVec 8) (destination : BitVec 8) (inst : Fin 32) (op : Fin 4) (eid : BitVec 8) (s : State) : Host.Outcome State Fault Refusal :=
  s.quick (fun s => s.setEid source.toNat destination.toNat inst.val op.val eid.toNat)

/-- GET_ENDPOINT_ID (R394): MCTP control command returns the endpoint ID. -/
def execGetEndpointId (source : BitVec 8) (destination : BitVec 8) (inst : Fin 32) (s : State) : Host.Outcome State Fault Refusal :=
  s.quick (fun s => s.getEid source.toNat destination.toNat inst.val)

/-- GET_ENDPOINT_UUID (R394): MCTP control command returns the derived UUID. -/
def execGetEndpointUuid (source : BitVec 8) (destination : BitVec 8) (inst : Fin 32) (s : State) : Host.Outcome State Fault Refusal :=
  s.quick (fun s => s.getUuid source.toNat destination.toNat inst.val)

/-- GET_MCTP_VERSION_SUPPORT (R394): MCTP control command returns supported versions. -/
def execGetMctpVersionSupport (source : BitVec 8) (destination : BitVec 8) (inst : Fin 32) (type : BitVec 8) (s : State) : Host.Outcome State Fault Refusal :=
  s.quick (fun s => s.getMctpVersion source.toNat destination.toNat inst.val type.toNat)

/-- GET_MESSAGE_TYPE_SUPPORT (R394): MCTP control command returns the message types of Table 15-3. -/
def execGetMessageTypeSupport (source : BitVec 8) (destination : BitVec 8) (inst : Fin 32) (s : State) : Host.Outcome State Fault Refusal :=
  s.quick (fun s => s.getTypes source.toNat destination.toNat inst.val)

/-- GET_VENDOR_DEFINED_MESSAGE_SUPPORT (R394): MCTP control command returns vendor-defined message support. -/
def execGetVendorDefinedMessageSupport (source : BitVec 8) (destination : BitVec 8) (inst : Fin 32) (selector : BitVec 8) (s : State) : Host.Outcome State Fault Refusal :=
  s.quick (fun s => s.getVendor source.toNat destination.toNat inst.val selector.toNat)

/-- MCTP_CONTROL_UNSUPPORTED (R394): Any other MCTP control command is answered ERROR_UNSUPPORTED_CMD. -/
def execMctpControlUnsupported (source : BitVec 8) (destination : BitVec 8) (inst : Fin 32) (command : BitVec 8) (s : State) : Host.Outcome State Fault Refusal :=
  s.quick (fun s => s.controlOther source.toNat destination.toNat inst.val command.toNat)

/-- GET_TID (R396): PLDM GetTID returns the terminus ID. -/
def execGetTid (eid : BitVec 8) (inst : Fin 32) (s : State) : Host.Outcome State Fault Refusal :=
  s.quick (fun s => s.getTid eid.toNat inst.val)

/-- GET_PLDM_VERSION (R396): PLDM GetPLDMVersion returns the version. -/
def execGetPldmVersion (eid : BitVec 8) (inst : Fin 32) (type : BitVec 8) (s : State) : Host.Outcome State Fault Refusal :=
  s.quick (fun s => s.getPldmVersion eid.toNat inst.val type.toNat)

/-- GET_PLDM_TYPES (R396): PLDM GetPLDMTypes returns types 0 and 2. -/
def execGetPldmTypes (eid : BitVec 8) (inst : Fin 32) (s : State) : Host.Outcome State Fault Refusal :=
  s.quick (fun s => s.getPldmTypes eid.toNat inst.val)

/-- GET_PLDM_COMMANDS (R396): PLDM GetPLDMCommands returns the supported commands. -/
def execGetPldmCommands (eid : BitVec 8) (inst : Fin 32) (type : BitVec 8) (s : State) : Host.Outcome State Fault Refusal :=
  s.quick (fun s => s.getPldmCommands eid.toNat inst.val type.toNat)

/-- GET_PDR_REPOSITORY_INFO (R396): PLDM command returns repository information. -/
def execGetPdrRepositoryInfo (eid : BitVec 8) (inst : Fin 32) (s : State) : Host.Outcome State Fault Refusal :=
  s.quick (fun s => s.getPdrInfo eid.toNat inst.val)

/-- GET_PDR (R396): PLDM GetPDR returns one PDR. -/
def execGetPdr (eid : BitVec 8) (inst : Fin 32) (record : Word) (s : State) : Host.Outcome State Fault Refusal :=
  s.quick (fun s => s.getPdr eid.toNat inst.val record.toNat)

/-- GET_SENSOR_READING (R396): PLDM GetSensorReading returns a numeric reading. -/
def execGetSensorReading (eid : BitVec 8) (inst : Fin 32) (sensor : BitVec 16) (s : State) : Host.Outcome State Fault Refusal :=
  s.quick (fun s => s.getSensor eid.toNat inst.val sensor.toNat)

/-- GET_STATE_SENSOR_READINGS (R396): PLDM GetStateSensorReadings returns state sensor values. -/
def execGetStateSensorReadings (eid : BitVec 8) (inst : Fin 32) (sensor : BitVec 16) (s : State) : Host.Outcome State Fault Refusal :=
  s.quick (fun s => s.getStateSensor eid.toNat inst.val sensor.toNat)

/-- SET_EVENT_RECEIVER (R396): PLDM SetEventReceiver sets the event receiver. -/
def execSetEventReceiver (eid : BitVec 8) (inst : Fin 32) (receiver : Option Byte) (s : State) : Host.Outcome State Fault Refusal :=
  s.quick (fun s => s.setReceiver eid.toNat inst.val (receiver.map BitVec.toNat))

/-- GET_EVENT_RECEIVER (R396): PLDM GetEventReceiver returns the event receiver. -/
def execGetEventReceiver (eid : BitVec 8) (inst : Fin 32) (s : State) : Host.Outcome State Fault Refusal :=
  s.quick (fun s => s.getReceiver eid.toNat inst.val)

end Sys2Proof.Machine
end

