-- ==== Sys2Proof/Machine/CopyCmds.lean ====
section
/-! DEFINITION. Commands of the copy engines (chapter 18). Each command is one definition over the shared operations: `run` where its effect can make
work due at once, `quick` where it cannot (log entry 112). -/

namespace Sys2Proof.Machine

/-- CPD_ARM (R441): CPD_CTL.ARM arms the shadow set and starts it when the channel is idle. -/
def execCpdArm (path : Path) (channel : Fin 32) (s : State) : Host.Outcome State Fault Refusal :=
  s.run (fun s => s.cpdArm path channel.val)

/-- ABORT (R445): CPD_CTL.ABORT stops a busy or halted channel after lines in flight resolve. -/
def execCopyAbort (path : Path) (channel : Fin 32) (s : State) : Host.Outcome State Fault Refusal :=
  s.run (fun s => s.abortCopy path channel.val)

/-- RETRY (R445): CPD_CTL.RESUME RETRY restarts a halted channel at DONE. -/
def execRetry (path : Path) (channel : Fin 32) (s : State) : Host.Outcome State Fault Refusal :=
  s.run (fun s => s.resumeCopy path channel.val false)

/-- SKIP (R445): CPD_CTL.RESUME SKIP restarts a halted channel past the failed line. -/
def execSkip (path : Path) (channel : Fin 32) (s : State) : Host.Outcome State Fault Refusal :=
  s.run (fun s => s.resumeCopy path channel.val true)

/-- GO (R447): CPS_CTL.GO starts a simple channel's descriptor. -/
def execCopyGo (path : Path) (channel : Fin 8) (s : State) : Host.Outcome State Fault Refusal :=
  s.run (fun s => s.cpsGo path channel.val)

/-- CPS_ABORT (R445): CPS_CTL.ABORT stops a simple channel. -/
def execCpsAbort (path : Path) (channel : Fin 8) (s : State) : Host.Outcome State Fault Refusal :=
  s.run (fun s => s.abortCopy path (32 + channel.val))

/-- COPY_LINE_DONE (R440): A channel's line read or write completes or fails, advancing DONE, halting or completing the descriptor. -/
def execCopyLineDone (channel : Fin 40) (s : State) : Host.Outcome State Fault Refusal :=
  s.run (fun s => s.copyLineDone channel.val)

/-- COPY_LINE_RETRY (R443): 1 µs after a line fails it is reissued. -/
def execCopyLineRetry (channel : Fin 40) (s : State) : Host.Outcome State Fault Refusal :=
  s.run (fun s => s.copyLineRetry channel.val)

end Sys2Proof.Machine
end

