-- ==== Sys2Proof/Machine/ExtentCmds.lean ====
section
/-! DEFINITION. Commands of the extent tables and the HDM decoders (chapter 2). Each command is one definition over the shared operations: `run` where its effect can make
work due at once, `quick` where it cannot (log entry 112). -/

namespace Sys2Proof.Machine

/-- XTN_READ (R62): XTN_ACC_CMD with WRITE = 0 reads one HXT, XMB or LXT entry into DATA0 to DATA3. -/
def execXtnRead (path : Path) (table : Fin 4) (index : Fin 65536) (s : State) : Host.Outcome State Fault Refusal :=
  s.quick (fun s => s.xtnCommand path table.val index.val false)

/-- XTN_HXT_WRITE (R48): XTN_ACC_CMD writes an HXT entry after its checks, offering, forcing release or freeing an extent. -/
def execXtnHxtWrite (path : Path) (index : Fin 65536) (s : State) : Host.Outcome State Fault Refusal :=
  s.run (fun s => s.xtnCommand path 0 index.val true)

/-- XTN_XMB_WRITE (R48): XTN_ACC_CMD writes an XMB entry after its checks. -/
def execXtnXmbWrite (path : Path) (index : Fin 65536) (s : State) : Host.Outcome State Fault Refusal :=
  s.run (fun s => s.xtnCommand path 1 index.val true)

/-- XTN_LXT_WRITE (R50): XTN_ACC_CMD writes an LXT entry under Table 02-3, activating a local extent or starting its erase. -/
def execXtnLxtWrite (path : Path) (index : Fin 65536) (s : State) : Host.Outcome State Fault Refusal :=
  s.run (fun s => s.xtnCommand path 2 index.val true)

/-- XTN_ACC_DONE (R62): A table access completes, BUSY clears and RESULT is set. -/
def execXtnAccDone (s : State) : Host.Outcome State Fault Refusal :=
  s.quick (fun s => s.xtnDone)

/-- RELEASE_DONE (R52): The last request decoded through a RELEASING HXT entry completes and the entry becomes FREE. -/
def execReleaseDone (index : Fin 8192) (s : State) : Host.Outcome State Fault Refusal :=
  s.run (fun s => s.releaseDone index.val)

/-- DECODER_COMMIT (R41): Host software commits an HDM decoder and the part types the window or fails the commit. -/
def execDecoderCommit (head : Fin 8) (decoder : Fin 8) (base : BitVec 64) (size : BitVec 64) (dpaBase : BitVec 64) (ways : Fin 17) (gran : Fin 16) (s : State) : Host.Outcome State Fault Refusal :=
  s.quick (fun s => if s.bd.powered pXTN ∧ s.bd.unit (pHPT head.val) ≠ stOFF then s.commitDecoder head.val decoder.val base.toNat size.toNat ways.val gran.val dpaBase.toNat else s)

end Sys2Proof.Machine
end

