-- ==== Sys2Proof/Machine/FenceCmds.lean ====
section
/-! DEFINITION. Commands of fences, losses and reservations (chapter 9). Each command is one definition over the shared operations: `run` where its effect can make
work due at once, `quick` where it cannot (log entry 112). -/

namespace Sys2Proof.Machine

/-- FENCE_START (R260): A host write of HPT_FNC_CTLn with GO starts a fence covering earlier accepted writes and reads. -/
def execFenceStart (path : Path) (head : Fin 8) (slot : Fin 8) (value : Word) (s : State) : Host.Outcome State Fault Refusal :=
  s.run (fun s => s.fenceStart path head.val slot.val value)

/-- FENCE_COMPLETE (R262): The condition of the fence's scope holds for every covered request and STATUS is set. -/
def execFenceComplete (head : Fin 8) (slot : Fin 9) (s : State) : Host.Outcome State Fault Refusal :=
  s.quick (fun s => s.fenceComplete head.val slot.val)

/-- FENCE_DEADLINE (R268): 45 µs after a fence starts, its unticketed covered writes are resolved as DEGRADED or LOST. -/
def execFenceDeadline (head : Fin 8) (slot : Fin 9) (s : State) : Host.Outcome State Fault Refusal :=
  s.run (fun s => s.fenceDeadline head.val slot.val)

/-- FENCE_DURABLE (R263): Every covered write is reported persistent and the PERSIST fence sets DURABLE, or NOT_DURABLE on a loss. -/
def execFenceDurable (head : Fin 8) (slot : Fin 9) (s : State) : Host.Outcome State Fault Refusal :=
  s.quick (fun s => s.fenceDurable head.val slot.val)

/-- GPF_PHASE2 (R264): A CXL global persistent flush phase 2 acts as a PERSIST fence over every head's accepted writes. -/
def execGpfPhase2 (head : Fin 8) (s : State) : Host.Outcome State Fault Refusal :=
  s.run (fun s => s.gpfPhase2 head.val)

/-- HPT_LOSS_POP (R269): Writing HPT_LOSS_POP removes the oldest loss record. -/
def execHptLossPop (path : Path) (head : Fin 8) (s : State) : Host.Outcome State Fault Refusal :=
  s.quick (fun s => s.lossPop path head.val)

/-- RESERVE (R271): HPT_RSV_CMDk RESERVE reads a 16 B word and places a reservation on its line. -/
def execReserveWord (path : Path) (head : Fin 8) (slot : Fin 4) (s : State) : Host.Outcome State Fault Refusal :=
  s.run (fun s => s.rsvCommand path head.val slot.val 1)

/-- COND_WRITE (R271): HPT_RSV_CMDk COND_WRITE writes the word if the slot's reservation is held and consumes it. -/
def execCondWrite (path : Path) (head : Fin 8) (slot : Fin 4) (s : State) : Host.Outcome State Fault Refusal :=
  s.run (fun s => s.rsvCommand path head.val slot.val 2)

/-- RELEASE (R271): HPT_RSV_CMDk RELEASE drops the slot's reservation at the home. -/
def execReleaseWord (path : Path) (head : Fin 8) (slot : Fin 4) (s : State) : Host.Outcome State Fault Refusal :=
  s.run (fun s => s.rsvCommand path head.val slot.val 3)

/-- RSV_COMPLETE (R273): The home's answer to a reservation operation returns and the slot's RESULT, HELD and LOSS_CAUSE are set. -/
def execRsvComplete (head : Fin 8) (slot : Fin 4) (s : State) : Host.Outcome State Fault Refusal :=
  s.quick (fun s => s.rsvComplete head.val slot.val)

/-- RSV_TIMEOUT (R272): 1 ms after a RESERVE is serialised the reservation is lost with cause 2. -/
def execRsvTimeout (part : Fin 32) (slot : Fin 32) (s : State) : Host.Outcome State Fault Refusal :=
  s.quick (fun s => s.rsvTimeout part.val slot.val)

end Sys2Proof.Machine
end

