-- ==== Sys2Proof/Machine/FrontCmds.lean ====
section
/-! DEFINITION. Commands of the front cache, the volatile window and HBM (chapter 4). Each command is one definition over the shared operations: `run` where its effect can make
work due at once, `quick` where it cannot (log entry 112). -/

namespace Sys2Proof.Machine

/-- FCC_FLIP_ARM (R112): Arming FCC_FLIP_CTL makes the next matching line write store corrupted parity and raise FLIP_APPLIED. -/
def execFccFlipArm (path : Path) (stack : Fin 4) (target : Fin 8) (s : State) : Host.Outcome State Fault Refusal :=
  s.quick (fun s => s.fccFlipArm path stack.val target.val)

/-- SCRUB_READ (R113): The stack scrubber reads its next line in an idle cycle and handles any parity error. -/
def execScrubRead (stack : Fin 4) (parity : BitVec 64) (s : State) : Host.Outcome State Fault Refusal :=
  s.run (fun s => s.scrubRead stack.val parity.toNat)

/-- SCRUB_SLOW (R113): A scrub lap passes SCRUB_LAP_LIMIT and SCRUB_SLOW is raised once for that lap. -/
def execScrubSlow (stack : Fin 4) (s : State) : Host.Outcome State Fault Refusal :=
  s.quick (fun s => s.scrubSlow stack.val)

/-- HBM_ACCESS_TIMEOUT (R114): An HBM access has no response within 2 µs and its pseudo-channel is declared failed. -/
def execHbmAccessTimeout (stack : Fin 4) (channel : Fin 32) (s : State) : Host.Outcome State Fault Refusal :=
  s.run (fun s => s.hbmTimeout stack.val channel.val)

/-- HBM_PHY_LOCK_LOSS (R114): An HBM PHY reports loss of lock and its stack is declared failed. -/
def execHbmPhyLockLoss (stack : Fin 4) (s : State) : Host.Outcome State Fault Refusal :=
  s.run (fun s => s.hbmLockLoss stack.val)

/-- CLEAN (R121): FCM operation CLEAN writes back the dirty lines of a page range and keeps the frames. -/
def execClean (path : Path) (mode : Bool) (head : Fin 8) (s : State) : Host.Outcome State Fault Refusal :=
  s.run (fun s => s.fcmOp path 1 mode head.val)

/-- CLEAN_INV (R121): FCM operation CLEAN_INV writes back and invalidates the frames of a page range. -/
def execCleanInv (path : Path) (mode : Bool) (head : Fin 8) (s : State) : Host.Outcome State Fault Refusal :=
  s.run (fun s => s.fcmOp path 2 mode head.val)

/-- CLEAN_SW (R120): FCM operation CLEAN_SW writes back frames of one way from a given set upward. -/
def execCleanSw (path : Path) (s : State) : Host.Outcome State Fault Refusal :=
  s.run (fun s => s.fcmOp path 3 false 0)

/-- CLEAN_INV_SW (R120): FCM operation CLEAN_INV_SW writes back and invalidates frames of one way by set. -/
def execCleanInvSw (path : Path) (s : State) : Host.Outcome State Fault Refusal :=
  s.run (fun s => s.fcmOp path 4 false 0)

/-- INV_ALL (R124): FCM operation INV_ALL cleans and invalidates every cache-way frame, setting CLEAN_SLATE when the cache is disabled. -/
def execInvAll (path : Path) (s : State) : Host.Outcome State Fault Refusal :=
  s.run (fun s => s.fcmOp path 5 false 0)

/-- PROBE (R119): FCM operation PROBE reads the tag and line bits of one frame into FCM_PROBE0 to FCM_PROBE4. -/
def execProbe (path : Path) (s : State) : Host.Outcome State Fault Refusal :=
  s.quick (fun s => s.fcmOp path 6 false 0)

/-- FCM_ABORT (R122): A write of FCM_OP.ABORT stops a running operation after the page in progress. -/
def execFcmAbort (path : Path) (s : State) : Host.Outcome State Fault Refusal :=
  s.quick (fun s => s.fcmAbort path)

/-- OP_DONE (R121): A maintenance operation completes, OP_BUSY clears and OP_DONE is raised with its result and progress. -/
def execOpDone (s : State) : Host.Outcome State Fault Refusal :=
  s.run (fun s => s.opDone)

/-- CACHE_DISABLE (R123): Writing FCM_CTL.ENABLE = 0 sets DISABLING and starts write-back of every dirty line. -/
def execCacheDisable (path : Path) (s : State) : Host.Outcome State Fault Refusal :=
  s.run (fun s => s.cacheDisable path)

/-- CACHE_DISABLE_DONE (R123): The last dirty line is persistent and the cache clears ENABLED, CLEAN_SLATE and DISABLING. -/
def execCacheDisableDone (s : State) : Host.Outcome State Fault Refusal :=
  s.run (fun s => s.cacheDisableDone)

/-- CACHE_ENABLE (R124): Writing FCM_CTL.ENABLE = 1 enables the cache at once with CLEAN_SLATE, or is refused with ENABLE_REFUSED. -/
def execCacheEnable (path : Path) (s : State) : Host.Outcome State Fault Refusal :=
  s.run (fun s => s.cacheEnable path)

/-- VWN_RESIZE (R127): A write of VWN_CFG.SIZE is stored and starts growth or shrinking of the volatile window. -/
def execVwnResize (path : Path) (size : BitVec 4) (s : State) : Host.Outcome State Fault Refusal :=
  s.run (fun s => s.vwnResize path size.toNat)

/-- RESIZE_DONE (R127): A window resize completes and RESIZE_DONE is raised. -/
def execResizeDone (s : State) : Host.Outcome State Fault Refusal :=
  s.run (fun s => s.resizeDone)

/-- REMAP (R131): Writing VWN_CMD.REMAP replaces lost window frames with frames of enabled cache ways. -/
def execRemap (path : Path) (s : State) : Host.Outcome State Fault Refusal :=
  s.run (fun s => s.remap path)

/-- REMAP_DONE (R131): A remap completes, REMAP clears and VWN returns to SERVICE when no frame remains lost. -/
def execRemapDone (s : State) : Host.Outcome State Fault Refusal :=
  s.run (fun s => s.remapDone)

end Sys2Proof.Machine
end

