-- ==== Sys2Proof/Machine/HealthCmds.lean ====
section
/-! DEFINITION. Commands of age, patrol, health and temperature (chapters 8 and 19). Each command is one definition over the shared operations: `run` where its effect can make
work due at once, `quick` where it cannot (log entry 112). -/

namespace Sys2Proof.Machine

/-- THERMAL_ROUND (R462): Every 10 ms the part reads and judges all sensors, advances age clocks, sets the throttle level and updates histograms. -/
def execThermalRound (readings : List (Option (BitVec 16))) (s : State) : Host.Outcome State Fault Refusal :=
  s.run (fun s => s.thermalRound (readings.map (fun x => x.map BitVec.toInt)))

/-- OLD_MARK_TICK (R222): Every 60 s of powered time OLD is set on closed fields aged 10^6 s or more. -/
def execOldMarkTick (s : State) : Host.Outcome State Fault Refusal :=
  s.quick (fun s => s.oldTick)

/-- AGE_SAVE (R228): Every 60 s and at clean shutdown the rack time and age clocks are stored in the parameter store. -/
def execAgeSave (s : State) : Host.Outcome State Fault Refusal :=
  s.quick (fun s => s.ageSave)

/-- PATROL_ISSUE (R231): Patrol issues READ_PAGE to the next page at its paced rate, or to a queued suspect page. -/
def execPatrolIssue (s : State) : Host.Outcome State Fault Refusal :=
  s.run (fun s => s.patrolIssue)

/-- PATROL_RATE_PERIOD (R235): Every 60 s patrol sets its rate from the remaining pages and time, under the LOOP bound. -/
def execPatrolRatePeriod (s : State) : Host.Outcome State Fault Refusal :=
  s.quick (fun s => s.patrolRate)

/-- PTL_CURSOR_SAVE (R238): Every 60 s the patrol cursor, lap and elapsed time are stored in the parameter store. -/
def execPtlCursorSave (s : State) : Host.Outcome State Fault Refusal :=
  s.quick (fun s => s.patrolSave)

/-- AGE_INSP (R249): AGE_INSP.START reads a field-table entry and computes its age and bins. -/
def execAgeInsp (path : Path) (field : Fin 1048576) (start : Bool) (s : State) : Host.Outcome State Fault Refusal :=
  s.quick (fun s => s.ageInsp path field.val start)

/-- WGV_DAILY (R247): Every 24 h of powered time the wear governor computes MEAN, RATE, PROJ and the ceiling. -/
def execWgvDaily (s : State) : Host.Outcome State Fault Refusal :=
  s.quick (fun s => s.wgvDaily)

/-- HEALTH_SAVE (R246): Every 60 minutes the histograms, peaks and lifetime counters are stored in the parameter store. -/
def execHealthSave (s : State) : Host.Outcome State Fault Refusal :=
  s.quick (fun s => s.healthSave)

/-- HEALTH_META_COPY (R213): Every 24 h of powered time the HEALTH record body is written to META segment 4,512. -/
def execHealthMetaCopy (s : State) : Host.Outcome State Fault Refusal :=
  s.quick (fun s => s.healthCopy)

end Sys2Proof.Machine
end

