-- ==== Sys2Proof/Machine/HostCmds.lean ====
section
/-! DEFINITION. Commands of the host ports and the home (chapters 2, 3, 4 and 9). Each command is one definition over the shared operations: `run` where its effect can make
work due at once, `quick` where it cannot (log entry 112). -/

namespace Sys2Proof.Machine

/-- MEMRD (R171): A host MemRd or MemRdData is decoded and served from the posted-write buffer, the front cache, media or a forwarded read. -/
def execMemrd (head : Fin 8) (hpa : BitVec 64) (s : State) : Host.Outcome State Fault Refusal :=
  s.run (fun s => s.memRd head.val hpa.toNat)

/-- MEMSPECRD (R68): A MemSpecRd hint starts a front-cache fill of one line or is dropped. -/
def execMemspecrd (head : Fin 8) (hpa : BitVec 64) (taken : Bool) (s : State) : Host.Outcome State Fault Refusal :=
  s.run (fun s => s.memSpecRd head.val hpa.toNat taken)

/-- MEMINV (R68): A MemInv or MemInvNT completes with Cmp and no effect on data. -/
def execMeminv (head : Fin 8) (s : State) : Host.Outcome State Fault Refusal :=
  s.quick (fun s => s.memInv head.val)

/-- MEMWR (R69): A host MemWr or MemWrPtl fills a posted-write buffer entry and is accepted with its NDR. -/
def execMemwr (head : Fin 8) (hpa : BitVec 64) (data : Line) (mask : BitVec 64) (poison : Bool) (s : State) : Host.Outcome State Fault Refusal :=
  s.quick (fun s => s.memWr head.val hpa.toNat data mask.toNat poison)

/-- PWB_SEND (R254): A posted-write buffer entry is decoded and sent toward its home when ring credit allows. -/
def execPwbSend (head : Fin 8) (entry : Nat) (s : State) : Host.Outcome State Fault Refusal :=
  s.run (fun s => s.pwbSend head.val entry)

/-- HOME_READ (R101): A read serialised at the home looks up the frame tag and is served as a hit or enters the miss pipeline. -/
def execHomeRead (turn : Nat) (parity : BitVec 64) (s : State) : Host.Outcome State Fault Refusal :=
  s.run (fun s => s.homeRow true turn parity.toNat)

/-- HOME_WRITE (R105): A write serialised at the home is staged as a patch or dense line in its frame and mirror slot, or held under the dirty limit. -/
def execHomeWrite (turn : Nat) (parity : BitVec 64) (s : State) : Host.Outcome State Fault Refusal :=
  s.run (fun s => s.homeRow false turn parity.toNat)

/-- ALIAS_WRITEBACK_DONE (R99): The dirty lines of a frame met by an alias access become persistent, the frame is invalidated and the alias request is served as a miss. -/
def execAliasWritebackDone (waiter : Nat) (s : State) : Host.Outcome State Fault Refusal :=
  s.run (fun s => s.aliasDone waiter)

/-- KEY_DERIVE_DONE (R278): Derivation of a key set that was not cached completes and the waiting request proceeds. -/
def execKeyDeriveDone (s : State) : Host.Outcome State Fault Refusal :=
  s.run (fun s => s.deriveDone)

/-- LINK_UP (R84): A head's link reaches L0 with CXL.mem and the head enters SERVICE, DEGRADED or a HEAD reset. -/
def execLinkUp (head : Fin 8) (mem : Bool) (speed : Fin 8) (width : Fin 32) (s : State) : Host.Outcome State Fault Refusal :=
  s.run (fun s => s.linkUp head.val mem speed.val width.val)

/-- TRAIN_FAIL (R66): Head training fails and is retried every 100 ms. -/
def execTrainFail (head : Fin 8) (noFlit : Bool) (s : State) : Host.Outcome State Fault Refusal :=
  s.quick (fun s => s.trainFail head.val noFlit)

/-- LANE_FAULT (R86): A lane of a head fails and the head narrows by L0p or passes through Recovery. -/
def execLaneFault (head : Fin 8) (lane : Fin 16) (l0p : Bool) (s : State) : Host.Outcome State Fault Refusal :=
  s.run (fun s => s.laneFault head.val lane.val l0p)

/-- L0P_NARROW_DONE (R86): An L0p width change completes and the head serves DEGRADED with NARROW. -/
def execL0pNarrowDone (head : Fin 8) (stall : Word) (s : State) : Host.Outcome State Fault Refusal :=
  s.quick (fun s => s.l0pNarrowDone head.val stall.toNat)

/-- LINK_DOWN (R85): A head's link goes down, the head is contained, reads are abandoned and writes drain. -/
def execLinkDown (head : Fin 8) (s : State) : Host.Outcome State Fault Refusal :=
  s.run (fun s => s.linkDown head.val)

/-- IDE_FAIL (R87): An IDE failure contains the head and poisons later CXL.mem reads. -/
def execIdeFail (head : Fin 8) (mem : Bool) (io : Bool) (stream : Word) (s : State) : Host.Outcome State Fault Refusal :=
  s.run (fun s => s.ideFail head.val mem io stream.toNat)

/-- IDE_REKEY (R87): New IDE keys are programmed and the stream is enabled, closing IDE_FAIL. -/
def execIdeRekey (head : Fin 8) (mem : Bool) (io : Bool) (s : State) : Host.Outcome State Fault Refusal :=
  s.quick (fun s => s.ideRekey head.val mem io)

/-- FLR (R88): A function-level reset triggers a HEAD reset of the head. -/
def execFlr (head : Fin 8) (s : State) : Host.Outcome State Fault Refusal :=
  s.run (fun s => s.functionReset head.val)

/-- HEAD_RESET (R88): A CXL link reset or FLR drains writes, abandons reads, uncommits windows and resets logs. -/
def execHeadReset (head : Fin 8) (s : State) : Host.Outcome State Fault Refusal :=
  s.run (fun s => s.headReset head.val)

/-- HEAD_RESET_DONE (R88): A HEAD reset completes and the head proceeds to its new state. -/
def execHeadResetDone (head : Fin 8) (s : State) : Host.Outcome State Fault Refusal :=
  s.run (fun s => s.headResetDone head.val)

/-- HPT_PORT_CFG_WRITE (R64): A management write of HPT_PORT_CFG stores SPLIT in the parameter store for the next WARM reset. -/
def execHptPortCfgWrite (path : Path) (head : Fin 8) (value : Word) (s : State) : Host.Outcome State Fault Refusal :=
  s.quick (fun s => s.portCfgWrite path head.val value)

end Sys2Proof.Machine
end

