-- ==== Sys2Proof/Machine/KeyCmds.lean ====
section
/-! DEFINITION. Commands of the keys of line cryptography (chapter 10). Each command is one definition over the shared operations: `run` where its effect can make
work due at once, `quick` where it cannot (log entry 112). -/

namespace Sys2Proof.Machine

/-- IMPORT (R281): KEY_CMD IMPORT decapsulates and unwraps a blob into an EMPTY slot and redraws the nonce. -/
def execImportKey (path : Path) (slot : Fin 4096) (seed : Option Line) (s : State) : Host.Outcome State Fault Refusal :=
  s.run (fun s => s.keyCommand path 1 slot.val (fun s => s.importSeed slot.val (seed.map BitVec.toNat)))

/-- CLEAR (R282): KEY_CMD CLEAR moves an unused LOADED slot to CLEARING and writes back its dirty lines. -/
def execClearKey (path : Path) (slot : Fin 4096) (s : State) : Host.Outcome State Fault Refusal :=
  s.run (fun s => s.keyCommand path 2 slot.val (fun s => s.clearSlot slot.val))

/-- INSPECT (R284): KEY_CMD INSPECT fills KEY_INFO0 to KEY_INFO2 for one slot. -/
def execInspectKey (path : Path) (slot : Fin 4096) (s : State) : Host.Outcome State Fault Refusal :=
  s.quick (fun s => s.keyCommand path 3 slot.val (fun s => s.inspect slot.val))

/-- RKY_START (R302): RKY_CMD.START requests a version transition of a slot for rotation. -/
def execRkyStart (path : Path) (slot : Fin 4096) (s : State) : Host.Outcome State Fault Refusal :=
  s.run (fun s => s.rkyStart path slot.val)

/-- SWEEP_RATE_PERIOD (R299): Every second the re-key sweep sets its rate from remaining pages and TARGET_S. -/
def execSweepRatePeriod (s : State) : Host.Outcome State Fault Refusal :=
  s.quick (fun s => s.sweepRate)

/-- SWEEP_CURSOR_SAVE (R301): Every 60 s the sweep cursor and elapsed time are stored in KEY_SWEEP. -/
def execSweepCursorSave (s : State) : Host.Outcome State Fault Refusal :=
  s.quick (fun s => s.sweepSave)

/-- SWEEP_LATE (R300): A sweep passes 900 s, SWEEP_LATE is raised and non-sweep folds of the key wait. -/
def execSweepLate (slot : Fin 4096) (s : State) : Host.Outcome State Fault Refusal :=
  s.run (fun s => s.sweepLate slot.val)

/-- ERASE_DONE (R295): Steps 1 to 3 of a crypto erase complete, frames of the extent are invalidated and ERASE_DONE is raised. -/
def execEraseDone (s : State) : Host.Outcome State Fault Refusal :=
  s.run (fun s => s.eraseDone)

end Sys2Proof.Machine
end

