-- ==== Sys2Proof/Machine/LinkCmds.lean ====
section
/-! DEFINITION. Commands of the shelf links (chapter 11). Each command is one definition over the shared operations: `run` where its effect can make
work due at once, `quick` where it cannot (log entry 112). -/

namespace Sys2Proof.Machine

/-- SHL_TRAIN_START (R304): A DOWN link starts training after its retry delay or when PD07 powers up. -/
def execShlTrainStart (side : Fin 2) (s : State) : Host.Outcome State Fault Refusal :=
  s.run (fun s => s.trainStart side.val)

/-- SHL_TRAINED (R304): A shelf link PHY trains at x8 or x4 and enters HELLO. -/
def execShlTrained (side : Fin 2) (wide : Bool) (fast : Bool) (s : State) : Host.Outcome State Fault Refusal :=
  s.run (fun s => s.trained side.val wide fast)

/-- SHL_PHASE_TIMEOUT (R304): TRAIN or HELLO exceeds its bound and the link returns to DOWN. -/
def execShlPhaseTimeout (side : Fin 2) (s : State) : Host.Outcome State Fault Refusal :=
  s.run (fun s => s.phaseTimeout side.val)

/-- HELLO (R306): The HELLO exchange checks cabling, authenticates both ends and derives bootstrap keys, or opens MISCABLE or AUTH_FAIL. -/
def execHello (side : Fin 2) (peer : Fin 32) (peerSide : Fin 2) (chain : Bool) (signature : Bool) (decapsulated : Bool) (s : State) : Host.Outcome State Fault Refusal :=
  s.run (fun s => s.hello side.val peer.val peerSide.val chain signature decapsulated)

/-- FLIT_RX (R307): A flit is received, corrected, checked and group-verified, with NAK and replay on failure. -/
def execFlitRx (side : Fin 2) (seq : Fin 1024) (ack : Fin 1024) (fec : Fin 5) (crc : Bool) (nak : Bool) (groupMac : Bool) (s : State) : Host.Outcome State Fault Refusal :=
  s.run (fun s => s.flitRx side.val seq.val ack.val fec.val crc nak groupMac)

/-- SHL_IDLE_TIMEOUT (R304): No good flit for IDLE_US moves an UP link to RECOVER. -/
def execShlIdleTimeout (side : Fin 2) (s : State) : Host.Outcome State Fault Refusal :=
  s.run (fun s => s.idleTimeout side.val)

/-- SHL_RECOVER_TIMEOUT (R304): RECOVER_US elapses without recovery, the link goes DOWN and DOWN_REPORT is sent. -/
def execShlRecoverTimeout (side : Fin 2) (discarded : BitVec 16) (s : State) : Host.Outcome State Fault Refusal :=
  s.run (fun s => s.recoverTimeout side.val discarded.toNat)

/-- SHL_RECOVERED (R304): 1 µs of good flits returns a RECOVER link to UP. -/
def execShlRecovered (side : Fin 2) (s : State) : Host.Outcome State Fault Refusal :=
  s.run (fun s => s.recovered side.val)

/-- SHL_LANE_FAULT (R310): A shelf link lane fails and the link narrows to x4 within 8 µs or enters RECOVER. -/
def execShlLaneFault (side : Fin 2) (lane : Fin 8) (stall : Word) (s : State) : Host.Outcome State Fault Refusal :=
  s.run (fun s => s.shlLaneFault side.val lane.val stall.toNat)

/-- LINK_KEY_TICK (R308): Every 60 s the manager issues new link keys for each direction of each link. -/
def execLinkKeyTick (s : State) : Host.Outcome State Fault Refusal :=
  s.run (fun s => s.linkKeyTick)

/-- LINK_KEY_SELF_DERIVE (R308): A link with no new key for 120 s derives its next key at both ends and toggles KEY_PHASE. -/
def execLinkKeySelfDerive (side : Fin 2) (s : State) : Host.Outcome State Fault Refusal :=
  s.run (fun s => s.selfDerive side.val)

/-- PACKET_PASS_THROUGH (R309): A packet not addressed to the part is forwarded on the other link. -/
def execPacketPassThrough (side : Fin 2) (opcode : BitVec 8) (source : Fin 32) (destination : Fin 32) (units : Fin 512) (args : List Nat) (data : Option Line) (s : State) : Host.Outcome State Fault Refusal :=
  s.quick (fun s => s.passThrough side.val opcode.toNat source.val destination.val units.val args data)

end Sys2Proof.Machine
end

