-- ==== Sys2Proof/Machine/MailboxCmds.lean ====
section
/-! DEFINITION. Commands of the CXL mailbox (R82). Each command is one definition over the shared operations: `run` where its effect can make
work due at once, `quick` where it cannot (log entry 112). -/

namespace Sys2Proof.Machine

/-- GET_EVENT_RECORDS (R82): Mailbox command returns up to 63 event records. -/
def execGetEventRecords (head : Fin 8) (len : BitVec 21) (log : BitVec 8) (s : State) : Host.Outcome State Fault Refusal :=
  s.quick (fun s => s.getEventRecords head.val len.toNat log.toNat)

/-- CLEAR_EVENT_RECORDS (R79): Mailbox command clears matching event records and admits held forced-release notices. -/
def execClearEventRecords (head : Fin 8) (len : BitVec 21) (log : BitVec 8) (all : Bool) (handles : List (BitVec 16)) (s : State) : Host.Outcome State Fault Refusal :=
  s.quick (fun s => s.clearEventRecords head.val len.toNat log.toNat all (handles.map BitVec.toNat))

/-- GET_EVENT_INTERRUPT_POLICY (R82): Mailbox command returns the event interrupt policy. -/
def execGetEventInterruptPolicy (head : Fin 8) (len : BitVec 21) (s : State) : Host.Outcome State Fault Refusal :=
  s.quick (fun s => s.getEventPolicy head.val len.toNat)

/-- SET_EVENT_INTERRUPT_POLICY (R82): Mailbox command sets the event interrupt policy. -/
def execSetEventInterruptPolicy (head : Fin 8) (len : BitVec 21) (modes : List (Fin 16)) (vectors : List (Fin 256)) (s : State) : Host.Outcome State Fault Refusal :=
  s.quick (fun s => s.setEventPolicy head.val len.toNat (modes.map Fin.val) (vectors.map Fin.val))

/-- GET_FW_INFO (R82): Mailbox command reports the running firmware image. -/
def execGetFwInfo (head : Fin 8) (len : BitVec 21) (s : State) : Host.Outcome State Fault Refusal :=
  s.quick (fun s => s.getFwInfo head.val len.toNat)

/-- TRANSFER_FW (R82): Mailbox command Transfer FW returns Unsupported. -/
def execTransferFw (head : Fin 8) (s : State) : Host.Outcome State Fault Refusal :=
  s.quick (fun s => s.mbxUnsupported head.val 0x0201)

/-- ACTIVATE_FW (R82): Mailbox command Activate FW returns Unsupported. -/
def execActivateFw (head : Fin 8) (s : State) : Host.Outcome State Fault Refusal :=
  s.quick (fun s => s.mbxUnsupported head.val 0x0202)

/-- GET_TIMESTAMP (R334): Mailbox command returns rack time times 1,000 ns, or 0 before rack time has arrived. -/
def execGetTimestamp (head : Fin 8) (len : BitVec 21) (s : State) : Host.Outcome State Fault Refusal :=
  s.quick (fun s => s.getTimestamp head.val len.toNat)

/-- SET_TIMESTAMP (R82): Mailbox command Set Timestamp returns Unsupported. -/
def execSetTimestamp (head : Fin 8) (s : State) : Host.Outcome State Fault Refusal :=
  s.quick (fun s => s.mbxUnsupported head.val 0x0301)

/-- GET_SUPPORTED_LOGS (R82): Mailbox command lists the Command Effects Log. -/
def execGetSupportedLogs (head : Fin 8) (len : BitVec 21) (s : State) : Host.Outcome State Fault Refusal :=
  s.quick (fun s => s.getSupportedLogs head.val len.toNat)

/-- GET_LOG (R82): Mailbox command returns the Command Effects Log. -/
def execGetLog (head : Fin 8) (len : BitVec 21) (cel : Bool) (offset : Word) (size : Word) (s : State) : Host.Outcome State Fault Refusal :=
  s.quick (fun s => s.getLog head.val len.toNat cel offset.toNat size.toNat)

/-- IDENTIFY_MEMORY_DEVICE (R82): Mailbox command reports capacities, log sizes and limits of the head. -/
def execIdentifyMemoryDevice (head : Fin 8) (len : BitVec 21) (s : State) : Host.Outcome State Fault Refusal :=
  s.quick (fun s => s.identify head.val len.toNat)

/-- GET_PARTITION_INFO (R82): Mailbox command returns all values 0. -/
def execGetPartitionInfo (head : Fin 8) (len : BitVec 21) (s : State) : Host.Outcome State Fault Refusal :=
  s.quick (fun s => s.getPartitionInfo head.val len.toNat)

/-- GET_HEALTH_INFO (R244): Mailbox command reports health figures from HLT and WGV and the dirty shutdown count. -/
def execGetHealthInfo (head : Fin 8) (len : BitVec 21) (s : State) : Host.Outcome State Fault Refusal :=
  s.quick (fun s => s.getHealthInfo head.val len.toNat)

/-- GET_ALERT_CONFIG (R244): Mailbox command reads HLT_WARN. -/
def execGetAlertConfig (head : Fin 8) (len : BitVec 21) (s : State) : Host.Outcome State Fault Refusal :=
  s.quick (fun s => s.getAlertConfig head.val len.toNat)

/-- SET_ALERT_CONFIG (R244): Mailbox command writes the warning thresholds of HLT_WARN. -/
def execSetAlertConfig (head : Fin 8) (len : BitVec 21) (valid : BitVec 8) (life : BitVec 8) (temperature : BitVec 16) (s : State) : Host.Outcome State Fault Refusal :=
  s.quick (fun s => s.setAlertConfig head.val len.toNat valid.toNat life.toNat temperature.toNat)

/-- GET_SHUTDOWN_STATE (R82): Mailbox command reads the shutdown state from the parameter store. -/
def execGetShutdownState (head : Fin 8) (len : BitVec 21) (s : State) : Host.Outcome State Fault Refusal :=
  s.quick (fun s => s.getShutdownState head.val len.toNat)

/-- SET_SHUTDOWN_STATE (R82): Mailbox command stores the shutdown state in the parameter store. -/
def execSetShutdownState (head : Fin 8) (len : BitVec 21) (value : BitVec 8) (s : State) : Host.Outcome State Fault Refusal :=
  s.quick (fun s => s.setShutdownState head.val len.toNat value.toNat)

/-- GET_POISON_LIST (R82): Mailbox command returns retained poison records for the head's extents and window. -/
def execGetPoisonList (head : Fin 8) (len : BitVec 21) (start : BitVec 64) (size : BitVec 64) (s : State) : Host.Outcome State Fault Refusal :=
  s.quick (fun s => s.getPoisonList head.val len.toNat start.toNat size.toNat)

/-- INJECT_POISON (R82): Mailbox command sets POISON on one 64 B line as R75 does. -/
def execInjectPoison (head : Fin 8) (len : BitVec 21) (dpa : BitVec 64) (s : State) : Host.Outcome State Fault Refusal :=
  s.run (fun s => s.injectPoison head.val len.toNat dpa.toNat)

/-- CLEAR_POISON (R82): Mailbox command writes 64 B as a full-line write under the covering window's key. -/
def execClearPoison (head : Fin 8) (len : BitVec 21) (dpa : BitVec 64) (data : Line) (s : State) : Host.Outcome State Fault Refusal :=
  s.run (fun s => s.clearPoison head.val len.toNat dpa.toNat data)

/-- SANITIZE (R82): Mailbox command Sanitize returns Unsupported. -/
def execSanitize (head : Fin 8) (s : State) : Host.Outcome State Fault Refusal :=
  s.quick (fun s => s.mbxUnsupported head.val 0x4400)

/-- SECURE_ERASE (R82): Mailbox command Secure Erase returns Unsupported. -/
def execSecureErase (head : Fin 8) (s : State) : Host.Outcome State Fault Refusal :=
  s.quick (fun s => s.mbxUnsupported head.val 0x4401)

/-- GET_DYNAMIC_CAPACITY_CONFIG (R82): Mailbox command reports the 8 regions and the 256 MiB block size. -/
def execGetDynamicCapacityConfig (head : Fin 8) (len : BitVec 21) (count : BitVec 8) (start : BitVec 8) (s : State) : Host.Outcome State Fault Refusal :=
  s.quick (fun s => s.getDcConfig head.val len.toNat count.toNat start.toNat)

/-- GET_DYNAMIC_CAPACITY_EXTENT_LIST (R82): Mailbox command lists the head's ACTIVE and RELEASING extents. -/
def execGetDynamicCapacityExtentList (head : Fin 8) (len : BitVec 21) (count : Word) (start : Word) (s : State) : Host.Outcome State Fault Refusal :=
  s.quick (fun s => s.getDcExtents head.val len.toNat count.toNat start.toNat)

/-- ADD_DYNAMIC_CAPACITY_RESPONSE (R53): Host accepts offered extents, moving whole-accepted HXT entries to ACTIVE and others to FREE. -/
def execAddDynamicCapacityResponse (head : Fin 8) (len : BitVec 21) (extents : List (BitVec 64 × BitVec 64)) (s : State) : Host.Outcome State Fault Refusal :=
  s.run (fun s => s.addDcResponse head.val len.toNat (extents.map (fun x => (x.1.toNat, x.2.toNat))))

/-- RELEASE_DYNAMIC_CAPACITY (R52): Host releases extents and each HXT entry passes to RELEASING. -/
def execReleaseDynamicCapacity (head : Fin 8) (len : BitVec 21) (extents : List (BitVec 64 × BitVec 64)) (s : State) : Host.Outcome State Fault Refusal :=
  s.run (fun s => s.releaseDc head.val len.toNat (extents.map (fun x => (x.1.toNat, x.2.toNat))))

/-- MAILBOX_UNSUPPORTED (R82): An unlisted mailbox opcode returns Unsupported. -/
def execMailboxUnsupported (head : Fin 8) (opcode : BitVec 16) (s : State) : Host.Outcome State Fault Refusal :=
  s.quick (fun s => s.mbxUnlisted head.val opcode.toNat)

end Sys2Proof.Machine
end

