-- ==== Sys2Proof/Machine/MapCmds.lean ====
section
/-! DEFINITION. Commands of the map and the patch index (chapter 6). Each command is one definition over the shared operations: `run` where its effect can make
work due at once, `quick` where it cannot (log entry 112). -/

namespace Sys2Proof.Machine

/-- MAP_LOOKUP_DONE (R171): A map entry returns and the miss pipeline serves poison or zero, or issues the base read. -/
def execMapLookupDone (miss : Nat) (parity0 : BitVec 64) (parity1 : BitVec 64) (s : State) : Host.Outcome State Fault Refusal :=
  s.run (fun s => s.mapLookup miss parity0.toNat parity1.toNat)

/-- PTX_LOOKUP_DONE (R171): A patch-index lookup answers and the base read is kept or squashed and the patch is read. -/
def execPtxLookupDone (miss : Nat) (parity0 : BitVec 64) (parity1 : BitVec 64) (s : State) : Host.Outcome State Fault Refusal :=
  s.run (fun s => s.ptxLookup miss parity0.toNat parity1.toNat)

/-- SEG_REBUILD_DONE (R110): A rebuild of a map segment or patch-index block from media completes and waiting requests continue. -/
def execSegRebuildDone (index : Nat) (s : State) : Host.Outcome State Fault Refusal :=
  s.run (fun s => s.segRebuilt index)

/-- MAP_ACC_PAGE (R186): A write of MAP_ACC_PAGE starts a lookup of one map entry into MAP_ACC_LO and MAP_ACC_HI. -/
def execMapAccPage (path : Path) (page : Word) (s : State) : Host.Outcome State Fault Refusal :=
  s.quick (fun s => s.mapAccPage path page.toNat)

/-- PTX_ACC_START (R187): PTX_ACC_CMD.START looks up the patch-index slot of a page and line. -/
def execPtxAccStart (path : Path) (line : Fin 64) (s : State) : Host.Outcome State Fault Refusal :=
  s.quick (fun s => s.ptxAccStart path line.val)

/-- INSPECT_DONE (R186): A map, patch-index or field-table inspection completes and its result registers are filled. -/
def execInspectDone (kind : Fin 3) (s : State) : Host.Outcome State Fault Refusal :=
  s.quick (fun s => if kind.val = 0 then s.mapInspected else if kind.val = 1 then s.ptxInspected else s.ageInspected)

end Sys2Proof.Machine
end

