-- ==== Sys2Proof/Machine/MediaCmds.lean ====
section
/-! DEFINITION. Commands of the media channels and dies (chapter 5). Each command is one definition over the shared operations: `run` where its effect can make
work due at once, `quick` where it cannot (log entry 112). -/

namespace Sys2Proof.Machine

/-- MEDIA_READ_DATA (R171): A media frame is collected by DATA_OUT, decoded and verified, or retried, reconstructed or ended in poison. -/
def execMediaReadData (read : Nat) (errors : List (Fin 65 × Fin 14)) (s : State) : Host.Outcome State Fault Refusal :=
  s.run (fun s => s.readCollected read (errors.map (fun x => (x.1.val, x.2.val))))

/-- RECONSTRUCT_DONE (R146): All frames of a reconstruction read are collected and XORed and the result goes to verification. -/
def execReconstructDone (miss : Nat) (fixed : BitVec 16) (bad : BitVec 16) (s : State) : Host.Outcome State Fault Refusal :=
  s.run (fun s => s.reconRow miss fixed.toNat bad.toNat)

/-- MEDIA_ATTENTION (R151): Mc_RDY_N asserts and the part reads attention and status of each partition with DONE pending, ending programs and resets. -/
def execMediaAttention (channel : Fin 16) (die : Fin 8) (partition : Fin 16) (result : ArrayEnd) (s : State) : Host.Outcome State Fault Refusal :=
  s.run (fun s => s.opEnded ((channel.val * 8 + die.val) * 16 + partition.val) result)

/-- SUSPEND_TIMEOUT (R154): Five microseconds after a suspend the part sends RESUME to the partition. -/
def execSuspendTimeout (channel : Fin 16) (die : Fin 8) (partition : Fin 16) (s : State) : Host.Outcome State Fault Refusal :=
  s.quick (fun s => s.suspendTimeout channel.val die.val partition.val)

/-- MCH_POR_DONE (R156): After t_POR the channel sends DIE_RESET, CALIBRATE and READ_ID and classifies each die. -/
def execMchPorDone (channel : Fin 16) (ids : List (BitVec 128)) (calibrated : Bool) (s : State) : Host.Outcome State Fault Refusal :=
  s.run (fun s => s.porDone channel.val ids calibrated)

/-- MEDIA_CMD_TIMEOUT (R158): A die fails to answer a command correctly or a read is not READY within 2 µs. -/
def execMediaCmdTimeout (channel : Fin 16) (die : Fin 8) (notReady : Bool) (between : Bool) (s : State) : Host.Outcome State Fault Refusal :=
  s.run (fun s => s.cmdTimeout channel.val die.val notReady between)

/-- ARRAY_OP_TIMEOUT (R158): An array operation on a die does not end within the bound of R154, and the die is declared failed. -/
def execArrayOpTimeout (channel : Fin 16) (die : Fin 8) (partition : Fin 16) (s : State) : Host.Outcome State Fault Refusal :=
  s.run (fun s => s.arrayTimeout channel.val die.val partition.val)

/-- DIE_FAIL_RECORD (R158): Ten microseconds after a die is declared failed without a second die failing, it is recorded FAILED in the parameter store. -/
def execDieFailRecord (channel : Fin 16) (die : Fin 8) (s : State) : Host.Outcome State Fault Refusal :=
  s.run (fun s => s.dieRecord channel.val die.val)

/-- RDY_N_STUCK (R159): Mc_RDY_N stays low for 1 ms with nothing pending and the channel faults. -/
def execRdyNStuck (channel : Fin 16) (s : State) : Host.Outcome State Fault Refusal :=
  s.run (fun s => s.channelFault channel.val 2)

/-- CHAN_RETRAIN (R160): Every 100 ms a faulted channel retrains by DIE_RESET, CALIBRATE and READ_ID, closing CHAN_FAULT and opening REBUILD on success. -/
def execChanRetrain (channel : Fin 16) (passed : Bool) (s : State) : Host.Outcome State Fault Refusal :=
  s.run (fun s => s.retrained channel.val passed)

/-- REBUILD_DONE (R162): Every stale field of the channel has been reset and REBUILD closes. -/
def execRebuildDone (channel : Fin 16) (s : State) : Host.Outcome State Fault Refusal :=
  s.run (fun s => s.rebuilt channel.val)

/-- MCH_FLIP_ARM (R163): Arming MCH_FLIP_CTL corrupts the check bytes of the next program to the target die and raises FLIP_APPLIED. -/
def execMchFlipArm (path : Path) (channel : Fin 16) (value : Word) (s : State) : Host.Outcome State Fault Refusal :=
  s.quick (fun s => s.flipArm path channel.val value)

end Sys2Proof.Machine
end

