-- ==== Sys2Proof/Machine/MgmtCmds.lean ====
section
/-! DEFINITION. Abager and FM API commands (chapter 15). Each command is one definition over the shared operations: `run` where its effect can make
work due at once, `quick` where it cannot (log entry 112). -/

namespace Sys2Proof.Machine

/-- GET_INFO (R398): Abager GET_INFO returns identity, stepping, shelf ID, role, firmware version and EID. -/
def execGetInfo (message : Abager) (s : State) : Host.Outcome State Fault Refusal :=
  s.quick (fun s => s.getInfo message)

/-- GET_HEALTH (R398): Abager GET_HEALTH returns the health summary. -/
def execGetHealth (message : Abager) (s : State) : Host.Outcome State Fault Refusal :=
  s.quick (fun s => s.getHealth message)

/-- GET_OP_STATUS (R398): Abager GET_OP_STATUS reports the running and last long operation. -/
def execGetOpStatus (message : Abager) (s : State) : Host.Outcome State Fault Refusal :=
  s.quick (fun s => s.getOpStatus message)

/-- REG_READ (R399): Abager REG_READ reads a range of registers as management-path accesses. -/
def execRegRead (message : Abager) (s : State) : Host.Outcome State Fault Refusal :=
  s.run (fun s => (s.on Board.followCounters).regRead message)

/-- REG_WRITE (R399): Abager REG_WRITE writes a range of registers as management-path accesses. -/
def execRegWrite (message : Abager) (s : State) : Host.Outcome State Fault Refusal :=
  s.run (fun s => s.regWrite message)

/-- UNIT_STATE_LIST (R398): Abager UNIT_STATE_LIST returns UNIT_STATE of all 512 pages. -/
def execUnitStateList (message : Abager) (s : State) : Host.Outcome State Fault Refusal :=
  s.quick (fun s => s.unitList message)

/-- MEM_READ (R400): Abager MEM_READ reads pool lines under its key index, reporting poison in a bitmap. -/
def execMemRead (message : Abager) (s : State) : Host.Outcome State Fault Refusal :=
  s.run (fun s => s.memAccess message false)

/-- MEM_WRITE (R400): Abager MEM_WRITE writes whole lines and responds after each is serialised. -/
def execMemWrite (message : Abager) (s : State) : Host.Outcome State Fault Refusal :=
  s.run (fun s => s.memAccess message true)

/-- TIME_SET (R336): Abager TIME_SET delivers a rack time value for the next boundary. -/
def execTimeSet (message : Abager) (s : State) : Host.Outcome State Fault Refusal :=
  s.quick (fun s => s.timeSet message)

/-- TIME_GET (R398): Abager TIME_GET returns rack time and RTM_STAT. -/
def execTimeGet (message : Abager) (s : State) : Host.Outcome State Fault Refusal :=
  s.quick (fun s => s.timeGet message)

/-- KEY_EK_GET (R280): Abager KEY_EK_GET returns the encapsulation key and nonce. -/
def execKeyEkGet (message : Abager) (s : State) : Host.Outcome State Fault Refusal :=
  s.quick (fun s => s.keyEkGet message)

/-- KEY_IMPORT (R281): Abager KEY_IMPORT imports a wrapped seed into a slot. -/
def execKeyImport (message : Abager) (seed : Option Line) (s : State) : Host.Outcome State Fault Refusal :=
  s.run (fun s => s.keyImport message (seed.map BitVec.toNat))

/-- KEY_CLEAR (R282): Abager KEY_CLEAR clears a key slot. -/
def execKeyClear (message : Abager) (s : State) : Host.Outcome State Fault Refusal :=
  s.run (fun s => s.keyClear message)

/-- FW_TRANSFER (R412): Abager FW_TRANSFER writes a chunk into the transfer buffer. -/
def execFwTransfer (message : Abager) (s : State) : Host.Outcome State Fault Refusal :=
  s.quick (fun s => s.fwChunk message)

/-- FW_ACTIVATE (R412): Abager FW_ACTIVATE starts verification and programming of the buffered image. -/
def execFwActivate (message : Abager) (s : State) : Host.Outcome State Fault Refusal :=
  s.quick (fun s => s.fwStart message)

/-- ACTIVATE_DONE (R412): A firmware activation completes, NEXT is set and ACTIVATE_DONE is raised. -/
def execActivateDone (publicKey : Bool) (signature : Bool) (s : State) : Host.Outcome State Fault Refusal :=
  s.quick (fun s => s.activateDone publicKey signature)

/-- GET_DCD_INFO (R401): FM API command returns DCD information on the manager. -/
def execGetDcdInfo (eid : BitVec 8) (s : State) : Host.Outcome State Fault Refusal :=
  s.run (fun s => s.fmInfo eid.toNat)

/-- GET_HOST_DC_REGION_CONFIGURATION (R401): FM API command returns a host's DC region configuration. -/
def execGetHostDcRegionConfiguration (eid : BitVec 8) (host : BitVec 16) (s : State) : Host.Outcome State Fault Refusal :=
  s.run (fun s => s.fmRegions eid.toNat host.toNat)

/-- GET_DC_REGION_EXTENT_LISTS (R401): FM API command returns DC region extent lists. -/
def execGetDcRegionExtentLists (eid : BitVec 8) (host : BitVec 16) (s : State) : Host.Outcome State Fault Refusal :=
  s.run (fun s => s.fmExtents eid.toNat host.toNat)

/-- INITIATE_DYNAMIC_CAPACITY_ADD (R401): FM API command grants an extent in the order of R54. -/
def execInitiateDynamicCapacityAdd (eid : BitVec 8) (placement : Placement) (s : State) : Host.Outcome State Fault Refusal :=
  s.run (fun s => s.fmAdd eid.toNat placement)

/-- INITIATE_DYNAMIC_CAPACITY_RELEASE (R401): FM API command releases an extent in reverse grant order. -/
def execInitiateDynamicCapacityRelease (eid : BitVec 8) (extent : BitVec 21) (forced : Bool) (s : State) : Host.Outcome State Fault Refusal :=
  s.run (fun s => s.fmRelease eid.toNat extent.toNat forced)

end Sys2Proof.Machine
end

