-- ==== Sys2Proof/Machine/PowerCmds.lean ====
section
/-! DEFINITION. Commands of power, resets and start-up (chapters 13, 14 and 20). Each command is one definition over the shared operations: `run` where its effect can make
work due at once, `quick` where it cannot (log entry 112). -/

namespace Sys2Proof.Machine

/-- COLD_RESET (R12): Loss and return of supplies resets the whole part including PD00 and reloads the parameter store. -/
def execColdReset (tamperLow : Bool) (s : State) : Host.Outcome State Fault Refusal :=
  s.quick (fun s => s.coldReset tamperLow)

/-- STRAP_SAMPLE (R500): At T0 + 1 ms the part samples SHELF_ID and ROLE and refuses manager duties for a ROLE strap on a non-zero shelf ID. -/
def execStrapSample (shelf : Fin 32) (role : Bool) (s : State) : Host.Outcome State Fault Refusal :=
  s.quick (fun s => s.strapSample shelf.val role)

/-- RESET_N (R377): An assertion of RESET_N starts a drain in RUN or takes a WARM reset at once in other states. -/
def execResetN (ns : Nat) (s : State) : Host.Outcome State Fault Refusal :=
  s.run (fun s => s.resetN ns)

/-- RESET_N_RELEASE (R499): Release of RESET_N lets the part leave sequence state 0 after a WARM reset, so the management path answers and STANDBY and the milestones follow. -/
def execResetNRelease (s : State) : Host.Outcome State Fault Refusal :=
  s.quick (fun s => s.resetRelease)

/-- SEQ_START (R358): SEQ_CMD START leaves STANDBY for state 2 and closes SEQ_CAUSE. -/
def execSeqStart (path : Path) (s : State) : Host.Outcome State Fault Refusal :=
  s.quick (fun s => s.seqStart path)

/-- POWER_DOWN (R376): SEQ_CMD POWER_DOWN runs the clean shutdown and then the downward order. -/
def execPowerDown (path : Path) (s : State) : Host.Outcome State Fault Refusal :=
  s.run (fun s => s.powerDown path)

/-- SEQ_STATE_SETTLED (R359): Every input of a sequence state has been high for 100 µs and the part releases SEQ_STEP or advances. -/
def execSeqStateSettled (s : State) : Host.Outcome State Fault Refusal :=
  s.run (fun s => s.stateSettled)

/-- SEQ_STEP_TIMEOUT (R359): A state not settled 20 ms after its first enable fails the attempt. -/
def execSeqStepTimeout (rail : Fin 64) (s : State) : Host.Outcome State Fault Refusal :=
  s.run (fun s => s.stepTimeout rail.val)

/-- SEQ_RETRY_WAIT_DONE (R360): After 100 ms in RETRY_WAIT the sequence restarts or stops with RETRY_EXHAUSTED. -/
def execSeqRetryWaitDone (s : State) : Host.Outcome State Fault Refusal :=
  s.quick (fun s => s.retryWaitDone)

/-- SEQ_DOWN_STEP_DONE (R357): A downward state's power-good falls or 10 ms pass and the part continues down or reaches STANDBY. -/
def execSeqDownStepDone (s : State) : Host.Outcome State Fault Refusal :=
  s.run (fun s => s.downStepDone)

/-- SEQ_STEP_HIGH (R364): SEQ_STEP is sampled high for 2 µs and the part advances to its next state. -/
def execSeqStepHigh (s : State) : Host.Outcome State Fault Refusal :=
  s.run (fun s => s.stepHigh)

/-- SEQ_SOLO (R364): A part that waited 25 ms for SEQ_STEP stops driving it and paces alone. -/
def execSeqSolo (s : State) : Host.Outcome State Fault Refusal :=
  s.quick (fun s => s.seqSolo)

/-- RAIL_FAULT (R367): A required input sampled low for 1 µs in RUN causes full shut-off without drain. -/
def execRailFault (rail : Fin 64) (s : State) : Host.Outcome State Fault Refusal :=
  s.run (fun s => s.railFault rail.val)

/-- CHATTER (R359): A low sample of a power-good input restarts its 100 µs settle timer, adds to its chatter count and raises CHATTER, or is ignored as shorter than 1 µs in RUN. -/
def execChatter (rail : Fin 64) (s : State) : Host.Outcome State Fault Refusal :=
  s.quick (fun s => s.chatter rail.val)

/-- PFAIL (R371): PFAIL_N qualified in RUN enters DRAIN, withholds credits and starts the ADMIT phase. -/
def execPfail (s : State) : Host.Outcome State Fault Refusal :=
  s.run (fun s => s.pfail)

/-- PFAIL_GLITCH (R369): A PFAIL_N low shorter than 1 µs is counted and raises PFAIL_GLITCH. -/
def execPfailGlitch (ns : Fin 1000) (s : State) : Host.Outcome State Fault Refusal :=
  s.quick (fun s => s.pfailGlitch ns.val)

/-- ADMIT_END (R371): 10 µs after qualification the homes stop admitting writes and the ledger takes DRAINING. -/
def execAdmitEnd (s : State) : Host.Outcome State Fault Refusal :=
  s.run (fun s => s.admitEnd)

/-- DRAINED (R371): The last dirty line is persistent, the ledger takes DRAINED and the part continues down or returns to RUN. -/
def execDrained (s : State) : Host.Outcome State Fault Refusal :=
  s.run (fun s => s.drained)

/-- PFAIL_RELEASE (R369): PFAIL_N high for 1 ms counts as released. -/
def execPfailRelease (s : State) : Host.Outcome State Fault Refusal :=
  s.quick (fun s => s.pfailRelease)

/-- CPX_FAULT (R474): An uncorrectable fault of the processor complex or both firmware store copies causes a fatal stop. -/
def execCpxFault (page : Fin 512) (event : Fin 32) (info : Word) (s : State) : Host.Outcome State Fault Refusal :=
  s.run (fun s => s.cpxFault page.val event.val info.toNat)

/-- THERMTRIP_CHECK (R466): Every 100 µs die sensors are compared against 130 °C and THERMTRIP_N asserts with full shut-off on a confirmed trip. -/
def execThermtripCheck (readings : List (Option (BitVec 16))) (s : State) : Host.Outcome State Fault Refusal :=
  s.run (fun s => s.thermtrip (readings.map (fun x => x.map BitVec.toInt)))

/-- HBM_TRAIN_DONE (R383): An HBM stack finishes training after RUN and the part runs INV_ALL and restore. -/
def execHbmTrainDone (stack : Fin 4) (bad : Word) (s : State) : Host.Outcome State Fault Refusal :=
  s.run (fun s => s.hbmTrainDone stack.val bad.toNat)

/-- HBM_TRAIN_TIMEOUT (R383): A stack not trained within 120 ms of RUN is failed. -/
def execHbmTrainTimeout (stack : Fin 4) (s : State) : Host.Outcome State Fault Refusal :=
  s.run (fun s => s.hbmTrainTimeout stack.val)

/-- META_RESTORE (R384): Key slots, field and epoch tables and extent tables are restored from META and CKP chooses clean start or replay. -/
def execMetaRestore (directoryBad : Bool) (segmentBad : Bool) (s : State) : Host.Outcome State Fault Refusal :=
  s.run (fun s => s.metaRestore directoryBad segmentBad)

/-- ENTER_SERVICE (R385): XTN enters service, the ledger takes RUN and the anti-rollback counters advance. -/
def execEnterService (s : State) : Host.Outcome State Fault Refusal :=
  s.run (fun s => s.enterService)

/-- OBJECT_LOAD_DONE (R386): A checkpoint object finishes loading on demand or in background, and waiting lookups continue. -/
def execObjectLoadDone (object : Fin 32768) (s : State) : Host.Outcome State Fault Refusal :=
  s.run (fun s => s.objectLoadDone object.val)

/-- PROVISION (R388): Abager PROVISION builds empty tables, writes a directory and CKP_ROOT and continues as a clean start. -/
def execProvision (message : Abager) (s : State) : Host.Outcome State Fault Refusal :=
  s.run (fun s => s.provisionMessage message)

end Sys2Proof.Machine
end

