-- ==== Sys2Proof/Machine/QueueCmds.lean ====
section
/-! DEFINITION. Commands of the event queues, regulation and the performance counters (chapters 18 and 19). Each command is one definition over the shared operations: `run` where its effect can make
work due at once, `quick` where it cannot (log entry 112). -/

namespace Sys2Proof.Machine

/-- START (R453): EVQ_PUSH_CTL.START reserves a packet's length word in a queue. -/
def execPushStart (path : Path) (queue : Fin 64) (length : BitVec 16) (s : State) : Host.Outcome State Fault Refusal :=
  s.quick (fun s => s.pushStart path queue.val length.toNat)

/-- PUSH_DATA (R453): A write of EVQ_PUSH_DATA appends 4 B to the open packet. -/
def execPushData (path : Path) (data : Word) (s : State) : Host.Outcome State Fault Refusal :=
  s.quick (fun s => s.pushData path data)

/-- END (R453): EVQ_PUSH_CTL.END writes the length word and makes the packet visible. -/
def execPushEnd (path : Path) (s : State) : Host.Outcome State Fault Refusal :=
  s.quick (fun s => s.pushEnd path)

/-- PUSH_TIMEOUT (R452): A push open for 10 ms is closed TRUNCATED. -/
def execPushTimeout (path : Path) (s : State) : Host.Outcome State Fault Refusal :=
  s.quick (fun s => s.pushTimeout path)

/-- POP (R454): EVQ_RD_CTL.POP frees the head packet of the selected queue. -/
def execQueuePop (path : Path) (s : State) : Host.Outcome State Fault Refusal :=
  s.quick (fun s => s.pop path)

/-- QOS_WINDOW (R457): A regulation window boundary resets master counts and applies pending configuration. -/
def execQosWindow (s : State) : Host.Outcome State Fault Refusal :=
  s.run (fun s => s.qosWindow)

/-- QOS_PROMOTE (R458): A LOW request that waited AGE_US at one point becomes NORMAL. -/
def execQosPromote (master : Fin 64) (point : Fin 4) (request : Nat) (s : State) : Host.Outcome State Fault Refusal :=
  s.quick (fun s => s.qosPromote master.val point.val request)

/-- SNAP (R470): PMC_CTL.SNAP latches the counters of listed pages into PMC_SNAP. -/
def execSnap (path : Path) (s : State) : Host.Outcome State Fault Refusal :=
  s.quick (fun s => (s.on Board.followCounters).snap path)

/-- PMC_AUTO_SNAP (R470): Each PMC_PERIOD with AUTO = 1 takes a snapshot or counts a skip. -/
def execPmcAutoSnap (s : State) : Host.Outcome State Fault Refusal :=
  s.quick (fun s => (s.on Board.followCounters).autoSnap)

/-- SNAP_DONE (R470): A snapshot completes, BUSY clears and SNAP_DONE is raised. -/
def execSnapDone (s : State) : Host.Outcome State Fault Refusal :=
  s.quick (fun s => s.snapDone)

/-- TRV_SCRUB (R480): Every SCRUB_US TRV votes each word, repairing one bad copy or making a fatal stop. -/
def execTrvScrub (upsets : List (Fin 32 × Fin 3 × Word)) (s : State) : Host.Outcome State Fault Refusal :=
  s.run (fun s => s.trvScrub (upsets.map (fun x => (x.1.val, x.2.1.val, x.2.2.toNat))))

/-- TRV_FLIP_ARM (R485): TRV_FLIP_CTL.ARM corrupts one copy of a word at the next scrub in TEST. -/
def execTrvFlipArm (path : Path) (copy : Fin 4) (word : Fin 32) (s : State) : Host.Outcome State Fault Refusal :=
  s.quick (fun s => s.trvFlipArm path copy.val word.val)

end Sys2Proof.Machine
end

