-- ==== Sys2Proof/Machine/RegisterCmds.lean ====
section
/-! DEFINITION. Commands of the registers, the unit states and the page events (chapter 0). Each command is one definition over the shared operations: `run` where its effect can make
work due at once, `quick` where it cannot (log entry 112). -/

namespace Sys2Proof.Machine

/-- REGISTER_WRITE (R11): A host-path or management-path write to a register that has no row of its own, applied by access code and checked under R7 to R10. -/
def execRegisterWrite (path : Path) (offset : BitVec 21) (size : Fin 65) (value : BitVec 64) (s : State) : Host.Outcome State Fault Refusal :=
  s.run (fun s => s.writeAccess path false offset.toNat size.val value.toNat)

/-- READ_CLEAR (R11): A read of an RC field returns its value and then clears the field. -/
def execReadClear (path : Path) (offset : BitVec 21) (size : Fin 65) (s : State) : Host.Outcome State Fault Refusal :=
  s.run (fun s => (s.on Board.followCounters).readAccess path offset.toNat size.val)

/-- UNMAPPED_ACCESS (R488): An access to an unimplemented page reads zero or is discarded, is counted in DEV_UNMAPPED and raises UNMAPPED_ACCESS. -/
def execUnmappedAccess (path : Path) (write : Bool) (offset : BitVec 21) (size : Fin 65) (s : State) : Host.Outcome State Fault Refusal :=
  s.quick (fun s => if implemented (offset.toNat / 4096) then s else if write then s.writeAccess path false offset.toNat size.val 0 else s.readAccess path offset.toNat size.val)

/-- UNIT_CMD (R22): A UNIT_CMD write or Abager UNIT_CMD message is checked against UNIT_STATE and either rejected or accepted as a state change request. -/
def execUnitCmd (request : UnitRequest) (s : State) : Host.Outcome State Fault Refusal :=
  s.quick (fun s => s.unitRequest request)

/-- UNIT_STATE_CHANGE_DONE (R24): An accepted state change completes, PENDING clears and the unit takes its new state with a new epoch. -/
def execUnitStateChangeDone (page : Fin 512) (s : State) : Host.Outcome State Fault Refusal :=
  s.run (fun s => s.unitDone page.val)

/-- UNIT_INIT_DONE (R24): Initialisation of a unit completes and it enters SERVICE, DEGRADED or CONTAINED. -/
def execUnitInitDone (page : Fin 512) (s : State) : Host.Outcome State Fault Refusal :=
  s.run (fun s => s.unitInitDone page.val)

/-- EVT_STATUS_CLEAR (R18): A W1C write to EVT_STATUS clears bits and releases the capture when the captured event's bit clears. -/
def execEvtStatusClear (path : Path) (page : Fin 512) (bits : Word) (s : State) : Host.Outcome State Fault Refusal :=
  s.quick (fun s => s.writeAccess path false (page.val * 4096 + 0x010) 4 bits.toNat)

/-- EVT_FORCE (R20): A write to EVT_FORCE sets status bits and fills the capture as a forced event. -/
def execEvtForce (path : Path) (page : Fin 512) (bits : Word) (s : State) : Host.Outcome State Fault Refusal :=
  s.quick (fun s => s.writeAccess path false (page.val * 4096 + 0x018) 4 bits.toNat)

/-- EVT_ENABLE_WRITE (R19): A write to EVT_ENABLE that makes EVT_STATUS AND EVT_ENABLE non-zero sends a notice to EVT_ROUTE.DEST. -/
def execEvtEnableWrite (path : Path) (page : Fin 512) (bits : Word) (s : State) : Host.Outcome State Fault Refusal :=
  s.quick (fun s => s.writeAccess path false (page.val * 4096 + 0x014) 4 bits.toNat)

/-- PAGE_LOCK_SET (R21): Writing 1 to PAGE_LOCK.LOCK makes the page's RWL fields read-only until WARM or COLD reset. -/
def execPageLockSet (path : Path) (page : Fin 512) (s : State) : Host.Outcome State Fault Refusal :=
  s.quick (fun s => s.writeAccess path false (page.val * 4096 + F.PAGE_LOCK.LOCK.off) 4 1)

/-- LOCK_ALL (R493): A write of DEV_CTL.LOCK_ALL sets PAGE_LOCK.LOCK of every implemented powered page. -/
def execLockAll (path : Path) (s : State) : Host.Outcome State Fault Refusal :=
  s.quick (fun s => s.writeAccess path false (pDEV * 4096 + F.DEV_CTL.LOCK_ALL.off) 4 1)

/-- CONTAINMENT (R476): A data-path checker opens a containment cause, moves the unit to CONTAINED and logs the fault. -/
def execContainment (page : Fin 512) (code : Fin 256) (info1 : Word) (info2 : Word) (s : State) : Host.Outcome State Fault Refusal :=
  s.run (fun s => s.containment page.val code.val info1.toNat info2.toNat)

/-- INTERNAL_CLEAR (R476): A management-path write of 1 to an INTERNAL cause bit closes that cause. -/
def execInternalClear (path : Path) (page : Fin 512) (s : State) : Host.Outcome State Fault Refusal :=
  s.quick (fun s => s.internalRow path page.val)

end Sys2Proof.Machine
end

