-- ==== Sys2Proof/Machine/RingCmds.lean ====
section
/-! DEFINITION. Line packets of the shelf ring (chapter 11). Each command is one definition over the shared operations: `run` where its effect can make
work due at once, `quick` where it cannot (log entry 112). -/

namespace Sys2Proof.Machine

/-- MRD (R49): A forwarded line read arrives at the owner, is checked against the LXT and served. -/
def execMrd (line : RingLine) (s : State) : Host.Outcome State Fault Refusal :=
  s.run (fun s => s.mrd (ringLine .read line 0 0 false))

/-- MWR (R323): A full-line write to the lead copy is checked and serialised, with ORDER sent for a mirrored line. -/
def execMwr (line : RingLine) (data : Line) (poison : Bool) (s : State) : Host.Outcome State Fault Refusal :=
  s.run (fun s => s.mwr (ringLine .write line data allBytes poison))

/-- MWRP (R324): A partial write to the lead copy fills, merges and is ordered. -/
def execMwrp (line : RingLine) (data : Line) (mask : BitVec 64) (poison : Bool) (s : State) : Host.Outcome State Fault Refusal :=
  s.run (fun s => s.mwr (ringLine .write line data mask.toNat poison))

/-- MWR_M (R323): A full-line write to the other copy is held for its ORDER. -/
def execMwrM (line : RingLine) (data : Line) (poison : Bool) (again : Bool) (s : State) : Host.Outcome State Fault Refusal :=
  s.run (fun s => s.mwrM (ringLine .write line data allBytes poison) again)

/-- MWRP_M (R324): A partial write to the other copy is held for its ORDER. -/
def execMwrpM (line : RingLine) (data : Line) (mask : BitVec 64) (poison : Bool) (again : Bool) (s : State) : Host.Outcome State Fault Refusal :=
  s.run (fun s => s.mwrM (ringLine .write line data mask.toNat poison) again)

/-- RSV (R271): A reservation operation arrives at the lead home and is serialised. -/
def execRsv (line : RingLine) (op : Fin 4) (word : Fin 4) (value : BitVec 128) (slot : Fin 32) (s : State) : Host.Outcome State Fault Refusal :=
  s.run (fun s => s.rsvPacket (ringRsv op.val line word.val value.toNat slot.val))

/-- MRSP (R322): Read data and status return to the ingress part and are answered to the requester. -/
def execMrsp (oid : BitVec 16) (tag : BitVec 16) (status : Fin 8) (data : Line) (s : State) : Host.Outcome State Fault Refusal :=
  s.run (fun s => s.mrsp oid.toNat tag.toNat status.val data)

/-- TICKET (R323): A ticket arrives at the ingress part and the write is ticketed on that copy. -/
def execTicket (oid : BitVec 16) (tag : BitVec 16) (copy : Fin 2) (status : Fin 8) (s : State) : Host.Outcome State Fault Refusal :=
  s.run (fun s => s.ticketPacket oid.toNat tag.toNat copy.val status.val)

/-- HOLD (R257): The home reports a held write and the entry stays in the posted-write buffer. -/
def execHold (oid : BitVec 16) (tag : BitVec 16) (s : State) : Host.Outcome State Fault Refusal :=
  s.run (fun s => s.holdPacket oid.toNat tag.toNat)

/-- PULL (R257): The home calls for a held write's data and the ingress part sends MWR_DATA. -/
def execPull (source : Fin 32) (oid : BitVec 16) (tag : BitVec 16) (s : State) : Host.Outcome State Fault Refusal :=
  s.run (fun s => s.pullPacket source.val oid.toNat tag.toNat)

/-- MWR_DATA (R257): A held write's data arrives at the home and is applied in its ticketed place. -/
def execMwrData (oid : BitVec 16) (tag : BitVec 16) (data : Line) (mask : BitVec 64) (poison : Bool) (s : State) : Host.Outcome State Fault Refusal :=
  s.run (fun s => s.mwrData oid.toNat tag.toNat data mask.toNat poison)

/-- PERSISTED (R263): The owner reports a covered write persistent to the ingress part. -/
def execPersisted (oid : BitVec 16) (tag : BitVec 16) (copy : Fin 2) (s : State) : Host.Outcome State Fault Refusal :=
  s.run (fun s => s.persistedPacket oid.toNat tag.toNat copy.val)

/-- RSV_RSP (R273): The result of a reservation operation returns to the ingress part. -/
def execRsvRsp (oid : BitVec 16) (tag : BitVec 16) (result : Fin 8) (loss : Fin 4) (word : BitVec 128) (s : State) : Host.Outcome State Fault Refusal :=
  s.run (fun s => s.rsvRsp oid.toNat tag.toNat result.val loss.val word.toNat)

/-- ORDER (R323): The partner receives a write's MON and applies held writes strictly in MON order. -/
def execOrder (order : Word) (ingress : Fin 32) (tag : BitVec 16) (poison : Bool) (s : State) : Host.Outcome State Fault Refusal :=
  s.run (fun s => s.orderPacket order.toNat ingress.val tag.toNat poison)

/-- ORDER_ACK (R323): The lead receives ORDER_ACK, serialises the write and sends TICKET, or resends a merged line on FILL_FAIL. -/
def execOrderAck (order : Word) (fillFail : Bool) (s : State) : Host.Outcome State Fault Refusal :=
  s.run (fun s => s.orderAck order.toNat fillFail)

end Sys2Proof.Machine
end

