-- ==== Sys2Proof/Machine/SecurityCmds.lean ====
section
/-! DEFINITION. Commands of the security island (chapter 16). Each command is one definition over the shared operations: `run` where its effect can make
work due at once, `quick` where it cannot (log entry 112). -/

namespace Sys2Proof.Machine

/-- SPDM_REQUEST (R413): An SPDM 1.3 request is answered within the supported capabilities. -/
def execSpdmRequest (mailbox : Option (Fin 8)) (session : BitVec 16) (code : BitVec 8) (authentic : Bool) (s : State) : Host.Outcome State Fault Refusal :=
  s.quick (fun s => s.spdmRequest (mailbox.map Fin.val) session.toNat code.toNat authentic)

/-- GET_MEASUREMENTS (R414): SPDM GET_MEASUREMENTS reports the measurement blocks. -/
def execGetMeasurements (mailbox : Option (Fin 8)) (session : BitVec 16) (index : BitVec 8) (sign : Bool) (s : State) : Host.Outcome State Fault Refusal :=
  s.quick (fun s => s.getMeasurements (mailbox.map Fin.val) session.toNat index.toNat sign)

/-- KEY_EXCHANGE (R415): SPDM KEY_EXCHANGE sets up a session, with mutual authentication against the operator root. -/
def execKeyExchange (mailbox : Option (Fin 8)) (root : Line) (authentic : Bool) (s : State) : Host.Outcome State Fault Refusal :=
  s.quick (fun s => s.keyExchange (mailbox.map Fin.val) root authentic)

/-- HEARTBEAT_TIMEOUT (R413): A session that misses two heartbeat periods is ended. -/
def execHeartbeatTimeout (session : BitVec 16) (s : State) : Host.Outcome State Fault Refusal :=
  s.quick (fun s => s.heartbeatTimeout session.toNat)

/-- PUF_RECONSTRUCT (R404): At PD04 power-up the island reconstructs PUF_ROOT, retrying up to three times or opening PUF_FAIL. -/
def execPufReconstruct (failures : Fin 4) (s : State) : Host.Outcome State Fault Refusal :=
  s.quick (fun s => s.pufReconstruct failures.val)

/-- RBG_HEALTH_FAIL (R405): The random bit generator fails its health test and SEC opens INTERNAL. -/
def execRbgHealthFail (s : State) : Host.Outcome State Fault Refusal :=
  s.quick (fun s => s.rbgFail)

/-- RBG_HEALTH_PASS (R405): The random bit generator passes its continuous health test again, and operations that need a fresh draw stop completing with BUSY. -/
def execRbgHealthPass (s : State) : Host.Outcome State Fault Refusal :=
  s.quick (fun s => s.rbgPass)

/-- FW_BOOT_VERIFY (R411): At start the ROM verifies BL1 and BL1 verifies the runtime image, falling back or opening FW_INVALID. -/
def execFwBootVerify (publicKeys : Fin 32) (signatures : Fin 32) (s : State) : Host.Outcome State Fault Refusal :=
  s.quick (fun s => s.bootVerify publicKeys.val signatures.val)

/-- STORE_OPR (R415): SEC_CMD STORE_OPR stores the operator root hash. -/
def execStoreOpr (path : Path) (authenticated : Bool) (s : State) : Host.Outcome State Fault Refusal :=
  s.quick (fun s => s.storeOpr path authenticated)

/-- DBG_NONCE (R416): JTAG DBG_NONCE shifts out a fresh nonce. -/
def execDbgNonce (s : State) : Host.Outcome State Fault Refusal :=
  s.quick (fun s => s.dbgNonce)

/-- DBG_TOKEN (R416): JTAG DBG_TOKEN is verified and, if valid, triggers the tamper response and opens debug. -/
def execDbgToken (uuid : BitVec 128) (nonce : BitVec 128) (scope : BitVec 8) (signature : Bool) (s : State) : Host.Outcome State Fault Refusal :=
  s.run (fun s => s.dbgToken uuid.toNat nonce.toNat scope.toNat signature)

/-- TAMPER (R417): A qualified TAMPER_N zeroises keys, discards front memory, drops links and advances KEY_EPOCH. -/
def execTamper (ns : Nat) (held : Bool) (s : State) : Host.Outcome State Fault Refusal :=
  s.run (fun s => s.tamper ns held)

end Sys2Proof.Machine
end

