-- ==== Sys2Proof/Machine/ShelfCmds.lean ====
section
/-! DEFINITION. Commands of the shelf: management packets, membership and the manager (chapter 11). Each command is one definition over the shared operations: `run` where its effect can make
work due at once, `quick` where it cannot (log entry 112). -/

namespace Sys2Proof.Machine

/-- BEACON (R317): A manager beacon arrives and refreshes the part's beacon timer. -/
def execBeacon (source : Fin 32) (term : Word) (s : State) : Host.Outcome State Fault Refusal :=
  s.quick (fun s => s.beacon source.val term.toNat)

/-- BEACON_TICK (R317): Every 2 µs the manager sends BEACON in both directions. -/
def execBeaconTick (s : State) : Host.Outcome State Fault Refusal :=
  s.quick (fun s => s.beaconTick)

/-- BEACON_TIMEOUT (R317): No beacon for 16 µs without the manager held failed sets CUT and contains SHM. -/
def execBeaconTimeout (s : State) : Host.Outcome State Fault Refusal :=
  s.run (fun s => s.beaconTimeout)

/-- DOWN_REPORT (R316): The manager or deputy receives a link-down report and declares a failure, a break or probes. -/
def execDownReport (part : Fin 32) (side : Fin 2) (peer : Fin 32) (s : State) : Host.Outcome State Fault Refusal :=
  s.run (fun s => s.downReport part.val side.val peer.val)

/-- DOWN_REPORT_WINDOW (R316): 1 µs passes with only one end of a link reporting and the manager sends PROBE. -/
def execDownReportWindow (link : Fin 32) (s : State) : Host.Outcome State Fault Refusal :=
  s.run (fun s => s.downWindow link.val)

/-- PROBE_RSP (R316): A probe answer in time records a break. -/
def execProbeRsp (part : Fin 32) (s : State) : Host.Outcome State Fault Refusal :=
  s.run (fun s => s.probeRsp part.val)

/-- PROBE_TIMEOUT (R316): No probe answer in time declares the silent end FAILED. -/
def execProbeTimeout (part : Fin 32) (s : State) : Host.Outcome State Fault Refusal :=
  s.run (fun s => s.probeTimeout part.val)

/-- SHELF_PROBE (R316): A PROBE packet reaches the silent end of a link, which answers with PROBE_RSP on the other route. -/
def execShelfProbe (side : Fin 2) (source : Fin 32) (term : Word) (s : State) : Host.Outcome State Fault Refusal :=
  s.run (fun s => s.shelfProbe side.val source.val term.toNat)

/-- MEMBER (R318): A membership declaration is applied, updating topology and entering SOLO or failover where it concerns the partner. -/
def execMember (source : Fin 32) (term : Word) (part : Fin 32) (state : Fin 16) (topology : Word) (members : Word) (failed : Word) (unreachable : Word) (lag : BitVec 16) (solo : Bool) (extents : List (Fin 49152)) (s : State) : Host.Outcome State Fault Refusal :=
  s.run (fun s => s.memberPacket source.val term.toNat part.val state.val topology.toNat members.toNat failed.toNat unreachable.toNat lag.toNat solo (extents.map Fin.val))

/-- JOIN (R315): A join fragment is received and reassembled, and each complete join message advances the exchange. -/
def execJoin (side : Fin 2) (peer : Fin 32) (message : Fin 16) (fragment : Fin 4096) (last : Fin 4096) (total : Word) (bytes : List Byte) (valid : Bool) (cabled : Bool) (s : State) : Host.Outcome State Fault Refusal :=
  s.run (fun s => s.joinPacket side.val peer.val message.val fragment.val last.val total.toNat bytes valid cabled)

/-- JOIN_TIMEOUT (R315): A join exchange not complete within 100 ms is abandoned and restarted. -/
def execJoinTimeout (peer : Fin 32) (s : State) : Host.Outcome State Fault Refusal :=
  s.run (fun s => s.joinTimeout peer.val)

/-- LOSS_REC (R270): A loss record reaches the manager or owner and the owner poisons the lost lines. -/
def execLossRec (words : List Word) (s : State) : Host.Outcome State Fault Refusal :=
  s.run (fun s => s.lossRec (words.map BitVec.toNat))

/-- TBL_WRITE (R321): A manager XTN table access arrives and is applied as XTN_ACC_CMD. -/
def execTblWrite (source : Fin 32) (term : Word) (table : Fin 4) (index : Fin 65536) (write : Bool) (data0 : Word) (data1 : Word) (data2 : Word) (data3 : Word) (s : State) : Host.Outcome State Fault Refusal :=
  s.run (fun s => s.tblWrite source.val term.toNat table.val index.val write data0.toNat data1.toNat data2.toNat data3.toNat)

/-- TBL_RSP (R321): The result of a remote table access returns to the manager. -/
def execTblRsp (source : Fin 32) (result : BitVec 8) (s : State) : Host.Outcome State Fault Refusal :=
  s.run (fun s => s.tblRsp source.val result.toNat)

/-- MGR_SYNC (R319): The deputy applies a manager state change and answers SYNC_ACK. -/
def execMgrSync (source : Fin 32) (term : Word) (change : Sync) (s : State) : Host.Outcome State Fault Refusal :=
  s.run (fun s => s.mgrSync source.val term.toNat change)

/-- SYNC_ACK (R319): The deputy's acknowledgement lets the manager's state change take effect. -/
def execSyncAck (s : State) : Host.Outcome State Fault Refusal :=
  s.run (fun s => s.syncAck)

/-- KEY_ISSUE (R308): A wrapped link key is received and installed, moving a KEYED link to UP. -/
def execKeyIssue (source : Fin 32) (term : Word) (side : Fin 2) (send : Bool) (unwraps : Bool) (s : State) : Host.Outcome State Fault Refusal :=
  s.quick (fun s => s.keyIssue source.val term.toNat side.val send unwraps)

/-- RTIME (R339): A ring rack time value arrives and is accepted, armed, or discarded. -/
def execRtime (source : Fin 32) (term : Word) (value : BitVec 64) (s : State) : Host.Outcome State Fault Refusal :=
  s.quick (fun s => s.rtime source.val term.toNat value.toNat)

/-- HEALTH (R328): A member health summary reaches the manager and refreshes its table. -/
def execHealth (source : Fin 32) (words : List Word) (s : State) : Host.Outcome State Fault Refusal :=
  s.quick (fun s => s.healthPacket source.val (words.map BitVec.toNat))

/-- HEALTH_TICK (R328): Every second a member sends HEALTH to the manager. -/
def execHealthTick (s : State) : Host.Outcome State Fault Refusal :=
  s.quick (fun s => s.healthTick)

/-- HEALTH_STALE (R328): A member's last report is 3 s old and the manager raises HEALTH_STALE. -/
def execHealthStale (part : Fin 32) (s : State) : Host.Outcome State Fault Refusal :=
  s.quick (fun s => s.healthStale part.val)

/-- KEY_BLOB (R281): A forwarded import blob arrives and is imported as a KEY_IMPORT. -/
def execKeyBlob (source : Fin 32) (term : Word) (slot : Fin 4096) (seed : Option Line) (s : State) : Host.Outcome State Fault Refusal :=
  s.run (fun s => s.keyBlob source.val term.toNat slot.val (seed.map BitVec.toNat))

/-- MANAGER_TAKEOVER (R320): The deputy has stored TERM + 1 and sends MEMBER and BEACON under the new TERM. -/
def execManagerTakeover (s : State) : Host.Outcome State Fault Refusal :=
  s.run (fun s => s.takeover)

/-- MANAGER_CLAIM (R387): A ROLE = 1 part that gets no JOIN answer in 50 ms takes manager duties. -/
def execManagerClaim (s : State) : Host.Outcome State Fault Refusal :=
  s.run (fun s => s.claimDuties)

/-- LEAVE (R327): SHM_CMD LEAVE hands the part's leads to its partner and announces it ABSENT. -/
def execLeave (path : Path) (plain : Bool) (s : State) : Host.Outcome State Fault Refusal :=
  s.run (fun s => s.leave path plain)

/-- HANDBACK (R321): SHM_CMD HANDBACK passes manager duties to the strapped part. -/
def execHandback (path : Path) (s : State) : Host.Outcome State Fault Refusal :=
  s.run (fun s => s.handback path)

/-- RESYNC_DONE (R326): Pair resync completes and the pair passes through HANDBACK to NORMAL. -/
def execResyncDone (s : State) : Host.Outcome State Fault Refusal :=
  s.run (fun s => s.resyncDone)

end Sys2Proof.Machine
end

