-- ==== Sys2Proof/Machine/StoreCmds.lean ====
section
/-! DEFINITION. Commands of the parameter store (chapter 17). Each command is one definition over the shared operations: `run` where its effect can make
work due at once, `quick` where it cannot (log entry 112). -/

namespace Sys2Proof.Machine

/-- PST_RAW_READ (R427): PST_ACC_CMD with WRITE = 0 reads one page into PST_ACC_DATA. -/
def execPstRawRead (path : Path) (page : Fin 4096) (s : State) : Host.Outcome State Fault Refusal :=
  s.quick (fun s => s.rawCommand path page.val false)

/-- PST_RAW_WRITE (R427): PST_ACC_CMD with WRITE = 1 writes one page in TEST. -/
def execPstRawWrite (path : Path) (page : Fin 4096) (s : State) : Host.Outcome State Fault Refusal :=
  s.quick (fun s => s.rawCommand path page.val true)

/-- COUNTER_READ (R434): PST_CTR_CMD READ returns a counter, repairing a skipped STAMP. -/
def execCounterRead (path : Path) (counter : Fin 64) (s : State) : Host.Outcome State Fault Refusal :=
  s.quick (fun s => s.counterRead path counter.val)

/-- COUNTER_INCREMENT (R433): PST_CTR_CMD INCREMENT adds DELTA to an operator counter, saturating with EXHAUSTED. -/
def execCounterIncrement (path : Path) (counter : Fin 64) (s : State) : Host.Outcome State Fault Refusal :=
  s.quick (fun s => s.counterIncrement path counter.val)

/-- PST_PAGE_WRITE_DONE (R422): A parameter-store page write ends and the next queued write starts. -/
def execPstPageWriteDone (s : State) : Host.Outcome State Fault Refusal :=
  s.run (fun s => s.pageWriteDone)

/-- AON_LOW (R424): The AON supply falls below AON_LOW and no further page write starts. -/
def execAonLow (s : State) : Host.Outcome State Fault Refusal :=
  s.quick (fun s => s.on (fun b => b.put pPST F.PST_STAT.AON_LOW 1))

/-- AON_LOW_RELEASE (R424): VAON rises above 1.70 V, AON_LOW is released and queued parameter-store page writes may start again. -/
def execAonLowRelease (s : State) : Host.Outcome State Fault Refusal :=
  s.quick (fun s => (s.on (fun b => b.put pPST F.PST_STAT.AON_LOW 0)).pstKick)

end Sys2Proof.Machine
end

