-- ==== Sys2Proof/Machine/TimeCmds.lean ====
section
/-! DEFINITION. Commands of rack time (chapter 12). Each command is one definition over the shared operations: `run` where its effect can make
work due at once, `quick` where it cannot (log entry 112). -/

namespace Sys2Proof.Machine

/-- RTM_TIME_LO_READ (R335): A read of RTM_TIME_LO latches the matching upper half of rack time into RTM_TIME_HI. -/
def execRtmTimeLoRead (path : Path) (wide : Bool) (s : State) : Host.Outcome State Fault Refusal :=
  s.quick (fun s => s.readTime path wide)

/-- RTICK_EDGE (R331): An RTICK edge anchors the frame, counts as a glitch, or qualifies toward a snap to LOCKED. -/
def execRtickEdge (offset : Int) (spacing : Nat) (s : State) : Host.Outcome State Fault Refusal :=
  s.quick (fun s => s.rtickEdge offset spacing)

/-- RTICK_MISSED (R331): No good edge 2 µs after the expected boundary counts a missed tick, entering HOLDOVER on the third. -/
def execRtickMissed (s : State) : Host.Outcome State Fault Refusal :=
  s.quick (fun s => s.rtickMissed)

/-- FRAME_BOUNDARY (R335): A frame boundary advances rack time, applies an armed value and computes slot budgets. -/
def execFrameBoundary (s : State) : Host.Outcome State Fault Refusal :=
  s.quick (fun s => s.frameBoundary)

/-- RTM_SET (R336): A write of RTM_SET_HI arms a rack time value for the next boundary. -/
def execRtmSet (path : Path) (value : Word) (s : State) : Host.Outcome State Fault Refusal :=
  s.quick (fun s => s.rtmSet path value.toNat)

/-- RTM_SLOT_MASK_LO (R341): A write of RTM_SLOT_MASK_LO is held until the HI half commits it. -/
def execRtmSlotMaskLo (path : Path) (value : Word) (s : State) : Host.Outcome State Fault Refusal :=
  s.quick (fun s => s.maskLo path value.toNat)

/-- RTM_SLOT_MASK_HI (R341): A write of RTM_SLOT_MASK_HI forms and checks a candidate mask and stores it for the next boundary. -/
def execRtmSlotMaskHi (path : Path) (value : Word) (s : State) : Host.Outcome State Fault Refusal :=
  s.quick (fun s => s.maskHi path value.toNat)

end Sys2Proof.Machine
end

