-- ==== Sys2Proof/Machine/WriteCmds.lean ====
section
/-! DEFINITION. Commands of the write path: expiries, slots, reclaim and replay (chapter 7). Each command is one definition over the shared operations: `run` where its effect can make
work due at once, `quick` where it cannot (log entry 112). -/

namespace Sys2Proof.Machine

/-- DENSE_HOLD_EXPIRY (R190): The oldest dense line of a frame has waited HOLD_US or HOLDUP_WAIT_MS and a DENSE fold is issued. -/
def execDenseHoldExpiry (page : Nat) (s : State) : Host.Outcome State Fault Refusal :=
  s.run (fun s => s.denseHold page)

/-- PATCH_HOLD_EXPIRY (R191): The oldest patch of a PATCH stripe has waited its hold time and the stripe is issued. -/
def execPatchHoldExpiry (s : State) : Host.Outcome State Fault Refusal :=
  s.run (fun s => s.patchHold)

/-- FOLD_SPACING_EXPIRY (R297): A fold held to keep commits of one page 120 µs apart reaches its time and commits. -/
def execFoldSpacingExpiry (s : State) : Host.Outcome State Fault Refusal :=
  s.run (fun s => s.foldSpacing)

/-- SLOT_START (R343): A slot begins and Campion admits programs, resets and resumes into it in class order within its budget. -/
def execSlotStart (slot : Fin 64) (s : State) : Host.Outcome State Fault Refusal :=
  s.run (fun s => s.slotRow slot.val)

/-- STRIPE_OVERDUE (R345): The oldest dirty line has waited 100 µs unadmitted and its stripe is issued and given priority. -/
def execStripeOverdue (s : State) : Host.Outcome State Fault Refusal :=
  s.run (fun s => s.stripeOverdue)

/-- COPY_VERIFIED (R206): A READ_HEADER of a reclaim destination returns the expected fields and the copy commits if still current. -/
def execCopyVerified (copy : Nat) (verified : Bool) (s : State) : Host.Outcome State Fault Refusal :=
  s.run (fun s => s.copyVerified copy verified)

/-- REPLAY (R214): After a start without a clean mark, CKP runs replay of checkpoint objects, journal, open bands and patch log. -/
def execReplay (s : State) : Host.Outcome State Fault Refusal :=
  s.run (fun s => s.replay)

/-- REPLAY_DONE (R215): Replay completes, the ledger's listed regions are handled and REPLAY_DONE is raised. -/
def execReplayDone (channelLost : Bool) (s : State) : Host.Outcome State Fault Refusal :=
  s.run (fun s => s.replayDone channelLost)

end Sys2Proof.Machine
end

