-- ==== Sys2Proof/Machine/Dispatch.lean ====
section
/-! DEFINITION. Which meaning each command has. -/

namespace Sys2Proof.Machine

/-- The effect of one command on everything but the queue. -/
def exec (i : Instr) (s : State) : Host.Outcome State Fault Refusal :=
  match i with
  | .registerWrite path offset size value => Sys2Proof.Machine.execRegisterWrite path offset size value s
  | .readClear path offset size => Sys2Proof.Machine.execReadClear path offset size s
  | .unmappedAccess path write offset size => Sys2Proof.Machine.execUnmappedAccess path write offset size s
  | .rtmTimeLoRead path wide => Sys2Proof.Machine.execRtmTimeLoRead path wide s
  | .unitCmd request => Sys2Proof.Machine.execUnitCmd request s
  | .unitStateChangeDone page => Sys2Proof.Machine.execUnitStateChangeDone page s
  | .unitInitDone page => Sys2Proof.Machine.execUnitInitDone page s
  | .evtStatusClear path page bits => Sys2Proof.Machine.execEvtStatusClear path page bits s
  | .evtForce path page bits => Sys2Proof.Machine.execEvtForce path page bits s
  | .evtEnableWrite path page bits => Sys2Proof.Machine.execEvtEnableWrite path page bits s
  | .pageLockSet path page => Sys2Proof.Machine.execPageLockSet path page s
  | .lockAll path => Sys2Proof.Machine.execLockAll path s
  | .containment page code info1 info2 => Sys2Proof.Machine.execContainment page code info1 info2 s
  | .internalClear path page => Sys2Proof.Machine.execInternalClear path page s
  | .coldReset tamperLow => Sys2Proof.Machine.execColdReset tamperLow s
  | .strapSample shelf role => Sys2Proof.Machine.execStrapSample shelf role s
  | .resetN ns => Sys2Proof.Machine.execResetN ns s
  | .memrd head hpa => Sys2Proof.Machine.execMemrd head hpa s
  | .memspecrd head hpa taken => Sys2Proof.Machine.execMemspecrd head hpa taken s
  | .meminv head => Sys2Proof.Machine.execMeminv head s
  | .memwr head hpa data mask poison => Sys2Proof.Machine.execMemwr head hpa data mask poison s
  | .pwbSend head entry => Sys2Proof.Machine.execPwbSend head entry s
  | .homeRead turn parity => Sys2Proof.Machine.execHomeRead turn parity s
  | .homeWrite turn parity => Sys2Proof.Machine.execHomeWrite turn parity s
  | .aliasWritebackDone waiter => Sys2Proof.Machine.execAliasWritebackDone waiter s
  | .keyDeriveDone => Sys2Proof.Machine.execKeyDeriveDone s
  | .mapLookupDone miss parity0 parity1 => Sys2Proof.Machine.execMapLookupDone miss parity0 parity1 s
  | .ptxLookupDone miss parity0 parity1 => Sys2Proof.Machine.execPtxLookupDone miss parity0 parity1 s
  | .mediaReadData read errors => Sys2Proof.Machine.execMediaReadData read errors s
  | .reconstructDone miss fixed bad => Sys2Proof.Machine.execReconstructDone miss fixed bad s
  | .segRebuildDone index => Sys2Proof.Machine.execSegRebuildDone index s
  | .fccFlipArm path stack target => Sys2Proof.Machine.execFccFlipArm path stack target s
  | .scrubRead stack parity => Sys2Proof.Machine.execScrubRead stack parity s
  | .scrubSlow stack => Sys2Proof.Machine.execScrubSlow stack s
  | .hbmAccessTimeout stack channel => Sys2Proof.Machine.execHbmAccessTimeout stack channel s
  | .hbmPhyLockLoss stack => Sys2Proof.Machine.execHbmPhyLockLoss stack s
  | .clean path mode head => Sys2Proof.Machine.execClean path mode head s
  | .cleanInv path mode head => Sys2Proof.Machine.execCleanInv path mode head s
  | .cleanSw path => Sys2Proof.Machine.execCleanSw path s
  | .cleanInvSw path => Sys2Proof.Machine.execCleanInvSw path s
  | .invAll path => Sys2Proof.Machine.execInvAll path s
  | .probe path => Sys2Proof.Machine.execProbe path s
  | .fcmAbort path => Sys2Proof.Machine.execFcmAbort path s
  | .opDone => Sys2Proof.Machine.execOpDone s
  | .cacheDisable path => Sys2Proof.Machine.execCacheDisable path s
  | .cacheDisableDone => Sys2Proof.Machine.execCacheDisableDone s
  | .cacheEnable path => Sys2Proof.Machine.execCacheEnable path s
  | .vwnResize path size => Sys2Proof.Machine.execVwnResize path size s
  | .resizeDone => Sys2Proof.Machine.execResizeDone s
  | .remap path => Sys2Proof.Machine.execRemap path s
  | .remapDone => Sys2Proof.Machine.execRemapDone s
  | .mediaAttention channel die partition result => Sys2Proof.Machine.execMediaAttention channel die partition result s
  | .suspendTimeout channel die partition => Sys2Proof.Machine.execSuspendTimeout channel die partition s
  | .mchPorDone channel ids calibrated => Sys2Proof.Machine.execMchPorDone channel ids calibrated s
  | .mediaCmdTimeout channel die notReady between => Sys2Proof.Machine.execMediaCmdTimeout channel die notReady between s
  | .dieFailRecord channel die => Sys2Proof.Machine.execDieFailRecord channel die s
  | .rdyNStuck channel => Sys2Proof.Machine.execRdyNStuck channel s
  | .chanRetrain channel passed => Sys2Proof.Machine.execChanRetrain channel passed s
  | .rebuildDone channel => Sys2Proof.Machine.execRebuildDone channel s
  | .mchFlipArm path channel value => Sys2Proof.Machine.execMchFlipArm path channel value s
  | .mapAccPage path page => Sys2Proof.Machine.execMapAccPage path page s
  | .ptxAccStart path line => Sys2Proof.Machine.execPtxAccStart path line s
  | .inspectDone kind => Sys2Proof.Machine.execInspectDone kind s
  | .denseHoldExpiry page => Sys2Proof.Machine.execDenseHoldExpiry page s
  | .patchHoldExpiry => Sys2Proof.Machine.execPatchHoldExpiry s
  | .foldSpacingExpiry => Sys2Proof.Machine.execFoldSpacingExpiry s
  | .slotStart slot => Sys2Proof.Machine.execSlotStart slot s
  | .stripeOverdue => Sys2Proof.Machine.execStripeOverdue s
  | .copyVerified copy verified => Sys2Proof.Machine.execCopyVerified copy verified s
  | .replay => Sys2Proof.Machine.execReplay s
  | .replayDone channelLost => Sys2Proof.Machine.execReplayDone channelLost s
  | .thermalRound readings => Sys2Proof.Machine.execThermalRound readings s
  | .oldMarkTick => Sys2Proof.Machine.execOldMarkTick s
  | .ageSave => Sys2Proof.Machine.execAgeSave s
  | .patrolIssue => Sys2Proof.Machine.execPatrolIssue s
  | .patrolRatePeriod => Sys2Proof.Machine.execPatrolRatePeriod s
  | .ptlCursorSave => Sys2Proof.Machine.execPtlCursorSave s
  | .ageInsp path field start => Sys2Proof.Machine.execAgeInsp path field start s
  | .wgvDaily => Sys2Proof.Machine.execWgvDaily s
  | .healthSave => Sys2Proof.Machine.execHealthSave s
  | .healthMetaCopy => Sys2Proof.Machine.execHealthMetaCopy s
  | .fenceStart path head slot value => Sys2Proof.Machine.execFenceStart path head slot value s
  | .fenceComplete head slot => Sys2Proof.Machine.execFenceComplete head slot s
  | .fenceDeadline head slot => Sys2Proof.Machine.execFenceDeadline head slot s
  | .fenceDurable head slot => Sys2Proof.Machine.execFenceDurable head slot s
  | .gpfPhase2 head => Sys2Proof.Machine.execGpfPhase2 head s
  | .hptLossPop path head => Sys2Proof.Machine.execHptLossPop path head s
  | .reserveWord path head slot => Sys2Proof.Machine.execReserveWord path head slot s
  | .condWrite path head slot => Sys2Proof.Machine.execCondWrite path head slot s
  | .releaseWord path head slot => Sys2Proof.Machine.execReleaseWord path head slot s
  | .rsvComplete head slot => Sys2Proof.Machine.execRsvComplete head slot s
  | .rsvTimeout part slot => Sys2Proof.Machine.execRsvTimeout part slot s
  | .importKey path slot seed => Sys2Proof.Machine.execImportKey path slot seed s
  | .clearKey path slot => Sys2Proof.Machine.execClearKey path slot s
  | .inspectKey path slot => Sys2Proof.Machine.execInspectKey path slot s
  | .rkyStart path slot => Sys2Proof.Machine.execRkyStart path slot s
  | .sweepRatePeriod => Sys2Proof.Machine.execSweepRatePeriod s
  | .sweepCursorSave => Sys2Proof.Machine.execSweepCursorSave s
  | .sweepLate slot => Sys2Proof.Machine.execSweepLate slot s
  | .eraseDone => Sys2Proof.Machine.execEraseDone s
  | .xtnRead path table index => Sys2Proof.Machine.execXtnRead path table index s
  | .xtnHxtWrite path index => Sys2Proof.Machine.execXtnHxtWrite path index s
  | .xtnXmbWrite path index => Sys2Proof.Machine.execXtnXmbWrite path index s
  | .xtnLxtWrite path index => Sys2Proof.Machine.execXtnLxtWrite path index s
  | .xtnAccDone => Sys2Proof.Machine.execXtnAccDone s
  | .releaseDone index => Sys2Proof.Machine.execReleaseDone index s
  | .decoderCommit head decoder base size dpaBase ways gran => Sys2Proof.Machine.execDecoderCommit head decoder base size dpaBase ways gran s
  | .linkUp head mem speed width => Sys2Proof.Machine.execLinkUp head mem speed width s
  | .trainFail head noFlit => Sys2Proof.Machine.execTrainFail head noFlit s
  | .laneFault head lane l0p => Sys2Proof.Machine.execLaneFault head lane l0p s
  | .l0pNarrowDone head stall => Sys2Proof.Machine.execL0pNarrowDone head stall s
  | .linkDown head => Sys2Proof.Machine.execLinkDown head s
  | .ideFail head mem io stream => Sys2Proof.Machine.execIdeFail head mem io stream s
  | .ideRekey head mem io => Sys2Proof.Machine.execIdeRekey head mem io s
  | .flr head => Sys2Proof.Machine.execFlr head s
  | .headReset head => Sys2Proof.Machine.execHeadReset head s
  | .headResetDone head => Sys2Proof.Machine.execHeadResetDone head s
  | .hptPortCfgWrite path head value => Sys2Proof.Machine.execHptPortCfgWrite path head value s
  | .getEventRecords head len log => Sys2Proof.Machine.execGetEventRecords head len log s
  | .clearEventRecords head len log all handles => Sys2Proof.Machine.execClearEventRecords head len log all handles s
  | .getEventInterruptPolicy head len => Sys2Proof.Machine.execGetEventInterruptPolicy head len s
  | .setEventInterruptPolicy head len modes vectors => Sys2Proof.Machine.execSetEventInterruptPolicy head len modes vectors s
  | .getFwInfo head len => Sys2Proof.Machine.execGetFwInfo head len s
  | .transferFw head => Sys2Proof.Machine.execTransferFw head s
  | .activateFw head => Sys2Proof.Machine.execActivateFw head s
  | .getTimestamp head len => Sys2Proof.Machine.execGetTimestamp head len s
  | .setTimestamp head => Sys2Proof.Machine.execSetTimestamp head s
  | .getSupportedLogs head len => Sys2Proof.Machine.execGetSupportedLogs head len s
  | .getLog head len cel offset size => Sys2Proof.Machine.execGetLog head len cel offset size s
  | .identifyMemoryDevice head len => Sys2Proof.Machine.execIdentifyMemoryDevice head len s
  | .getPartitionInfo head len => Sys2Proof.Machine.execGetPartitionInfo head len s
  | .getHealthInfo head len => Sys2Proof.Machine.execGetHealthInfo head len s
  | .getAlertConfig head len => Sys2Proof.Machine.execGetAlertConfig head len s
  | .setAlertConfig head len valid life temperature => Sys2Proof.Machine.execSetAlertConfig head len valid life temperature s
  | .getShutdownState head len => Sys2Proof.Machine.execGetShutdownState head len s
  | .setShutdownState head len value => Sys2Proof.Machine.execSetShutdownState head len value s
  | .getPoisonList head len start size => Sys2Proof.Machine.execGetPoisonList head len start size s
  | .injectPoison head len dpa => Sys2Proof.Machine.execInjectPoison head len dpa s
  | .clearPoison head len dpa data => Sys2Proof.Machine.execClearPoison head len dpa data s
  | .sanitize head => Sys2Proof.Machine.execSanitize head s
  | .secureErase head => Sys2Proof.Machine.execSecureErase head s
  | .getDynamicCapacityConfig head len count start => Sys2Proof.Machine.execGetDynamicCapacityConfig head len count start s
  | .getDynamicCapacityExtentList head len count start => Sys2Proof.Machine.execGetDynamicCapacityExtentList head len count start s
  | .addDynamicCapacityResponse head len extents => Sys2Proof.Machine.execAddDynamicCapacityResponse head len extents s
  | .releaseDynamicCapacity head len extents => Sys2Proof.Machine.execReleaseDynamicCapacity head len extents s
  | .mailboxUnsupported head opcode => Sys2Proof.Machine.execMailboxUnsupported head opcode s
  | .shlTrainStart side => Sys2Proof.Machine.execShlTrainStart side s
  | .shlTrained side wide fast => Sys2Proof.Machine.execShlTrained side wide fast s
  | .shlPhaseTimeout side => Sys2Proof.Machine.execShlPhaseTimeout side s
  | .hello side peer peerSide chain signature decapsulated => Sys2Proof.Machine.execHello side peer peerSide chain signature decapsulated s
  | .flitRx side seq ack fec crc nak groupMac => Sys2Proof.Machine.execFlitRx side seq ack fec crc nak groupMac s
  | .shlIdleTimeout side => Sys2Proof.Machine.execShlIdleTimeout side s
  | .shlRecoverTimeout side discarded => Sys2Proof.Machine.execShlRecoverTimeout side discarded s
  | .shlRecovered side => Sys2Proof.Machine.execShlRecovered side s
  | .shlLaneFault side lane stall => Sys2Proof.Machine.execShlLaneFault side lane stall s
  | .linkKeyTick => Sys2Proof.Machine.execLinkKeyTick s
  | .linkKeySelfDerive side => Sys2Proof.Machine.execLinkKeySelfDerive side s
  | .packetPassThrough side opcode source destination units args data => Sys2Proof.Machine.execPacketPassThrough side opcode source destination units args data s
  | .mrd line => Sys2Proof.Machine.execMrd line s
  | .mwr line data poison => Sys2Proof.Machine.execMwr line data poison s
  | .mwrp line data mask poison => Sys2Proof.Machine.execMwrp line data mask poison s
  | .mwrM line data poison again => Sys2Proof.Machine.execMwrM line data poison again s
  | .mwrpM line data mask poison again => Sys2Proof.Machine.execMwrpM line data mask poison again s
  | .rsv line op word value slot => Sys2Proof.Machine.execRsv line op word value slot s
  | .mrsp oid tag status data => Sys2Proof.Machine.execMrsp oid tag status data s
  | .ticket oid tag copy status => Sys2Proof.Machine.execTicket oid tag copy status s
  | .hold oid tag => Sys2Proof.Machine.execHold oid tag s
  | .pull source oid tag => Sys2Proof.Machine.execPull source oid tag s
  | .mwrData oid tag data mask poison => Sys2Proof.Machine.execMwrData oid tag data mask poison s
  | .persisted oid tag copy => Sys2Proof.Machine.execPersisted oid tag copy s
  | .rsvRsp oid tag result loss word => Sys2Proof.Machine.execRsvRsp oid tag result loss word s
  | .order order ingress tag poison => Sys2Proof.Machine.execOrder order ingress tag poison s
  | .orderAck order fillFail => Sys2Proof.Machine.execOrderAck order fillFail s
  | .beacon source term => Sys2Proof.Machine.execBeacon source term s
  | .beaconTick => Sys2Proof.Machine.execBeaconTick s
  | .beaconTimeout => Sys2Proof.Machine.execBeaconTimeout s
  | .downReport part side peer => Sys2Proof.Machine.execDownReport part side peer s
  | .downReportWindow link => Sys2Proof.Machine.execDownReportWindow link s
  | .probeRsp part => Sys2Proof.Machine.execProbeRsp part s
  | .probeTimeout part => Sys2Proof.Machine.execProbeTimeout part s
  | .member source term part state topology members failed unreachable lag solo extents => Sys2Proof.Machine.execMember source term part state topology members failed unreachable lag solo extents s
  | .join side peer message fragment last total bytes valid cabled => Sys2Proof.Machine.execJoin side peer message fragment last total bytes valid cabled s
  | .joinTimeout peer => Sys2Proof.Machine.execJoinTimeout peer s
  | .lossRec words => Sys2Proof.Machine.execLossRec words s
  | .tblWrite source term table index write data0 data1 data2 data3 => Sys2Proof.Machine.execTblWrite source term table index write data0 data1 data2 data3 s
  | .tblRsp source result => Sys2Proof.Machine.execTblRsp source result s
  | .mgrSync source term change => Sys2Proof.Machine.execMgrSync source term change s
  | .syncAck => Sys2Proof.Machine.execSyncAck s
  | .keyIssue source term side send unwraps => Sys2Proof.Machine.execKeyIssue source term side send unwraps s
  | .rtime source term value => Sys2Proof.Machine.execRtime source term value s
  | .health source words => Sys2Proof.Machine.execHealth source words s
  | .healthTick => Sys2Proof.Machine.execHealthTick s
  | .healthStale part => Sys2Proof.Machine.execHealthStale part s
  | .keyBlob source term slot seed => Sys2Proof.Machine.execKeyBlob source term slot seed s
  | .managerTakeover => Sys2Proof.Machine.execManagerTakeover s
  | .managerClaim => Sys2Proof.Machine.execManagerClaim s
  | .leave path plain => Sys2Proof.Machine.execLeave path plain s
  | .handback path => Sys2Proof.Machine.execHandback path s
  | .resyncDone => Sys2Proof.Machine.execResyncDone s
  | .rtickEdge offset spacing => Sys2Proof.Machine.execRtickEdge offset spacing s
  | .rtickMissed => Sys2Proof.Machine.execRtickMissed s
  | .frameBoundary => Sys2Proof.Machine.execFrameBoundary s
  | .rtmSet path value => Sys2Proof.Machine.execRtmSet path value s
  | .rtmSlotMaskLo path value => Sys2Proof.Machine.execRtmSlotMaskLo path value s
  | .rtmSlotMaskHi path value => Sys2Proof.Machine.execRtmSlotMaskHi path value s
  | .seqStart path => Sys2Proof.Machine.execSeqStart path s
  | .powerDown path => Sys2Proof.Machine.execPowerDown path s
  | .seqStateSettled => Sys2Proof.Machine.execSeqStateSettled s
  | .seqStepTimeout rail => Sys2Proof.Machine.execSeqStepTimeout rail s
  | .seqRetryWaitDone => Sys2Proof.Machine.execSeqRetryWaitDone s
  | .seqDownStepDone => Sys2Proof.Machine.execSeqDownStepDone s
  | .seqStepHigh => Sys2Proof.Machine.execSeqStepHigh s
  | .seqSolo => Sys2Proof.Machine.execSeqSolo s
  | .railFault rail => Sys2Proof.Machine.execRailFault rail s
  | .pfail => Sys2Proof.Machine.execPfail s
  | .pfailGlitch ns => Sys2Proof.Machine.execPfailGlitch ns s
  | .admitEnd => Sys2Proof.Machine.execAdmitEnd s
  | .drained => Sys2Proof.Machine.execDrained s
  | .pfailRelease => Sys2Proof.Machine.execPfailRelease s
  | .cpxFault page event info => Sys2Proof.Machine.execCpxFault page event info s
  | .thermtripCheck readings => Sys2Proof.Machine.execThermtripCheck readings s
  | .hbmTrainDone stack bad => Sys2Proof.Machine.execHbmTrainDone stack bad s
  | .hbmTrainTimeout stack => Sys2Proof.Machine.execHbmTrainTimeout stack s
  | .metaRestore directoryBad segmentBad => Sys2Proof.Machine.execMetaRestore directoryBad segmentBad s
  | .enterService => Sys2Proof.Machine.execEnterService s
  | .objectLoadDone object => Sys2Proof.Machine.execObjectLoadDone object s
  | .provision message => Sys2Proof.Machine.execProvision message s
  | .enec events => Sys2Proof.Machine.execEnec events s
  | .disec events => Sys2Proof.Machine.execDisec events s
  | .entdaa address => Sys2Proof.Machine.execEntdaa address s
  | .setdasa static address => Sys2Proof.Machine.execSetdasa static address s
  | .setnewda address => Sys2Proof.Machine.execSetnewda address s
  | .rstdaa => Sys2Proof.Machine.execRstdaa s
  | .setmwl length => Sys2Proof.Machine.execSetmwl length s
  | .setmrl length => Sys2Proof.Machine.execSetmrl length s
  | .getmwl => Sys2Proof.Machine.execGetmwl s
  | .getmrl => Sys2Proof.Machine.execGetmrl s
  | .getpid => Sys2Proof.Machine.execGetpid s
  | .getbcr => Sys2Proof.Machine.execGetbcr s
  | .getdcr => Sys2Proof.Machine.execGetdcr s
  | .getstatus => Sys2Proof.Machine.execGetstatus s
  | .getmxds => Sys2Proof.Machine.execGetmxds s
  | .rstact action => Sys2Proof.Machine.execRstact action s
  | .enthdr0 => Sys2Proof.Machine.execEnthdr0 s
  | .cccNack code => Sys2Proof.Machine.execCccNack code s
  | .busError error => Sys2Proof.Machine.execBusError error s
  | .ibiSend ack => Sys2Proof.Machine.execIbiSend ack s
  | .alertTimeout => Sys2Proof.Machine.execAlertTimeout s
  | .mctpPacket packet => Sys2Proof.Machine.execMctpPacket packet s
  | .setEndpointId source destination inst op eid => Sys2Proof.Machine.execSetEndpointId source destination inst op eid s
  | .getEndpointId source destination inst => Sys2Proof.Machine.execGetEndpointId source destination inst s
  | .getEndpointUuid source destination inst => Sys2Proof.Machine.execGetEndpointUuid source destination inst s
  | .getMctpVersionSupport source destination inst type => Sys2Proof.Machine.execGetMctpVersionSupport source destination inst type s
  | .getMessageTypeSupport source destination inst => Sys2Proof.Machine.execGetMessageTypeSupport source destination inst s
  | .getVendorDefinedMessageSupport source destination inst selector => Sys2Proof.Machine.execGetVendorDefinedMessageSupport source destination inst selector s
  | .mctpControlUnsupported source destination inst command => Sys2Proof.Machine.execMctpControlUnsupported source destination inst command s
  | .getTid eid inst => Sys2Proof.Machine.execGetTid eid inst s
  | .getPldmVersion eid inst type => Sys2Proof.Machine.execGetPldmVersion eid inst type s
  | .getPldmTypes eid inst => Sys2Proof.Machine.execGetPldmTypes eid inst s
  | .getPldmCommands eid inst type => Sys2Proof.Machine.execGetPldmCommands eid inst type s
  | .getPdrRepositoryInfo eid inst => Sys2Proof.Machine.execGetPdrRepositoryInfo eid inst s
  | .getPdr eid inst record => Sys2Proof.Machine.execGetPdr eid inst record s
  | .getSensorReading eid inst sensor => Sys2Proof.Machine.execGetSensorReading eid inst sensor s
  | .getStateSensorReadings eid inst sensor => Sys2Proof.Machine.execGetStateSensorReadings eid inst sensor s
  | .setEventReceiver eid inst receiver => Sys2Proof.Machine.execSetEventReceiver eid inst receiver s
  | .getEventReceiver eid inst => Sys2Proof.Machine.execGetEventReceiver eid inst s
  | .getInfo message => Sys2Proof.Machine.execGetInfo message s
  | .getHealth message => Sys2Proof.Machine.execGetHealth message s
  | .getOpStatus message => Sys2Proof.Machine.execGetOpStatus message s
  | .regRead message => Sys2Proof.Machine.execRegRead message s
  | .regWrite message => Sys2Proof.Machine.execRegWrite message s
  | .unitStateList message => Sys2Proof.Machine.execUnitStateList message s
  | .memRead message => Sys2Proof.Machine.execMemRead message s
  | .memWrite message => Sys2Proof.Machine.execMemWrite message s
  | .timeSet message => Sys2Proof.Machine.execTimeSet message s
  | .timeGet message => Sys2Proof.Machine.execTimeGet message s
  | .keyEkGet message => Sys2Proof.Machine.execKeyEkGet message s
  | .keyImport message seed => Sys2Proof.Machine.execKeyImport message seed s
  | .keyClear message => Sys2Proof.Machine.execKeyClear message s
  | .fwTransfer message => Sys2Proof.Machine.execFwTransfer message s
  | .fwActivate message => Sys2Proof.Machine.execFwActivate message s
  | .activateDone publicKey signature => Sys2Proof.Machine.execActivateDone publicKey signature s
  | .getDcdInfo eid => Sys2Proof.Machine.execGetDcdInfo eid s
  | .getHostDcRegionConfiguration eid host => Sys2Proof.Machine.execGetHostDcRegionConfiguration eid host s
  | .getDcRegionExtentLists eid host => Sys2Proof.Machine.execGetDcRegionExtentLists eid host s
  | .initiateDynamicCapacityAdd eid placement => Sys2Proof.Machine.execInitiateDynamicCapacityAdd eid placement s
  | .initiateDynamicCapacityRelease eid extent forced => Sys2Proof.Machine.execInitiateDynamicCapacityRelease eid extent forced s
  | .spdmRequest mailbox session code authentic => Sys2Proof.Machine.execSpdmRequest mailbox session code authentic s
  | .getMeasurements mailbox session index sign => Sys2Proof.Machine.execGetMeasurements mailbox session index sign s
  | .keyExchange mailbox root authentic => Sys2Proof.Machine.execKeyExchange mailbox root authentic s
  | .heartbeatTimeout session => Sys2Proof.Machine.execHeartbeatTimeout session s
  | .pufReconstruct failures => Sys2Proof.Machine.execPufReconstruct failures s
  | .rbgHealthFail => Sys2Proof.Machine.execRbgHealthFail s
  | .fwBootVerify publicKeys signatures => Sys2Proof.Machine.execFwBootVerify publicKeys signatures s
  | .storeOpr path authenticated => Sys2Proof.Machine.execStoreOpr path authenticated s
  | .dbgNonce => Sys2Proof.Machine.execDbgNonce s
  | .dbgToken uuid nonce scope signature => Sys2Proof.Machine.execDbgToken uuid nonce scope signature s
  | .tamper ns held => Sys2Proof.Machine.execTamper ns held s
  | .pstRawRead path page => Sys2Proof.Machine.execPstRawRead path page s
  | .pstRawWrite path page => Sys2Proof.Machine.execPstRawWrite path page s
  | .counterRead path counter => Sys2Proof.Machine.execCounterRead path counter s
  | .counterIncrement path counter => Sys2Proof.Machine.execCounterIncrement path counter s
  | .pstPageWriteDone => Sys2Proof.Machine.execPstPageWriteDone s
  | .aonLow => Sys2Proof.Machine.execAonLow s
  | .cpdArm path channel => Sys2Proof.Machine.execCpdArm path channel s
  | .copyAbort path channel => Sys2Proof.Machine.execCopyAbort path channel s
  | .retry path channel => Sys2Proof.Machine.execRetry path channel s
  | .skip path channel => Sys2Proof.Machine.execSkip path channel s
  | .copyGo path channel => Sys2Proof.Machine.execCopyGo path channel s
  | .cpsAbort path channel => Sys2Proof.Machine.execCpsAbort path channel s
  | .copyLineDone channel => Sys2Proof.Machine.execCopyLineDone channel s
  | .copyLineRetry channel => Sys2Proof.Machine.execCopyLineRetry channel s
  | .pushStart path queue length => Sys2Proof.Machine.execPushStart path queue length s
  | .pushData path data => Sys2Proof.Machine.execPushData path data s
  | .pushEnd path => Sys2Proof.Machine.execPushEnd path s
  | .pushTimeout path => Sys2Proof.Machine.execPushTimeout path s
  | .queuePop path => Sys2Proof.Machine.execQueuePop path s
  | .qosWindow => Sys2Proof.Machine.execQosWindow s
  | .qosPromote master point request => Sys2Proof.Machine.execQosPromote master point request s
  | .snap path => Sys2Proof.Machine.execSnap path s
  | .pmcAutoSnap => Sys2Proof.Machine.execPmcAutoSnap s
  | .snapDone => Sys2Proof.Machine.execSnapDone s
  | .trvScrub upsets => Sys2Proof.Machine.execTrvScrub upsets s
  | .trvFlipArm path copy word => Sys2Proof.Machine.execTrvFlipArm path copy word s
  | .resetNRelease => Sys2Proof.Machine.execResetNRelease s
  | .shelfProbe side source term => Sys2Proof.Machine.execShelfProbe side source term s
  | .chatter rail => Sys2Proof.Machine.execChatter rail s
  | .aonLowRelease => Sys2Proof.Machine.execAonLowRelease s
  | .arrayOpTimeout channel die partition => Sys2Proof.Machine.execArrayOpTimeout channel die partition s
  | .rbgHealthPass => Sys2Proof.Machine.execRbgHealthPass s

end Sys2Proof.Machine
end

