-- ==== Sys2Proof/Machine/Step.lean ====
section
/-! DEFINITION. One step of the part: the command at the front of the queue, or, with none waiting, the passing of a microsecond. -/

namespace Sys2Proof.Machine

/-- With no command waiting the clock moves on by 1 µs, and what has become due is done (DESIGN CHOICE, log entry 113). -/
def State.tick (s : State) : State := s.upTo (s.bd.now + 1)

/-- Takes the command at the front of the queue and runs it with the queue's rest; on an empty queue the clock ticks. -/
def step (s : State) : Host.Outcome State Fault Refusal :=
  match s.pending with
  | c :: rest => exec c { s with pending := rest }
  | [] => s.run State.tick

/-- `s` with the command that a word spells put at the front of its queue; unchanged where the word spells none. -/
def State.withFetchWord (s : State) (nbits w : Nat) : State :=
  match decodeTableWord nbits w with
  | some c => { s with pending := c :: s.pending }
  | none => s

end Sys2Proof.Machine
end

