-- ==== Sys2Proof/Safety.lean ====
section
/-! DEFINITION. What the claims speak of: invariants of the part, and what a command may change. -/

namespace Sys2Proof.Machine

/-- A page whose unit is powered and not OFF. -/
def Board.active (b : Board) (page : Nat) : Bool := b.powered page && decide (b.unit page ≠ stOFF)

/-- CAUSE_OPEN of every active page is 1 exactly while a cause bit of the page is set (R16). -/
def Board.CausesShown (b : Board) : Prop :=
  ∀ page ∈ allPages, b.active page = true → b.on page F.UNIT_STATE.CAUSE_OPEN = decide (b.openCauses page ≠ 0)

/-- The register file is in its canonical form. -/
def Board.RegsCanonical (b : Board) : Prop := smWf regDefault b.regs = true

/-- Two boards agree on a register of a page. -/
def Board.Same (b c : Board) (page off : Nat) : Prop := c.rd page off = b.rd page off

/-- Two states agree on everything but the board: tables, heads, home, cache, map, media, write path, keys, ages, stores, engines. -/
def State.SameBelow (s t : State) : Prop := { t with bd := s.bd } = s

/-! ### What an event may change (R18, R19, R89, R391, R449) -/

/-- The registers that event work writes: EVT_STATUS and ERR_INFO0 to 3 of any page, HPT_MSI_DROP, EVQ_DROPPED, EVQ_TRUNC and MGT_IBI_DROP. -/
def eventReg (page off : Nat) : Bool :=
  let w := off / 4
  (w == 4 || w == 8 || w == 9 || w == 10 || w == 11) || (decide (16 ≤ page ∧ page ≤ 23) && w == 28)
    || (page == pEVQ && (w == 25 || w == 26)) || (page == pMGT && w == 23)

/-- `d` with everything that event work may change taken from `b`. -/
def Board.withEvents (d b : Board) : Board :=
  { d with
    regs := b.regs
    held := b.held
    queues := b.queues
    out := b.out
    msixPending := b.msixPending
    eventQ := b.eventQ
    resyncDue := b.resyncDue
    pmcDue := b.pmcDue }

/-- From `b` to `c` nothing has changed but what events may change, and no status bit has been cleared. -/
structure Board.EventFrame (b c : Board) : Prop where
  regs : ∀ page off, off < 4096 → eventReg page off = false → c.rd page off = b.rd page off
  status : ∀ page i, (b.rd page 0x010).toNat.testBit i = true → (c.rd page 0x010).toNat.testBit i = true
  same : c.withEvents b = b

/-! ### What following the causes may change (R16, R17) -/

/-- The registers that a change of CAUSE_OPEN writes: UNIT_STATE of any page and MGT_IBI_DROP. -/
def stateReg (page off : Nat) : Bool := off / 4 == 2 || (page == pMGT && off / 4 == 23)

/-- `d` with everything that a change of CAUSE_OPEN may change taken from `b`. -/
def Board.withStates (d b : Board) : Board :=
  { d with
    regs := b.regs
    stateQ := b.stateQ
    resyncDue := b.resyncDue
    pmcDue := b.pmcDue }

/-- From `b` to `c` nothing has changed but CAUSE_OPEN and EPOCH of pages, the state notices that say so, and what counts them. -/
structure Board.StateFrame (b c : Board) : Prop where
  regs : ∀ page off, off < 4096 → stateReg page off = false → c.rd page off = b.rd page off
  unit : ∀ page, c.unit page = b.unit page
  same : c.withStates b = b

/-! ### How a command ends -/

/-- The command answers a next state: that of `u`, in which its effect has happened, once what it makes due at once is done from there (log entry 112). -/
def Runs (c : Instr) (s u : State) : Prop := exec c s = .next { u.settle with pending := s.pending }

/-- The command answers a next state: that of `u`, in which its effect has happened and nothing is left to do but that CAUSE_OPEN follows the causes. -/
def Ends (c : Instr) (s u : State) : Prop := exec c s = .next { u.closing with pending := s.pending }

/-- The registers of `c` read as those of `b`, but for those listed (page, word of the page). -/
def Board.Only (b c : Board) (ks : List (Nat × Nat)) : Prop :=
  ∀ page off, off < 4096 → (page, off / 4) ∉ ks → c.rd page off = b.rd page off

/-- A write of `w` on a path reaches the register: the page is implemented, powered and in no reset, and neither its policy nor Table 21-2 forbids it (R13,
R488 to R491). -/
def Board.Reaches (b : Board) (p : Path) (page off : Nat) (w : Word) : Prop :=
  implemented page = true ∧ b.powered page = true ∧
    b.gate p page off (Board.restricted page off (match p with | .host h => some h | .mgmt => none) w).1
      (Board.restricted page off (match p with | .host h => some h | .mgmt => none) w).2 = none

/-- A register whose rows let a plain write take effect: none of its checks break (R10). -/
def Board.Takes (b : Board) (p : Path) (page off : Nat) (w : Word) : Prop := b.Reaches p page off w ∧ b.writeCode page off w = none

/-! ### The mailbox of a head (R79 to R83) -/

/-- The mailbox of a head runs every command: its link is up, its unit is neither OFF nor CONTAINED, and the part is in service. -/
def Board.MailboxOpen (b : Board) (h : Nat) : Prop := b.mailboxUp h = true ∧ b.unit (pHPT h) ≠ stCONTAINED ∧ b.inService = true

/-- The mailbox of head `h` has answered: the response has left, and HPT_MBX_LAST shows opcode and return code. -/
def Answers (s u : State) (h opcode code : Nat) (payload : List Byte) : Prop :=
  u.bd.out = s.bd.out ++ [.mailbox h opcode code payload] ∧ u.bd.get (pHPT h) F.HPT_MBX_LAST.OPCODE = opcode
    ∧ u.bd.get (pHPT h) F.HPT_MBX_LAST.RETURN = code

/-- The register that a mailbox response writes. -/
def mbxLast (h : Nat) : Nat × Nat := (pHPT h, F.HPT_MBX_LAST.OPCODE.off / 4)

/-! ### Messages of the management path (R393 to R397) -/

/-- A message has been counted, its answer of a type has left for an endpoint, and nothing else of the board has changed. -/
def Sends (s u : State) (type dest : Nat) (body : List Byte) : Prop :=
  u.bd = { s.bd.received true with out := s.bd.out ++ [.mctp type dest body] } ∧ u.mgmt.ready = s.mgmt.ready + 1

/-- An Abager request has been answered with a result and a body (Table 15-5), and MGT_LAST shows code and result. -/
def AnswersAbager (s u : State) (m : Abager) (code : Nat) (c : Code) (body : List Byte) : Prop :=
  u.bd.out = s.bd.out ++ [.mctp 0x7F m.eid.toNat (leBytes 1 1 ++ leBytes 1 code ++ leBytes 1 (1 + 2 * bit m.session.isSome) ++ leBytes 1 c.num
      ++ leBytes 2 body.length ++ leBytes 2 0 ++ body)]
    ∧ u.bd.get pMGT F.MGT_LAST.CODE = code ∧ u.bd.get pMGT F.MGT_LAST.RESULT = c.num

end Sys2Proof.Machine
end

