-- ==== Sys2Proof/Certificates/Slice0/Obligations.lean ====
section
/-! DEFINITION. The statements for the provers. Each says what the commands it names do in every state that meets its hypotheses; `Runs` and `Ends`
say that exec answers a next state, and `u` is the state in which the command's own effect has happened. -/

open Sys2Proof Sys2Proof.Machine

/-! ### The machine -/

/-- The front command of the queue is run with the queue's rest. -/
def Obligations.StepRunsFrontCommand : Prop :=
  ∀ (c : Instr) (rest : List Instr) (s : State), s.pending = c :: rest → Sys2Proof.Machine.step s = exec c { s with pending := rest }

/-- With nothing waiting, the clock moves on by 1 µs and what has become due is done (DESIGN CHOICE, log entry 113). -/
def Obligations.EmptyQueueTicks : Prop :=
  ∀ s : State, s.pending = [] →
    ∃ u : State, Sys2Proof.Machine.step s = .next { u.settle with pending := [] } ∧ u.bd = { s.bd with now := s.bd.now + 1 } ∧ s.SameBelow u

/-- Every command of the table has an effect in every state: exec answers a next state, with the queue as it was, never a fault and never a refusal. -/
def Obligations.EveryCommandAnswersNext : Prop :=
  ∀ (c : Instr) (s : State), ∃ t : State, exec c s = .next t ∧ t.pending = s.pending

/-- R16, R24, R476: after every step, from every state, CAUSE_OPEN of every powered unit that is not OFF is 1 exactly while a cause of the page is open. -/
def Obligations.StepShowsOpenCauses : Prop :=
  ∀ s s' : State, Sys2Proof.Machine.step s = .next s' → s'.bd.CausesShown

/-- The invariant of `StepShowsOpenCauses` holds at reset, and the register file is in canonical form there. -/
def Obligations.ResetShowsOpenCauses : Prop := State.reset.bd.CausesShown ∧ State.reset.bd.RegsCanonical

/-- What closes a step changes nothing but CAUSE_OPEN and EPOCH of pages, and the state notices that say so: no unit changes its state, and no other register
changes but MGT_IBI_DROP (R16, R17, R391). -/
def Obligations.ClosingOnlyFollowsCauses : Prop :=
  ∀ s : State, s.bd.StateFrame s.closing.bd ∧ s.SameBelow s.closing

/-! ### Registers, unit states and events -/

/-- R18 to R20: EVT_ENABLE takes the implemented bits of what is written; EVT_FORCE sets the status bits it names; EVT_STATUS clears the bits it names, and the
capture goes with the captured event's bit. Nothing else changes but what the notices write. -/
def Obligations.EventRegistersTakeWrites : Prop :=
  ∀ (s : State) (p : Path) (page : Fin 512) (w : Word),
    (s.bd.Takes p page.val 0x014 w →
      ∃ u, Ends (.evtEnableWrite p page w) s u ∧ s.SameBelow u ∧ u.bd.rd page.val 0x014 = w &&& evtMask page.val
        ∧ (s.bd.wr page.val 0x014 (w &&& evtMask page.val)).EventFrame u.bd) ∧
    (s.bd.Takes p page.val 0x018 w →
      ∃ u, Ends (.evtForce p page w) s u ∧ s.SameBelow u ∧ s.bd.EventFrame u.bd
        ∧ ∀ n, n < 32 → (w &&& evtMask page.val).getLsbD n = true → (u.bd.rd page.val 0x010).getLsbD n = true) ∧
    (s.bd.Takes p page.val 0x010 w →
      ∃ u, Ends (.evtStatusClear p page w) s u ∧ s.SameBelow u ∧ u.bd.rd page.val 0x010 = s.bd.rd page.val 0x010 &&& ~~~w
        ∧ s.bd.Only u.bd [(page.val, 4), (page.val, 8), (page.val, 9), (page.val, 10), (page.val, 11)]
        ∧ (page.val ∈ u.bd.held → wordBits w (s.bd.get page.val F.ERR_INFO0.EVENT) 1 = 0))

/-- R21, R493: writing 1 to PAGE_LOCK.LOCK locks the page; DEV_CTL.LOCK_ALL locks every implemented, powered page. -/
def Obligations.LocksCloseThePages : Prop :=
  ∀ (s : State) (p : Path) (page : Fin 512),
    (s.bd.Takes p page.val F.PAGE_LOCK.LOCK.off 1 →
      ∃ u, Ends (.pageLockSet p page) s u ∧ s.SameBelow u ∧ u.bd.on page.val F.PAGE_LOCK.LOCK = true
        ∧ s.bd.Only u.bd [(page.val, F.PAGE_LOCK.LOCK.off / 4)]) ∧
    (s.bd.Takes p pDEV F.DEV_CTL.LOCK_ALL.off 1 →
      ∃ u, Ends (.lockAll p) s u ∧ s.SameBelow u ∧ (∀ q ∈ allPages, s.bd.powered q = true → u.bd.on q F.PAGE_LOCK.LOCK = true)
        ∧ ∀ q off, off < 4096 → off / 4 ≠ F.PAGE_LOCK.LOCK.off / 4 → u.bd.rd q off = s.bd.rd q off)

/-- R22: a UNIT_CMD write shows its TARGET and EXP_EPOCH; a stale epoch answers STALE_EPOCH, a request while one is pending BUSY, and an accepted change is pending
with RESULT OK; the unit itself has not moved yet. -/
def Obligations.UnitCommandIsCheckedFirst : Prop :=
  ∀ (s : State) (p : Path) (page : Fin 512) (target : Fin 16) (epoch : BitVec 16),
    s.bd.Reaches p page.val 0x00C (BitVec.ofNat 32 (target.val + epoch.toNat * 2 ^ 16)) →
      ∃ u, Ends (.unitCmd (.write p page target epoch)) s u ∧ s.SameBelow u ∧ u.bd.get page.val F.UNIT_CMD.TARGET = target.val
        ∧ u.bd.get page.val F.UNIT_CMD.EXP_EPOCH = epoch.toNat ∧ s.bd.Only u.bd [(page.val, 3)]
        ∧ (epoch.toNat ≠ s.bd.get page.val F.UNIT_STATE.EPOCH → u.bd.get page.val F.UNIT_CMD.RESULT = Code.staleEpoch.num)
        ∧ (epoch.toNat = s.bd.get page.val F.UNIT_STATE.EPOCH → s.bd.on page.val F.UNIT_CMD.PENDING = true →
            u.bd.get page.val F.UNIT_CMD.RESULT = Code.busy.num)
        ∧ (epoch.toNat = s.bd.get page.val F.UNIT_STATE.EPOCH → s.bd.on page.val F.UNIT_CMD.PENDING = false →
            match s.bd.requestCheck page.val target.val with
            | .error c => u.bd.get page.val F.UNIT_CMD.RESULT = c.num ∧ u.bd.on page.val F.UNIT_CMD.PENDING = false
            | .ok change => u.bd.get page.val F.UNIT_CMD.RESULT = Code.ok.num ∧ u.bd.on page.val F.UNIT_CMD.PENDING = change)

/-- R24, R16: a pending request for OFF, SERVICE or DEGRADED that is still permitted takes the unit there with the next epoch, in SERVICE or DEGRADED as its redundancy says, and PENDING clears;
UNIT_INIT_DONE takes a unit in INIT to CONTAINED where a cause is open, and else to SERVICE or, with redundancy reduced, DEGRADED. -/
def Obligations.UnitsMoveWithTheirEpoch : Prop :=
  ∀ (s : State) (page : Fin 512),
    (∀ target, smFind page.val s.bd.cmds = some target → s.bd.on page.val F.UNIT_CMD.PENDING = true →
      s.bd.requestCheck page.val target = .ok true → (target = stOFF ∨ target = stSERVICE ∨ target = stDEGRADED) →
      ∃ u, Runs (.unitStateChangeDone page) s u ∧ u.bd.on page.val F.UNIT_CMD.PENDING = false ∧ u.bd.get page.val F.UNIT_CMD.RESULT = Code.ok.num
        ∧ u.bd.unit page.val = (if target = stOFF then stOFF else if s.reduced page.val then stDEGRADED else stSERVICE)
        ∧ u.bd.get page.val F.UNIT_STATE.EPOCH = (s.bd.get page.val F.UNIT_STATE.EPOCH + 1) % 2 ^ 16) ∧
    (s.initElsewhere page.val = false → s.bd.unit page.val = stINIT →
      ∃ u, Runs (.unitInitDone page) s u ∧ s.SameBelow u
        ∧ u.bd.unit page.val = (if s.bd.openCauses page.val ≠ 0 then stCONTAINED else if s.reduced page.val then stDEGRADED else stSERVICE)
        ∧ u.bd.get page.val F.UNIT_STATE.EPOCH = (s.bd.get page.val F.UNIT_STATE.EPOCH + 1) % 2 ^ 16
        ∧ s.bd.Only u.bd [(page.val, 2), (pMGT, 23)])

/-- R476: INTERNAL of a head's own checkers contains a unit that serves, with its cause bit and its event; a write of 1 by the management path closes it. -/
def Obligations.InternalFaultContains : Prop :=
  ∀ (s : State) (h : Fin 8) (code : Fin 256) (i1 i2 : Word),
    (s.bd.powered (pHPT h.val) = true → s.bd.serves (pHPT h.val) = true →
      ∃ u, Runs (.containment ⟨pHPT h.val, by simp only [pHPT]; omega⟩ code i1 i2) s u ∧ s.SameBelow u ∧ u.bd.unit (pHPT h.val) = stCONTAINED
        ∧ u.bd.on (pHPT h.val) F.HPT_CAUSE.INTERNAL = true ∧ (u.bd.rd (pHPT h.val) 0x010).getLsbD E.HPT.INTERNAL = true
        ∧ (256 ≤ s.bd.faultLog.length ∨ u.bd.faultLog.length = s.bd.faultLog.length + 1)) ∧
    (s.bd.Takes .mgmt (pHPT h.val) 0x04C 4 →
      ∃ u, Ends (.internalClear .mgmt ⟨pHPT h.val, by simp only [pHPT]; omega⟩) s u ∧ s.SameBelow u
        ∧ u.bd.on (pHPT h.val) F.HPT_CAUSE.INTERNAL = false ∧ u.bd.unit (pHPT h.val) = s.bd.unit (pHPT h.val))

/-- R6 to R13, R488: a register write that breaks no rule reads back by the access codes of its fields; one that breaks R10 or finds its fields locked changes
PAGE_REJECT alone; a read answers the register and clears its RC fields; an access of an unimplemented page reads zero or is discarded, and is counted. -/
def Obligations.RegistersAreReadAndWritten : Prop :=
  ∀ (s : State) (p : Path) (page : Nat) (off : Nat) (w : Word), page < 512 → off < 4096 → off % 4 = 0 →
    (s.bd.Takes p page off w → 0x01C ≤ off → off < 0x040 → rowsAt page off ≠ [] →
      ∃ u, Runs (.registerWrite p (BitVec.ofNat 21 (page * 4096 + off)) 4 (w.setWidth 64)) s u ∧ s.SameBelow u
        ∧ u.bd.rd page off = s.bd.written page off w ∧ s.bd.Only u.bd [(page, off / 4)]) ∧
    (∀ c, s.bd.Reaches p page off w → off ≠ 0x00C → rowsAt page off ≠ [] → s.bd.writeCode page off w = some c →
      ∃ u, Runs (.registerWrite p (BitVec.ofNat 21 (page * 4096 + off)) 4 (w.setWidth 64)) s u ∧ s.SameBelow u
        ∧ s.bd.Only u.bd [(page, 13)] ∧ u.bd.get page F.PAGE_REJECT.CODE = c.num) ∧
    (implemented page = true → s.bd.powered page = true → page ∉ s.bd.resetting → (match p with | .host _ => pagePolicy page ≠ .m | .mgmt => True) →
      off = F.PAGE_REJECT.CODE.off → s.bd.pmcDue = [] → s.bd.clockPages = [] →
      ∃ u, Runs (.readClear p (BitVec.ofNat 21 (page * 4096 + off)) 4) s u ∧ s.SameBelow u
        ∧ u.bd.out = s.bd.out ++ [.regRead p (page * 4096 + off) 4 (s.bd.rd page off).toNat] ∧ u.bd.get page F.PAGE_REJECT.CODE = 0
        ∧ s.bd.Only u.bd [(page, 13)]) ∧
    (∀ write : Bool, implemented page = false →
      ∃ u, Ends (.unmappedAccess p write (BitVec.ofNat 21 (page * 4096 + off)) 4) s u ∧ s.SameBelow u
        ∧ u.bd.get pDEV F.DEV_UNMAPPED.COUNT = min (2 ^ 32 - 1) (s.bd.get pDEV F.DEV_UNMAPPED.COUNT + 1)
        ∧ (u.bd.rd pDEV 0x010).getLsbD E.DEV.UNMAPPED_ACCESS = true
        ∧ (write = false → .regRead p (page * 4096 + off) 4 0 ∈ u.bd.out))

/-! ### Host ports and the home -/

/-- R58, R64, R68, R69, R73, R256: a read of a line no buffered write touches leaves for its home and is queued there where that is this part; a hint
for a line of this part is queued at the home; a MemInv is answered; a write is accepted into the posted-write buffer with its NDR. -/
def Obligations.HostRequestsEnterTheHead : Prop :=
  ∀ (s : State) (h : Fin 8) (d : Head) (hpa mask : BitVec 64) (data : Line) (poison : Bool), s.heads[h.val]? = some d → s.takes h.val = true →
    s.bd.unit (pHPT h.val) ≠ stCONTAINED →
    (∀ q, d.reads.length < 1024 → d.overlay (hpa.toNat / 64 * 64) = (0, 0, false) →
      s.destination (s.hostReq h.val .read (hpa.toNat / 64 * 64) 0 0 false) (s.decode h.val (hpa.toNat / 64 * 64) false none) = some ((q, s.bd.selfId), none) →
      (s.mayLeave q s.bd.selfId).1 = true → s.lowNow (masterOf q.oid) = false →
      ∃ u d', Runs (.memrd h hpa) s u ∧ u.home.queue = s.home.queue ++ [q] ∧ u.heads[h.val]? = some d'
        ∧ ⟨q, s.bd.selfId, 0, 0⟩ ∈ d'.reads ∧ d'.reads.length = d.reads.length + 1 ∧ d'.writes = d.writes ∧ u.home.nextId = s.home.nextId + 1
        ∧ s.bd.Only u.bd [(pHPT h.val, F.HPT_RDQ.HIGH_WATER.off / 4)]) ∧
    (∀ q, q.volatile = false →
      s.destination (s.hostReq h.val .hint (hpa.toNat / 64 * 64) 0 0 false) (s.decode h.val (hpa.toNat / 64 * 64) false none) = some ((q, s.bd.selfId), none) →
      ∃ u, Runs (.memspecrd h hpa true) s u ∧ u.home.queue = s.home.queue ++ [q] ∧ u.heads = s.heads ∧ u.bd = s.bd) ∧
    (∃ u, Ends (.meminv h) s u ∧ u.bd.out = s.bd.out ++ [.host h.val s.home.nextId none false (s.devLoad h.val)] ∧ u.heads = s.heads
      ∧ u.bd.regs = s.bd.regs) ∧
    (d.occupied < 256 →
      ∃ u d' w dl, Ends (.memwr h hpa data mask poison) s u ∧ u.heads[h.val]? = some d' ∧ d'.writes = d.writes ++ [w] ∧ d'.reads = d.reads
        ∧ w.req = s.hostReq h.val .write (hpa.toNat / 64 * 64) data mask.toNat poison ∧ w.inBuf = true ∧ w.sent = false
        ∧ u.bd.out = s.bd.out ++ [.host h.val s.home.nextId none false dl] ∧ u.home.queue = s.home.queue
        ∧ s.bd.Only u.bd [(pHPT h.val, F.HPT_PWB.HIGH_WATER.off / 4)])

/-- R66, R67, R71, R72, R75: a head that trains with no cause open serves; a failed training is told; a failed lane narrows the link in L0p, else the link goes down, which
contains the head and loses its reservations. -/
def Obligations.HeadLinksComeAndGo : Prop :=
  ∀ (s : State) (h : Fin 8) (d : Head), s.heads[h.val]? = some d → s.headUsed h.val = true →
    (∀ speed width, s.bd.on (pHPT h.val) F.HPT_LINK_STAT.UP = false → d.resetting = false → s.bd.unit (pHPT h.val) = stINIT →
      s.bd.rd (pHPT h.val) 0x04C = 0 → width.val ≤ s.bd.maxWidth h.val → speed.val ≤ s.bd.get (pHPT h.val) F.HPT_PORT_CFG.MAX_SPEED + 2 →
      ∃ u, Runs (.linkUp h true speed width) s u ∧ s.SameBelow u ∧ u.bd.on (pHPT h.val) F.HPT_LINK_STAT.UP = true
        ∧ u.bd.on (pHPT h.val) F.HPT_LINK_STAT.CXL_MEM = true ∧ u.bd.get (pHPT h.val) F.HPT_LINK_STAT.WIDTH = width.val
        ∧ u.bd.serves (pHPT h.val) = true ∧ (u.bd.rd (pHPT h.val) 0x010).getLsbD E.HPT.LINK_UP = true) ∧
    (∀ noFlit, s.bd.on (pHPT h.val) F.HPT_LINK_STAT.UP = false →
      ∃ u d', Ends (.trainFail h noFlit) s u ∧ u.heads[h.val]? = some d' ∧ d' = { d with attempts := d.attempts + 1 } ∧ s.bd.EventFrame u.bd
        ∧ (u.bd.rd (pHPT h.val) 0x010).getLsbD E.HPT.TRAIN_FAIL = true) ∧
    (∀ lane, s.bd.on (pHPT h.val) F.HPT_LINK_STAT.UP = true → s.bd.on (pHPT h.val) F.HPT_PORT_CFG.L0P_EN = true → lane.val < s.bd.maxWidth h.val →
      2 ≤ s.bd.get (pHPT h.val) F.HPT_LINK_STAT.L0P_WIDTH →
      ∃ u d', Runs (.laneFault h lane true) s u ∧ u.heads[h.val]? = some d' ∧ d' = { d with lanes := lane.val + 1 }
        ∧ nbit (u.bd.get (pHPT h.val) F.HPT_LANE_ERR.LANE_FAULT) lane.val = true ∧ (u.bd.rd (pHPT h.val) 0x010).getLsbD E.HPT.LANE_FAULT = true) ∧
    (∀ stall, s.bd.on (pHPT h.val) F.HPT_LINK_STAT.UP = true → d.lanes ≠ 0 →
      ∃ u d', Ends (.l0pNarrowDone h stall) s u ∧ u.heads[h.val]? = some d' ∧ d' = { d with lanes := 0 }
        ∧ u.bd.get (pHPT h.val) F.HPT_LINK_STAT.L0P_WIDTH = s.bd.get (pHPT h.val) F.HPT_LINK_STAT.L0P_WIDTH / 2
        ∧ u.bd.on (pHPT h.val) F.HPT_CAUSE.NARROW = true ∧ (s.bd.serves (pHPT h.val) = true → u.bd.unit (pHPT h.val) = stDEGRADED)) ∧
    (s.bd.on (pHPT h.val) F.HPT_LINK_STAT.UP = true →
      ∃ u d', Runs (.linkDown h) s u ∧ u.heads[h.val]? = some d' ∧ d'.reads = [] ∧ d'.writes = d.writes ∧ (∀ v ∈ d'.rsv, v.held = none)
        ∧ u.bd.rd (pHPT h.val) 0x044 = 0 ∧ u.bd.on (pHPT h.val) F.HPT_CAUSE.LINK_DOWN = true
        ∧ (s.bd.serves (pHPT h.val) = true → u.bd.unit (pHPT h.val) = stCONTAINED))

/-- R63, R70, R85 to R88: an IDE failure contains the head and its re-keying closes the cause; a function-level or HEAD reset takes the head to INIT with its windows
uncommitted and its reads gone, and its end leaves the event logs and reservations fresh. -/
def Obligations.HeadResetsAndIde : Prop :=
  ∀ (s : State) (h : Fin 8) (d : Head), s.heads[h.val]? = some d → s.headUsed h.val = true →
    (∀ io stream, s.bd.on (pHPT h.val) F.HPT_LINK_STAT.UP = true →
      ∃ u, Runs (.ideFail h true io stream) s u ∧ s.SameBelow u ∧ u.bd.get (pHPT h.val) F.HPT_IDE_STAT.MEM_STREAM = 0
        ∧ u.bd.on (pHPT h.val) F.HPT_CAUSE.IDE_FAIL = true ∧ (u.bd.rd (pHPT h.val) 0x010).getLsbD E.HPT.IDE_FAIL = true
        ∧ (s.bd.serves (pHPT h.val) = true → u.bd.unit (pHPT h.val) = stCONTAINED)) ∧
    (∀ io, s.bd.on (pHPT h.val) F.HPT_LINK_STAT.UP = true →
      ∃ u, Ends (.ideRekey h true io) s u ∧ s.SameBelow u ∧ u.bd.on (pHPT h.val) F.HPT_CAUSE.IDE_FAIL = false
        ∧ u.bd.get (pHPT h.val) F.HPT_IDE_STAT.MEM_STREAM = 1 ∧ u.bd.unit (pHPT h.val) = s.bd.unit (pHPT h.val)) ∧
    (∀ c, c = Instr.flr h ∨ c = Instr.headReset h → d.resetting = false →
      ∃ u d', Runs c s u ∧ u.heads[h.val]? = some d' ∧ d'.resetting = true ∧ d'.reads = [] ∧ d'.writes = d.writes ∧ u.bd.unit (pHPT h.val) = stINIT
        ∧ pHPT h.val ∈ u.bd.resetting ∧ ∀ w, w < 8 → u.bd.committed (8 * h.val + w) = false) ∧
    (d.resetting = true → d.fences.any (fun f => f.running) = false →
      ∃ u d', Runs (.headResetDone h) s u ∧ u.heads[h.val]? = some d' ∧ d'.resetting = false ∧ d'.flr = false
        ∧ d'.rsv = List.replicate 4 ⟨none, 0, 0, none⟩ ∧ d'.info.recs = [] ∧ d'.writes = d.writes ∧ d'.losses = d.losses ∧ pHPT h.val ∉ u.bd.resetting)

/-- R90: a host-path write of HPT_PORT_CFG changes PAGE_REJECT alone, which records DENIED. -/
def Obligations.HostCannotWritePortCfg : Prop :=
  ∀ (s : State) (x h : Fin 8) (w : Word), s.bd.powered (pHPT h.val) = true → pHPT h.val ∉ s.bd.resetting →
    ∃ u, Ends (.hptPortCfgWrite (.host x) h w) s u ∧ s.SameBelow u ∧ u.bd.get (pHPT h.val) F.PAGE_REJECT.CODE = Code.denied.num
      ∧ s.bd.Only u.bd [(pHPT h.val, 13)]

/-- R63, R65: the management path sets the speed limit and L0p of a head, and the split of its port through the even head alone. -/
def Obligations.ManagementSetsPortCfg : Prop :=
  ∀ (s : State) (h : Fin 8) (w : Word), s.bd.powered (pHPT h.val) = true → pHPT h.val ∉ s.bd.resetting →
    ∃ u, Ends (.hptPortCfgWrite .mgmt h w) s u ∧ u.bd.get (pHPT h.val) F.HPT_PORT_CFG.MAX_SPEED = wordBits w 2 2
      ∧ u.bd.get (pHPT h.val) F.HPT_PORT_CFG.L0P_EN = wordBits w 1 1
      ∧ u.bd.get (pHPT h.val) F.HPT_PORT_CFG.SPLIT = (if h.val % 2 = 0 then wordBits w 0 1 else s.bd.get (pHPT h.val) F.HPT_PORT_CFG.SPLIT)
      ∧ s.bd.Only u.bd [(pHPT h.val, 16), (pPST, F.PST_STAT.WRITING.off / 4)]

/-- R70, R105, R129, R251, R255, R278: an entry of the posted-write buffer leaves for its home; a read of a window page that nothing has written returns zeros, and a full write of
a window line is what the window then holds; a request whose key set has been derived, or whose alias has been written back, takes its turn. -/
def Obligations.HomeServesInTurn : Prop :=
  ∀ (s : State) (r : Req) (rest : List Req),
    (∀ (h : Fin 8) (d : Head) (w : Wr) (ws : List Wr) (q : Req), s.heads[h.val]? = some d → d.unsent = w :: ws → w.req.ask = .write →
      s.destination w.req (s.decodeEntry h.val w) = some ((q, s.bd.selfId), none) → (s.mayLeave q s.bd.selfId).1 = true → s.lowNow (masterOf q.oid) = false →
      ∃ u d', Runs (.pwbSend h 0) s u ∧ u.home.queue = s.home.queue ++ [q] ∧ u.heads[h.val]? = some d' ∧ (∃ x ∈ d'.writes, x.sent = true ∧ x.req = q)
        ∧ d'.writes.length = d.writes.length ∧ d'.reads = d.reads ∧ u.bd = s.bd) ∧
    (s.home.queue = r :: rest → r.volatile = true → r.ask = .read → s.blocked r [] = false → s.yields r = false → s.bd.isLocal r = false →
      s.windowLost (r.lln / 64) = false → s.bd.bypass = false → r.lln / 64 ∉ s.cache.bitmap →
      ∃ u, Runs (.homeRead 0 0) s u ∧ u.home.queue = rest ∧ u.cache = s.cache ∧ u.bd.regs = s.bd.regs
        ∧ u.bd.out = s.bd.out ++ [.ring (s.bd.linkTo (oidShelf r.oid)) 0x10 s.bd.selfId (oidShelf r.oid) [r.oid, r.id, 0] (some 0)]) ∧
    (s.home.queue = r :: rest → r.volatile = true → r.ask = .write → s.blocked r [] = false → s.yields r = false → s.windowLost (r.lln / 64) = false →
      r.poison = false → r.mask = allBytes →
      ∃ u, Runs (.homeWrite 0 0) s u ∧ u.home.queue = rest ∧ smFind r.lln u.cache.window = some r.data ∧ r.lln / 64 ∈ u.cache.bitmap
        ∧ u.cache.frames = s.cache.frames) ∧
    (s.home.derive = r :: rest →
      ∃ u v : State, Runs .keyDeriveDone s u ∧ u = v.serialise r 0 ∧ v.home.derive = rest ∧ v.home.queue = r :: s.home.queue ∧ s.keySet r ∈ v.home.keyCache
        ∧ v.bd = s.bd ∧ v.cache = s.cache ∧ v.heads = s.heads) ∧
    (∀ k a, s.home.aliases[k]? = some a → s.pageDirty (a.req.lln / 64) = 0 →
      ∃ u v : State, Runs (.aliasWritebackDone k) s u ∧ u = v.serialise a.req 0 ∧ v.home.aliases = s.home.aliases.eraseIdx k ∧ v.home.queue = a.req :: s.home.queue
        ∧ v.bd = s.bd ∧ v.cache = s.cache ∧ v.heads = s.heads)

/-! ### Map, patch index and media -/

/-- R164 to R173, R187: a looked-up map entry goes to its miss; a patch-index lookup that finds no slot says so; an inspection of a page is busy until it completes and then shows the
entry; an inspection of a page beyond the part ends with LENGTH. -/
def Obligations.MapAndIndexLookups : Prop :=
  ∀ (s : State) (p : Path) (i : Nat) (m : Miss),
    (∀ v : State, s.mapx.misses[i]? = some m → m.entry = none → s.segLoaded (m.lln / 64 / 2 ^ 17) = true →
      s.rebuilding (segKey true (m.lln / 64 / 2 ^ 17)) = false →
      s.readBlock 0 (m.lln / 64 / 512) (m.lln / 64 % 512 / 8) 0 0 = (true, v) → (v.mapEntry (m.lln / 64)).legal = true →
      ∃ u, Runs (.mapLookupDone i 0 0) s u ∧ u = v.withEntry m (v.mapEntry (m.lln / 64))) ∧
    (∀ v : State, s.mapx.misses[i]? = some m → m.slot = none → m.entry = none → m.base = none → s.segLoaded (24576 + ptxBucket m.lln / 2 ^ 14) = true →
      s.rebuilding (segKey false (ptxBucket m.lln / 64)) = false →
      s.readBlock 12 (ptxBucket m.lln / 64) (ptxBucket m.lln % 64) 0 0 = (true, v) → (v.probe m.lln).2 = none →
      ∃ u, Runs (.ptxLookupDone i 0 0) s u ∧ u.mapx.reads = v.mapx.reads ∧ u.mapx.slots = v.mapx.slots
        ∧ u.bd.get pPTX F.PTX_LOOKUP_NONE.COUNT = min (2 ^ 32 - 1) (v.bd.get pPTX F.PTX_LOOKUP_NONE.COUNT + 1)
        ∧ u.mapx.misses = v.mapx.misses.map (fun y => if y.id = m.id then { y with slot := some none, needSlot := false } else y)) ∧
    (∀ k since, s.mapx.rebuild[i]? = some (k, since) →
      ∃ u, Runs (.segRebuildDone i) s u ∧ u.mapx.rebuild = s.mapx.rebuild.eraseIdx i ∧ u.mapx.map = s.mapx.map
        ∧ (k / 2 < 2 ^ 20 → (u.bd.rd pMAP 0x010).getLsbD E.MAP.SEG_REBUILD = true)
        ∧ (2 ^ 20 ≤ k / 2 → (u.bd.rd pPTX 0x010).getLsbD E.PTX.BLOCK_REBUILD = true)) ∧
    (∀ page : Word, s.bd.gate p pMAP 0x050 false false = none → s.bd.on pMAP F.MAP_ACC_STAT.BUSY = false →
      ∃ u, Ends (.mapAccPage p page) s u ∧ u.mapx = { s.mapx with inspectMap := some page.toNat } ∧ u.bd.on pMAP F.MAP_ACC_STAT.BUSY = true
        ∧ u.bd.rd pMAP 0x050 = page) ∧
    (∀ line : Fin 64, s.bd.gate p pPTX 0x068 false false = none → s.bd.on pPTX F.PTX_ACC_STAT.BUSY = false →
      ∃ u, Ends (.ptxAccStart p line) s u ∧ u.mapx = { s.mapx with inspectPtx := some (s.bd.get pPTX F.PTX_ACC_PAGE.PAGE * 64 + line.val) }
        ∧ u.bd.on pPTX F.PTX_ACC_STAT.BUSY = true ∧ u.bd.get pPTX F.PTX_ACC_CMD.LINE = line.val) ∧
    (∀ page, s.mapx.inspectMap = some page → (page < localPages → s.segLoaded (page / 2 ^ 17) = true) →
      ∃ u, Ends (.inspectDone 0) s u ∧ u.mapx = { s.mapx with inspectMap := none } ∧ u.bd.on pMAP F.MAP_ACC_STAT.BUSY = false
        ∧ (page < localPages → u.bd.get pMAP F.MAP_ACC_STAT.RESULT = Code.ok.num
            ∧ u.bd.get64 pMAP F.MAP_ACC_LO.ENTRY_LO F.MAP_ACC_HI.ENTRY_HI = (s.mapEntry page).word % 2 ^ 64)
        ∧ (localPages ≤ page → u.bd.get pMAP F.MAP_ACC_STAT.RESULT = Code.length.num))

/-- R144, R171, R174, R176: an outstanding read that was sent is collected, and its frame goes to the miss it was made for; a squashed read is dropped; a reconstruction with every
frame of the stripe in hand gives the lost frame to its miss. -/
def Obligations.MediaReadsAreCollected : Prop :=
  ∀ (s : State) (k : Nat) (errors : List (Fin 65 × Fin 14)) (r : MRead),
    (∀ m : Miss, s.mapx.reads[k]? = some r → r.sent = true → r.squashed = false → r.whole = false →
      s.mapx.misses.find? (fun m => decide (m.id = r.miss)) = some m → m.undecided = false →
      ∃ u v : State, ∃ bits : Nat, Runs (.mediaReadData k errors) s u ∧ v.mapx.reads = s.mapx.reads.eraseIdx k ∧ v.mapx.misses = s.mapx.misses
        ∧ v.media.pages = s.media.pages ∧ v.mapx.map = s.mapx.map ∧ u = v.missData r m bits) ∧
    (s.mapx.reads[k]? = some r → r.sent = true → r.squashed = true →
      ∃ u v : State, ∃ bits : Nat, Runs (.mediaReadData k errors) s u ∧ v.mapx.reads = s.mapx.reads.eraseIdx k ∧ v.mapx.misses = s.mapx.misses
        ∧ u = v.squashedData r bits) ∧
    (∀ (m : Miss) (fixed bad : BitVec 16) (i : Nat), s.mapx.misses[i]? = some m → m.undecided = false →
      ∃ u, Runs (.reconstructDone i fixed bad) s u ∧ u = s.reconstructed i fixed.toNat bad.toNat)

/-- R151, R153, R156: an array operation ends and its partition has none; a suspension that lasts too long is taken up again; an operation that overruns, or a die not ready,
fails its die. -/
def Obligations.ArrayOperationsEnd : Prop :=
  ∀ (s : State) (c : Fin 16) (d : Fin 8) (pt : Fin 16) (o : MOp), smFind ((c.val * 8 + d.val) * 16 + pt.val) s.media.ops = some o →
    (∀ e : ArrayEnd, o.reset = false →
      ∃ u v : State, Runs (.mediaAttention c d pt e) s u ∧ v = { s with media := { s.media with ops := smDel ((c.val * 8 + d.val) * 16 + pt.val) s.media.ops } }
        ∧ u.media = (v.programEnded o e).media
        ∧ ∀ r ∈ u.mapx.reads, partKey r.ppa = (c.val * 8 + d.val) * 16 + pt.val → r.sent = true) ∧
    (∃ u, Ends (.suspendTimeout c d pt) s u ∧ u = s.resumeOp ((d.val * 16 + c.val) * 2 ^ 25 + pt.val * 2 ^ 12)) ∧
    (∃ u, Runs (.arrayOpTimeout c d pt) s u ∧ u = s.dieFailed c.val d.val 3) ∧
    (∀ between, s.bd.dieState c.val d.val = 2 → ∃ u, Runs (.mediaCmdTimeout c d true between) s u ∧ u = s.dieFailed c.val d.val 1)

/-- R136, R159 to R163: the dies of a channel answer at power-up; a declared die is recorded; a channel fault contains the channel, its re-training with the rebuild to come
serves no page yet, and the end of the rebuild closes its cause. -/
def Obligations.ChannelsFailAndRecover : Prop :=
  ∀ (s : State) (c : Fin 16) (d : Fin 8),
    (∀ ids : List (BitVec 128), s.bd.unit (pMCH c.val) = stINIT → (∀ k, c.val * 8 + k ∉ s.media.recorded) →
      (∀ k, k < 8 → dieIdOk (ids.getD k 0).toNat k = true) →
      ∃ u, Runs (.mchPorDone c ids true) s u ∧ u.bd.get (pMCH c.val) F.MCH_DIE_STATE.DIE = 0x22222222 ∧ u.bd.on (pMCH c.val) F.MCH_LINK.TRAINED = true
        ∧ ∀ k, k < 8 → smGet (fun _ => 0) u.media.dieIds (c.val * 8 + k) = (ids.getD k 0).toNat) ∧
    (s.media.dieNew.any (fun e => decide (e.1 = c.val * 8 + d.val)) = true →
      ∃ u, Runs (.dieFailRecord c d) s u ∧ c.val * 8 + d.val ∈ u.media.recorded ∧ u.media.dieNew = s.media.dieNew.filter (fun e => decide (e.1 ≠ c.val * 8 + d.val))
        ∧ u.media.pages = s.media.pages) ∧
    (s.bd.on (pMCH c.val) F.MCH_CAUSE.CHAN_FAULT = false → s.bd.powered (pMCH c.val) = true →
      ∃ u v : State, Runs (.rdyNStuck c) s u ∧ u = v.loseDies c.val (fun _ => true) ∧ v.bd.on (pMCH c.val) F.MCH_CAUSE.CHAN_FAULT = true
        ∧ v.bd.on (pMCH c.val) F.MCH_LINK.TRAINED = false ∧ (v.bd.rd (pMCH c.val) 0x010).getLsbD E.MCH.CHAN_FAULT = true
        ∧ (s.bd.serves (pMCH c.val) = true → v.bd.unit (pMCH c.val) = stCONTAINED)) ∧
    (s.bd.on (pMCH c.val) F.MCH_CAUSE.CHAN_FAULT = true → s.bd.powered (pMCH c.val) = true →
      ∃ u, Runs (.chanRetrain c true) s u ∧ s.SameBelow u ∧ u.bd.on (pMCH c.val) F.MCH_CAUSE.CHAN_FAULT = false
        ∧ u.bd.on (pMCH c.val) F.MCH_CAUSE.REBUILD = true ∧ u.bd.on (pMCH c.val) F.MCH_LINK.TRAINED = true) ∧
    (s.bd.on (pMCH c.val) F.MCH_CAUSE.CHAN_FAULT = false → s.bd.on (pMCH c.val) F.MCH_CAUSE.REBUILD = true →
      ∃ u, Runs (.rebuildDone c) s u ∧ u.bd.on (pMCH c.val) F.MCH_CAUSE.REBUILD = false ∧ (u.bd.rd (pMCH c.val) 0x010).getLsbD E.MCH.REBUILD_DONE = true) ∧
    (∀ w : Word, s.bd.gate .mgmt (pMCH c.val) F.MCH_FLIP_CTL.ARM.off false false = none → s.bd.get (pMCH c.val) (F.MCH_FLIP.MASK.ix 0) ≠ 0 →
      ∃ u, Ends (.mchFlipArm .mgmt c w) s u ∧ s.SameBelow u ∧ u.bd.rd (pMCH c.val) F.MCH_FLIP_CTL.ARM.off = BitVec.ofNat 32 (wordBits w 0 11)
        ∧ s.bd.Only u.bd [(pMCH c.val, F.MCH_FLIP_CTL.ARM.off / 4)])

/-! ### Front cache and volatile window -/

/-- R119 to R122: a maintenance operation that is written while none runs becomes busy under its own code; PROBE shows the frame of a set and way; an abort ends the operation
early and is shown; an operation with nothing left to wait for is done, and says so. -/
def Obligations.MaintenanceOperationsStartAndEnd : Prop :=
  ∀ (s : State) (p : Path), s.bd.gate p pFCM 0x048 false false = none →
    (∀ (mode : Bool) (h : Fin 8) c n, s.bd.on pFCM F.FCM_STAT.OP_BUSY = false → (c, n) ∈ [(Instr.clean p mode h, 1), (Instr.cleanInv p mode h, 2), (Instr.cleanSw p, 3), (Instr.cleanInvSw p, 4), (Instr.invAll p, 5)] →
      ∃ u o, Runs c s u ∧ u.cache.op = some o ∧ o.op = n ∧ o.aborted = false ∧ u.bd.on pFCM F.FCM_STAT.OP_BUSY = true
        ∧ u.bd.get pFCM F.FCM_OP.OP = n ∧ u.cache.frames = s.cache.frames) ∧
    (s.bd.on pFCM F.FCM_STAT.OP_BUSY = false → s.bd.get pFCM F.FCM_SETWAY.WAY < 12 →
      ∃ u o, Ends (.probe p) s u ∧ u.cache.op = some o ∧ o.op = 6 ∧ o.code = Code.ok.num ∧ u.cache.frames = s.cache.frames
        ∧ ∀ f, smFind (s.bd.get pFCM F.FCM_SETWAY.SET * 16 + s.bd.get pFCM F.FCM_SETWAY.WAY) s.cache.frames = some f →
            u.bd.get pFCM F.FCM_PROBE0.PAGE = f.page % 2 ^ 32 ∧ u.bd.get pFCM F.FCM_PROBE1.KEY = f.key % 2 ^ 12 ∧ u.bd.on pFCM F.FCM_PROBE1.TAG_VALID = true) ∧
    (∀ o, s.cache.op = some o →
      ∃ u o', Ends (.fcmAbort p) s u ∧ u.cache.op = some o' ∧ o'.aborted = true ∧ o'.inv = [] ∧ u.bd.on pFCM F.FCM_STAT.ABORTED = true) ∧
    (∀ o, s.cache.op = some o → s.opLeft o = [] → o.inv = [] →
      ∃ u, Runs .opDone s u ∧ u.cache = { s.cache with op := none } ∧ u.bd.on pFCM F.FCM_STAT.OP_BUSY = false
        ∧ u.bd.get pFCM F.FCM_PROGRESS.DONE = o.total % 2 ^ 24 ∧ u.bd.get pFCM F.FCM_RESULT.CODE = o.code % 2 ^ 8
        ∧ (u.bd.rd pFCM 0x010).getLsbD E.FCM.OP_DONE = true)

/-- R123 to R125: the cache is disabled once nothing in it is dirty, loses its frames, and is enabled again only after INV_ALL has left a clean slate. -/
def Obligations.CacheIsDisabledAndEnabled : Prop :=
  ∀ (s : State) (p : Path),
    (s.bd.gate p pFCM 0x040 false false = none → s.bd.on pFCM F.FCM_STAT.ENABLED = true → s.bd.on pFCM F.FCM_STAT.DISABLING = false →
      ∃ u, Runs (.cacheDisable p) s u ∧ u.bd.on pFCM F.FCM_STAT.DISABLING = true ∧ u.bd.on pFCM F.FCM_STAT.ENABLED = true
        ∧ u.bd.get pFCM F.FCM_CTL.ENABLE = 0 ∧ u.cache = { s.cache with disableFrom := s.dirty }) ∧
    (s.bd.on pFCM F.FCM_STAT.DISABLING = true → s.dirty = 0 →
      ∃ u, Runs .cacheDisableDone s u ∧ u.cache = { s.cache with frames := [] } ∧ u.bd.on pFCM F.FCM_STAT.ENABLED = false
        ∧ u.bd.on pFCM F.FCM_STAT.DISABLING = false ∧ u.bd.on pFCM F.FCM_STAT.CLEAN_SLATE = false
        ∧ (u.bd.rd pFCM 0x010).getLsbD E.FCM.DISABLED = true) ∧
    (s.bd.gate p pFCM 0x040 false false = none → s.bd.on pFCM F.FCM_STAT.ENABLED = false → s.bd.on pFCM F.FCM_STAT.CLEAN_SLATE = true → s.cache.staged = [] →
      ∃ u, Runs (.cacheEnable p) s u ∧ s.SameBelow u ∧ u.bd.on pFCM F.FCM_STAT.ENABLED = true ∧ u.bd.on pFCM F.FCM_STAT.CLEAN_SLATE = false
        ∧ s.bd.Only u.bd [(pFCM, 16), (pFCM, 17)]) ∧
    (s.bd.gate p pFCM 0x040 false false = none → s.bd.on pFCM F.FCM_STAT.ENABLED = false → s.bd.on pFCM F.FCM_STAT.CLEAN_SLATE = false →
      ∃ u, Runs (.cacheEnable p) s u ∧ s.SameBelow u ∧ u.bd.on pFCM F.FCM_STAT.ENABLED = false
        ∧ u.bd.get pFCM F.PAGE_REJECT.CODE = Code.conflict.num ∧ (u.bd.rd pFCM 0x010).getLsbD E.FCM.ENABLE_REFUSED = true)

/-- R45, R127, R128, R130: a change of the window size is under way until its joining frames are clean, and then the window has the new size; a remap is under way until its
frames are clean, and then says so. -/
def Obligations.VolatileWindowChanges : Prop :=
  ∀ (s : State) (p : Path),
    (∀ size : BitVec 4, size.toNat ≤ 4 → s.bd.gate p pVWN 0x040 false false = none → s.bd.on pVWN F.VWN_STAT.RESIZING = false →
      (∀ hw, hw < 64 → s.bd.committed hw = false) →
      ∃ u, Runs (.vwnResize p size) s u ∧ u.cache = { s.cache with resize := some (s.bd.windowWays, size.toNat) }
        ∧ u.bd.get pVWN F.VWN_CFG.SIZE = size.toNat ∧ u.bd.on pVWN F.VWN_STAT.RESIZING = true
        ∧ u.bd.get pVWN F.VWN_STAT.CURRENT = s.bd.get pVWN F.VWN_STAT.CURRENT) ∧
    (∀ old new, s.cache.resize = some (old, new) → new ≤ 4 → s.cache.frames = [] →
      ∃ u, Runs .resizeDone s u ∧ u.cache.resize = none ∧ u.bd.get pVWN F.VWN_STAT.CURRENT = new ∧ u.bd.on pVWN F.VWN_STAT.RESIZING = false
        ∧ (u.bd.rd pVWN 0x010).getLsbD E.VWN.RESIZE_DONE = true ∧ (∀ v ∈ u.cache.bitmap, v ∈ s.cache.bitmap ∧ v / 2 ^ 21 < old ∧ v / 2 ^ 21 < new)) ∧
    (s.bd.gate p pVWN 0x048 false false = none → s.bd.on pVWN F.VWN_CMD.REMAP = false →
      ∃ u, Runs (.remap p) s u ∧ u.cache = s.cache ∧ u.bd.on pVWN F.VWN_CMD.REMAP = true ∧ u.bd.on pVWN F.VWN_STAT.REMAPPING = true) ∧
    (s.bd.on pVWN F.VWN_STAT.REMAPPING = true → s.planFrames s.remapPlan = [] →
      ∃ u, Runs .remapDone s u ∧ u.bd.on pVWN F.VWN_CMD.REMAP = false ∧ u.bd.on pVWN F.VWN_STAT.REMAPPING = false
        ∧ u.cache.frames = s.cache.frames ∧ (u.bd.rd pVWN 0x010).getLsbD E.VWN.REMAP_DONE = true)

/-- R108 to R118: a scrub read moves the scrubber on by one line; a slow lap is told; a flip is armed in TEST or by the management path with a mask that is not zero;
a pseudo-channel that times out and a stack that loses lock are lost. -/
def Obligations.StacksAreScrubbedAndLost : Prop :=
  ∀ (s : State) (k : Fin 4),
    (s.bd.powered (pFCC k.val) = true → s.bd.on (pFCC k.val) F.FCC_CFG.SCRUB_EN = true → s.bd.stackLost k.val = false → s.bd.serves (pFCC k.val) = true →
      s.bd.get (pFCC k.val) F.FCC_SCRUB_POS.LINE + 1 < 805306368 →
      ∃ u v : State, Runs (.scrubRead k 0) s u ∧ v = s.scrubLine k.val (s.bd.get (pFCC k.val) F.FCC_SCRUB_POS.LINE) 0
        ∧ u = { v with bd := u.bd } ∧ u.bd.get (pFCC k.val) F.FCC_SCRUB_POS.LINE = s.bd.get (pFCC k.val) F.FCC_SCRUB_POS.LINE + 1
        ∧ v.bd.Only u.bd [(pFCC k.val, F.FCC_SCRUB_POS.LINE.off / 4)]) ∧
    (s.bd.powered (pFCC k.val) = true → s.bd.on (pFCC k.val) F.FCC_CFG.SCRUB_EN = true → k.val ∉ s.cache.scrubTold →
      ∃ u, Ends (.scrubSlow k) s u ∧ u.cache = { s.cache with scrubTold := nsInsert k.val s.cache.scrubTold }
        ∧ (u.bd.rd (pFCC k.val) 0x010).getLsbD E.FCC.SCRUB_SLOW = true ∧ s.bd.now ≤ u.bd.now) ∧
    (∀ target : Fin 8, target.val ≤ 4 → s.bd.gate .mgmt (pFCC k.val) 0x060 (decide (s.bd.unit (pFCC k.val) ≠ stTEST)) false = none →
      s.bd.get64 (pFCC k.val) F.FCC_FLIP_LO.MASK F.FCC_FLIP_HI.MASK ≠ 0 →
      ∃ u, Ends (.fccFlipArm .mgmt k target) s u ∧ s.SameBelow u ∧ u.bd.on (pFCC k.val) F.FCC_FLIP_CTL.ARM = true
        ∧ u.bd.get (pFCC k.val) F.FCC_FLIP_CTL.TARGET = target.val ∧ s.bd.Only u.bd [(pFCC k.val, 24)]) ∧
    (∀ ch : Fin 32, s.bd.powered (pFCC k.val) = true → Runs (.hbmAccessTimeout k ch) s (s.pcFail k.val ch.val true)) ∧
    (s.bd.powered (pFCC k.val) = true → Runs (.hbmPhyLockLoss k) s (s.stackFail k.val 0))

/-! ### The write path -/

/-- R190, R191, R297, R345: a hold time or spacing that runs out moves the clock on to its end and nothing else; what has become due is then done. -/
def Obligations.ExpiriesMoveTheClock : Prop :=
  ∀ (s : State) (t : Nat),
    (∀ page i f, s.frameOf page = some (i, f) → leastOf ((f.lines.filter (fun l => l.2.dirty && !l.2.patched)).map (fun l => l.2.since)) = some t →
      ∃ u, Runs (.denseHoldExpiry page) s u ∧ s.SameBelow u ∧ u.bd = { s.bd with now := max s.bd.now (t + s.bd.holdTime) }) ∧
    (leastOf (s.wp.patches.map PatchRef.since) = some t →
      ∃ u, Runs .patchHoldExpiry s u ∧ s.SameBelow u ∧ u.bd = { s.bd with now := max s.bd.now (t + s.bd.holdTime) }) ∧
    (leastOf ((s.wp.folds.filter (fun f => f.programmed.isSome)).filterMap (fun f => (smFind f.page s.wp.lastCommit).map (· + 120))) = some t →
      ∃ u, Runs .foldSpacingExpiry s u ∧ s.SameBelow u ∧ u.bd = { s.bd with now := max s.bd.now t }) ∧
    (∀ lln, s.oldestDirty = some (lln, t) → s.bd.declared = false →
      ∃ u v : State, Runs .stripeOverdue s u ∧ s.SameBelow v ∧ v.bd = { s.bd with now := max s.bd.now (t + 100) } ∧ u = (v.judgeOverdue).issueOverdue)

/-- R204, R205, R213, R343: a slot that its mask closes starts no work; a verified copy of a page whose map entry still names the source becomes its base; a replay runs in its phases,
and its end loads the whole map. -/
def Obligations.SlotsCopiesAndReplay : Prop :=
  ∀ s : State,
    (∀ slot : Fin 64, s.bd.on pRTM F.RTM_STAT.DRAIN = false → nbit s.slot.mask slot.val = false →
      ∃ u, Runs (.slotStart slot) s u ∧ u = { s with slot := { s.slot with isOpen := false, used := 0, governed := 0, background := 0 }, bd := u.bd }
        ∧ u.bd.get pRTM F.RTM_STAT.SLOT = slot.val ∧ s.bd.Only u.bd [(pRTM, F.RTM_STAT.SLOT.off / 4)]) ∧
    (∀ i src page dst bad p, s.wp.copies[i]? = some (src, page, dst, bad) → s.journalFull = false → s.mediaPage dst = some p → p.page = page →
      p.gen = (s.mapEntry page).gen → (s.mapEntry page).hasBase = true → (s.mapEntry page).ppa = src →
      ∃ u e, Runs (.copyVerified i true) s u ∧ smFind page u.mapx.map = some e ∧ e.ppa = dst ∧ e.gen = p.gen ∧ e.patched = (s.mapEntry page).patched
        ∧ u.bd.get pRCL F.RCL_COPIED.COUNT = min (2 ^ 32 - 1) (s.bd.get pRCL F.RCL_COPIED.COUNT + 1) ∧ u.wp.copies.length + 1 = s.wp.copies.length) ∧
    (s.seq.stage = 2 → s.openBands = [] →
      ∃ u, Runs .replay s u ∧ u.seq.stage = 3 ∧ u.bd.get pCKP F.CKP_STAT.PHASE = 6 ∧ u.wp.replayFrom = s.bd.now) ∧
    (∀ lost, s.seq.stage = 3 → s.ledgerFound.declared = false →
      ∃ u, Runs (.replayDone lost) s u ∧ u.seq = { s.seq with stage := 4 } ∧ u.mapx = { s.mapx with loadedAll := true, loaded := [] }
        ∧ u.bd.get pCKP F.CKP_STAT.PHASE = 0 ∧ u.bd.on pMAP F.MAP_SEG_STAT.ALL_LOADED = true ∧ (u.bd.rd pCKP 0x010).getLsbD E.CKP.REPLAY_DONE = true)

/-! ### Age, patrol and health -/

/-- R217, R218, R228, R242, R247, R462: a thermal round, an old-field mark and the saves of the age clocks, the patrol cursor and the health log each move the clock on to the end of their period,
and then do their work on what they find there. -/
def Obligations.PeriodicWorkKeepsItsPeriods : Prop :=
  ∀ s : State,
    (∀ readings : List (Option (BitVec 16)),
      ∃ u v w : State, ∃ temps : List (Option Int), Runs (.thermalRound readings) s u ∧ v = s.on (fun b => b.elapse 4 10000)
        ∧ temps = (List.range 52).map (fun n => (readings.map (fun x => x.map BitVec.toInt)).getD n none)
        ∧ w = ((((v.mediaTemps temps).2.judgeSensors (v.mediaTemps temps).1).throttle).ageRound (v.bd.now - smGet (fun _ => 0) s.bd.marks 4))
        ∧ u.thm = w.thm ∧ u.media = w.media ∧ (w.bd.powered pHLT = false → u = w)) ∧
    (s.bd.powered pAGE = true →
      ∃ u v : State, Ends .oldMarkTick s u ∧ v = s.on (fun b => b.elapse 0 60000000) ∧ u = (v.markOld (fun n => decide (32000000 ≤ v.age32 n))).2) ∧
    (s.bd.powered pAGE = true → ∃ u v : State, Ends .ageSave s u ∧ v = s.on (fun b => b.elapse 1 60000000) ∧ u = v.saveAge) ∧
    (s.bd.powered pPTL = true → ∃ u v : State, Ends .ptlCursorSave s u ∧ v = s.on (fun b => b.elapse 3 60000000) ∧ u = v.savePatrol) ∧
    (∃ u v : State, Ends .healthSave s u ∧ v = (s.on (fun b => b.elapse 5 3600000000)).countHours ∧ u = v.saveHealth) ∧
    (∃ u v : State, Ends .healthMetaCopy s u ∧ v = s.on (fun b => b.elapse 6 86400000000) ∧ u = v.dirtySegment 4512) ∧
    (s.bd.powered pWGV = true →
      ∃ u v : State, ∃ mean : Nat, Ends .wgvDaily s u ∧ u = v.followHealth
        ∧ mean = ((s.media.fields.filter (fun (e : Nat × Field) => !e.2.retired)).map (fun (e : Nat × Field) => e.2.wear)).sum
            / max 1 (2 ^ 20 - (s.media.fields.length - (s.media.fields.filter (fun (e : Nat × Field) => !e.2.retired)).length))
        ∧ v.bd.get pWGV F.WGV_MEAN.UNITS = mean % 2 ^ 25 ∧ v.age.wearLog = (s.age.wearLog ++ [mean]).drop (s.age.wearLog.length + 1 - 255)
        ∧ v.bd.now = max s.bd.now (smGet (fun _ => 0) s.bd.marks 8 + 86400000000) ∧ v.media = s.media)

/-- R229 to R238, R248: patrol reads the oldest suspect page first; its rate for the next minute is what the lap needs; an inspection of a field is busy until it is done. -/
def Obligations.PatrolAndInspection : Prop :=
  ∀ (s : State) (p : Path),
    (∀ ppa rest, s.patrolRuns = true → s.bgInFlight < s.bd.get pMAP F.MAP_CFG.BG_MAX → s.age.suspects = ppa :: rest → (s.mediaPage ppa).isSome = true →
      s.patrols ppa = true →
      ∃ u r, Runs .patrolIssue s u ∧ u.age.suspects = rest ∧ u.mapx.reads = s.mapx.reads ++ [r] ∧ r.ppa = ppa ∧ r.whole = true) ∧
    (∀ want, s.bd.unit pPTL = stSERVICE → s.bd.on pPTL F.PTL_CFG.EN = true → s.bd.on pPTL F.PTL_LAP.PRIORITY = false →
      want = s.lapLeft / max 1 ((s.bd.get pPTL F.PTL_CFG.LAP_HOURS * 60 - min (2 ^ F.PTL_ELAPSED.MINUTES.width - 1) (s.bd.get pPTL F.PTL_ELAPSED.MINUTES + 1)) * 60) →
      want ≤ s.bd.get pLOOP F.LOOP_PATROL.MAX_RATE →
      ∃ u, Ends .patrolRatePeriod s u ∧ u.bd.get pPTL F.PTL_RATE.PAGES = min 0xFFFFFF want ∧ u.bd.now = max s.bd.now (smGet (fun _ => 0) s.bd.marks 2 + 60000000)
        ∧ s.SameBelow u) ∧
    (∀ field : Fin 1048576, s.bd.gate p pAGE F.AGE_INSP.FIELD.off false false = none → s.bd.on pAGE F.AGE_INSP_RES.BUSY = false →
      ∃ u, Ends (.ageInsp p field true) s u ∧ u.mapx = { s.mapx with inspectAge := some field.val } ∧ u.bd.on pAGE F.AGE_INSP_RES.BUSY = true
        ∧ u.bd.get pAGE F.AGE_INSP.FIELD = field.val)

/-! ### Fences, losses and reservations -/

/-- R260 to R264, R269: a fence covers the writes and reads of its head; it completes when its condition holds, with what it lost; its deadline moves the clock on to 45 µs; its durability is
shown once; the oldest loss record is popped. -/
def Obligations.FencesRunAndComplete : Prop :=
  ∀ (s : State) (h slot : Fin 8) (d : Head), s.heads[h.val]? = some d →
    (∀ (p : Path) (w : Word), s.bd.gate p (pHPT h.val) (F.HPT_FNC_CTL.SCOPE.ix slot.val).off false true = none →
      s.bd.on (pHPT h.val) (F.HPT_FNC_STAT.BUSY.ix slot.val) = false → wordBits w 2 1 = 1 → wordBits w 0 2 ≠ 3 →
      ∃ u d' f, Runs (.fenceStart p h slot w) s u ∧ u.heads[h.val]? = some d' ∧ d'.fences = d.fences.filter (fun x => decide (x.slot ≠ slot.val)) ++ [f]
        ∧ f.slot = slot.val ∧ f.scope = wordBits w 0 2 ∧ f.running = true ∧ f.start = s.bd.now ∧ f.reads = d.reads.map (fun r => r.req.id)
        ∧ f.writes = (d.writes.filter (fun w => decide (w.req.ask = .write))).map (fun w => w.req.id)
        ∧ d'.writes = d.writes ∧ u.bd.on (pHPT h.val) (F.HPT_FNC_STAT.BUSY.ix slot.val) = true) ∧
    (∀ f, d.fences.find? (fun f => decide (f.slot = slot.val) && f.running) = some f → s.fenceDone d f = true →
      ∃ u d', Ends (.fenceComplete h ⟨slot.val, by omega⟩) s u ∧ u.heads[h.val]? = some d' ∧ d'.writes = d.writes ∧ d'.reads = d.reads
        ∧ u.bd.on (pHPT h.val) (F.HPT_FNC_STAT.BUSY.ix slot.val) = false
        ∧ u.bd.get (pHPT h.val) (F.HPT_FNC_STAT.STATUS.ix slot.val) = d.fenceStatus f % 2 ^ F.HPT_FNC_STAT.STATUS.width
        ∧ u.bd.get (pHPT h.val) (F.HPT_FNC_STAT.LOSSES.ix slot.val) = f.losses % 2 ^ F.HPT_FNC_STAT.LOSSES.width) ∧
    (∀ f, d.fences.find? (fun f => decide (f.slot = slot.val) && f.running) = some f → d.writes = [] →
      ∃ u, Runs (.fenceDeadline h ⟨slot.val, by omega⟩) s u ∧ s.SameBelow u ∧ u.bd = { s.bd with now := max s.bd.now (f.start + 45) }) ∧
    (∀ f, d.fences.find? (fun f => decide (f.slot = slot.val) && decide (f.scope = 3)) = some f → f.lost = false → d.allDurable f = true → f.running = true →
      ∃ u, Ends (.fenceDurable h ⟨slot.val, by omega⟩) s u ∧ s.SameBelow u ∧ u.bd.on (pHPT h.val) (F.HPT_FNC_STAT.DURABLE.ix slot.val) = true
        ∧ s.bd.Only u.bd [(pHPT h.val, (F.HPT_FNC_STAT.DURABLE.ix slot.val).off / 4)]) ∧
    (∀ (p : Path) l rest, s.bd.gate p (pHPT h.val) 0x268 false false = none → d.losses = l :: rest →
      ∃ u d', Ends (.hptLossPop p h) s u ∧ u.heads[h.val]? = some d' ∧ d' = { d with losses := rest }
        ∧ u.bd.get (pHPT h.val) F.HPT_LOSS_STAT.RECORDS = rest.length % 2 ^ F.HPT_LOSS_STAT.RECORDS.width
        ∧ s.bd.Only u.bd [(pHPT h.val, F.HPT_LOSS_STAT.RECORDS.off / 4)])

/-- R265, R271 to R274: a reservation command takes its place in the order of its head and is busy until its answer; the answer is shown; a reservation ends by itself after 1 ms; a
GPF phase 2 fences every head through the media. -/
def Obligations.ReservationsAndFlush : Prop :=
  ∀ (s : State) (h : Fin 8) (k : Fin 4) (d : Head), s.heads[h.val]? = some d →
    (∀ (p : Path) (c : Instr) (ask : Ask) (n : Nat), (c, ask, n) ∈ [(Instr.reserveWord p h k, Ask.reserve, 1), (Instr.condWrite p h k, Ask.cond, 2), (Instr.releaseWord p h k, Ask.release, 3)] →
      s.bd.gate p (pHPT h.val) (F.HPT_RSV_CMD.OP.ix k.val).off false true = none → s.bd.on (pHPT h.val) (F.HPT_RSV_STAT.BUSY.ix k.val) = false →
      ∃ u d' w, Runs c s u ∧ u.heads[h.val]? = some d' ∧ d'.writes = d.writes ++ [w] ∧ w.req.ask = ask ∧ w.req.id = s.home.nextId ∧ w.req.rsv = h.val * 4 + k.val
        ∧ w.inBuf = false ∧ d'.reads = d.reads ∧ u.bd.on (pHPT h.val) (F.HPT_RSV_STAT.BUSY.ix k.val) = true
        ∧ (∀ v, d.rsv[k.val]? = some v → d'.rsv[k.val]? = some { v with op := n, req := s.home.nextId, ans := none })) ∧
    (∀ v result word loss, d.rsv[k.val]? = some v → v.ans = some (result, word, loss) →
      ∃ u d', Ends (.rsvComplete h k) s u ∧ u.heads[h.val]? = some d' ∧ d'.writes = d.writes
        ∧ u.bd.on (pHPT h.val) (F.HPT_RSV_STAT.BUSY.ix k.val) = false
        ∧ u.bd.get (pHPT h.val) (F.HPT_RSV_STAT.RESULT.ix k.val) = result % 2 ^ F.HPT_RSV_STAT.RESULT.width
        ∧ u.bd.get (pHPT h.val) (F.HPT_RSV_STAT.HELD.ix k.val) = (if v.op = 1 ∧ result = 0 then 1 else 0)) ∧
    (∀ (part slot : Fin 32) v, smFind (part.val * 32 + slot.val) s.home.rsv = some v → v.lost = 0 →
      ∃ u v', Ends (.rsvTimeout part slot) s u ∧ smFind (part.val * 32 + slot.val) u.home.rsv = some v' ∧ v' = { v with lost := 2 }
        ∧ u.bd = { s.bd with now := max s.bd.now (v.since + 1000) } ∧ u.heads = s.heads) ∧
    (s.bd.on (pHPT h.val) F.HPT_LINK_STAT.UP = true →
      ∃ u d', Runs (.gpfPhase2 h) s u ∧ u.wp.flushPatch = true ∧ u.heads[h.val]? = some d'
        ∧ (∃ f ∈ d'.fences, f.slot = 8 ∧ f.scope = 3 ∧ f.running = true ∧ f.writes = (d.writes.filter (fun w => decide (w.req.ask = .write))).map (fun w => w.req.id))
        ∧ d'.writes = d.writes ∧ u.bd = s.bd)

/-! ### Keys, sweeps and erases -/

/-- R275, R279 to R284: an import fills an empty slot and seals it; a clear of a slot that nothing names begins to write its lines back; an inspection shows the slot. -/
def Obligations.KeySlotsAreFilledAndCleared : Prop :=
  ∀ (s : State) (p : Path) (k : Fin 4096), s.bd.gate p pKEY 0x040 true false = none → s.bd.on pKEY F.KEY_STAT.BUSY = false →
    (∀ seed : Line, s.bd.unit pKEY ≠ stCONTAINED → s.bd.unit pKEY ≠ stTEST → s.keys.rbgBad = false → (s.keySlot k.val).st = 0 →
      ∃ u, Runs (.importKey p k (some seed)) s u ∧ u.keySlot k.val = ⟨1, 0, seed.toNat, false, false, 1⟩ ∧ u.bd.on pKEY F.KEY_STAT.BUSY = true
        ∧ u.bd.get pKEY F.KEY_CMD.SLOT = k.val ∧ ∀ j, j ≠ k.val → u.keySlot j = s.keySlot j) ∧
    (s.bd.unit pKEY ≠ stCONTAINED → s.bd.unit pKEY ≠ stTEST → s.keys.rbgBad = false → (s.keySlot k.val).st = 0 →
      ∃ u, Runs (.importKey p k none) s u ∧ u.keys.slots = s.keys.slots ∧ u.bd.get pKEY F.KEY_STAT.RESULT = Code.integrity.num
        ∧ u.bd.on pKEY F.KEY_STAT.BUSY = false ∧ (u.bd.rd pKEY 0x010).getLsbD E.KEY.IMPORT_FAILED = true) ∧
    (s.bd.unit pKEY ≠ stCONTAINED → s.bd.unit pKEY ≠ stTEST → (s.keySlot k.val).st = 1 → s.xtn.lxt = [] → (∀ hw, hw < 64 → s.bd.committed hw = false) →
      ∃ u, Runs (.clearKey p k) s u ∧ u.keySlot k.val = { s.keySlot k.val with st := 5, op := 2 } ∧ u.bd.on pKEY F.KEY_STAT.BUSY = true
        ∧ u.keys.busy = some (k.val, (s.dirtyUnder k.val).length, 0)) ∧
    (∃ u, Ends (.inspectKey p k) s u ∧ s.SameBelow u ∧ u.bd.get pKEY F.KEY_INFO1.VERSION = (s.keySlot k.val).ver % 2 ^ 32
      ∧ u.bd.on pKEY F.KEY_STAT.BUSY = false ∧ u.bd.get pKEY F.KEY_STAT.RESULT = Code.ok.num)

/-- R295, R297 to R302: RKY_CMD triggers a re-key of a slot in use and answers OK; a running sweep takes its rate for the next second, saves its cursor, and is told late once; the oldest erase
is done. -/
def Obligations.SweepsAndErasesRun : Prop :=
  ∀ (s : State),
    (∀ (p : Path) (k : Fin 4096), s.bd.gate p pRKY 0x044 true false = none → (s.keySlot k.val).st ≠ 0 → (s.keySlot k.val).st ≠ 5 → (s.keySlot k.val).ver ≠ 2 ^ 32 - 1 →
      ∃ u v : State, Runs (.rkyStart p k) s u ∧ s.SameBelow v ∧ v.bd = s.bd.put pRKY F.RKY_CMD.KEY k.val ∧ u.keys = (v.trigger k.val none).keys
        ∧ u.bd.get pRKY F.RKY_CMD.RESULT = Code.ok.num) ∧
    (∀ w : Sweep, s.keys.sweeps = [w] → (s.keySlot w.slot).st = 3 → s.bd.get pPDR F.PDR_STAT.PHASE = 0 →
      ∃ u w', Ends .sweepRatePeriod s u ∧ u.keys.sweeps = [w'] ∧ w'.slot = w.slot ∧ w'.left.map Prod.fst = w.left.map Prod.fst ∧ w'.done = w.done
        ∧ w'.rate = ceilDiv w.left.length (max 1 (s.bd.get pRKY F.RKY_CFG.TARGET_S
            - (max s.bd.now (smGet (fun _ => 0) s.bd.marks 16 + 1000000) - w.start) / 1000000))) ∧
    (s.keys.sweeps ≠ [] →
      ∃ u v : State, Ends .sweepCursorSave s u ∧ v = s.on (fun b => b.elapse 9 60000000)
        ∧ u.keys.sweeps = s.keys.sweeps.map (fun (w : Sweep) => { w with cursor := v.sweepCursor w }) ∧ u.keys.slots = s.keys.slots) ∧
    (∀ (k : Fin 4096) w, s.sweepOf k.val = some w → w.late = false → (s.keySlot k.val).st = 3 →
      ∃ u w', Runs (.sweepLate k) s u ∧ u.sweepOf k.val = some w' ∧ w' = { w with late := true }
        ∧ u.bd.get pRKY F.RKY_LATE.COUNT = min (2 ^ F.RKY_LATE.COUNT.width - 1) (s.bd.get pRKY F.RKY_LATE.COUNT + 1)
        ∧ (u.bd.rd pRKY 0x010).getLsbD E.RKY.SWEEP_LATE = true) ∧
    (∀ x since rest, s.keys.erases = (x, since) :: rest →
      ∃ u v : State, Runs .eraseDone s u ∧ u = (v.dirtySegment (4288 + x / 512)).followLimit ∧ v.keys.erases = rest
        ∧ (v.bd.rd pCRY 0x010).getLsbD E.CRY.ERASE_DONE = true ∧ (∀ q ∈ v.wp.patches, inExtent x q.lln = false)
        ∧ (∀ f ∈ v.wp.folds, f.page / 2 ^ 16 ≠ x))

/-! ### Extent tables and decoders -/

/-- R40, R41, R43, R46 to R48, R52, R53, R62: a table access is busy until it completes and then shows its result and, for a read, the entry's words; a write that the checks let through takes
effect in its order; a released entry is free once nothing is open through it; a decoder that commits shows its window. -/
def Obligations.ExtentTablesAndDecoders : Prop :=
  ∀ (s : State),
    (∀ (p : Path) (t : Fin 4) (i : Fin 65536), s.bd.gate p pXTN 0x044 false false = none → s.bd.on pXTN F.XTN_ACC_STAT.BUSY = false → t.val ≠ 3 →
      ∃ u, Ends (.xtnRead p t i) s u ∧ u.xtn = { s.xtn with access := some ⟨(s.tableRead t.val i.val).1.num, some (s.tableRead t.val i.val).2⟩ }
        ∧ u.bd.on pXTN F.XTN_ACC_STAT.BUSY = true ∧ s.bd.Only u.bd [(pXTN, 17), (pXTN, F.XTN_ACC_STAT.BUSY.off / 4)]) ∧
    (∀ (p : Path) (i : Fin 65536) (c : Instr) (t : Nat), (c, t) ∈ [(Instr.xtnHxtWrite p i, 0), (Instr.xtnXmbWrite p i, 1), (Instr.xtnLxtWrite p i, 2)] →
      s.bd.gate p pXTN 0x044 true false = none → s.bd.on pXTN F.XTN_ACC_STAT.BUSY = false →
      ∃ u v : State, ∃ code : Code, Runs c s u ∧ s.SameBelow v ∧ v.bd.on pXTN F.XTN_ACC_STAT.BUSY = true
        ∧ s.bd.Only v.bd [(pXTN, 17), (pXTN, F.XTN_ACC_STAT.BUSY.off / 4)]
        ∧ (code, { u with xtn := { u.xtn with access := s.xtn.access } }) = v.tableWrite t i.val (s.bd.accData 0) (s.bd.accData 1) (s.bd.accData 2) (s.bd.accData 3)
        ∧ u.xtn.access = some ⟨code.num, none⟩) ∧
    (∀ a, s.xtn.access = some a →
      ∃ u, Ends .xtnAccDone s u ∧ u.xtn = { s.xtn with access := none } ∧ u.bd.on pXTN F.XTN_ACC_STAT.BUSY = false
        ∧ u.bd.get pXTN F.XTN_ACC_STAT.RESULT = a.result % 2 ^ 8
        ∧ ∀ d, a.data = some d → ∀ k, k < 4 → u.bd.get pXTN (F.XTN_ACC_DATA.DATA.ix k) = d.getD k 0 % 2 ^ 32) ∧
    (∀ i : Fin 8192, (s.hxt i.val).st = 3 → s.openThrough i.val = 0 →
      ∃ u, Runs (.releaseDone i) s u ∧ u.hxt i.val = { s.hxt i.val with st := 0, forced := false } ∧ (∀ j, j ≠ i.val → u.hxt j = s.hxt j)
        ∧ (u.bd.rd pXTN 0x010).getLsbD E.XTN.RELEASE_DONE = true) ∧
    (∀ (h w : Fin 8) (base size dpa : BitVec 64) (ways : Fin 17) (gran : Fin 16) (iw r : Nat), s.bd.powered pXTN = true → s.bd.unit (pHPT h.val) ≠ stOFF →
      waysCode ways.val = some iw → s.bd.windowType dpa.toNat (size.toNat / ways.val) = some (2, r) → gran.val ≤ 6 → size.toNat % 2 ^ 28 = 0 →
      base.toNat % 2 ^ 28 = 0 → s.bd.committed (8 * h.val + w.val) = false →
      ∃ u, Ends (.decoderCommit h w base size dpa ways gran) s u ∧ u.bd.out = s.bd.out ++ [.decoder h.val w.val true]
        ∧ u.bd.committed (8 * h.val + w.val) = true ∧ u.bd.get pXTN (F.WIN_CTL.TYPE.ix (8 * h.val + w.val)) = 2
        ∧ u.bd.get pXTN (F.WIN_CTL.IG.ix (8 * h.val + w.val)) = gran.val
        ∧ smGet (fun _ => 0) u.xtn.dpaBase (8 * h.val + w.val) = dpa.toNat)

/-! ### The mailbox -/

/-- R81, R82, R244: a Get command of the mailbox answers Success with its payload and changes nothing but HPT_MBX_LAST: the timestamp is rack time in ns, the partition values are 0, the shutdown
state and the interrupt policy are as stored. -/
def Obligations.MailboxGetsAnswer : Prop :=
  ∀ (s : State) (h : Fin 8), s.bd.MailboxOpen h.val →
    (∀ c op, (c, op) ∈ [(Instr.getEventInterruptPolicy h 0, 0x0102), (Instr.getFwInfo h 0, 0x0200), (Instr.getTimestamp h 0, 0x0300), (Instr.getSupportedLogs h 0, 0x0400),
        (Instr.identifyMemoryDevice h 0, 0x4000), (Instr.getPartitionInfo h 0, 0x4100), (Instr.getHealthInfo h 0, 0x4200), (Instr.getAlertConfig h 0, 0x4201),
        (Instr.getShutdownState h 0, 0x4203)] →
      ∃ u payload, Ends c s u ∧ s.SameBelow u ∧ Answers s u h.val op rcSuccess payload ∧ s.bd.Only u.bd [mbxLast h.val]) ∧
    (∃ u, Ends (.getTimestamp h 0) s u ∧ Answers s u h.val 0x0300 rcSuccess (leBytes 8 (s.bd.rackTime * 1000))) ∧
    (∃ u, Ends (.getPartitionInfo h 0) s u ∧ Answers s u h.val 0x4100 rcSuccess (List.replicate 32 0)) ∧
    (∀ d, s.heads[h.val]? = some d →
      (∃ u, Ends (.getShutdownState h 0) s u ∧ Answers s u h.val 0x4203 rcSuccess (leBytes 1 d.shutdown)) ∧
      (∃ u, Ends (.getEventInterruptPolicy h 0) s u ∧ Answers s u h.val 0x0102 rcSuccess (d.evtPolicy.flatMap (leBytes 2)))) ∧
    (∀ start size : BitVec 64, ∃ u payload, Ends (.getPoisonList h 16 start size) s u ∧ s.SameBelow u ∧ Answers s u h.val 0x4300 rcSuccess payload
      ∧ s.bd.Only u.bd [mbxLast h.val])

/-- R82, R83: the commands that Table 03-5 lists as unsupported, and every opcode that it does not list, answer Unsupported and change nothing but HPT_MBX_LAST; while the head is CONTAINED a command returns
Media Disabled, but for the four that run in every state. -/
def Obligations.MailboxRefusals : Prop :=
  ∀ (s : State) (h : Fin 8),
    (s.bd.MailboxOpen h.val →
      (∀ c op, (c, op) ∈ [(Instr.transferFw h, 0x0201), (Instr.activateFw h, 0x0202), (Instr.setTimestamp h, 0x0301), (Instr.sanitize h, 0x4400), (Instr.secureErase h, 0x4401)] →
        ∃ u, Ends c s u ∧ s.SameBelow u ∧ Answers s u h.val op rcUnsupported [] ∧ s.bd.Only u.bd [mbxLast h.val]) ∧
      (∀ op : BitVec 16, op.toNat ∉ celEntries.map Prod.fst → op.toNat ∉ [0x0201, 0x0202, 0x0301, 0x4400, 0x4401] →
        ∃ u, Ends (.mailboxUnsupported h op) s u ∧ s.SameBelow u ∧ Answers s u h.val op.toNat rcUnsupported [] ∧ s.bd.Only u.bd [mbxLast h.val])) ∧
    (s.bd.mailboxUp h.val = true → s.bd.unit (pHPT h.val) = stCONTAINED →
      (∀ (len : BitVec 21) (v : BitVec 8) c op, (c, op) ∈ [(Instr.getEventInterruptPolicy h len, 0x0102), (Instr.getFwInfo h len, 0x0200), (Instr.getTimestamp h len, 0x0300),
          (Instr.setShutdownState h len v, 0x4204), (Instr.getPartitionInfo h len, 0x4100), (Instr.getAlertConfig h len, 0x4201), (Instr.transferFw h, 0x0201)] →
        ∃ u, Ends c s u ∧ s.SameBelow u ∧ Answers s u h.val op rcMediaDisabled [] ∧ s.bd.Only u.bd [mbxLast h.val]) ∧
      (∀ (d : Head) (log : BitVec 8), s.heads[h.val]? = some d → log.toNat ≤ 4 →
        ∃ u payload, Ends (.getEventRecords h 1 log) s u ∧ Answers s u h.val 0x0100 rcSuccess payload) ∧
      (∃ u payload, Ends (.identifyMemoryDevice h 0) s u ∧ Answers s u h.val 0x4000 rcSuccess payload) ∧
      (∃ u payload, Ends (.getHealthInfo h 0) s u ∧ Answers s u h.val 0x4200 rcSuccess payload))

/-- R78 to R82: event records are returned and cleared by handle, a part of the Command Effects Log is returned, the policy, alert thresholds and shutdown state take what is written, and the
regions are listed. -/
def Obligations.MailboxSettings : Prop :=
  ∀ (s : State) (h : Fin 8) (d : Head), s.bd.MailboxOpen h.val → s.heads[h.val]? = some d →
    (∀ log : BitVec 8, log.toNat ≤ 4 → ∃ u payload, Ends (.getEventRecords h 1 log) s u ∧ s.SameBelow u ∧ Answers s u h.val 0x0100 rcSuccess payload
      ∧ s.bd.Only u.bd [mbxLast h.val]) ∧
    (∃ u d', Ends (.clearEventRecords h 6 0 true []) s u ∧ Answers s u h.val 0x0101 rcSuccess [] ∧ u.heads[h.val]? = some d'
      ∧ d' = { d with info := { d.info with recs := [], ovr := 0 } } ∧ s.bd.Only u.bd [mbxLast h.val]) ∧
    (∀ offset size : Word, offset.toNat + size.toNat ≤ celBytes.length →
      ∃ u, Ends (.getLog h 24 true offset size) s u ∧ s.SameBelow u ∧ Answers s u h.val 0x0401 rcSuccess ((celBytes.drop offset.toNat).take size.toNat)) ∧
    (∀ (modes : List (Fin 16)) (vectors : List (Fin 256)), ∃ u d', Ends (.setEventInterruptPolicy h 10 modes vectors) s u ∧ Answers s u h.val 0x0103 rcSuccess [] ∧ u.heads[h.val]? = some d'
      ∧ d' = { d with evtPolicy := (List.range 5).map (fun k => (modes.map Fin.val).getD k 0 % 4 + (vectors.map Fin.val).getD k 0 % 256 * 16) }
      ∧ s.bd.Only u.bd [mbxLast h.val]) ∧
    (∀ (life : BitVec 8) (temp : BitVec 16), 0 < life.toNat → life.toNat ≤ 100 → temp.toNat ≤ 125 →
      ∃ u, Ends (.setAlertConfig h 12 3 life temp) s u ∧ Answers s u h.val 0x4202 rcSuccess [] ∧ u.bd.get pHLT F.HLT_WARN.LIFE_WARN = life.toNat
        ∧ u.bd.get pHLT F.HLT_WARN.TEMP_WARN = temp.toNat ∧ u.heads = s.heads) ∧
    (∀ v : BitVec 8, v.toNat ≤ 1 →
      ∃ u d', Ends (.setShutdownState h 1 v) s u ∧ Answers s u h.val 0x4204 rcSuccess [] ∧ u.heads[h.val]? = some d' ∧ d' = { d with shutdown := v.toNat }) ∧
    (∀ count start : BitVec 8, start.toNat < 8 → ∃ u payload, Ends (.getDynamicCapacityConfig h 2 count start) s u ∧ s.SameBelow u
      ∧ Answers s u h.val 0x4800 rcSuccess (leBytes 1 8 ++ leBytes 1 (min count.toNat (8 - start.toNat)) ++ payload) ∧ s.bd.Only u.bd [mbxLast h.val])

/-- R53, R75, R82: an injected poison and a cleared one leave as writes of the head; the extents of a head are listed; the whole of an offered entry is accepted, and the whole of an active one is
released. -/
def Obligations.MailboxPoisonAndExtents : Prop :=
  ∀ (s : State) (h : Fin 8) (d : Head), s.bd.MailboxOpen h.val → s.heads[h.val]? = some d →
    (∀ (dpa : BitVec 64) (v : State), d.injected.length < 64 → s.mbxWrite h.val (dpa.toNat / 64 * 64) 0 true = some v →
      ∃ u d', Runs (.injectPoison h 8 dpa) s u ∧ Answers v u h.val 0x4301 rcSuccess [] ∧ u.heads[h.val]? = some d' ∧ dpa.toNat / 64 * 64 ∈ d'.injected
        ∧ u.home = v.home ∧ u.traffic = v.traffic) ∧
    (∀ (dpa : BitVec 64) (data : Line) (v : State), s.mbxWrite h.val (dpa.toNat / 64 * 64) data false = some v →
      ∃ u d', Runs (.clearPoison h 72 dpa data) s u ∧ Answers v u h.val 0x4302 rcSuccess [] ∧ u.heads[h.val]? = some d' ∧ dpa.toNat / 64 * 64 ∉ d'.injected
        ∧ dpa.toNat / 64 * 64 ∉ d'.poisonList ∧ u.home = v.home ∧ u.traffic = v.traffic) ∧
    (∀ count start : Word, start.toNat ≤ (s.hxtOf h.val [2, 3]).length →
      ∃ u payload, Ends (.getDynamicCapacityExtentList h 8 count start) s u ∧ s.SameBelow u ∧ s.bd.Only u.bd [mbxLast h.val]
        ∧ Answers s u h.val 0x4801 rcSuccess (leBytes 4 (min (min 84 count.toNat) ((s.hxtOf h.val [2, 3]).length - start.toNat)) ++ payload)) ∧
    (∀ (i : Nat) (e : Hxt) (dpa len : BitVec 64), s.xtn.hxt = [(i, e)] → e.head = h.val → (dpa.toNat, len.toNat) = e.range → 0 < e.length → e.st = 1 →
      ∃ u, Runs (.addDynamicCapacityResponse h 32 [(dpa, len)]) s u ∧ Answers s u h.val 0x4802 rcSuccess [] ∧ u.hxt i = { e with st := 2 }
        ∧ s.bd.Only u.bd [mbxLast h.val]) ∧
    (∀ (i : Nat) (e : Hxt) (dpa len : BitVec 64), s.xtn.hxt = [(i, e)] → e.head = h.val → (dpa.toNat, len.toNat) = e.range → 0 < e.length → e.st = 2 →
      ∃ u, Runs (.releaseDynamicCapacity h 32 [(dpa, len)]) s u ∧ Answers s u h.val 0x4803 rcSuccess [] ∧ u.hxt i = { e with st := 3, forced := false }
        ∧ s.bd.Only u.bd [mbxLast h.val])

/-! ### The shelf links and the ring -/

/-- R304, R306, R310, R316: a shelf link trains, passes HELLO and goes DOWN phase by phase, each after its time; a miscabled HELLO opens MISCABLE; a lane that fails narrows the link or
sends it to RECOVER. -/
def Obligations.LinksTrainAndRecover : Prop :=
  ∀ (s : State) (k : Fin 2) (l : Link), s.shelf.links[k.val]? = some l →
    (s.bd.phase k.val = 0 → s.bd.powered (pSHL k.val) = true →
      ∃ u l', Runs (.shlTrainStart k) s u ∧ u.bd.phase k.val = 1 ∧ u.shelf.links[k.val]? = some l' ∧ l' = { l with phaseAt := max 1 u.bd.now }
        ∧ u.bd.now = max s.bd.now (if l.phaseAt = 0 then 0 else l.phaseAt + (if l.helloFailed then 1000000 else 10000))
        ∧ u.bd.on (pSHL k.val) F.SHL_CAUSE.DOWN = false) ∧
    (∀ wide fast : Bool, s.bd.phase k.val = 1 →
      ∃ u, Runs (.shlTrained k wide fast) s u ∧ u.bd.phase k.val = 2 ∧ u.bd.get (pSHL k.val) F.SHL_STAT.WIDTH = (if wide then 8 else 4)
        ∧ u.bd.on (pSHL k.val) F.SHL_STAT.SPEED = (fast && s.bd.on (pSHL k.val) F.SHL_CFG.MAX_SPEED) ∧ u.bd.on (pSHL k.val) F.SHL_CAUSE.NARROW = !wide) ∧
    (s.bd.phase k.val = 1 ∨ s.bd.phase k.val = 2 →
      ∃ u l', Runs (.shlPhaseTimeout k) s u ∧ u.bd.phase k.val = 0 ∧ u.bd.on (pSHL k.val) F.SHL_STAT.PEER_VALID = false
        ∧ u.shelf.links[k.val]? = some l' ∧ l'.helloFailed = decide (s.bd.phase k.val = 2) ∧ l'.keys = 0 ∧ l'.everUp = l.everUp
        ∧ u.bd.now = max s.bd.now (l.phaseAt + (if s.bd.phase k.val = 1 then 30000 else 50000))
        ∧ (u.bd.rd (pSHL k.val) 0x010).getLsbD E.SHL.LINK_DOWN = true) ∧
    (∀ (peer : Fin 32) (side : Fin 2), s.bd.phase k.val = 2 → miscabled s.bd.selfId k.val peer.val side.val = 0 →
      ∃ u l', Runs (.hello k peer side true true true) s u ∧ u.bd.phase k.val = 3 ∧ u.bd.get (pSHL k.val) F.SHL_STAT.PEER_ID = peer.val
        ∧ u.bd.on (pSHL k.val) F.SHL_STAT.PEER_VALID = true ∧ u.shelf.links[k.val]? = some l' ∧ l'.helloFailed = false ∧ l'.keys = 0) ∧
    (∀ (peer : Fin 32) (side : Fin 2) (chain signature decapsulated : Bool), s.bd.phase k.val = 2 → miscabled s.bd.selfId k.val peer.val side.val ≠ 0 →
      ∃ u, Runs (.hello k peer side chain signature decapsulated) s u ∧ u.bd.phase k.val = 0 ∧ u.bd.on (pSHL k.val) F.SHL_CAUSE.MISCABLE = true
        ∧ u.bd.on (pSHL k.val) F.SHL_STAT.PEER_VALID = false ∧ (u.bd.rd (pSHL k.val) 0x010).getLsbD E.SHL.MISCABLE = true) ∧
    (s.bd.phase k.val = 4 →
      ∃ u l', Runs (.shlIdleTimeout k) s u ∧ u.bd.phase k.val = 5 ∧ u.bd.now = max s.bd.now (l.goodAt + s.bd.get (pSHL k.val) F.SHL_CFG.IDLE_US)
        ∧ u.shelf.links[k.val]? = some l' ∧ l' = { l with phaseAt := max 1 u.bd.now }) ∧
    (∀ discarded : BitVec 16, s.bd.phase k.val = 5 →
      ∃ u, Runs (.shlRecoverTimeout k discarded) s u ∧ u.bd.phase k.val = 0 ∧ u.bd.now = max s.bd.now (l.phaseAt + s.bd.get (pSHL k.val) F.SHL_CFG.RECOVER_US)
        ∧ u.bd.get (pSHL k.val) F.SHL_DISCARD.COUNT = min (2 ^ F.SHL_DISCARD.COUNT.width - 1) (s.bd.get (pSHL k.val) F.SHL_DISCARD.COUNT + discarded.toNat)
        ∧ (l.everUp = true → u.bd.on (pSHL k.val) F.SHL_CAUSE.DOWN = true) ∧ (u.bd.rd (pSHL k.val) 0x010).getLsbD E.SHL.LINK_DOWN = true) ∧
    (s.bd.phase k.val = 5 → ∃ u l', Runs (.shlRecovered k) s u ∧ u.bd.phase k.val = 4 ∧ u.bd.now = s.bd.now ∧ u.shelf.links[k.val]? = some l'
      ∧ l' = { l with phaseAt := max 1 s.bd.now, everUp := true, goodAt := s.bd.now }) ∧
    (∀ (lane : Fin 8) (stall : Word), s.bd.phase k.val = 4 → s.bd.get (pSHL k.val) F.SHL_LANE_ERR.LANE_FAULT = 0 →
      ∃ u, Runs (.shlLaneFault k lane stall) s u ∧ u.bd.get (pSHL k.val) F.SHL_LANE_ERR.LANE_FAULT = 2 ^ lane.val
        ∧ (s.bd.on (pSHL k.val) F.SHL_CFG.LANE_DROP_EN = true → u.bd.phase k.val = 4 ∧ u.bd.get (pSHL k.val) F.SHL_STAT.WIDTH = 4
            ∧ u.bd.on (pSHL k.val) F.SHL_CAUSE.NARROW = true ∧ (u.bd.rd (pSHL k.val) 0x010).getLsbD E.SHL.LANE_DROP = true)
        ∧ (s.bd.on (pSHL k.val) F.SHL_CFG.LANE_DROP_EN = false → u.bd.phase k.val = 5))

/-- R307 to R309: a good flit is remembered and a bad one is asked for again from the last good one; a link key that is derived at both ends toggles the phase; the manager issues keys to every
part it holds a session with; a packet for another part leaves on the other link, or is discarded where that carries none. -/
def Obligations.FlitsKeysAndPackets : Prop :=
  ∀ (s : State) (k : Fin 2) (l : Link), s.shelf.links[k.val]? = some l →
    (∀ seq ack : Fin 1024, 2 ≤ s.bd.phase k.val →
      ∃ u l', Runs (.flitRx k seq ack 0 true false true) s u ∧ u.bd = s.bd ∧ u.shelf.links[k.val]? = some l'
        ∧ l' = { l with acked := ack.val, goodAt := s.bd.now, goodSeq := seq.val }) ∧
    (∀ (seq ack : Fin 1024) (fec : Fin 5) (nak groupMac : Bool), 2 ≤ s.bd.phase k.val →
      ∃ u, Runs (.flitRx k seq ack fec false nak groupMac) s u ∧ s.SameBelow u ∧ u.bd.out = s.bd.out ++ [.flit k.val l.goodSeq true]) ∧
    (s.bd.linkUp k.val = true →
      ∃ u l', Runs (.linkKeySelfDerive k) s u ∧ u.bd.now = max s.bd.now (l.keyAt + 120000000) ∧ u.shelf.links[k.val]? = some l' ∧ l' = { l with keyAt := u.bd.now }
        ∧ u.bd.get (pSHL k.val) F.SHL_STAT.KEY_PHASE = 1 - s.bd.get (pSHL k.val) F.SHL_STAT.KEY_PHASE
        ∧ u.bd.get (pSHL k.val) F.SHL_KEYS.ROTATIONS = min (2 ^ F.SHL_KEYS.ROTATIONS.width - 1) (s.bd.get (pSHL k.val) F.SHL_KEYS.ROTATIONS + 1)) ∧
    (s.bd.manages = true →
      ∃ u v : State, Runs .linkKeyTick s u ∧ s.SameBelow v ∧ v.bd = s.bd.elapse 10 60000000 ∧ u = s.keyed.foldl (fun (t : State) p => t.issueKeys p) v) ∧
    (∀ (op : BitVec 8) (src dst : Fin 32) (units : Fin 512) (args : List Nat) (data : Option Line), dst.val ≠ s.bd.selfId →
      (s.bd.carries (1 - k.val) op.toNat = true →
        ∃ u, Ends (.packetPassThrough k op src dst units args data) s u ∧ s.SameBelow u
          ∧ u.bd = { s.bd with out := s.bd.out ++ [.ring (1 - k.val) op.toNat src.val dst.val args data] }) ∧
      (s.bd.carries (1 - k.val) op.toNat = false →
        ∃ u, Ends (.packetPassThrough k op src dst units args data) s u ∧ s.SameBelow u ∧ u.bd.out = s.bd.out
          ∧ u.bd.get (pSHL (1 - k.val)) F.SHL_DISCARD.COUNT
              = min (2 ^ F.SHL_DISCARD.COUNT.width - 1) (s.bd.get (pSHL (1 - k.val)) F.SHL_DISCARD.COUNT + 1)))

/-- R49, R257, R271, R322 to R324: reads, writes and reservation operations from other parts join the queue of the home and take their turn; a write sent again is not applied again; writes to the
other copy wait for their order, and orders for their writes; an acknowledged order lets its write be serialised. -/
def Obligations.RingRequestsReachTheHome : Prop :=
  ∀ (s : State) (line : RingLine) (data : Line) (mask : BitVec 64) (poison : Bool),
    (s.shelf.failover = none →
      ∃ u v : State, ∃ r : Req, Runs (.mrd line) s u ∧ u = v.serialise r 0 ∧ v.home.queue = s.home.queue ++ [r] ∧ v.bd = s.bd ∧ v.shelf = s.shelf
        ∧ r.ask = .read ∧ r.oid = line.oid.toNat ∧ r.id = line.tag.toNat ∧ r.lln = line.lln.toNat ∧ r.key = line.key.val ∧ r.sxn = line.sxn.toNat) ∧
    (∀ (c : Instr) (m : Nat), (c, m) ∈ [(Instr.mwr line data poison, 2 ^ 64 - 1), (Instr.mwrp line data mask poison, mask.toNat)] → s.atWork line.oid.toNat line.tag.toNat = false →
      (∀ x ∈ s.shelf.recent, x.1 ≠ line.oid.toNat ∨ x.2.1 ≠ line.tag.toNat) →
      ∃ u v : State, ∃ r : Req, Runs c s u ∧ u = v.serialise r 0 ∧ v.home.queue = s.home.queue ++ [r] ∧ v.bd = s.bd ∧ v.heads = s.heads
        ∧ v.shelf.recent = s.shelf.recent ++ [(line.oid.toNat, line.tag.toNat, s.bd.now)]
        ∧ r.ask = .write ∧ r.lln = line.lln.toNat ∧ r.data = data ∧ r.mask = m ∧ r.poison = poison) ∧
    (∀ (t : Nat), s.atWork line.oid.toNat line.tag.toNat = false → (line.oid.toNat, line.tag.toNat, t) ∈ s.shelf.recent → s.bd.now ≤ t + 100 →
      oidShelf line.oid.toNat ≠ s.bd.selfId →
      ∃ u, Runs (.mwr line data poison) s u ∧ s.SameBelow u
        ∧ u.bd.get pSHM F.SHM_DUP_DROP.COUNT = min (2 ^ F.SHM_DUP_DROP.COUNT.width - 1) (s.bd.get pSHM F.SHM_DUP_DROP.COUNT + 1)
        ∧ ∃ status, u.bd.out = s.bd.out ++ [.ring (u.bd.linkTo (oidShelf line.oid.toNat)) 0x11 s.bd.selfId (oidShelf line.oid.toNat)
            [line.oid.toNat, line.tag.toNat, line.copy.val, status] none]) ∧
    (∀ (c : Instr) (m : Nat), (c, m) ∈ [(Instr.mwrM line data poison false, 2 ^ 64 - 1), (Instr.mwrpM line data mask poison false, mask.toNat)] →
      s.atWork line.oid.toNat line.tag.toNat = false → (∀ x ∈ s.shelf.recent, x.1 ≠ line.oid.toNat ∨ x.2.1 ≠ line.tag.toNat) →
      s.bd.pairState ≠ 0 → s.bd.pairState ≠ 2 → s.home.mirror.orders = [] → s.home.mirror.fills = [] →
      ∃ (u : State) (r : Req), Runs c s u ∧ u.home = { s.home with mirror := { s.home.mirror with held := s.home.mirror.held ++ [r] } } ∧ u.bd = s.bd
        ∧ u.shelf.recent = s.shelf.recent ++ [(line.oid.toNat, line.tag.toNat, s.bd.now)] ∧ r.lln = line.lln.toNat ∧ r.data = data ∧ r.mask = m) ∧
    (∀ (op word : Fin 4) (value : BitVec 128) (slot : Fin 32), s.atWork line.oid.toNat line.tag.toNat = false →
      ∃ u v : State, ∃ r : Req, Runs (.rsv line op word value slot) s u ∧ u = v.serialise r 0 ∧ v = { s with home := { s.home with queue := s.home.queue ++ [r] } }
        ∧ r.ask = rsvAsk op.val ∧ r.rsv = slot.val ∧ r.word = word.val ∧ r.lln = line.lln.toNat) ∧
    (∀ (order : Word) (ingress : Fin 32) (tag : BitVec 16), s.bd.pairState ≠ 2 → (∀ o ∈ s.home.mirror.orders, o.1 ≠ order.toNat) →
      s.home.mirror.held = [] → s.home.mirror.fills = [] →
      ∃ u, Runs (.order order ingress tag poison) s u
        ∧ u = { s with home := { s.home with mirror := { s.home.mirror with orders := s.home.mirror.orders ++ [(order.toNat, ingress.val, tag.toNat, poison)] } } }) ∧
    (∀ (order : Word) (w : MonWait), s.home.mirror.waits.find? (fun w => decide (w.mon = order.toNat)) = some w →
      ∃ u v : State, Runs (.orderAck order false) s u ∧ u = v.serialiseMirrored w ∧ v.bd = s.bd ∧ v.heads = s.heads
        ∧ v.home = { s.home with mirror := { s.home.mirror with waits := s.home.mirror.waits.filter (fun x => decide (x.mon ≠ order.toNat)) } })

/-- R257, R261, R263, R273, R322, R323: what returns to the part that sent a request: read data, tickets, the report and the call of a held write, its persistence, and the result of a
reservation operation. -/
def Obligations.RingAnswersReachTheSender : Prop :=
  ∀ (s : State) (oid tag : BitVec 16),
    (∀ (r : Req) (p : Nat) (b : Bool) (status : Fin 8) (data : Line), s.inFlightOf oid.toNat tag.toNat = some (r, p, b) → oidClass oid.toNat ≠ 0 →
      ∃ u, Runs (.mrsp oid tag status data) s u ∧ u = { s with home := { s.home with answers := s.home.answers ++ [⟨oid.toNat, r.id, status.val, data⟩] } }) ∧
    (∀ (r : Req) (p : Nat) (b : Bool) (data : Line) (d : Head) (x : Rd), s.inFlightOf oid.toNat tag.toNat = some (r, p, b) → oidClass oid.toNat = 0 →
      s.heads[r.head]? = some d → d.reads.find? (fun y => decide (y.req.id = r.id)) = some x →
      ∃ u d', Runs (.mrsp oid tag 0 data) s u ∧ u.bd.out = s.bd.out ++ [.host r.head r.id (some (mergeLine data x.ovr x.overMask)) false (s.devLoad r.head)]
        ∧ u.heads[r.head]? = some d' ∧ d' = { d with reads := d.reads.filter (fun y => decide (y.req.id ≠ r.id)) }) ∧
    (∀ (w : Wr) (copy : Fin 2) (status : Fin 8), oidClass oid.toNat = 0 → s.writeOf oid.toNat tag.toNat = some w →
      ∃ u, Runs (.ticket oid tag copy status) s u ∧ u = s.ticket { w.req with role := copy.val } status.val) ∧
    (∀ w : Wr, oidClass oid.toNat = 0 → s.writeOf oid.toNat tag.toNat = some w →
      ∃ u, Runs (.hold oid tag) s u ∧ u = s.onWrite (oidInst oid.toNat) w.req.id (fun x => { x with held := true, inBuf := true })) ∧
    (∀ (w : Wr) (source : Fin 32), oidClass oid.toNat = 0 → s.writeOf oid.toNat tag.toNat = some w →
      ∃ u, Runs (.pull source oid tag) s u ∧ u.home = s.home
        ∧ u.bd = { s.bd with out := s.bd.out ++ [.ring (s.bd.linkTo source.val) 0x14 s.bd.selfId source.val [w.req.oid, w.req.id % 2 ^ 16, w.req.mask, bit w.req.poison] (some w.req.data)] }) ∧
    (∀ (r : Req) (data : Line) (mask : BitVec 64) (poison : Bool), s.home.called.find? (fun r => decide (r.oid = oid.toNat) && decide (r.id = tag.toNat)) = some r →
      r.mask ≠ allBytes → ∃ u, Runs (.mwrData oid tag data mask poison) s u ∧ u = s.applyCalled { r with data := data, mask := mask.toNat, poison := poison }) ∧
    (∀ (copy : Fin 2) (d : Head) (w : Wr), oidClass oid.toNat = 0 → s.heads[oidInst oid.toNat]? = some d →
      d.writes.find? (fun w => decide (w.req.id % 2 ^ 16 = tag.toNat)) = some w →
      ∃ u, Runs (.persisted oid tag copy) s u ∧ u.bd = s.bd ∧ u.home = s.home
        ∧ u = s.onWrite (oidInst oid.toNat) w.req.id (fun x => if copy.val = 0 then { x with durable1 := true } else { x with durable2 := true })) ∧
    (∀ (d : Head) (v : Rsv) (result : Fin 8) (loss : Fin 4) (word : BitVec 128), s.heads[oidInst oid.toNat]? = some d → d.rsv[0]? = some v → v.op ≠ 0 → v.ans = none →
      v.req % 2 ^ 16 = tag.toNat →
      ∃ u d', Runs (.rsvRsp oid tag result loss word) s u ∧ u.heads[oidInst oid.toNat]? = some d'
        ∧ d'.rsv = d.rsv.modify 0 (fun v => { v with ans := some (result.val, word.toNat, loss.val) }) ∧ d'.reads = d.reads ∧ d'.fences = d.fences ∧ d'.losses = d.losses
        ∧ (s.writeOf oid.toNat tag.toNat = none → d'.writes = d.writes)
        ∧ (∀ w, s.writeOf oid.toNat tag.toNat = some w → w.req.ask = .cond → ∀ x ∈ d'.writes, x.req.id = w.req.id → x.req.ask ≠ .cond) ∧ u.bd = s.bd)

/-! ### Membership and the manager -/

/-- R313: a packet that a manager sent under an older TERM is discarded and counted. -/
def Obligations.OlderTermsAreDiscarded : Prop :=
  ∀ (s : State) (src : Fin 32) (term : Word), s.bd.on pSHM F.SHM_MGR.MGR_VALID = true → serialNewer 16 (s.bd.get pSHM F.SHM_MGR.TERM) term.toNat = true →
    (∀ (k : Fin 2) (send unwraps : Bool) (v : BitVec 64) (c : Instr), c ∈ [Instr.beacon src term, Instr.keyIssue src term k send unwraps, Instr.rtime src term v] →
      ∃ u, Ends c s u ∧ s.SameBelow u ∧ u.bd.get pSHM F.SHM_STALE_TERM.COUNT = min (2 ^ F.SHM_STALE_TERM.COUNT.width - 1) (s.bd.get pSHM F.SHM_STALE_TERM.COUNT + 1)
        ∧ s.bd.Only u.bd [(pSHM, F.SHM_STALE_TERM.COUNT.off / 4)]) ∧
    (∀ (k : Fin 2) (part : Fin 32) (st : Fin 16) (a b d e : Word) (lag : BitVec 16) (solo write : Bool) (xs : List (Fin 49152)) (t : Fin 4) (i : Fin 65536) (x : Sync) (slot : Fin 4096)
        (seed : Option Line) (c : Instr),
      c ∈ [Instr.shelfProbe k src term, Instr.member src term part st a b d e lag solo xs, Instr.tblWrite src term t i write a b d e, Instr.mgrSync src term x, Instr.keyBlob src term slot seed] →
      ∃ u, Runs c s u ∧ s.SameBelow u ∧ u.bd.get pSHM F.SHM_STALE_TERM.COUNT = min (2 ^ F.SHM_STALE_TERM.COUNT.width - 1) (s.bd.get pSHM F.SHM_STALE_TERM.COUNT + 1)
        ∧ s.bd.Only u.bd [(pSHM, F.SHM_STALE_TERM.COUNT.off / 4)])

/-- R308, R317, R328, R339: what arrives from the manager under its TERM, and what the manager does by the clock: beacons, health, link keys and rack time. -/
def Obligations.BeaconsHealthAndKeysArrive : Prop :=
  ∀ (s : State) (src : Fin 32) (term : Word),
    (s.bd.on pSHM F.SHM_MGR.MGR_VALID = true → s.bd.get pSHM F.SHM_MGR.TERM = term.toNat →
      (∃ u, Ends (.beacon src term) s u ∧ u.shelf = { s.shelf with beaconAt := s.bd.now } ∧ u.bd.on pSHM F.SHM_SELF.CUT = false ∧ u.home = s.home) ∧
      (∀ (k : Fin 2) (l : Link), s.shelf.links[k.val]? = some l → s.bd.phase k.val = 3 → l.keys = 2 →
        ∃ u l', Ends (.keyIssue src term k true true) s u ∧ u.bd.phase k.val = 4 ∧ u.shelf.links[k.val]? = some l' ∧ l'.keys = 3 ∧ l'.everUp = true
          ∧ (u.bd.rd (pSHL k.val) 0x010).getLsbD E.SHL.LINK_UP = true
          ∧ u.bd.get (pSHL k.val) F.SHL_STAT.KEY_PHASE = 1 - s.bd.get (pSHL k.val) F.SHL_STAT.KEY_PHASE) ∧
      (∀ k send, Ends (.keyIssue src term k send false) s s) ∧
      (∀ v : BitVec 64, s.bd.now ≤ s.bd.rtAt + 900 → s.bd.ringTime = true → v.toNat % 1000 = 0 →
        ∃ u, Ends (.rtime src term v) s u ∧ u.rtm = { s.rtm with armed := some (v.toNat, true) } ∧ u.bd.get pRTM F.RTM_STAT.ARMED = 1 ∧ u.shelf = s.shelf) ∧
      (∀ v : BitVec 64, s.bd.rtAt + 900 < s.bd.now →
        ∃ u, Ends (.rtime src term v) s u ∧ s.SameBelow u
          ∧ u.bd.get pRTM F.RTM_IGNORED.COUNT = min (2 ^ F.RTM_IGNORED.COUNT.width - 1) (s.bd.get pRTM F.RTM_IGNORED.COUNT + 1))) ∧
    (s.bd.manages = true →
      ∃ u, Ends .beaconTick s u ∧ s.SameBelow u ∧ u.bd.now = max s.bd.now (smGet (fun _ => 0) s.bd.marks 11 + 2) ∧ u.bd.regs = s.bd.regs
        ∧ u.bd.out = s.bd.out ++ [.ring 0 0x30 s.bd.selfId s.bd.selfId [s.bd.get pSHM F.SHM_MGR.TERM, s.bd.get pSHM F.SHM_MEMBERS.PARTS] none,
            .ring 1 0x30 s.bd.selfId s.bd.selfId [s.bd.get pSHM F.SHM_MGR.TERM, s.bd.get pSHM F.SHM_MEMBERS.PARTS] none]) ∧
    (s.bd.manages = false → s.bd.on pSHM F.SHM_MGR.MGR_VALID = true → s.bd.on pSHM F.SHM_SELF.CUT = false →
      nbit (s.bd.get pSHM F.SHM_FAILED.PARTS) (s.bd.get pSHM F.SHM_MGR.MGR_ID) = false →
      ∃ u, Runs .beaconTimeout s u ∧ s.SameBelow u ∧ u.bd.now = max s.bd.now (s.shelf.beaconAt + 16) ∧ u.bd.on pSHM F.SHM_SELF.CUT = true
        ∧ (u.bd.rd pSHM 0x010).getLsbD E.SHM.CUT = true ∧ (s.bd.serves pSHM = true → u.bd.unit pSHM = stCONTAINED)) ∧
    (∀ words : List Word, s.bd.manages = true →
      ∃ u, Ends (.health src words) s u ∧ u.bd = s.bd ∧ smFind src.val u.shelf.health = some ⟨words.map BitVec.toNat, s.bd.now, false⟩) ∧
    (s.bd.joined = true → s.bd.manages = false → s.bd.on pSHM F.SHM_MGR.MGR_VALID = true →
      ∃ u v : State, Ends .healthTick s u ∧ s.SameBelow v ∧ v.bd = s.bd.elapse 12 1000000 ∧ s.SameBelow u
        ∧ u.bd.out = s.bd.out ++ [.ring (s.bd.linkTo (s.bd.get pSHM F.SHM_MGR.MGR_ID)) 0x3E s.bd.selfId (s.bd.get pSHM F.SHM_MGR.MGR_ID) v.healthWords none]) ∧
    (∀ h, smFind src.val s.shelf.health = some h → s.bd.manages = true → h.told = false →
      ∃ u h', Ends (.healthStale src) s u ∧ smFind src.val u.shelf.health = some h' ∧ h' = { h with told := true } ∧ u.bd.now = max s.bd.now (h.since + 3000000)
        ∧ (u.bd.rd pSHM 0x010).getLsbD E.SHM.HEALTH_STALE = true)

/-- R316, R318: a first report of a lost link is kept; its silent end is probed; an answer declares a break and silence a failure; a probe is answered on its own link; a declaration sets the
membership view. -/
def Obligations.LostLinksAreJudged : Prop :=
  ∀ (s : State) (part src : Fin 32) (side : Fin 2) (term : Word),
    (∀ peer : Fin 32, s.bd.decides peer.val = true → s.shelf.downs = [] → s.bd.breaks = [] →
      ∃ u, Runs (.downReport part side peer) s u ∧ u.shelf = { s.shelf with downs := [(part.val, side.val, s.bd.now)] } ∧ u.bd = s.bd ∧ u.home = s.home) ∧
    (∀ (link : Fin 32) (p sd t silent : Nat), s.shelf.downs.find? (fun d => decide (reportLink s.bd.shelfSize d.1 d.2.1 = link.val)) = some (p, sd, t) →
      silent = (if sd = 0 then (p + 1) % s.bd.shelfSize else (p + s.bd.shelfSize - 1) % s.bd.shelfSize) → s.bd.decides silent = true →
      (∀ x ∈ s.shelf.probes, x.1 ≠ silent) →
      ∃ u k, Runs (.downReportWindow link) s u ∧ u.bd.now = max s.bd.now (t + 1) ∧ u.shelf = { s.shelf with probes := s.shelf.probes ++ [(silent, link.val, u.bd.now)] }
        ∧ u.bd.out = s.bd.out ++ [.ring k 0x32 s.bd.selfId silent [s.bd.get pSHM F.SHM_MGR.TERM, silent] none] ∧ u.bd.regs = s.bd.regs) ∧
    (∀ x link t, s.shelf.probes.find? (fun p => decide (p.1 = part.val)) = some (x, link, t) →
      (∃ u, Runs (.probeRsp part) s u ∧ u = (s.declare none [link]).endProbe part.val link) ∧
      (∃ u v : State, Runs (.probeTimeout part) s u ∧ s.SameBelow v ∧ u = (v.declare (some part.val) [link]).endProbe part.val link ∧ v.bd.regs = s.bd.regs
        ∧ v.bd.now = max s.bd.now (t + ceilDiv (2 * max (s.bd.hopsEast part.val) (s.bd.shelfSize - s.bd.hopsEast part.val) * 180 + 1000) 1000))) ∧
    (s.bd.on pSHM F.SHM_MGR.MGR_VALID = true → s.bd.get pSHM F.SHM_MGR.TERM = term.toNat →
      (∃ u, Runs (.shelfProbe side src term) s u ∧ s.SameBelow u ∧ u.bd = { s.bd with out := s.bd.out ++ [.ring side.val 0x33 s.bd.selfId src.val [s.bd.selfId] none] }) ∧
      (∀ (topology members failed unreachable : Word) (lag : BitVec 16) (solo : Bool) (extents : List (Fin 49152)), s.traffic.flight = [] → part.val ≠ s.bd.selfId →
        part.val ≠ s.bd.partner →
        ∃ u, Runs (.member src term part 2 topology members failed unreachable lag solo extents) s u ∧ smGet (fun _ => 0) u.shelf.members part.val = 2
          ∧ u.bd.get pSHM F.SHM_MEMBERS.PARTS = members.toNat ∧ u.bd.get pSHM F.SHM_FAILED.PARTS = failed.toNat ∧ u.bd.get pSHM F.SHM_UNREACH.PARTS = unreachable.toNat
          ∧ (smGet (fun _ => 0) s.shelf.members part.val ≠ 2 → (u.bd.rd pSHM 0x010).getLsbD E.SHM.MEMBER_JOINED = true)))

/-- R270, R281, R315, R319, R321: join messages are put together from their fragments and an exchange ends by ACCEPT or after 100 ms; table accesses, key blobs and
changes of the manager's state are applied and answered; a loss record poisons the lines of its owner. -/
def Obligations.JoinsTablesAndSyncs : Prop :=
  ∀ (s : State) (src : Fin 32) (term : Word),
    (∀ (k : Fin 2) (x : JoinX) (msg : Fin 16) (last : Fin 4096) (total : Word) (bytes : List Byte) (valid cabled : Bool), s.shelf.joins.find? (fun x => decide (x.peer = src.val)) = some x →
      x.part = none → 0 < msg.val → msg.val ≤ 6 → 0 < last.val → bytes.length = 4080 → last.val * 4080 ≤ total.toNat → total.toNat ≤ 65536 →
      ∃ u, Runs (.join k src msg 0 last total bytes valid cabled) s u ∧ u.bd = s.bd ∧ u.home = s.home
        ∧ u.shelf = { s.shelf with joins := s.shelf.joins.filter (fun z => decide (z.peer ≠ src.val)) ++ [{ x with part := some ⟨msg.val, last.val, total.toNat, 1, bytes⟩ }] }) ∧
    (∀ (k : Fin 2) (x : JoinX) (bytes : List Byte) (valid cabled : Bool), s.shelf.joins.find? (fun x => decide (x.peer = src.val)) = some x → x.part = none → x.peer = src.val → x.step = 3 →
      bytes ≠ [] → bytes.length ≤ 4080 →
      ∃ u, Runs (.join k src 5 0 0 (BitVec.ofNat 32 bytes.length) bytes valid cabled) s u ∧ u.shelf.joins = s.shelf.joins.filter (fun z => decide (z.peer ≠ src.val)) ∧ u.home = s.home) ∧
    (∀ x, s.shelf.joins.find? (fun x => decide (x.peer = src.val)) = some x → 10 ≤ x.step →
      ∃ u, Runs (.joinTimeout src) s u ∧ u.shelf.joins = s.shelf.joins.filter (fun z => decide (z.peer ≠ src.val)) ∧ u.bd = { s.bd with now := max s.bd.now (x.since + 100000) }) ∧
    (∀ words : List Word, ((words.map BitVec.toNat).getD 2 0) / 2 ^ 24 % 32 = s.bd.selfId →
      ∃ u, Runs (.lossRec words) s u
        ∧ u = s.poisonLoss ((words.map BitVec.toNat).getD 4 0) ((words.map BitVec.toNat).getD 2 0 % 512) ((words.map BitVec.toNat).getD 2 0 / 2 ^ 12 % 4096)) ∧
    (s.bd.on pSHM F.SHM_MGR.MGR_VALID = true → s.bd.get pSHM F.SHM_MGR.TERM = term.toNat →
      (∀ (t : Fin 4) (i : Fin 65536) (a b d e : Word),
        (∃ u v : State, ∃ code : Code, Runs (.tblWrite src term t i true a b d e) s u ∧ (code, v) = s.tableWrite t.val i.val a.toNat b.toNat d.toNat e.toNat
          ∧ u = v.send 0x39 src.val [code.num] none) ∧
        (∃ u, Runs (.tblWrite src term t i false a b d e) s u ∧ u = s.send 0x39 src.val [(s.tableRead t.val i.val).1.num] none)) ∧
      (∀ part st : Nat, ∃ u, Runs (.mgrSync src term (.member part st)) s u ∧ u.shelf = { s.shelf with members := smSet (fun _ => 0) part st s.shelf.members }
        ∧ u.bd = { s.bd with out := s.bd.out ++ [.ring (s.bd.linkTo src.val) 0x3B s.bd.selfId src.val [term.toNat] none] }) ∧
      (∀ (slot : Fin 4096) (seed : Line), s.bd.on pKEY F.KEY_STAT.BUSY = false → s.bd.unit pKEY ≠ stCONTAINED → s.bd.unit pKEY ≠ stTEST → s.keys.rbgBad = false →
        (s.keySlot slot.val).st = 0 →
        ∃ u, Runs (.keyBlob src term slot (some seed)) s u ∧ u.keySlot slot.val = ⟨1, 0, seed.toNat, false, false, 1⟩ ∧ u.bd.get pKEY F.KEY_CMD.SLOT = slot.val)) ∧
    (s.shelf.tables = [(src.val, 0x100)] → ∃ u, Runs (.tblRsp src 0) s u ∧ u.shelf = { s.shelf with tables := [] } ∧ u.bd = s.bd) ∧
    (∀ x rest, s.shelf.syncs = .nextSxn x :: rest → ∃ u, Runs .syncAck s u ∧ u.shelf = { s.shelf with syncs := rest, nextSxn := x } ∧ u.bd = s.bd)

/-- R319 to R321, R326, R327, R387: duties are taken over by a deputy and claimed by a lone part under a new TERM, handed back, and laid down by LEAVE; a pair whose orders are all acknowledged is
NORMAL again. -/
def Obligations.DutiesChangeHands : Prop :=
  ∀ (s : State) (p : Path),
    (s.bd.on pSHM F.SHM_SELF.DEPUTY = true → nbit (s.bd.get pSHM F.SHM_FAILED.PARTS) (s.bd.get pSHM F.SHM_MGR.MGR_ID) = true →
      ∃ u v w : State, Runs .managerTakeover s u ∧ v = s.takeDuties ∧ v.bd.get pSHM F.SHM_MGR.TERM = (s.bd.get pSHM F.SHM_MGR.TERM + 1) % 2 ^ 16 ∧ v.bd.manages = true
        ∧ w = v.announce v.bd.selfId 2 (v.bd.rd pSHM 0x054).toNat (v.bd.get pSHM F.SHM_MEMBERS.PARTS) (v.bd.get pSHM F.SHM_FAILED.PARTS) (v.bd.get pSHM F.SHM_UNREACH.PARTS)
        ∧ ∃ x : State, x = w.sendBoth 0x30 [w.bd.get pSHM F.SHM_MGR.TERM, w.bd.get pSHM F.SHM_MEMBERS.PARTS] none
        ∧ u = ((x.keyed.foldl (fun (t : State) p => t.issueKeys p) x).sendOwed).on Board.followShm) ∧
    (s.bd.on pSHM F.SHM_SELF.ROLE = true → s.bd.selfId = 0 → s.bd.joined = false → s.bd.serves pSHM = true → s.shelf.joins = [] →
      ∃ u v : State, Runs .managerClaim s u ∧ v = s.takeDuties ∧ v.bd.get pSHM F.SHM_MGR.TERM = (s.bd.get pSHM F.SHM_MGR.TERM + 1) % 2 ^ 16 ∧ v.bd.manages = true
        ∧ u = (v.announce 0 2 (v.bd.rd pSHM 0x054).toNat (nsetbit (v.bd.get pSHM F.SHM_MEMBERS.PARTS) 0 true) (nsetbit (v.bd.get pSHM F.SHM_FAILED.PARTS) 0 false)
            (v.bd.get pSHM F.SHM_UNREACH.PARTS)).issueKeys 0) ∧
    (s.bd.gate p pSHM 0x060 true false = none →
      (∀ plain, s.bd.manages = true → ∃ u, Runs (.leave p plain) s u ∧ s.SameBelow u ∧ u.bd.get pSHM F.SHM_CMD.OP = 1 ∧ u.bd.get pSHM F.SHM_CMD.RESULT = Code.conflict.num
        ∧ s.bd.Only u.bd [(pSHM, 24)]) ∧
      (∀ plain, s.bd.manages = false → s.member s.bd.partner = 2 → nbit (s.bd.get pSHM F.SHM_MEMBERS.PARTS) s.bd.partner = true → s.xtn.lxt = [] →
        ∃ u, Runs (.leave p plain) s u ∧ u.bd.get pSHM F.SHM_CMD.RESULT = Code.ok.num ∧ u.bd.get pSHM F.SHM_PAIR.STATE = 3
          ∧ u.bd.get pSHM F.SHM_MEMBERS.PARTS = nsetbit (s.bd.get pSHM F.SHM_MEMBERS.PARTS) s.bd.selfId false ∧ smGet (fun _ => 0) u.shelf.members s.bd.selfId = 0) ∧
      (s.bd.manages = true → nbit (s.bd.get pSHM F.SHM_MEMBERS.PARTS) 0 = true → s.bd.selfId ≠ 0 →
        ∃ u, Runs (.handback p) s u ∧ s.SameBelow u ∧ u.bd.get pSHM F.SHM_CMD.RESULT = Code.ok.num ∧ u.bd.manages = false ∧ u.bd.get pSHM F.SHM_MGR.MGR_ID = 0
          ∧ u.bd.get pSHM F.SHM_MGR.TERM = s.bd.get pSHM F.SHM_MGR.TERM)) ∧
    (s.bd.pairState = 6 → s.home.mirror.waits = [] →
      ∃ u, Runs .resyncDone s u ∧ s.SameBelow u ∧ u.bd.get pSHM F.SHM_PAIR.STATE = 1 ∧ (u.bd.rd pSHM 0x010).getLsbD E.SHM.RESYNC_DONE = true) ∧
    (s.bd.pairState = 4 → s.shelf.resync = [] → ∃ u, Runs .resyncDone s u ∧ s.SameBelow u ∧ u.bd.get pSHM F.SHM_PAIR.STATE = 6 ∧ s.bd.Only u.bd [(pSHM, F.SHM_PAIR.STATE.off / 4)])

/-! ### Rack time -/

/-- R331, R335, R336, R341: a read of rack time latches its upper half; edges of RTICK count towards a lock, or as glitches; the third missed tick begins HOLDOVER; a boundary moves rack time by 1,000 µs
and takes the accepted mask; values and masks that break no rule are armed and stored. -/
def Obligations.RackTimeFollowsItsTicks : Prop :=
  ∀ (s : State) (p : Path),
    (∀ wide : Bool, ∃ u, Ends (.rtmTimeLoRead p wide) s u ∧ s.SameBelow u ∧ u.bd.get pRTM F.RTM_TIME_LO.TIME = s.bd.rackTime % 2 ^ 32
      ∧ u.bd.get pRTM F.RTM_TIME_HI.TIME = s.bd.rackTime / 2 ^ 32 % 2 ^ 32
      ∧ u.bd.out = s.bd.out ++ [.regRead p (pRTM * 4096 + F.RTM_TIME_LO.TIME.off) (if wide then 8 else 4) (if wide then s.bd.rackTime else s.bd.rackTime % 2 ^ 32)]
      ∧ s.bd.Only u.bd [(pRTM, F.RTM_TIME_LO.TIME.off / 4), (pRTM, F.RTM_TIME_HI.TIME.off / 4)]) ∧
    (∀ (offset : Int) (spacing : Nat), s.bd.get pRTM F.RTM_STAT.TICK = 1 →
      ∃ u, Ends (.rtickEdge offset spacing) s u ∧ s.SameBelow u
        ∧ (-2000 ≤ offset → offset ≤ 2000 → u.bd.get pRTM F.RTM_STAT.MISSED = 0 ∧ s.bd.Only u.bd [(pRTM, F.RTM_STAT.MISSED.off / 4)])
        ∧ (offset < -2000 ∨ 2000 < offset → (u.bd.rd pRTM 0x010).getLsbD E.RTM.RTICK_GLITCH = true ∧ u.bd.get pRTM F.RTM_STAT.TICK = 1
            ∧ u.bd.get pRTM F.RTM_GLITCH.COUNT = min (2 ^ F.RTM_GLITCH.COUNT.width - 1) (s.bd.get pRTM F.RTM_GLITCH.COUNT + 1))) ∧
    (∀ (offset : Int) (spacing : Nat), s.bd.get pRTM F.RTM_STAT.TICK ≠ 1 → s.rtm.qual < 3 →
      ∃ u, Ends (.rtickEdge offset spacing) s u ∧ u.bd = s.bd
        ∧ u.rtm = { s.rtm with qual := if 999850 ≤ spacing ∧ spacing ≤ 1000150 then s.rtm.qual + 1 else 1 }) ∧
    (∀ (offset : Int) (spacing : Nat), s.bd.get pRTM F.RTM_STAT.TICK ≠ 1 → s.rtm.qual = 3 → 999850 ≤ spacing → spacing ≤ 1000150 →
      ∃ u, Ends (.rtickEdge offset spacing) s u ∧ u.bd.get pRTM F.RTM_STAT.TICK = 1 ∧ u.rtm.qual = 0 ∧ (u.bd.rd pRTM 0x010).getLsbD E.RTM.LOCKED = true
        ∧ u.slot.mask = s.bd.acceptedMask) ∧
    (s.bd.get pRTM F.RTM_STAT.TICK = 1 →
      (s.bd.get pRTM F.RTM_STAT.MISSED < 2 → ∃ u, Ends .rtickMissed s u ∧ s.SameBelow u ∧ u.bd.get pRTM F.RTM_STAT.MISSED = s.bd.get pRTM F.RTM_STAT.MISSED + 1
        ∧ u.bd.get pRTM F.RTM_STAT.TICK = 1) ∧
      (s.bd.get pRTM F.RTM_STAT.MISSED = 2 → ∃ u, Ends .rtickMissed s u ∧ u.bd.get pRTM F.RTM_STAT.TICK = 2 ∧ u.rtm = { s.rtm with qual := 0, since := s.bd.now }
        ∧ (u.bd.rd pRTM 0x010).getLsbD E.RTM.HOLDOVER = true)) ∧
    (s.rtm.armed = none →
      ∃ u, Ends .frameBoundary s u ∧ u.bd.now = max s.bd.now (s.bd.rtAt + 1000) ∧ u.bd.rtAt = u.bd.now ∧ u.slot.mask = s.bd.acceptedMask
        ∧ u.bd.rtBase = (if s.bd.on pRTM F.RTM_STAT.VALID then s.bd.rtBase + 1000 else 0) ∧ u.bd.get pRTM F.RTM_STAT.SLOT = 0) ∧
    (∀ hi : Word, s.bd.gate p pRTM F.RTM_SET_HI.VALUE.off true false = none →
      (s.bd.ringTime = false → (s.bd.get pRTM F.RTM_SET_LO.VALUE + 2 ^ 32 * hi.toNat) % 1000 = 0 →
        ∃ u, Ends (.rtmSet p hi) s u ∧ u.rtm = { s.rtm with armed := some (s.bd.get pRTM F.RTM_SET_LO.VALUE + 2 ^ 32 * hi.toNat, false) } ∧ u.bd.get pRTM F.RTM_STAT.ARMED = 1) ∧
      (s.bd.ringTime = false → (s.bd.get pRTM F.RTM_SET_LO.VALUE + 2 ^ 32 * hi.toNat) % 1000 ≠ 0 →
        ∃ u, Ends (.rtmSet p hi) s u ∧ s.SameBelow u ∧ u.bd.get pRTM F.PAGE_REJECT.CODE = Code.conflict.num) ∧
      (s.bd.ringTime = true →
        ∃ u, Ends (.rtmSet p hi) s u ∧ s.SameBelow u ∧ u.bd.get pRTM F.PAGE_REJECT.CODE = Code.denied.num
          ∧ u.bd.get pRTM F.RTM_IGNORED.COUNT = min (2 ^ F.RTM_IGNORED.COUNT.width - 1) (s.bd.get pRTM F.RTM_IGNORED.COUNT + 1))) ∧
    (∀ v : Word, s.bd.gate p pRTM F.RTM_SLOT_MASK_LO.MASK.off true false = none →
      ∃ u, Ends (.rtmSlotMaskLo p v) s u ∧ u.slot = { s.slot with heldLo := some v.toNat } ∧ u.bd = s.bd) ∧
    (∀ (v : Word) (lo : Nat), s.bd.gate p pRTM F.RTM_SLOT_MASK_HI.MASK.off true false = none → lo = s.slot.heldLo.getD (s.bd.get pRTM F.RTM_SLOT_MASK_LO.MASK) → lo < 2 ^ 32 →
      (maskOk (lo + 2 ^ 32 * v.toNat) = true →
        ∃ u, Ends (.rtmSlotMaskHi p v) s u ∧ u.slot = { s.slot with heldLo := none } ∧ u.bd.acceptedMask = lo + 2 ^ 32 * v.toNat) ∧
      (maskOk (lo + 2 ^ 32 * v.toNat) = false →
        ∃ u, Ends (.rtmSlotMaskHi p v) s u ∧ u.slot = { s.slot with heldLo := none } ∧ u.bd.acceptedMask = s.bd.acceptedMask ∧ u.bd.get pRTM F.PAGE_REJECT.CODE = Code.conflict.num))

/-! ### Power, resets and the start -/

/-- R357 to R360, R364, R500: the straps are sampled once; START leaves STANDBY, or is in CONFLICT elsewhere; a settled state powers its domains; SEQ_STEP, SOLO, time-outs and retries move
the sequence as they say; a downward state that is done powers its domains down. -/
def Obligations.SequenceRunsUpAndDown : Prop :=
  ∀ (s : State) (p : Path) (rail : Fin 64),
    (∀ (shelf : Fin 32) (role : Bool), s.seq.strapped = false → s.bd.seqState = 0 →
      ∃ u, Ends (.strapSample shelf role) s u ∧ u.bd = s.bd ∧ u.seq = { s.seq with strapped := true, shelfId := shelf.val, role := role }) ∧
    (s.bd.gate p pSEQ0 0x048 false false = none →
      (s.bd.seqState ≠ 1 → ∃ u, Ends (.seqStart p) s u ∧ s.SameBelow u ∧ u.bd.get pSEQ0 F.SEQ_CMD.OP = 1 ∧ u.bd.get pSEQ0 F.SEQ_CMD.RESULT = Code.conflict.num
        ∧ s.bd.Only u.bd [(pSEQ0, 18)]) ∧
      (s.bd.seqState = 1 → s.bd.on pSEQ0 F.SEQ_CAUSE.THERMTRIP = false → s.bd.on pSEQ0 F.SEQ_CFG.SHARED = false →
        ∃ u, Ends (.seqStart p) s u ∧ u.bd.get pSEQ0 F.SEQ_CMD.RESULT = Code.ok.num ∧ u.bd.seqState = 2 ∧ u.bd.rd pSEQ0 0x04C = 0 ∧ u.bd.get pSEQ0 F.SEQ_STAT.ATTEMPT = 0
          ∧ u.bd.get pSEQ1 F.SEQ_RAIL_EN.EN = s.bd.get pSEQ1 F.SEQ_RAIL_EN.EN ||| 1)) ∧
    (seqMiddle s.bd.seqState = true → s.bd.seqDown = false → s.seq.settled = false →
      (s.bd.paces = true →
        ∃ u, Runs .seqStateSettled s u ∧ u.bd.seqState = s.bd.seqState ∧ u.seq.settled = true ∧ (∀ d ∈ seqDomains s.bd.seqState, u.bd.domainOn d = true)
          ∧ u.bd.get pSEQ1 F.SEQ_RAIL_PG.PG = s.bd.get pSEQ1 F.SEQ_RAIL_PG.PG ||| seqRails s.bd.seqState) ∧
      (∃ u, Runs (.seqStepTimeout rail) s u ∧ u.bd.seqState = s.bd.seqState ∧ u.bd.seqDown = true ∧ u.seq.failed = true ∧ u.bd.on pSEQ0 F.SEQ_STAT.SOLO = true
        ∧ u.bd.now = max s.bd.now (s.seq.enteredAt + 20000) ∧ (u.bd.rd pSEQ0 0x010).getLsbD E.SEQ.STEP_FAIL = true)) ∧
    (s.bd.seqState = 0 → s.bd.seqDown = false → s.seq.resetLow = false → s.bd.on pSEQ0 F.SEQ_CFG.AUTO = false → ∃ u, Runs .seqStateSettled s u ∧ u.bd.seqState = 1
      ∧ u.seq.startAllowed = false) ∧
    (s.atBarrier = true →
      (∃ u, Runs .seqStepHigh s u ∧ u.bd.seqState = s.bd.seqState + 1 ∧ u.bd.on pSEQ0 F.SEQ_STAT.LINE = true ∧ u.bd.now = s.bd.now) ∧
      (∃ u, Ends .seqSolo s u ∧ u.bd.seqState = s.bd.seqState + 1 ∧ u.bd.on pSEQ0 F.SEQ_STAT.SOLO = true ∧ u.bd.now = max s.bd.now (s.seq.waitFrom + 25000)
        ∧ (u.bd.rd pSEQ0 0x010).getLsbD E.SEQ.SOLO = true)) ∧
    (s.atBarrier = false → ∃ u, Runs .seqStepHigh s u ∧ s.SameBelow u ∧ u.bd.on pSEQ0 F.SEQ_STAT.LINE = true ∧ s.bd.Only u.bd [(pSEQ0, F.SEQ_STAT.LINE.off / 4)]) ∧
    (s.bd.seqState = 15 →
      (s.bd.get pSEQ0 F.SEQ_STAT.ATTEMPT < s.bd.get pSEQ0 F.SEQ_CFG.RETRIES →
        ∃ u, Ends .seqRetryWaitDone s u ∧ u.bd.seqState = 2 ∧ u.bd.get pSEQ0 F.SEQ_STAT.ATTEMPT = s.bd.get pSEQ0 F.SEQ_STAT.ATTEMPT + 1 ∧ u.seq.failed = false
          ∧ u.bd.now = max s.bd.now (s.seq.enteredAt + 100000)) ∧
      (s.bd.get pSEQ0 F.SEQ_CFG.RETRIES ≤ s.bd.get pSEQ0 F.SEQ_STAT.ATTEMPT →
        ∃ u, Ends .seqRetryWaitDone s u ∧ u.bd.seqState = 1 ∧ u.bd.on pSEQ0 F.SEQ_CAUSE.STEP_FAIL = true ∧ (u.bd.rd pSEQ0 0x010).getLsbD E.SEQ.RETRY_EXHAUSTED = true)) ∧
    (s.bd.seqDown = true → seqMiddle s.bd.seqState = true → 2 < s.bd.seqState →
      ∃ u, Runs .seqDownStepDone s u ∧ u.bd.seqState = s.bd.seqState - 1 ∧ u.bd.seqDown = true ∧ ∀ d ∈ seqDomains s.bd.seqState, u.bd.domainOn d = false) ∧
    (∃ u, Ends (.chatter rail) s u ∧ smGet (fun _ => 0) u.seq.chatStep rail.val = smGet (fun _ => 0) s.seq.chatStep rail.val + 1 ∧ u.bd.seqState = s.bd.seqState
      ∧ (u.bd.rd pSEQ0 0x010).getLsbD E.SEQ.CHATTER = true)

/-- R12, R361, R366 to R377, R466, R474, R475: PFAIL_N and RESET_N in RUN begin a drain that runs through its phases; a fault in RUN, a fatal fault and a confirmed THERMTRIP shut the part
off; a clean shutdown begins in RUN alone; a COLD reset leaves the home as after reset. -/
def Obligations.DrainsResetsAndShutOffs : Prop :=
  ∀ (s : State) (p : Path),
    (∀ (c : Instr) (by_ : Nat), (c, by_) ∈ [(Instr.pfail, 1), (Instr.resetN 1000, 3)] → s.bd.seqState = 12 →
      ∃ u v : State, Runs c s u ∧ u = (v.stopWork).drainPass ∧ v.bd.seqState = 13 ∧ v.bd.get pPDR F.PDR_STAT.PHASE = 1 ∧ v.bd.on pRTM F.RTM_STAT.DRAIN = true
        ∧ v.seq.drainBy = by_ ∧ v.seq.drainFrom = s.bd.now ∧ v.seq.creditsHeld = true ∧ v.home = s.home ∧ v.cache = s.cache) ∧
    (s.bd.seqState = 1 → ∃ u, Runs .pfail s u ∧ u.bd.seqState = 1 ∧ u.bd.on pSEQ0 F.SEQ_STAT.PFAIL = true
      ∧ u.bd.get pPDR F.PDR_PFAILS.COUNT = min (2 ^ F.PDR_PFAILS.COUNT.width - 1) (s.bd.get pPDR F.PDR_PFAILS.COUNT + 1)) ∧
    (∀ ns : Fin 1000, ∃ u, Ends (.pfailGlitch ns) s u ∧ s.SameBelow u ∧ u.bd.seqState = s.bd.seqState ∧ (u.bd.rd pPDR 0x010).getLsbD E.PDR.PFAIL_GLITCH = true) ∧
    (∃ u, Ends .pfailRelease s u ∧ s.SameBelow u ∧ u.bd.on pSEQ0 F.SEQ_STAT.PFAIL = false ∧ s.bd.Only u.bd [(pSEQ0, F.SEQ_STAT.PFAIL.off / 4)]) ∧
    (s.bd.seqState = 13 → s.bd.get pPDR F.PDR_STAT.PHASE = 1 →
      ∃ u v : State, Runs .admitEnd s u ∧ u = v.drainPass ∧ v.bd.get pPDR F.PDR_STAT.PHASE = 2 ∧ v.bd.on pPDR F.PDR_STAT.HELD = true
        ∧ v.bd.get pPDR F.PDR_DIRTY_AT.LINES = s.dirty % 2 ^ F.PDR_DIRTY_AT.LINES.width ∧ v.bd.now = max s.bd.now (s.seq.drainFrom + 10) ∧ v.cache = s.cache) ∧
    (s.bd.seqState = 13 → s.bd.get pPDR F.PDR_STAT.PHASE = 2 → s.drainDone = true →
      ∃ u, Runs .drained s u ∧ (u.bd.rd pPDR 0x010).getLsbD E.PDR.DRAINED = true ∧ u.bd.on pRTM F.RTM_STAT.DRAIN = false
        ∧ (s.seq.drainBy = 1 → s.bd.on pSEQ0 F.SEQ_STAT.PFAIL = false → u.bd.seqState = 12 ∧ u.bd.seqDown = false ∧ u.bd.get pPDR F.PDR_STAT.PHASE = 0)
        ∧ (s.seq.drainBy ≠ 1 ∨ s.bd.on pSEQ0 F.SEQ_STAT.PFAIL = true → u.bd.seqState = 11 ∧ u.bd.seqDown = true ∧ u.bd.get pPDR F.PDR_STAT.PHASE = 3)) ∧
    (s.bd.gate p pSEQ0 0x048 false false = none →
      (s.bd.seqState ≠ 12 → ∃ u, Runs (.powerDown p) s u ∧ s.SameBelow u ∧ u.bd.get pSEQ0 F.SEQ_CMD.RESULT = Code.conflict.num ∧ s.bd.Only u.bd [(pSEQ0, 18)]) ∧
      (s.bd.seqState = 12 → s.bd.otherMembers = false → s.bd.cleanDown = false →
        ∃ u v : State, Runs (.powerDown p) s u ∧ u = ((((v.saveAge).savePatrol).countHours).saveHealth).writeBackAll ∧ v.bd.get pSEQ0 F.SEQ_CMD.RESULT = Code.busy.num
          ∧ v.bd.get pPDR F.PDR_STAT.PHASE = 4 ∧ v.seq.creditsHeld = true ∧ v.cache = s.cache)) ∧
    (∀ rail : Fin 64, s.bd.seqState = 12 → s.bd.railRequired rail.val = true →
      ∃ u, Runs (.railFault rail) s u ∧ u.bd.seqState = 14 ∧ u.bd.get pSEQ1 F.SEQ_RAIL_EN.EN = 0 ∧ u.bd.on pSEQ0 F.SEQ_CAUSE.RAIL_FAULT = true
        ∧ (∀ d, 1 ≤ d → d ≤ 19 → u.bd.domainOn d = false) ∧ (u.bd.rd pSEQ0 0x010).getLsbD E.SEQ.RAIL_FAULT = true) ∧
    (∀ (page : Fin 512) (event : Fin 32) (info : Word), s.bd.domainOn 3 = true →
      ∃ u, Runs (.cpxFault page event info) s u ∧ u.bd.seqState = 14 ∧ u.bd.on pFLT F.FLT_STAT.FATAL = true ∧ u.bd.get pFLT F.FLT_STAT.FATAL_CLASS = 12
        ∧ ∀ d, 1 ≤ d → d ≤ 19 → u.bd.domainOn d = false) ∧
    (∀ readings : List (Option (BitVec 16)), (∀ t, some t ∈ readings → t.toInt < 1040) →
      ∃ u, Runs (.thermtripCheck readings) s u ∧ s.SameBelow u ∧ u.bd = s.bd.elapse 13 100) ∧
    (∀ (readings : List (Option (BitVec 16))) (n m : Nat) (t t' : BitVec 16), n < 36 → m ∈ sensorNear n → readings[n]? = some (some t) → readings[m]? = some (some t') →
      1040 ≤ t.toInt → 944 ≤ t'.toInt → s.bd.suspectSensor n = false → s.bd.on pTHM F.THM_STAT.TRIPPED = false → s.bd.seqState = 12 →
      ∃ u, Runs (.thermtripCheck readings) s u ∧ u.bd.seqState = 14 ∧ u.bd.on pTHM F.THM_STAT.TRIPPED = true ∧ u.bd.on pSEQ0 F.SEQ_CAUSE.THERMTRIP = true
        ∧ Output.pin "THERMTRIP_N" 0 ∈ u.bd.out) ∧
    (∀ ns : Nat, ns < 100 → Runs (.resetN ns) s s) ∧
    (∀ ns : Nat, 1000 ≤ ns → s.bd.seqState = 1 → s.bd.seqDown = false → ∃ u, Runs (.resetN ns) s u ∧ u.bd.seqState = 0 ∧ u.bd.get pSEQ1 F.SEQ_DOM_PG.PG = 1 ∧ u.seq.resetLow = true
      ∧ u.seq.fromReset = true) ∧
    (∃ u, Ends .resetNRelease s u ∧ u.bd = s.bd ∧ u.seq = { s.seq with resetLow := false }) ∧
    (∀ low : Bool, ∃ u, Ends (.coldReset low) s u ∧ u.bd.seqState = 0 ∧ u.home = State.reset.home ∧ u.cache = State.reset.cache ∧ u.bd.now = s.bd.now
      ∧ u.sec.tamperLow = low)

/-- R383 to R386, R388: a stack that trains serves; the restore from META chooses a clean start or a replay; the part enters service; the objects of the checkpoint load one by one; a PROVISION
message of the right form is answered. -/
def Obligations.StartReachesService : Prop :=
  ∀ (s : State) (k : Fin 4),
    (s.training k.val = true →
      (s.bd.openCauses (pFCC k.val) = 0 → s.bd.on (pFCC k.val) F.FCC_CAUSE.PARTNER_LOSS = false → s.bd.get (pFCC k.val) F.FCC_PC_FAIL.PC_FAIL = 0 →
        (nsInsert k.val s.cache.trained).length < 4 →
        ∃ u, Runs (.hbmTrainDone k 0) s u ∧ u.cache = { s.cache with trained := nsInsert k.val s.cache.trained } ∧ u.bd.unit (pFCC k.val) = stSERVICE) ∧
      (∃ u v : State, Runs (.hbmTrainTimeout k) s u ∧ s.SameBelow v ∧ v.bd = { s.bd with now := max s.bd.now (s.seq.enteredAt + 120000) }
        ∧ u = (v.stackFail k.val 1).stackSettled k.val)) ∧
    (∀ v x, s.seq.stage = 1 → s.bd.openCauses pCKP = 0 → v = s.actOnLedger → v.recordBody 1 = some x →
      (∃ u, Runs (.metaRestore false false) s u ∧ (u.seq.stage = 2 ∧ u.bd.on pCKP F.CKP_STAT.CLEAN_START = false ∨ u.seq.stage = 4 ∧ u.bd.on pCKP F.CKP_STAT.CLEAN_START = true)) ∧
      (∃ u, Runs (.metaRestore true false) s u ∧ u.bd.openCauses pCKP ≠ 0 ∧ u.seq.stage = 1)) ∧
    (s.mayServe = true →
      ∃ u v : State, Runs .enterService s u ∧ u = (v.enterCounters).sendJoin ∧ v.seq.stage = 5 ∧ v.seq.regions = [] ∧ v.home = s.home
        ∧ (s.bd.openCauses pXTN = 0 → v.bd.unit pXTN = stSERVICE)) ∧
    (∀ j : Fin 32768, s.bd.get pCKP F.CKP_STAT.PHASE = 7 → j.val ∉ s.mapx.loaded → s.mapx.loadedAll = false →
      ((nsInsert j.val s.mapx.loaded).length < 32768 →
        ∃ u, Runs (.objectLoadDone j) s u ∧ u.mapx = { s.mapx with loaded := nsInsert j.val s.mapx.loaded } ∧ s.bd.Only u.bd [(pMAP, F.MAP_SEG_STAT.LOADED.off / 4)]) ∧
      (32768 ≤ (nsInsert j.val s.mapx.loaded).length →
        ∃ u, Runs (.objectLoadDone j) s u ∧ u.mapx = { s.mapx with loaded := [], loadedAll := true } ∧ u.bd.get pCKP F.CKP_STAT.PHASE = 0
          ∧ u.bd.on pMAP F.MAP_SEG_STAT.ALL_LOADED = true)) ∧
    (∀ m : Abager, s.heard m = true → s.abagerCheck m 8 true = none → bodyNum m 0 4 = 0x50524F56 → s.bd.powered pCKP = true →
      ∃ u v : State, ∃ code : Code, Runs (.provision m) s u ∧ s.SameBelow v ∧ s.bd.Only v.bd [(pMGT, F.MGT_RX_MSG.COUNT.off / 4)]
        ∧ code = (v.provision (bodyNum m 4 1)).1 ∧ u = (v.provision (bodyNum m 4 1)).2.respond 0x50 m.eid.toNat m.session.isSome code [])

/-! ### The management path -/

/-- R389 to R393, Table 15-1: the command codes of the I3C target set and answer what Table 15-1 says; the next notice is delivered by an interrupt; ALERT_N follows a notice that has waited; bus and PEC errors are
counted; packets are put together. -/
def Obligations.BusCommandsAreTaken : Prop :=
  ∀ s : State, s.bd.answers = true →
    (∀ events : BitVec 8, nbit events.toNat 0 = true →
      (∃ u, Ends (.enec events) s u ∧ s.SameBelow u ∧ u.bd.on pMGT F.MGT_STAT.IBI_EN = true ∧ s.bd.Only u.bd [(pMGT, F.MGT_STAT.IBI_EN.off / 4)]) ∧
      (∃ u, Ends (.disec events) s u ∧ s.SameBelow u ∧ u.bd.on pMGT F.MGT_STAT.IBI_EN = false ∧ s.bd.Only u.bd [(pMGT, F.MGT_STAT.IBI_EN.off / 4)])) ∧
    (∀ a : BitVec 7,
      (s.bd.on pMGT F.MGT_STAT.ADDR_VALID = false →
        (∃ u, Ends (.entdaa a) s u ∧ s.SameBelow u ∧ u.bd.get pMGT F.MGT_STAT.DYN_ADDR = a.toNat ∧ u.bd.on pMGT F.MGT_STAT.ADDR_VALID = true
          ∧ u.bd.out = s.bd.out ++ [.i3c 0x07 (s.pid ++ [0x27, 0])]) ∧
        (s.bd.on pMGT F.MGT_CFG.SDA_EN = true →
          ∃ u, Ends (.setdasa (BitVec.ofNat 7 s.staticAddr) a) s u ∧ u.bd.get pMGT F.MGT_STAT.DYN_ADDR = a.toNat ∧ u.bd.on pMGT F.MGT_STAT.ADDR_VALID = true)) ∧
      (s.bd.on pMGT F.MGT_STAT.ADDR_VALID = true → ∃ u, Ends (.setnewda a) s u ∧ s.SameBelow u ∧ u.bd.get pMGT F.MGT_STAT.DYN_ADDR = a.toNat)) ∧
    (∃ u, Ends .rstdaa s u ∧ s.SameBelow u ∧ u.bd.get pMGT F.MGT_STAT.DYN_ADDR = 0 ∧ u.bd.on pMGT F.MGT_STAT.ADDR_VALID = false) ∧
    (∀ n : BitVec 16,
      (lengthOk n.toNat = true → (∃ u, Ends (.setmwl n) s u ∧ u.bd = s.bd ∧ u.mgmt = { s.mgmt with mwl := n.toNat })
        ∧ ∃ u, Ends (.setmrl n) s u ∧ u.bd = s.bd ∧ u.mgmt = { s.mgmt with mrl := n.toNat }) ∧
      (lengthOk n.toNat = false → Ends (.setmwl n) s s ∧ Ends (.setmrl n) s s)) ∧
    (s.bd.on pMGT F.MGT_STAT.ADDR_VALID = true →
      (∀ c code bytes, (c, code, bytes) ∈ [(Instr.getmwl, 0x8B, [BitVec.ofNat 8 (s.mgmt.mwl / 256), BitVec.ofNat 8 s.mgmt.mwl]),
          (Instr.getmrl, 0x8C, [BitVec.ofNat 8 (s.mgmt.mrl / 256), BitVec.ofNat 8 s.mgmt.mrl, 8]), (Instr.getpid, 0x8D, s.pid), (Instr.getbcr, 0x8E, [0x27]),
          (Instr.getdcr, 0x8F, [0]), (Instr.getmxds, 0x94, [0, 0, 50, 0, 0])] →
        ∃ u, Ends c s u ∧ s.SameBelow u ∧ u.bd = { s.bd with out := s.bd.out ++ [.i3c code bytes] }) ∧
      (∃ u bytes, Ends .getstatus s u ∧ s.SameBelow u ∧ bytes.length = 2 ∧ u.bd.out = s.bd.out ++ [.i3c 0x90 bytes] ∧ u.bd.regs = s.bd.regs) ∧
      (s.bd.on pMGT F.MGT_STAT.IBI_EN = true → s.bd.resyncQ = none → s.mgmt.ready = 0 →
        ∀ n rest, s.bd.stateQ = n :: rest →
          ∃ u, Ends (.ibiSend true) s u ∧ s.SameBelow u ∧ u.bd = { s.bd with stateQ := rest, out := s.bd.out ++ [.ibi ([0xB1] ++ leBytes 2 n.page ++ leBytes 1 (n.a + n.b * 16) ++ leBytes 2 n.epoch)] })) ∧
    Ends (.ibiSend false) s s ∧
    (∃ u, Ends (.rstact 1) s u ∧ u.mgmt.mwl = 256 ∧ u.mgmt.mrl = 256 ∧ u.bd.on pMGT F.MGT_STAT.ADDR_VALID = false ∧ u.bd.on pMGT F.MGT_STAT.EID_VALID = false
      ∧ u.bd.on pMGT F.MGT_STAT.IBI_EN = false ∧ (∀ x ∈ u.sec.sessions, x.doe.isSome = true) ∧ u.heads = s.heads ∧ u.home = s.home) ∧
    (∃ u, Ends .enthdr0 s u ∧ u.bd = s.bd ∧ u.mgmt = { s.mgmt with hdr := true }) ∧
    (∀ code : BitVec 8, code.toNat ∉ cccCodes → ∃ u, Ends (.cccNack code) s u ∧ s.SameBelow u ∧ u.bd = { s.bd with out := s.bd.out ++ [.i3c code.toNat []] }) ∧
    (∀ e : Fin 7, ∃ u, Ends (.busError e) s u ∧ u.mgmt = { s.mgmt with hdr := false } ∧ (u.bd.rd pMGT 0x010).getLsbD E.MGT.BUS_ERROR = true
      ∧ u.bd.get pMGT F.MGT_BUS_ERR.COUNT = min (2 ^ F.MGT_BUS_ERR.COUNT.width - 1) (s.bd.get pMGT F.MGT_BUS_ERR.COUNT + 1)) ∧
    (∀ t, s.bd.noticeSince = some t → s.bd.on pMGT F.MGT_CFG.ALERT_EN = true →
      ∃ u, Ends .alertTimeout s u ∧ s.SameBelow u ∧ u.bd.now = max s.bd.now (t + 1000) ∧ u.bd.on pMGT F.MGT_STAT.ALERT = true ∧ u.bd.stateQ = s.bd.stateQ) ∧
    (∀ pk : McPacket,
      (pk.pec = false → ∃ u, Runs (.mctpPacket pk) s u ∧ u.mgmt = { s.mgmt with hdr := false } ∧ (u.bd.rd pMGT 0x010).getLsbD E.MGT.BUS_ERROR = true) ∧
      (pk.pec = true → pk.dest = 0 → pk.som = true → pk.payload.length ≤ 4200 →
        (pk.eom = false → ∃ u, Runs (.mctpPacket pk) s u ∧ u.bd = s.bd
          ∧ u.mgmt = { s.mgmt with hdr := false, asm := some ⟨pk.src.toNat, pk.tag.val, (pk.seq.val + 1) % 4, pk.payload, false⟩ }) ∧
        (pk.eom = true → pk.opened = none → ∃ u v : State, Runs (.mctpPacket pk) s u ∧ v.bd = s.bd ∧ v.mgmt = { s.mgmt with hdr := false, asm := none }
          ∧ v.home = s.home ∧ u = v.wholeMessage pk.src.toNat 0 none pk.payload)))

/-- R393, R394, R396: MCTP control messages to the null endpoint and PLDM messages are answered, each with its completion code and data. -/
def Obligations.ControlAndPldmAnswer : Prop :=
  ∀ (s : State) (src : BitVec 8) (inst : Fin 32),
    (s.bd.answers = true →
      (∀ (op : Fin 4) (eid : BitVec 8), op.val < 2 → eid ≠ 0 → eid ≠ 0xFF →
        ∃ u, Ends (.setEndpointId src 0 inst op eid) s u ∧ u.bd.get pMGT F.MGT_STAT.EID = eid.toNat ∧ u.bd.on pMGT F.MGT_STAT.EID_VALID = true
          ∧ (u.bd.rd pMGT 0x010).getLsbD E.MGT.EID_ASSIGNED = true
          ∧ Output.mctp 0x00 src.toNat (leBytes 1 inst.val ++ [0x01, 0, 0] ++ leBytes 1 eid.toNat ++ [0]) ∈ u.bd.out) ∧
      (∀ (c : Instr) (cmd : Nat) (data : List Byte),
        (c, cmd, data) ∈ [(Instr.getEndpointId src 0 inst, 0x02, [0] ++ leBytes 1 (s.bd.get pMGT F.MGT_STAT.EID) ++ [0, 0]),
          (Instr.getMctpVersionSupport src 0 inst 0, 0x04, [0, 1] ++ leBytes 4 0x00FFF3F1),
          (Instr.getMessageTypeSupport src 0 inst, 0x05, [0] ++ leBytes 1 s.bd.messageTypes.length ++ s.bd.messageTypes.flatMap (leBytes 1)),
          (Instr.getVendorDefinedMessageSupport src 0 inst 0, 0x06, [0, 0xFF, 1, 0, 0, 0xB5, 0xE1, 1, 0])] →
        ∃ u, Ends c s u ∧ Sends s u 0x00 src.toNat (leBytes 1 inst.val ++ leBytes 1 cmd ++ data)) ∧
      (∀ cmd : BitVec 8, cmd.toNat = 0 ∨ 6 < cmd.toNat → ∃ u, Ends (.mctpControlUnsupported src 0 inst cmd) s u ∧ Sends s u 0x00 src.toNat (leBytes 1 inst.val ++ leBytes 1 cmd.toNat ++ [0x05])) ∧
      (s.bd.powered pSEC = true → s.bd.on pSEC F.SEC_STAT.PUF_OK = true →
        ∃ u, Ends (.getEndpointUuid src 0 inst) s u ∧ Sends s u 0x00 src.toNat (leBytes 1 inst.val ++ [0x03, 0] ++ leBytes 16 uuidValue)) ∧
      (s.bd.on pSEC F.SEC_STAT.PUF_OK = false → ∃ u, Ends (.getEndpointUuid src 0 inst) s u ∧ Sends s u 0x00 src.toNat (leBytes 1 inst.val ++ [0x03, 0x04]))) ∧
    (s.bd.hears = true →
      (∃ u byte, Ends (.getTid src inst) s u ∧ u.bd.out = s.bd.out ++ [.mctp 0x01 src.toNat (leBytes 1 inst.val ++ [0, 0x02, 0, byte])] ∧ u.bd.regs = (s.bd.received true).regs) ∧
      (∃ u bytes, Ends (.getPldmVersion src inst 2) s u ∧ bytes.length = 4 ∧ u.bd.out = s.bd.out ++ [.mctp 0x01 src.toNat (leBytes 1 inst.val ++ [0, 0x03, 0] ++ bytes)]
        ∧ u.bd.regs = (s.bd.received true).regs) ∧
      (∀ (c : Instr) (body : List Byte),
        (c, body) ∈ [(Instr.getPldmTypes src inst, [0, 0x04, 0, 5, 0, 0, 0, 0, 0, 0, 0]),
          (Instr.getPldmCommands src inst 0, [0, 0x05, 0, 0x3C] ++ List.replicate 31 0),
          (Instr.getPdrRepositoryInfo src inst, [2, 0x50, 0, 0, 27, 0, 0, 0]),
          (Instr.getEventReceiver src inst, [2, 0x05, 0, 0] ++ leBytes 1 (s.mgmt.receiver.getD 0))] →
        ∃ u, Ends c s u ∧ Sends s u 0x01 src.toNat (leBytes 1 inst.val ++ body)) ∧
      (∀ record : Word, 1 ≤ record.toNat → record.toNat ≤ 27 → ∃ u data, Ends (.getPdr src inst record) s u ∧ Sends s u 0x01 src.toNat (leBytes 1 inst.val ++ [2, 0x51, 0] ++ data)) ∧
      (∀ record : Word, 27 < record.toNat → ∃ u, Ends (.getPdr src inst record) s u ∧ Sends s u 0x01 src.toNat (leBytes 1 inst.val ++ [2, 0x51, 0x82])) ∧
      (∀ id : BitVec 16,
        (∀ v : Int, numericSensor id.toNat = true → s.sensor id.toNat = some v →
          ∃ u, Ends (.getSensorReading src inst id) s u ∧ Sends s u 0x01 src.toNat (leBytes 1 inst.val ++ [2, 0x11, 0, 0] ++ leBytes 4 (ofSigned 32 v))) ∧
        (numericSensor id.toNat = true → s.sensor id.toNat = none →
          ∃ u, Ends (.getSensorReading src inst id) s u ∧ Sends s u 0x01 src.toNat (leBytes 1 inst.val ++ [2, 0x11, 0, 4, 0, 0, 0, 0])) ∧
        (∀ v : Int, 25 ≤ id.toNat → id.toNat ≤ 27 → s.sensor id.toNat = some v →
          ∃ u, Ends (.getStateSensorReadings src inst id) s u ∧ Sends s u 0x01 src.toNat (leBytes 1 inst.val ++ [2, 0x21, 0, 1, 0] ++ leBytes 1 v.toNat)) ∧
        (id.toNat < 25 ∨ 27 < id.toNat → ∃ u, Ends (.getStateSensorReadings src inst id) s u ∧ Sends s u 0x01 src.toNat (leBytes 1 inst.val ++ [2, 0x21, 0x80]))) ∧
      (∀ r : Option Byte, ∃ u, Ends (.setEventReceiver src inst r) s u ∧ u.mgmt.receiver = r.map BitVec.toNat ∧ Sends s u 0x01 src.toNat (leBytes 1 inst.val ++ [2, 0x04, 0])))

/-- R54, R281, R282, R336, R395, R397 to R402, R412: an Abager request that passes the common checks is carried out and answered, and one that fails them is answered with its code; the FM API is served by the manager
alone. -/
def Obligations.AbagerAndFmRequests : Prop :=
  ∀ (s : State) (m : Abager), s.heard m = true →
    (∀ c code, (c, code) ∈ [(Instr.getInfo m, 0x01), (Instr.getHealth m, 0x02), (Instr.getOpStatus m, 0x03), (Instr.unitStateList m, 0x13), (Instr.timeGet m, 0x31), (Instr.keyEkGet m, 0x40)] →
      (∀ e, s.abagerCheck m 0 false = some e → e ≠ .denied → ∃ u, Ends c s u ∧ s.heads = u.heads ∧ AnswersAbager s u m code e []) ∧
      (s.abagerCheck m 0 false = none → s.bd.powered pKEY = true → pKEY ∉ s.bd.resetting → ∃ u body, Ends c s u ∧ s.heads = u.heads ∧ AnswersAbager s u m code .ok body
        ∧ s.bd.Only u.bd [(pMGT, F.MGT_RX_MSG.COUNT.off / 4), (pMGT, F.MGT_LAST.CODE.off / 4)])) ∧
    (s.abagerCheck m 0 false = none → ∃ u, Ends (.timeGet m) s u ∧ AnswersAbager s u m 0x31 .ok (leBytes 8 s.bd.rackTime ++ leBytes 4 (s.peek pRTM F.RTM_STAT.TICK.off) ++ [0, 0, 0, 0])) ∧
    (∀ v : State, s.SameBelow v → v.bd = s.bd.count pMGT F.MGT_RX_MSG.COUNT 1 →
      (∀ n, s.abagerCheck m (8 + 4 * n) true = none → bodyNum m 4 2 = n → v.rangeCheck true (bodyNum m 0 4) n = (.ok, v) →
        ∃ u w : State, Runs (.regWrite m) s u ∧ u = w.respond 0x11 m.eid.toNat m.session.isSome .ok (leBytes 4 n)
          ∧ w = (List.range n).foldl (fun (t : State) k => t.writeWord .mgmt ((s.sessionOf m).any (fun x => x.auth)) ((bodyNum m 0 4 + 4 * k) / 4096) ((bodyNum m 0 4 + 4 * k) % 4096)
              (BitVec.ofNat 32 (bodyNum m (8 + 4 * k) 4))) v) ∧
      (s.bd.pmcDue = [] → s.bd.clockPages = [] → s.abagerCheck m 8 false = none → v.rangeCheck false (bodyNum m 0 4) (bodyNum m 4 2) = (.ok, v) →
        ∃ u, Runs (.regRead m) s u ∧ u = (v.readRange (bodyNum m 0 4) (bodyNum m 4 2)).2.respond 0x10 m.eid.toNat m.session.isSome .ok (v.readRange (bodyNum m 0 4) (bodyNum m 4 2)).1) ∧
      (∀ (write : Bool) (c : Instr), c = (if write then .memWrite m else .memRead m) → s.abagerCheck m (if write then 84 else 20) true = none → bodyNum m 14 2 = 64 →
        s.bd.reaches (bodyNum m 0 8 / 2 ^ 44 % 32) = true → ∃ u, Runs c s u ∧ u = v.memIssue m write) ∧
      (s.abagerCheck m 8 true = none → implemented (bodyNum m 0 2) = true → s.bd.powered (bodyNum m 0 2) = true → bodyNum m 0 2 ∉ s.bd.resetting →
        ∃ u w : State, ∃ code : Code, Runs (.unitCmd (.message m)) s u ∧ w = v.on (fun b => b.unitCmd (bodyNum m 0 2) (bodyNum m 2 1 % 16) (bodyNum m 4 2))
          ∧ u = w.respond 0x12 m.eid.toNat m.session.isSome code (w.bd.unitBytes (bodyNum m 0 2))) ∧
      (∀ seed : Option Line, s.abagerCheck m 1632 true = none → bodyNum m 0 2 ≤ 4095 → s.bd.keyShut = false → s.bd.on pKEY F.KEY_STAT.BUSY = false →
        ∃ u w : State, Runs (.keyImport m seed) s u ∧ w.keys = v.keys ∧ w.bd.get pKEY F.KEY_CMD.SLOT = bodyNum m 0 2 ∧ w.bd.on pKEY F.KEY_STAT.BUSY = true
          ∧ u = { w.importSeed (bodyNum m 0 2) (seed.map BitVec.toNat) with mgmt := u.mgmt }
          ∧ u.mgmt.reqs = (w.importSeed (bodyNum m 0 2) (seed.map BitVec.toNat)).mgmt.reqs ++ [⟨0x41, m.eid.toNat, m.session.isSome, [], [], 0, false, 0⟩]) ∧
      (s.abagerCheck m 4 true = none → bodyNum m 0 2 ≤ 4095 → s.bd.keyShut = false → s.bd.on pKEY F.KEY_STAT.BUSY = false →
        ∃ u w : State, Runs (.keyClear m) s u ∧ w.keys = v.keys ∧ w.bd.get pKEY F.KEY_CMD.SLOT = bodyNum m 0 2 ∧ u = { w.clearSlot (bodyNum m 0 2) with mgmt := u.mgmt }
          ∧ u.mgmt.reqs = (w.clearSlot (bodyNum m 0 2)).mgmt.reqs ++ [⟨0x42, m.eid.toNat, m.session.isSome, [], [], 0, false, 0⟩])) ∧
    (s.abagerCheck m 8 true = none → s.bd.ringTime = false → bodyNum m 0 8 % 1000 = 0 →
      ∃ u, Ends (.timeSet m) s u ∧ u.rtm = { s.rtm with armed := some (bodyNum m 0 8, false) } ∧ AnswersAbager s u m 0x30 .ok []) ∧
    (∀ n, bodyNum m 4 2 = n → s.abagerCheck m (8 + n) true = none → s.bd.powered pSEC = true → 64 ≤ n → n ≤ 4096 → bodyNum m 0 4 + (m.body.drop 8).length ≤ 67108864 →
      ∃ u, Ends (.fwTransfer m) s u ∧ u.sec = { s.sec with xfer := s.sec.xfer ++ [(bodyNum m 0 4, m.body.drop 8)] } ∧ AnswersAbager s u m 0x60 .ok []) ∧
    (s.abagerCheck m 4 true = none → s.bd.powered pSEC = true → bodyNum m 0 1 ≤ 2 → s.bd.on pSEC F.SEC_STAT.RT_VERIFIED = false → s.bd.on pSEC F.SEC_ACT.BUSY = false →
      ∃ u, Ends (.fwActivate m) s u ∧ u.sec = { s.sec with act := some (bodyNum m 0 1, s.bd.now) } ∧ u.bd.on pSEC F.SEC_ACT.BUSY = true ∧ AnswersAbager s u m 0x61 .ok []) ∧
    (∀ target since pk sig, s.sec.act = some (target, since) →
      ∃ u, Ends (.activateDone pk sig) s u ∧ u.sec.act = none ∧ u.sec.xfer = [] ∧ u.mgmt.running = none ∧ (u.bd.rd pSEC 0x010).getLsbD E.SEC.ACTIVATE_DONE = true
        ∧ (s.verifyImage (s.sec.xferRange 0 2048) (if target = 2 then 1 else 2) pk sig ≠ .ok → u.sec.images = s.sec.images)) ∧
    (∀ (eid : BitVec 8) (host : BitVec 16) (p : Placement) (x : BitVec 21) (f : Bool), s.bd.manages = false →
      ∀ c op, (c, op) ∈ [(Instr.getDcdInfo eid, 0x5600), (Instr.getHostDcRegionConfiguration eid host, 0x5601), (Instr.getDcRegionExtentLists eid host, 0x5603),
          (Instr.initiateDynamicCapacityAdd eid p, 0x5604), (Instr.initiateDynamicCapacityRelease eid x f, 0x5605)] →
        ∃ u, Runs c s u ∧ Sends s u 0x07 eid.toNat (leBytes 2 op ++ leBytes 2 rcUnsupported)) ∧
    (∀ (eid : BitVec 8) (host : BitVec 16), s.bd.manages = true →
      (∃ u, Runs (.getDcdInfo eid) s u ∧ Sends s u 0x07 eid.toNat (leBytes 2 0x5600 ++ leBytes 2 rcSuccess ++ (leBytes 2 (8 * s.bd.shelfSize) ++ leBytes 1 8 ++ leBytes 8 (2 ^ 21) ++ leBytes 8 (2 ^ 28)))) ∧
      (host.toNat < 8 * s.bd.shelfSize →
        (∃ u regions, Runs (.getHostDcRegionConfiguration eid host) s u ∧ Sends s u 0x07 eid.toNat (leBytes 2 0x5601 ++ leBytes 2 rcSuccess ++ (leBytes 2 host.toNat ++ leBytes 1 8 ++ regions))) ∧
        (∃ u extents, Runs (.getDcRegionExtentLists eid host) s u ∧ Sends s u 0x07 eid.toNat (leBytes 2 0x5603 ++ leBytes 2 rcSuccess ++ (leBytes 2 host.toNat ++ extents)))) ∧
      (∀ p : Placement, p.members ≠ [] → p.members.length ≤ 16 → (placementGrant p s.shelf.nextSxn).span ≠ 0 → s.shelf.nextSxn < 2 ^ 21 →
        (∀ o ∈ (placementGrant p s.shelf.nextSxn).owners, s.grantable o.1 (placementGrant p s.shelf.nextSxn).span = true) → s.bd.deputyId = none →
        ∃ u op, Runs (.initiateDynamicCapacityAdd eid p) s u ∧ u.mgmt.fm = s.mgmt.fm ++ [op] ∧ op.opcode = 0x5604 ∧ op.sxn = s.shelf.nextSxn ∧ op.release = false
          ∧ u.shelf.nextSxn = s.shelf.nextSxn + 1 ∧ ∃ g ∈ u.shelf.grants, g.sxn = s.shelf.nextSxn) ∧
      (∀ (x : BitVec 21) g, s.shelf.grants.find? (fun g => decide (g.sxn = x.toNat)) = some g →
        ∃ u op, Runs (.initiateDynamicCapacityRelease eid x true) s u ∧ u.mgmt.fm = s.mgmt.fm ++ [op] ∧ op.sxn = x.toNat ∧ op.release = true ∧ u.shelf = s.shelf ∧ u.bd = s.bd.received true))

/-! ### The security island and the parameter store -/

/-- R404, R405, R411 to R418: the PUF is reconstructed or fails; the generator fails and passes; boot verification chooses an image or finds none; sessions come and go; a token and a tamper response zeroise the part. -/
def Obligations.IslandGuardsThePart : Prop :=
  ∀ s : State,
    (s.bd.powered pSEC = true → s.bd.on pSEC F.SEC_STAT.PUF_OK = false → s.bd.on pSEC F.SEC_CAUSE.PUF_FAIL = false →
      (∀ n : Fin 4, n.val < 3 → ∃ u, Ends (.pufReconstruct n) s u ∧ s.SameBelow u ∧ u.bd.on pSEC F.SEC_STAT.PUF_OK = true
        ∧ ∀ k, k < 4 → u.bd.get pSEC (F.SEC_UUID.UUID.ix k) = uuidValue / 2 ^ (32 * k) % 2 ^ 32) ∧
      (∃ u, Ends (.pufReconstruct 3) s u ∧ s.SameBelow u ∧ u.bd.on pSEC F.SEC_CAUSE.PUF_FAIL = true ∧ (u.bd.rd pSEC 0x010).getLsbD E.SEC.PUF_FAIL = true)) ∧
    (s.bd.powered pSEC = true → ∃ u, Ends .rbgHealthFail s u ∧ u.keys = { s.keys with rbgBad := true } ∧ u.bd.on pSEC F.SEC_CAUSE.INTERNAL = true) ∧
    (∃ u, Ends .rbgHealthPass s u ∧ u.bd = s.bd ∧ u.keys = { s.keys with rbgBad := false }) ∧
    (s.bd.powered pSEC = true → s.seq.stage ≠ 0 → s.bd.on pSEC F.SEC_STAT.RT_VERIFIED = false → s.bd.on pSEC F.SEC_CAUSE.FW_INVALID = false → ∀ pk sg : Fin 32,
      (((nbit pk.val 3 = false ∧ nbit pk.val 4 = false) ∨ ∃ k, k < 4 ∧ s.pst.counter k = none) → ∃ u, Ends (.fwBootVerify pk sg) s u ∧ s.SameBelow u ∧ u.bd.on pSEC F.SEC_CAUSE.FW_INVALID = true
        ∧ u.bd.on pSEC F.SEC_STAT.RT_VERIFIED = false) ∧
      ((∀ k, k < 4 → (s.pst.counter k).isSome = true) → (∀ k, k = 3 ∨ k = 4 → s.verifyImage (s.sec.image k) 1 (nbit pk.val k) (nbit sg.val k) = .ok) →
        (∀ k, k = s.bd.get pSEC F.SEC_BOOT.NEXT → s.verifyImage (s.sec.image k) 2 (nbit pk.val k) (nbit sg.val k) = .ok) →
        ∃ u, Ends (.fwBootVerify pk sg) s u ∧ u.bd.on pSEC F.SEC_STAT.RT_VERIFIED = true ∧ u.bd.get pSEC F.SEC_STAT.RT_SLOT = s.bd.get pSEC F.SEC_BOOT.NEXT
          ∧ u.bd.on pPST F.PST_PROTECT.QUARTER = true)) ∧
    (∀ (p : Path) (auth : Bool), s.bd.gate p pSEC 0x070 false false = none →
      (s.bd.on pSEC F.SEC_STAT.OPR_SET = true → auth = false →
        ∃ u, Ends (.storeOpr p auth) s u ∧ s.SameBelow u ∧ u.bd.get pSEC F.SEC_CMD.RESULT = Code.denied.num ∧ s.bd.Only u.bd [(pSEC, 28)]) ∧
      (s.bd.on pSEC F.SEC_STAT.OPR_SET = false →
        ∃ u, Ends (.storeOpr p auth) s u ∧ u.bd.on pSEC F.SEC_STAT.OPR_SET = true ∧ u.bd.get pSEC F.SEC_CMD.RESULT = Code.ok.num ∧ u.pst.pages = s.pst.pages)) ∧
    (s.bd.powered pSEC = true → s.bd.on pSEC F.SEC_CFG.DEBUG_EN = true →
      (s.keys.rbgBad = false → ∃ u v, Ends .dbgNonce s u ∧ u.sec = { s.sec with nonce := some (v % 2 ^ 64) } ∧ u.bd = { s.bd with out := s.bd.out ++ [.jtag (leBytes 8 v)] }) ∧
      (∀ (nonce : BitVec 128) (scope : BitVec 8), s.sec.nonce = some nonce.toNat → s.responding = false →
        ∃ u, Runs (.dbgToken (BitVec.ofNat 128 uuidValue) nonce scope true) s u ∧ u.bd.on pSEC F.SEC_STAT.DEBUG_OPEN = true ∧ u.keys.slots = [] ∧ u.cache.frames = [] ∧ u.sec.tampered = true
          ∧ (u.bd.rd pSEC 0x010).getLsbD E.SEC.DEBUG_OPENED = true) ∧
      (∀ (uuid nonce : BitVec 128) (scope : BitVec 8) (sg : Bool), s.sec.nonce ≠ some nonce.toNat → Runs (.dbgToken uuid nonce scope sg) s s)) ∧
    (∀ (ns : Nat) (held : Bool),
      (ns < 200 → ∃ u, Runs (.tamper ns held) s u ∧ u.bd = s.bd ∧ u.sec = { s.sec with tamperLow := held && s.sec.tamperLow } ∧ u.keys = s.keys) ∧
      (200 ≤ ns → s.sec.tamperLow = false → s.responding = false →
        ∃ u, Runs (.tamper ns held) s u ∧ u.keys.slots = [] ∧ u.keys.sweeps = [] ∧ u.home.keyCache = [] ∧ u.cache.frames = [] ∧ u.cache.window = [] ∧ u.sec.sessions = []
          ∧ u.sec.tampered = true ∧ u.sec.tamperLow = held)) ∧
    (∀ (mb : Option (Fin 8)) (k : BitVec 16), s.bd.spdmHears (mb.map Fin.val) = true →
      (∀ (code : BitVec 8) (ok : Bool), code.toNat ∉ spdmCodes →
        ∃ u, Ends (.spdmRequest mb k code ok) s u ∧ u.sec = s.sec ∧ u.bd = { s.bd.received mb.isNone with out := s.bd.out ++ [.spdm (mb.map Fin.val) k.toNat 0x7F [0x07]] }) ∧
      (s.spdmShut 0xEC = false → ∀ ok : Bool,
        ∃ u, Ends (.spdmRequest mb k 0xEC ok) s u ∧ u.sec.sessions = s.sec.sessions.filter (fun x => decide (x.id ≠ k.toNat))
          ∧ u.bd.out = s.bd.out ++ [.spdm (mb.map Fin.val) k.toNat 0x6C []]) ∧
      (s.spdmShut 0xE0 = false → ∀ index : BitVec 8, 1 ≤ index.toNat → index.toNat ≤ 5 →
        ∃ u, Ends (.getMeasurements mb k index false) s u ∧ u.sec = s.sec
          ∧ u.bd = { s.bd.received mb.isNone with out := s.bd.out ++ [.spdm (mb.map Fin.val) k.toNat 0x60 ([1] ++ leBytes 1 index.toNat ++ s.measurement index.toNat)] }) ∧
      (∀ (root : Line) (ok : Bool), s.spdmShut 0xE4 = false → s.keys.rbgBad = false → s.bd.on pSEC F.SEC_CFG.MUTUAL = false → s.sec.sessions = [] →
        ∃ u, Ends (.keyExchange mb root ok) s u ∧ u.sec.sessions = [⟨s.sec.nextSession, mb.map Fin.val, false, s.bd.now⟩] ∧ u.sec.nextSession = s.sec.nextSession + 1
          ∧ u.bd.out = s.bd.out ++ [.spdm (mb.map Fin.val) s.sec.nextSession 0x64 []])) ∧
    (∀ (k : BitVec 16) x, s.sec.sessions[k.toNat]? = some x →
      ∃ u, Ends (.heartbeatTimeout k) s u ∧ u.sec.sessions = s.sec.sessions.filter (fun y => decide (y.id ≠ x.id)) ∧ u.bd.now = max s.bd.now (x.last + 120000000))

/-- R421 to R427, R433, R434: raw accesses of the store in TEST and below its protected pages; operator counters alone take an increment; a page write that ends is in the store; AON_LOW holds writes back. -/
def Obligations.ParameterStoreKeeps : Prop :=
  ∀ (s : State) (p : Path),
    (∀ page : Fin 4096, s.bd.gate p pPST 0x048 true false = none → s.bd.on pPST F.PST_ACC_STAT.BUSY = false →
      (page.val < 3072 → s.pstRunning = false →
        ∃ u, Ends (.pstRawRead p page) s u ∧ s.SameBelow u ∧ u.bd.get pPST F.PST_ACC_STAT.RESULT = Code.ok.num ∧ u.bd.on pPST F.PST_ACC_STAT.BUSY = false
          ∧ ∀ j, j < 64 → u.bd.get pPST (F.PST_ACC_DATA.DATA.ix j) = s.pst.page page.val / 2 ^ (32 * j) % 2 ^ 32) ∧
      (3072 ≤ page.val → ∃ u, Ends (.pstRawRead p page) s u ∧ s.SameBelow u ∧ u.bd.get pPST F.PST_ACC_STAT.RESULT = Code.denied.num) ∧
      (s.bd.unit pPST = stTEST → s.bd.protects page.val = false →
        ∃ u, Ends (.pstRawWrite p page) s u ∧ u.bd.on pPST F.PST_ACC_STAT.BUSY = true ∧ ⟨2, 0, [(page.val, s.bd.pageData)], .raw⟩ ∈ u.pst.queue ∧ u.pst.pages = s.pst.pages) ∧
      (s.bd.unit pPST ≠ stTEST → ∃ u, Ends (.pstRawWrite p page) s u ∧ s.SameBelow u ∧ u.bd.get pPST F.PST_ACC_STAT.RESULT = Code.denied.num)) ∧
    (∀ n : Fin 64, s.bd.gate p pPST 0x050 true false = none → s.bd.on pPST F.PST_CTR_STAT.BUSY = false →
      (∀ v, s.pst.counter n.val = some v →
        ∃ u, Ends (.counterRead p n) s u ∧ u.bd.get64 pPST F.PST_CTR_LO.VALUE F.PST_CTR_HI.VALUE = v % 2 ^ 64 ∧ u.bd.get pPST F.PST_CTR_STAT.RESULT = Code.ok.num) ∧
      (n.val < 8 → ∃ u, Ends (.counterIncrement p n) s u ∧ s.SameBelow u ∧ u.bd.get pPST F.PST_CTR_STAT.RESULT = Code.denied.num) ∧
      (∀ v c ws, 8 ≤ n.val → s.bd.get pPST F.PST_CTR_DELTA.DELTA ≠ 0 → s.pst.increment n.val (s.bd.get pPST F.PST_CTR_DELTA.DELTA) = (v, c, ws) → ws ≠ [] →
        ∃ u, Ends (.counterIncrement p n) s u ∧ u.bd.on pPST F.PST_CTR_STAT.BUSY = true ∧ ⟨2, 0, ws, .counter v c.num⟩ ∈ u.pst.queue ∧ u.pst.pages = s.pst.pages)) ∧
    (∀ j q w x ws, s.pstRunning = true → s.pst.queue = j :: q → j.writes = w :: x :: ws →
      ∃ u, Runs .pstPageWriteDone s u ∧ u.pst.pages = smSet pstDefault w.1 w.2 s.pst.pages ∧ { j with writes := x :: ws } ∈ u.pst.queue
        ∧ u.bd.get pPST F.PST_WRITES.COUNT = min (2 ^ F.PST_WRITES.COUNT.width - 1) (s.bd.get pPST F.PST_WRITES.COUNT + 1)) ∧
    (∀ j q w, s.pstRunning = true → s.pst.queue = j :: q → j.writes = [w] →
      ∃ u, Runs .pstPageWriteDone s u ∧ u.pst.pages = smSet pstDefault w.1 w.2 s.pst.pages
        ∧ u.bd.get pPST F.PST_WRITES.COUNT = min (2 ^ F.PST_WRITES.COUNT.width - 1) (s.bd.get pPST F.PST_WRITES.COUNT + 1)) ∧
    (∃ u, Ends .aonLow s u ∧ s.SameBelow u ∧ u.bd.on pPST F.PST_STAT.AON_LOW = true ∧ s.bd.Only u.bd [(pPST, F.PST_STAT.AON_LOW.off / 4)]) ∧
    (∃ u, Ends .aonLowRelease s u ∧ u.bd.on pPST F.PST_STAT.AON_LOW = false ∧ u.pst.pages = s.pst.pages ∧ s.bd.Only u.bd [(pPST, F.PST_STAT.AON_LOW.off / 4)])

/-! ### Copy engines, queues, regulation and counters -/

/-- R440 to R447: a channel is armed once; ABORT stops a busy channel and ends a halted one; a halted channel resumes at DONE or past the failed line; the oldest answer advances a channel and a failed
line is issued again. -/
def Obligations.CopyChannelsAreCommanded : Prop :=
  ∀ (s : State) (p : Path),
    (∀ c : Fin 32, s.bd.gate p (chanPage c.val) (chanCtl c.val) false false = none →
      (s.bd.armed c.val = true → ∃ u, Runs (.cpdArm p c) s u ∧ s.SameBelow u ∧ u.bd.get (chanPage c.val) F.PAGE_REJECT.CODE = Code.busy.num
        ∧ s.bd.Only u.bd [(chanPage c.val, 13)]) ∧
      (s.bd.armed c.val = false → s.bd.chanState c.val = 1 ∨ s.bd.chanState c.val = 2 →
        ∃ u, Runs (.cpdArm p c) s u ∧ s.SameBelow u ∧ u.bd.armed c.val = true ∧ u.bd.chanState c.val = s.bd.chanState c.val
          ∧ s.bd.Only u.bd [(chanPage c.val, (chanCtl c.val + 4) / 4)]) ∧
      (s.bd.armed c.val = false → s.bd.chanState c.val = 0 ∨ s.bd.chanState c.val = 3 →
        ∃ u v : State, Runs (.cpdArm p c) s u ∧ s.SameBelow v ∧ v.bd.armed c.val = true ∧ u = v.passShadow c.val) ∧
      (∀ (k : Bool) (i : Instr), i = (if k then .skip p c else .retry p c) →
        (s.bd.chanState c.val ≠ 2 → ∃ u, Runs i s u ∧ s.SameBelow u ∧ u.bd.get (chanPage c.val) F.PAGE_REJECT.CODE = Code.conflict.num
          ∧ s.bd.Only u.bd [(chanPage c.val, 13)]) ∧
        (s.bd.chanState c.val = 2 → s.bd.get (chanPage c.val) (chanStat c.val F.CPD_STAT.CAUSE) ≠ 5 →
          ∃ u, Runs i s u ∧ u.bd.chanState c.val = 1 ∧ (u.chan c.val).stop = none ∧ (u.chan c.val).lines = []
            ∧ (u.chan c.val).pos = min (s.bd.desc c.val).len ((s.chan c.val).done + (if k then 64 else 0))
            ∧ u.bd.get (chanPage c.val) (chanStat c.val F.CPD_STAT.CAUSE) = 0 ∧ u.home = s.home))) ∧
    (∀ (c : Nat) (i : Instr), ((∃ n : Fin 32, c = n.val ∧ i = .copyAbort p n) ∨ (∃ n : Fin 8, c = 32 + n.val ∧ i = .cpsAbort p n)) →
      s.bd.gate p (chanPage c) (chanCtl c) false false = none →
      (s.bd.chanState c = 1 → ∃ u, Runs i s u ∧ (u.chan c).stop.isSome = true ∧ u.bd = s.bd ∧ u.home = s.home) ∧
      (s.bd.chanState c = 2 → (s.bd.desc c).record = false → ∃ u, Runs i s u ∧ s.SameBelow u ∧ u.bd.chanState c = 3 ∧ u.bd.get (chanPage c) (chanStat c F.CPD_STAT.CAUSE) = 6) ∧
      (s.bd.chanState c = 0 → Runs i s s)) ∧
    (∀ n : Fin 8, s.bd.gate p pCPS (chanCtl (32 + n.val)) false false = none →
      (s.bd.chanState (32 + n.val) = 1 → ∃ u, Runs (.copyGo p n) s u ∧ s.SameBelow u ∧ u.bd.get pCPS F.PAGE_REJECT.CODE = Code.busy.num) ∧
      (s.bd.chanState (32 + n.val) ≠ 1 → ∃ u, Runs (.copyGo p n) s u ∧ u = s.startDesc (32 + n.val))) ∧
    (∀ (c : Fin 40) a, s.home.answers.find? (fun a => decide (chanOf a.oid = some c.val)) = some a →
      ∃ u v : State, Runs (.copyLineDone c) s u ∧ v = { s with home := { s.home with answers := s.home.answers.erase a } } ∧ u = v.lineAnswer c.val a) ∧
    (∀ (c : Fin 40) l, (s.chan c.val).lines.find? (fun l => decide (l.phase = 2)) = some l →
      ∃ u v : State, Runs (.copyLineRetry c) s u ∧ s.SameBelow v ∧ v.bd.now = max s.bd.now (l.since + 1)
        ∧ v.bd.get pCPE F.CPE_RETRIES.COUNT = min (2 ^ F.CPE_RETRIES.COUNT.width - 1) (s.bd.get pCPE F.CPE_RETRIES.COUNT + 1)
        ∧ u = v.startLine c.val { l with tries := l.tries + 1, poison := false })

/-- R452 to R454, R457, R458, R467 to R470, R480, R485: a push opens, takes data and ends, or is truncated after 10 ms; POP frees the head packet; a window boundary starts the counts anew; a snapshot is
latched and shown; the voter repairs one wrong copy; a flip is armed in TEST. -/
def Obligations.QueuesCountersAndVoter : Prop :=
  ∀ (s : State) (p : Path),
    (∀ (q : Fin 64) (len : BitVec 16), s.bd.gate p pEVQ 0x058 false false = none → len.toNat ≠ 0 → (s.bd.port p).isOpen = false →
      ceilDiv (len.toNat + 4) 64 ≤ (s.bd.queue q.val).maxCells → (s.bd.queue q.val).en = true → s.bd.cellFree q.val = true →
      ∃ u, Ends (.pushStart p q len) s u ∧ s.SameBelow u ∧ (u.bd.port p).isOpen = true ∧ (u.bd.port p).queue = q.val ∧ (u.bd.port p).len = len.toNat ∧ (u.bd.port p).bytes = []
        ∧ (u.bd.port p).result = Code.ok.num ∧ (u.bd.port p).openedAt = s.bd.now) ∧
    (∀ data : Word, s.bd.gate p pEVQ 0x05C false false = none →
      ((s.bd.port p).isOpen = false → Ends (.pushData p data) s s) ∧
      ((s.bd.port p).isOpen = true → (s.bd.port p).bytes.length + 4 ≤ (s.bd.port p).len →
        ceilDiv ((s.bd.port p).bytes.length + 8) 64 ≤ ceilDiv ((s.bd.port p).bytes.length + 4) 64 →
        ∃ u, Ends (.pushData p data) s u ∧ s.SameBelow u ∧ u.bd.port p = { s.bd.port p with bytes := (s.bd.port p).bytes ++ leBytes 4 data.toNat } ∧ u.bd.regs = s.bd.regs)) ∧
    ((s.bd.port p).isOpen = true →
      (s.bd.gate p pEVQ 0x058 false false = none → wordBits (s.bd.port p).ctl 16 1 = 0 → ∃ u, Ends (.pushEnd p) s u ∧ s.SameBelow u ∧ (u.bd.port p).isOpen = false) ∧
      (∃ u, Ends (.pushTimeout p) s u ∧ s.SameBelow u ∧ (u.bd.port p).isOpen = false ∧ u.bd.now = max s.bd.now ((s.bd.port p).openedAt + 10000)
        ∧ (u.bd.rd pEVQ 0x010).getLsbD E.EVQ.TRUNCATED = true)) ∧
    (s.bd.gate p pEVQ 0x050 false false = none →
      (∀ n k, n = s.bd.get pEVQ F.EVQ_QSEL.QUEUE → (s.bd.queue n).head = some k →
        ∃ u, Ends (.queuePop p) s u ∧ s.SameBelow u ∧ u.bd.queue n = { s.bd.queue n with pkts := (s.bd.queue n).pkts.drop 1 } ∧ u.bd.get pEVQ F.EVQ_RD_STAT.RESULT = Code.ok.num
          ∧ s.bd.Only u.bd [(pEVQ, F.EVQ_RD_STAT.RESULT.off / 4)]) ∧
      (∀ n, n = s.bd.get pEVQ F.EVQ_QSEL.QUEUE → (s.bd.queue n).head = none →
        ∃ u, Ends (.queuePop p) s u ∧ s.SameBelow u ∧ u.bd.queues = s.bd.queues ∧ u.bd.get pEVQ F.EVQ_RD_STAT.RESULT = Code.empty.num
          ∧ u.bd.get pEVQ F.EVQ_UNDERRUN.COUNT = min (2 ^ F.EVQ_UNDERRUN.COUNT.width - 1) (s.bd.get pEVQ F.EVQ_UNDERRUN.COUNT + 1))) ∧
    (∃ u, Runs .qosWindow s u ∧ u.bd = s.bd.elapse 17 (s.qosForce F.QOS_CFG.WINDOW_US) ∧ u.traffic.used = [] ∧ u.traffic.before = s.traffic.lowered ∧ u.traffic.lowered = [] ∧ u.traffic.flight = s.traffic.flight) ∧
    (∀ (m : Fin 64) (point : Fin 4) (k : Nat) x, (s.traffic.low.filter (fun l => decide (masterOf l.1 = m.val) && decide (point.val ∉ l.2.2)))[k]? = some x →
      ∃ u, Ends (.qosPromote m point k) s u ∧ (u.bd.rd pQOS 0x010).getLsbD E.QOS.PROMOTED = true ∧ u.traffic.flight = s.traffic.flight
        ∧ u.bd.get pQOS F.QOS_PROMOTED.COUNT = min (2 ^ F.QOS_PROMOTED.COUNT.width - 1) (s.bd.get pQOS F.QOS_PROMOTED.COUNT + 1)) ∧
    (s.bd.snap = none → s.bd.pmcDue = [] → s.bd.clockPages = [] → s.bd.on pPMC F.PMC_CTL.CLEAR_ON_SNAP = false →
      (s.bd.gate p pPMC 0x040 false false = none → ∃ u, Ends (.snap p) s u ∧ s.SameBelow u ∧ u.bd.snap.isSome = true ∧ u.bd.on pPMC F.PMC_STAT.BUSY = true
        ∧ s.bd.Only u.bd [(pPMC, F.PMC_STAT.BUSY.off / 4)]) ∧
      (s.bd.powered pPMC = true → s.bd.on pPMC F.PMC_PERIOD.AUTO = true →
        ∃ u, Ends .pmcAutoSnap s u ∧ s.SameBelow u ∧ u.bd.snap.isSome = true ∧ u.bd.on pPMC F.PMC_STAT.BUSY = true
          ∧ u.bd.now = max s.bd.now (smGet (fun _ => 0) s.bd.marks 14 + s.bd.get pPMC F.PMC_PERIOD.MS * 1000))) ∧
    (∀ x, s.bd.snap = some x → ∃ u, Ends .snapDone s u ∧ s.SameBelow u ∧ u.bd.snap = none ∧ u.bd.on pPMC F.PMC_STAT.BUSY = false
      ∧ (u.bd.rd pPMC 0x010).getLsbD E.PMC.SNAP_DONE = true) ∧
    (s.bd.on pTRV F.TRV_FLIP_CTL.ARM = false →
      (∃ u, Runs (.trvScrub []) s u ∧ s.SameBelow u ∧ u.bd = s.bd.elapse 15 (s.bd.get pTRV F.TRV_CFG.SCRUB_US)) ∧
      (∀ (w : Fin 32) (k : Fin 3) (bits : Word), bits ≠ 0 →
        ∃ u, Runs (.trvScrub [(w, k, bits)]) s u ∧ s.SameBelow u ∧ u.trvWord w.val = s.trvWord w.val ∧ u.bd.fatal = s.bd.fatal
          ∧ (u.bd.rd pTRV 0x010).getLsbD E.TRV.REPAIRED = true
          ∧ u.bd.get pTRV F.TRV_REPAIRS.COUNT = min (2 ^ F.TRV_REPAIRS.COUNT.width - 1) (s.bd.get pTRV F.TRV_REPAIRS.COUNT + 1))) ∧
    (∀ (copy : Fin 4) (w : Fin 32), s.bd.gate p pTRV 0x058 false false = none →
      (s.bd.unit pTRV ≠ stTEST → ∃ u, Ends (.trvFlipArm p copy w) s u ∧ s.SameBelow u ∧ u.bd.get pTRV F.PAGE_REJECT.CODE = Code.denied.num ∧ s.bd.Only u.bd [(pTRV, 13)]) ∧
      (s.bd.unit pTRV = stTEST → s.bd.get pTRV F.TRV_FLIP_MASK.MASK ≠ 0 →
        ∃ u, Ends (.trvFlipArm p copy w) s u ∧ s.SameBelow u ∧ u.bd.rd pTRV 0x058 = BitVec.ofNat 32 (1 + copy.val * 2 + w.val * 8) ∧ s.bd.Only u.bd [(pTRV, 22)]))

/-- R7, R9: reads of reserved offsets within a page return zero; writes to reserved offsets are discarded, and nothing is recorded. The writes are those that R488 to
R491 let through to the page. An access of another size or alignment reads all ones or is discarded, and records UNSUPPORTED; in an unimplemented or unpowered page it
reads zero or is discarded, and no PAGE_REJECT records it. -/
def Obligations.IllFormedAccessesAreHandled : Prop :=
  (∀ (s : State) (p : Path) (page off size : Nat) (w : BitVec 64), page < 512 → off < 4096 → implemented page = true → size = 4 ∨ size = 8 → off % size = 0 →
    (∀ o, o = off ∨ o = off + size - 4 → rowsAt page o = [] ∧ o ≠ 0x000 ∧ o ≠ 0x004 ∧ o ≠ 0x00C) →
    (∃ u, Runs (.readClear p (BitVec.ofNat 21 (page * 4096 + off)) (Fin.ofNat 65 size)) s u ∧ s.SameBelow u
      ∧ u.bd = { s.bd.followCounters with out := s.bd.followCounters.out ++ [.regRead p (page * 4096 + off) size 0] }) ∧
    ((∀ o v, o = off ∨ o = off + size - 4 → s.bd.Reaches p page o v) → Runs (.registerWrite p (BitVec.ofNat 21 (page * 4096 + off)) (Fin.ofNat 65 size) w) s s)) ∧
  (∀ (s : State) (p : Path) (offset : BitVec 21) (size : Fin 65) (w : BitVec 64) (page : Nat), page = offset.toNat / 4096 →
    (implemented page = true → s.bd.powered page = true → sized (offset.toNat % 4096) size.val = false →
      (∃ u, Runs (.readClear p offset size) s u ∧ s.SameBelow u ∧ u.bd.get page F.PAGE_REJECT.CODE = Code.unsupported.num
        ∧ s.bd.followCounters.Only u.bd [(page, F.PAGE_REJECT.CODE.off / 4)]
        ∧ u.bd.out = s.bd.followCounters.out ++ [.regRead p offset.toNat size.val (2 ^ (8 * size.val) - 1)]) ∧
      (∃ u, Runs (.registerWrite p offset size w) s u ∧ s.SameBelow u ∧ u.bd.get page F.PAGE_REJECT.CODE = Code.unsupported.num
        ∧ s.bd.Only u.bd [(page, F.PAGE_REJECT.CODE.off / 4)] ∧ u.bd.out = s.bd.out)) ∧
    (implemented page = true → s.bd.powered page = false →
      (∃ u, Runs (.readClear p offset size) s u ∧ s.SameBelow u
        ∧ u.bd = { s.bd.followCounters with out := s.bd.followCounters.out ++ [.regRead p offset.toNat size.val 0] }) ∧
      Runs (.registerWrite p offset size w) s s) ∧
    (implemented page = false →
      (∃ u, Ends (.unmappedAccess p false offset size) s u ∧ s.SameBelow u ∧ (∀ q, u.bd.rd q F.PAGE_REJECT.CODE.off = s.bd.rd q F.PAGE_REJECT.CODE.off)
        ∧ .regRead p offset.toNat size.val 0 ∈ u.bd.out) ∧
      (∃ u, Ends (.unmappedAccess p true offset size) s u ∧ s.SameBelow u ∧ (∀ q, u.bd.rd q F.PAGE_REJECT.CODE.off = s.bd.rd q F.PAGE_REJECT.CODE.off))))
end

