-- ==== Sys2Proof/Laws/Sparse.lean ====
section
/-! SUPPORT. Sparse maps: a read after a write of the same key gives what was written, a write leaves every other key alone, and every
operation keeps the canonical form. -/

namespace Sys2Proof.Machine

variable {α : Type}

theorem smFind_smPut_self (k : Nat) (a : α) (m : SMap α) : smFind k (smPut k a m) = some a := by
  induction m with
  | nil => simp [smPut, smFind]
  | cons e m ih =>
    obtain ⟨j, b⟩ := e
    simp only [smPut]
    split
    · simp [smFind]
    · split
      · simp [smFind]
      · rename_i h
        simp [smFind, h, ih]

theorem smFind_smPut_ne {k l : Nat} (h : l ≠ k) (a : α) (m : SMap α) : smFind l (smPut k a m) = smFind l m := by
  induction m with
  | nil => simp [smPut, smFind, Ne.symm h]
  | cons e m ih =>
    obtain ⟨j, b⟩ := e
    simp only [smPut]
    split
    · simp [smFind, Ne.symm h]
    · split
      · rename_i hj
        subst hj
        simp [smFind, Ne.symm h]
      · simp only [smFind, ih]

theorem smFind_smDel_self (k : Nat) (m : SMap α) : smFind k (smDel k m) = none := by
  induction m with
  | nil => rfl
  | cons e m ih =>
    obtain ⟨j, b⟩ := e
    simp only [smDel]
    split
    · exact ih
    · rename_i h
      simp [smFind, h, ih]

theorem smFind_smDel_ne {k l : Nat} (h : l ≠ k) (m : SMap α) : smFind l (smDel k m) = smFind l m := by
  induction m with
  | nil => rfl
  | cons e m ih =>
    obtain ⟨j, b⟩ := e
    simp only [smDel]
    split
    · rename_i hj
      subst hj
      simp [smFind, Ne.symm h, ih]
    · simp only [smFind, ih]

/-- A read after a write of the same key gives what was written. -/
@[simp] theorem smGet_smSet_self [DecidableEq α] (d : Nat → α) (k : Nat) (a : α) (m : SMap α) : smGet d (smSet d k a m) k = a := by
  unfold smGet smSet
  split
  · rename_i h
    simp [smFind_smDel_self, h]
  · simp [smFind_smPut_self]

/-- A write leaves every other key alone. -/
theorem smGet_smSet_ne [DecidableEq α] (d : Nat → α) {k l : Nat} (h : l ≠ k) (a : α) (m : SMap α) :
    smGet d (smSet d k a m) l = smGet d m l := by
  unfold smGet smSet
  split
  · simp [smFind_smDel_ne h]
  · simp [smFind_smPut_ne h]

/-- Both laws at once. -/
theorem smGet_smSet [DecidableEq α] (d : Nat → α) (k l : Nat) (a : α) (m : SMap α) :
    smGet d (smSet d k a m) l = if l = k then a else smGet d m l := by
  split
  · rename_i h
    subst h
    simp
  · rename_i h
    exact smGet_smSet_ne d h a m

/-! ### The canonical form -/

/-- The canonical form above a bound `lo` is the canonical form above any lower bound. -/
theorem smWfFrom_weaken [DecidableEq α] {d : Nat → α} {lo : Nat} {o : Option Nat} {m : SMap α} (ho : ∀ l, o = some l → l ≤ lo)
    (h : smWfFrom d (some lo) m = true) : smWfFrom d o m = true := by
  cases m with
  | nil => rfl
  | cons e m =>
    obtain ⟨k, a⟩ := e
    simp only [smWfFrom, Bool.and_eq_true, decide_eq_true_eq] at h ⊢
    refine ⟨⟨?_, h.1.2⟩, h.2⟩
    cases o with
    | none => rfl
    | some l =>
      have := ho l rfl
      simp only [decide_eq_true_eq]
      omega

theorem smWfFrom_smPut [DecidableEq α] {d : Nat → α} {k : Nat} {a : α} (ha : a ≠ d k) (m : SMap α) :
    ∀ o : Option Nat, (∀ l, o = some l → l < k) → smWfFrom d o m = true → smWfFrom d o (smPut k a m) = true := by
  induction m with
  | nil =>
    intro o ho _
    cases o with
    | none => simp [smPut, smWfFrom, ha]
    | some l => simp [smPut, smWfFrom, ha, ho l rfl]
  | cons e m ih =>
    obtain ⟨j, b⟩ := e
    intro o ho h
    simp only [smWfFrom, Bool.and_eq_true, decide_eq_true_eq] at h
    obtain ⟨⟨h1, h2⟩, h3⟩ := h
    simp only [smPut]
    split
    · rename_i hk
      simp only [smWfFrom, Bool.and_eq_true, decide_eq_true_eq]
      refine ⟨⟨?_, ha⟩, ⟨hk, h2⟩, h3⟩
      cases o with
      | none => rfl
      | some l => simpa using ho l rfl
    · split
      · rename_i hj
        subst hj
        simp only [smWfFrom, Bool.and_eq_true, decide_eq_true_eq]
        exact ⟨⟨h1, ha⟩, h3⟩
      · rename_i hn hj
        simp only [smWfFrom, Bool.and_eq_true, decide_eq_true_eq]
        refine ⟨⟨h1, h2⟩, ih (some j) ?_ h3⟩
        intro l hl
        cases hl
        omega

theorem smWfFrom_smDel [DecidableEq α] {d : Nat → α} {k : Nat} (m : SMap α) :
    ∀ o : Option Nat, smWfFrom d o m = true → smWfFrom d o (smDel k m) = true := by
  induction m with
  | nil => intro o _; rfl
  | cons e m ih =>
    obtain ⟨j, b⟩ := e
    intro o h
    simp only [smWfFrom, Bool.and_eq_true, decide_eq_true_eq] at h
    obtain ⟨⟨h1, h2⟩, h3⟩ := h
    simp only [smDel]
    split
    · refine ih o (smWfFrom_weaken ?_ h3)
      intro l hl
      subst hl
      simp only [decide_eq_true_eq] at h1
      omega
    · simp only [smWfFrom, Bool.and_eq_true, decide_eq_true_eq]
      exact ⟨⟨h1, h2⟩, ih (some j) h3⟩

/-- A write keeps the canonical form. -/
theorem smWf_smSet [DecidableEq α] {d : Nat → α} (k : Nat) (a : α) {m : SMap α} (h : smWf d m = true) : smWf d (smSet d k a m) = true := by
  unfold smSet
  split
  · exact smWfFrom_smDel m none h
  · rename_i ha
    exact smWfFrom_smPut ha m none (by simp) h

/-- Removing an entry keeps the canonical form. -/
theorem smWf_smDel [DecidableEq α] {d : Nat → α} (k : Nat) {m : SMap α} (h : smWf d m = true) : smWf d (smDel k m) = true :=
  smWfFrom_smDel m none h

theorem smWfFrom_filter [DecidableEq α] {d : Nat → α} (p : Nat × α → Bool) (m : SMap α) :
    ∀ o : Option Nat, smWfFrom d o m = true → smWfFrom d o (m.filter p) = true := by
  induction m with
  | nil => intro o _; rfl
  | cons e m ih =>
    obtain ⟨j, b⟩ := e
    intro o h
    simp only [smWfFrom, Bool.and_eq_true, decide_eq_true_eq] at h
    obtain ⟨⟨h1, h2⟩, h3⟩ := h
    rw [List.filter_cons]
    split
    · simp only [smWfFrom, Bool.and_eq_true, decide_eq_true_eq]
      exact ⟨⟨h1, h2⟩, ih (some j) h3⟩
    · refine ih o (smWfFrom_weaken ?_ h3)
      intro l hl
      subst hl
      simp only [decide_eq_true_eq] at h1
      omega

/-- Dropping entries keeps the canonical form. -/
theorem smWf_smKeep [DecidableEq α] {d : Nat → α} (p : Nat → α → Bool) {m : SMap α} (h : smWf d m = true) : smWf d (smKeep p m) = true :=
  smWfFrom_filter _ m none h

end Sys2Proof.Machine
end

