-- ==== Sys2Proof/Laws/Words.lean ====
section
/-! SUPPORT. Bit fields of a word: a field read after it is set gives the low bits of what was set, and a set leaves other fields alone. -/

namespace Sys2Proof.Machine

theorem testBit_wordSet (w : Word) (lo width v i : Nat) (hi : i < 32) :
    (wordSet w lo width v).toNat.testBit i = if lo ≤ i ∧ i < lo + width then v.testBit (i - lo) else w.toNat.testBit i := by
  have hmask : ((2 ^ width - 1) <<< lo).testBit i = decide (lo ≤ i ∧ i < lo + width) := by
    rw [Nat.testBit_shiftLeft, Nat.testBit_two_pow_sub_one]
    by_cases h : lo ≤ i
    · have : (i - lo < width) ↔ (i < lo + width) := by omega
      simp [h, this]
    · simp [h]
  have hval : ((v % 2 ^ width) <<< lo).testBit i = (decide (lo ≤ i ∧ i < lo + width) && v.testBit (i - lo)) := by
    rw [Nat.testBit_shiftLeft, Nat.testBit_mod_two_pow]
    by_cases h : lo ≤ i
    · have : (i - lo < width) ↔ (i < lo + width) := by omega
      simp [h, this]
    · simp [h]
  have h1 : (wordSet w lo width v).toNat.testBit i = (wordSet w lo width v).getLsbD i := rfl
  have h2 : w.toNat.testBit i = w.getLsbD i := rfl
  rw [h1, h2]
  unfold wordSet
  simp only [BitVec.getLsbD_or, BitVec.getLsbD_and, BitVec.getLsbD_not, BitVec.getLsbD_ofNat, hi, decide_true, Bool.true_and, hmask, hval]
  by_cases h : lo ≤ i ∧ i < lo + width <;> simp [h]

theorem testBit_wordBits (w : Word) (lo width i : Nat) : (wordBits w lo width).testBit i = (decide (i < width) && w.toNat.testBit (lo + i)) := by
  unfold wordBits
  rw [Nat.testBit_mod_two_pow, Nat.testBit_shiftRight]

/-- A field read after it has been set. -/
theorem wordBits_wordSet_self (w : Word) (lo width v : Nat) (h : lo + width ≤ 32) : wordBits (wordSet w lo width v) lo width = v % 2 ^ width := by
  apply Nat.eq_of_testBit_eq
  intro i
  rw [testBit_wordBits, Nat.testBit_mod_two_pow]
  by_cases hi : i < width
  · rw [testBit_wordSet _ _ _ _ _ (by omega)]
    have : lo ≤ lo + i ∧ lo + i < lo + width := by omega
    simp [hi, this]
  · simp [hi]

/-- A field read after another field, disjoint from it, has been set. -/
theorem wordBits_wordSet_ne (w : Word) (lo width v lo' width' : Nat) (h' : lo' + width' ≤ 32) (h : lo' + width' ≤ lo ∨ lo + width ≤ lo') :
    wordBits (wordSet w lo width v) lo' width' = wordBits w lo' width' := by
  apply Nat.eq_of_testBit_eq
  intro i
  rw [testBit_wordBits, testBit_wordBits]
  by_cases hi : i < width'
  · rw [testBit_wordSet _ _ _ _ _ (by omega)]
    have : ¬ (lo ≤ lo' + i ∧ lo' + i < lo + width) := by omega
    simp [this]
  · simp [hi]

theorem wordBits_lt (w : Word) (lo width : Nat) : wordBits w lo width < 2 ^ width := Nat.mod_lt _ (Nat.two_pow_pos _)

/-- The whole word as a field. -/
theorem wordBits_whole (w : Word) : wordBits w 0 32 = w.toNat := by
  unfold wordBits
  simp only [Nat.shiftRight_zero]
  exact Nat.mod_eq_of_lt w.isLt

/-- Setting the whole word. -/
theorem wordSet_whole (w : Word) (v : Nat) : wordSet w 0 32 v = BitVec.ofNat 32 v := by
  apply BitVec.eq_of_toNat_eq
  have h := wordBits_wordSet_self w 0 32 v (by omega)
  rw [wordBits_whole] at h
  rw [h, BitVec.toNat_ofNat]

end Sys2Proof.Machine
end

