-- ==== Sys2Proof/Laws/Board.lean ====
section
/-! SUPPORT. The register file: what a read gives after a write, for words, fields, counters and events. -/

namespace Sys2Proof.Machine

/-! ### Words -/

theorem regKey_eq_iff {p p' o o' : Nat} (ho : o < 4096) (ho' : o' < 4096) : regKey p' o' = regKey p o ↔ p' = p ∧ o' / 4 = o / 4 := by
  unfold regKey
  constructor
  · intro h
    constructor <;> omega
  · rintro ⟨rfl, h⟩
    omega

/-- A register that has just been written. -/
@[simp] theorem Board.rd_wr_self (b : Board) (p o : Nat) (w : Word) : (b.wr p o w).rd p o = w := by
  simp [Board.rd, Board.wr]

/-- A write of one register leaves every other alone. -/
theorem Board.rd_wr_key {b : Board} {p o p' o' : Nat} {w : Word} (h : regKey p' o' ≠ regKey p o) : (b.wr p o w).rd p' o' = b.rd p' o' := by
  simp only [Board.rd, Board.wr]
  exact smGet_smSet_ne _ h _ _

theorem Board.rd_wr_page {b : Board} {p o p' o' : Nat} {w : Word} (ho : o < 4096) (ho' : o' < 4096) (h : p' ≠ p) :
    (b.wr p o w).rd p' o' = b.rd p' o' :=
  Board.rd_wr_key (fun e => h ((regKey_eq_iff ho ho').1 e).1)

theorem Board.rd_wr_off {b : Board} {p o p' o' : Nat} {w : Word} (ho : o < 4096) (ho' : o' < 4096) (h : o' / 4 ≠ o / 4) :
    (b.wr p o w).rd p' o' = b.rd p' o' :=
  Board.rd_wr_key (fun e => h ((regKey_eq_iff ho ho').1 e).2)

/-- What a read gives after a write, in one equation. -/
theorem Board.rd_wr (b : Board) (p o p' o' : Nat) (w : Word) : (b.wr p o w).rd p' o' = if regKey p' o' = regKey p o then w else b.rd p' o' := by
  simp only [Board.rd, Board.wr]
  exact smGet_smSet _ _ _ _ _

/-! ### Counting for the performance counters touches no register -/

@[simp] theorem Board.rd_tally (b : Board) (p c n p' o' : Nat) : (b.tally p c n).rd p' o' = b.rd p' o' := by
  unfold Board.tally
  split <;> rfl

@[simp] theorem Board.get_tally (b : Board) (p c n p' : Nat) (f : Fld) : (b.tally p c n).get p' f = b.get p' f := by
  simp [Board.get]

/-! ### Fields -/

/-- A field that has just been set. -/
theorem Board.get_put_self (b : Board) (p : Nat) (f : Fld) (v : Nat) (h : f.lo + f.width ≤ 32) : (b.put p f v).get p f = v % 2 ^ f.width := by
  simp [Board.get, Board.put, wordBits_wordSet_self _ _ _ _ h]

/-- Two fields of one page that share no bit. -/
def Fld.apart (f g : Fld) : Prop := f.off / 4 ≠ g.off / 4 ∨ f.off = g.off ∧ (f.lo + f.width ≤ g.lo ∨ g.lo + g.width ≤ f.lo)

/-- Setting a field leaves a field of the same page that shares no bit with it alone. -/
theorem Board.get_put_apart (b : Board) {p : Nat} {f g : Fld} (v : Nat) (hf : f.off < 4096) (hg : g.off < 4096) (hw : f.lo + f.width ≤ 32)
    (h : Fld.apart f g) : (b.put p g v).get p f = b.get p f := by
  unfold Board.get Board.put
  rcases h with h | ⟨ho, h⟩
  · rw [Board.rd_wr_off hg hf h]
  · rw [ho, Board.rd_wr_self, wordBits_wordSet_ne _ _ _ _ _ _ hw h]

/-- Setting a field leaves every other page alone. -/
theorem Board.get_put_page (b : Board) {p p' : Nat} {f g : Fld} (v : Nat) (hf : f.off < 4096) (hg : g.off < 4096) (h : p' ≠ p) :
    (b.put p g v).get p' f = b.get p' f := by
  unfold Board.get Board.put
  rw [Board.rd_wr_page hg hf h]

theorem Board.rd_put_key {b : Board} {p p' o' : Nat} {f : Fld} {v : Nat} (h : regKey p' o' ≠ regKey p f.off) : (b.put p f v).rd p' o' = b.rd p' o' :=
  Board.rd_wr_key h

/-- A field is as wide as its width says. -/
theorem Board.get_lt (b : Board) (p : Nat) (f : Fld) : b.get p f < 2 ^ f.width := wordBits_lt _ _ _

/-! ### Counters -/

/-- A counter advances and saturates (Table 00-10). -/
theorem Board.get_count_self (b : Board) (p : Nat) (f : Fld) (n : Nat) (h : f.lo + f.width ≤ 32) :
    (b.count p f n).get p f = min (2 ^ f.width - 1) (b.get p f + n) := by
  unfold Board.count
  rw [Board.get_tally, Board.get_put_self _ _ _ _ h]
  apply Nat.mod_eq_of_lt
  have := Nat.two_pow_pos f.width
  omega

theorem Board.rd_count_key {b : Board} {p p' o' : Nat} {f : Fld} {n : Nat} (h : regKey p' o' ≠ regKey p f.off) : (b.count p f n).rd p' o' = b.rd p' o' := by
  unfold Board.count
  rw [Board.rd_tally]
  exact Board.rd_put_key h

/-! ### Fields of the board that register writes leave alone -/

@[simp] theorem Board.wr_now (b : Board) (p o : Nat) (w : Word) : (b.wr p o w).now = b.now := rfl
@[simp] theorem Board.wr_out (b : Board) (p o : Nat) (w : Word) : (b.wr p o w).out = b.out := rfl
@[simp] theorem Board.wr_resetting (b : Board) (p o : Nat) (w : Word) : (b.wr p o w).resetting = b.resetting := rfl
@[simp] theorem Board.wr_causes (b : Board) (p o : Nat) (w : Word) : (b.wr p o w).causes = b.causes := rfl
@[simp] theorem Board.wr_faultLog (b : Board) (p o : Nat) (w : Word) : (b.wr p o w).faultLog = b.faultLog := rfl
@[simp] theorem Board.wr_queues (b : Board) (p o : Nat) (w : Word) : (b.wr p o w).queues = b.queues := rfl
@[simp] theorem Board.wr_stateQ (b : Board) (p o : Nat) (w : Word) : (b.wr p o w).stateQ = b.stateQ := rfl
@[simp] theorem Board.wr_eventQ (b : Board) (p o : Nat) (w : Word) : (b.wr p o w).eventQ = b.eventQ := rfl
@[simp] theorem Board.put_now (b : Board) (p : Nat) (f : Fld) (v : Nat) : (b.put p f v).now = b.now := rfl
@[simp] theorem Board.put_out (b : Board) (p : Nat) (f : Fld) (v : Nat) : (b.put p f v).out = b.out := rfl
@[simp] theorem Board.put_resetting (b : Board) (p : Nat) (f : Fld) (v : Nat) : (b.put p f v).resetting = b.resetting := rfl
@[simp] theorem Board.put_causes (b : Board) (p : Nat) (f : Fld) (v : Nat) : (b.put p f v).causes = b.causes := rfl
@[simp] theorem Board.put_faultLog (b : Board) (p : Nat) (f : Fld) (v : Nat) : (b.put p f v).faultLog = b.faultLog := rfl
@[simp] theorem Board.put_queues (b : Board) (p : Nat) (f : Fld) (v : Nat) : (b.put p f v).queues = b.queues := rfl
@[simp] theorem Board.emit_rd (b : Board) (o : Output) (p off : Nat) : (b.emit o).rd p off = b.rd p off := rfl
@[simp] theorem Board.emit_get (b : Board) (o : Output) (p : Nat) (f : Fld) : (b.emit o).get p f = b.get p f := rfl
@[simp] theorem Board.emit_out (b : Board) (o : Output) : (b.emit o).out = b.out ++ [o] := rfl

theorem Board.tally_out (b : Board) (p c n : Nat) : (b.tally p c n).out = b.out := by unfold Board.tally; split <;> rfl
theorem Board.tally_now (b : Board) (p c n : Nat) : (b.tally p c n).now = b.now := by unfold Board.tally; split <;> rfl
theorem Board.tally_resetting (b : Board) (p c n : Nat) : (b.tally p c n).resetting = b.resetting := by unfold Board.tally; split <;> rfl
theorem Board.tally_causes (b : Board) (p c n : Nat) : (b.tally p c n).causes = b.causes := by unfold Board.tally; split <;> rfl
theorem Board.tally_regs (b : Board) (p c n : Nat) : (b.tally p c n).regs = b.regs := by unfold Board.tally; split <;> rfl

end Sys2Proof.Machine
end

