-- ==== Sys2Proof/Laws/Closing.lean ====
section
/-! SUPPORT. What closes every step: CAUSE_OPEN follows the causes, and nothing but UNIT_STATE and its notices changes. -/

namespace Sys2Proof.Machine

theorem Board.StateFrame.refl (b : Board) : b.StateFrame b := ⟨fun _ _ _ _ => rfl, fun _ => rfl, rfl⟩

theorem Board.StateFrame.trans {b c d : Board} (h : b.StateFrame c) (k : c.StateFrame d) : b.StateFrame d := by
  refine ⟨fun p o ho he => (k.regs p o ho he).trans (h.regs p o ho he), fun p => (k.unit p).trans (h.unit p), ?_⟩
  have hd : d.withStates b = (d.withStates c).withStates b := rfl
  rw [hd, k.same, h.same]

theorem Board.StateFrame.of_same {b c d : Board} (h : b.StateFrame c) (h1 : d.regs = c.regs) (h2 : d.withStates c = c) : b.StateFrame d :=
  h.trans ⟨fun _ _ _ _ => by simp only [Board.rd, h1], fun p => by simp only [Board.unit, Board.get, Board.rd, h1], h2⟩

/-- Domains stay powered or not. -/
theorem Board.StateFrame.powered {b c : Board} (h : b.StateFrame c) (page : Nat) : c.powered page = b.powered page := by
  unfold Board.powered Board.domainOn Board.get
  rw [h.regs _ _ (by decide) (by decide)]

theorem Board.StateFrame.causes {b c : Board} (h : b.StateFrame c) : c.causes = b.causes := by
  have := congrArg Board.causes h.same
  exact this

/-- The causes of a page stay. -/
theorem Board.StateFrame.openCauses {b c : Board} (h : b.StateFrame c) (page : Nat) : c.openCauses page = b.openCauses page := by
  unfold Board.openCauses
  rw [h.causes]
  split
  · rfl
  · rename_i k i hk
    split
    · rename_i off mask x hx
      rw [h.regs page off]
      · revert hx
        cases k <;> simp [causeReg] <;> omega
      · revert hx
        cases k <;> simp only [causeReg, Option.some.injEq, Prod.mk.injEq, reduceCtorEq, false_implies] <;> rintro ⟨rfl, -, -⟩ <;>
          simp only [stateReg] <;> revert hk <;> unfold pMGT <;> intro hk <;> (by_cases hp : page = 7) <;> first
            | (subst hp; simp [blockOf] at hk)
            | simp [hp]
    · rfl

theorem drop_key {page : Nat} : regKey page 8 ≠ regKey pMGT F.MGT_IBI_DROP.COUNT.off := by
  intro e
  have := ((regKey_eq_iff (by decide) (by decide)).1 e).2
  revert this
  decide

theorem word_state (st co epoch : Nat) (h1 : st < 16) (h2 : co < 2) (h3 : epoch < 65536) :
    wordBits (BitVec.ofNat 32 (st + co * 2 ^ 4 + epoch * 2 ^ 16)) 0 4 = st ∧ wordBits (BitVec.ofNat 32 (st + co * 2 ^ 4 + epoch * 2 ^ 16)) 4 1 = co ∧
      wordBits (BitVec.ofNat 32 (st + co * 2 ^ 4 + epoch * 2 ^ 16)) 16 16 = epoch := by
  have e : (BitVec.ofNat 32 (st + co * 2 ^ 4 + epoch * 2 ^ 16)).toNat = st + co * 2 ^ 4 + epoch * 2 ^ 16 := by
    rw [BitVec.toNat_ofNat]
    exact Nat.mod_eq_of_lt (by omega)
  unfold wordBits
  rw [e]
  simp only [Nat.shiftRight_eq_div_pow]
  refine ⟨?_, ?_, ?_⟩ <;> omega

/-- R16: the state and CAUSE_OPEN that `move` leaves. -/
theorem Board.move_reads (b : Board) (page st co : Nat) (h1 : st < 16) (h2 : co < 2) :
    (b.move page st co).unit page = st ∧ (b.move page st co).get page F.UNIT_STATE.CAUSE_OPEN = co := by
  unfold Board.move
  split
  · rename_i h
    exact h
  · have hw := word_state st co ((b.get page F.UNIT_STATE.EPOCH + 1) % 2 ^ 16) h1 h2 (Nat.mod_lt _ (by decide))
    have key : ∀ c : Board, c.rd page 8 = BitVec.ofNat 32 (st + co * 2 ^ 4 + ((b.get page F.UNIT_STATE.EPOCH + 1) % 2 ^ 16) * 2 ^ 16) →
        c.unit page = st ∧ c.get page F.UNIT_STATE.CAUSE_OPEN = co := by
      intro c hc
      unfold Board.unit Board.get
      rw [hc]
      exact ⟨hw.1, hw.2.1⟩
    dsimp only
    split
    · apply key
      show ((b.wr page 8 _).tally page 3 1).rd page 8 = _
      rw [Board.rd_tally, Board.rd_wr_self]
    · apply key
      show ((((b.wr page 8 _).tally page 3 1)).count pMGT F.MGT_IBI_DROP.COUNT 1).rd page 8 = _
      rw [Board.rd_count_key drop_key, Board.rd_tally, Board.rd_wr_self]

/-- R16: a page whose state and CAUSE_OPEN do change takes the next epoch. -/
theorem Board.move_epoch (b : Board) (page st co : Nat) (h1 : st < 16) (h2 : co < 2)
    (h : ¬ (b.get page F.UNIT_STATE.STATE = st ∧ b.get page F.UNIT_STATE.CAUSE_OPEN = co)) :
    (b.move page st co).get page F.UNIT_STATE.EPOCH = (b.get page F.UNIT_STATE.EPOCH + 1) % 2 ^ 16 := by
  unfold Board.move
  rw [if_neg h]
  have hw := word_state st co ((b.get page F.UNIT_STATE.EPOCH + 1) % 2 ^ 16) h1 h2 (Nat.mod_lt _ (by decide))
  have key : ∀ c : Board, c.rd page 8 = BitVec.ofNat 32 (st + co * 2 ^ 4 + ((b.get page F.UNIT_STATE.EPOCH + 1) % 2 ^ 16) * 2 ^ 16) →
      c.get page F.UNIT_STATE.EPOCH = (b.get page F.UNIT_STATE.EPOCH + 1) % 2 ^ 16 := by
    intro c hc
    unfold Board.get
    rw [hc]
    exact hw.2.2
  dsimp only
  split
  · apply key
    show ((b.wr page 8 _).tally page 3 1).rd page 8 = _
    rw [Board.rd_tally, Board.rd_wr_self]
  · apply key
    show ((((b.wr page 8 _).tally page 3 1)).count pMGT F.MGT_IBI_DROP.COUNT 1).rd page 8 = _
    rw [Board.rd_count_key drop_key, Board.rd_tally, Board.rd_wr_self]

/-- The registers that `move` leaves alone. -/
theorem Board.rd_move {b : Board} {page st co p o : Nat} (ho : o < 4096) (h : ¬ (p = page ∧ o / 4 = 2)) (h' : ¬ (p = pMGT ∧ o / 4 = 23)) :
    (b.move page st co).rd p o = b.rd p o := by
  have k1 : regKey p o ≠ regKey page 8 := fun e => h ⟨((regKey_eq_iff (by omega) ho).1 e).1, ((regKey_eq_iff (by omega) ho).1 e).2⟩
  have k2 : regKey p o ≠ regKey pMGT F.MGT_IBI_DROP.COUNT.off := fun e =>
    h' ⟨((regKey_eq_iff (by decide) ho).1 e).1, ((regKey_eq_iff (by decide) ho).1 e).2⟩
  unfold Board.move
  split
  · rfl
  · dsimp only
    split
    · show ((b.wr page 8 _).tally page 3 1).rd p o = _
      rw [Board.rd_tally, Board.rd_wr_key k1]
    · show ((((b.wr page 8 _).tally page 3 1)).count pMGT F.MGT_IBI_DROP.COUNT 1).rd p o = _
      rw [Board.rd_count_key k2, Board.rd_tally, Board.rd_wr_key k1]

/-- What `move` may change beside the registers. -/
theorem Board.move_same (b : Board) (page st co : Nat) : (b.move page st co).withStates b = b := by
  unfold Board.move Board.count Board.put Board.tally
  split
  · rfl
  · dsimp only
    repeat' split
    all_goals rfl

/-- R24: the unit of a page keeps its state, and its CAUSE_OPEN follows its causes. -/
theorem Board.followCauses_frame (b : Board) (page : Nat) : b.StateFrame (b.followCauses page) := by
  refine ⟨fun p o ho he => ?_, fun p => ?_, Board.move_same _ _ _ _⟩
  · unfold Board.followCauses Board.toState
    refine Board.rd_move ho ?_ ?_
    · rintro ⟨-, e⟩
      simp [stateReg, e] at he
    · rintro ⟨e1, e2⟩
      simp [stateReg, e1, e2] at he
  · unfold Board.followCauses Board.toState
    by_cases hp : p = page
    · subst hp
      exact (Board.move_reads b p (b.unit p) _ (Board.get_lt b p F.UNIT_STATE.STATE) (by split <;> omega)).1
    · unfold Board.unit Board.get
      rw [Board.rd_move (by decide) (by simp [hp]) (by simp)]

/-- After it, CAUSE_OPEN of the page shows its causes. -/
theorem Board.followCauses_shows (b : Board) (page : Nat) :
    (b.followCauses page).get page F.UNIT_STATE.CAUSE_OPEN = if b.openCauses page = 0 then 0 else 1 := by
  unfold Board.followCauses Board.toState
  exact (Board.move_reads b page (b.unit page) _ (Board.get_lt b page F.UNIT_STATE.STATE) (by split <;> omega)).2

/-- CAUSE_OPEN of another page stays. -/
theorem Board.followCauses_other (b : Board) {page p : Nat} (h : p ≠ page) :
    (b.followCauses page).get p F.UNIT_STATE.CAUSE_OPEN = b.get p F.UNIT_STATE.CAUSE_OPEN := by
  unfold Board.followCauses Board.toState Board.get
  rw [Board.rd_move (by decide) (by simp [h]) (by simp)]

theorem Board.foldl_followCauses_frame (l : List Nat) : ∀ b : Board, b.StateFrame (l.foldl Board.followCauses b) := by
  induction l with
  | nil => exact Board.StateFrame.refl
  | cons p l ih => exact fun b => (b.followCauses_frame p).trans (ih _)

/-- What the end of every step leaves alone: every register but UNIT_STATE and MGT_IBI_DROP, every unit's state, and all but the notices. -/
theorem Board.closing_frame (b : Board) : b.StateFrame b.closing := Board.foldl_followCauses_frame _ b

end Sys2Proof.Machine
end

