-- ==== Sys2Proof/Laws/Events.lean ====
section
/-! SUPPORT. Everything that an event of a page can do: which registers it may write, that it clears no status bit, and that the rest of the board stays. -/

namespace Sys2Proof.Machine

theorem Board.EventFrame.refl (b : Board) : b.EventFrame b := ⟨fun _ _ _ _ => rfl, fun _ _ h => h, rfl⟩

theorem Board.EventFrame.trans {b c d : Board} (h : b.EventFrame c) (k : c.EventFrame d) : b.EventFrame d := by
  refine ⟨fun p o ho he => (k.regs p o ho he).trans (h.regs p o ho he), fun p i hi => k.status p i (h.status p i hi), ?_⟩
  have hd : d.withEvents b = (d.withEvents c).withEvents b := rfl
  rw [hd, k.same, h.same]

/-- A change of what events may change beside the registers. -/
theorem Board.EventFrame.of_same {b c d : Board} (h : b.EventFrame c) (h1 : d.regs = c.regs) (h2 : d.withEvents c = c) : b.EventFrame d :=
  h.trans ⟨fun _ _ _ _ => by simp only [Board.rd, h1], fun p i hi => by simpa only [Board.rd, h1] using hi, h2⟩

theorem Board.EventFrame.hold {b c : Board} (h : b.EventFrame c) (l : List Nat) : b.EventFrame { c with held := l } := h.of_same rfl rfl

/-- A write of a register that events write, of a word that keeps the status bits. -/
theorem Board.EventFrame.wr {b c : Board} (h : b.EventFrame c) {p o : Nat} (ho : o < 4096) (he : eventReg p o = true) {w : Word}
    (hw : o / 4 = 4 → ∀ i, (c.rd p 0x010).toNat.testBit i = true → w.toNat.testBit i = true) : b.EventFrame (c.wr p o w) := by
  refine h.trans ⟨fun q off hoff hq => ?_, fun q i hi => ?_, rfl⟩
  · apply Board.rd_wr_key
    intro e
    obtain ⟨rfl, e2⟩ := (regKey_eq_iff ho hoff).1 e
    simp only [eventReg] at he hq
    rw [e2] at hq
    rw [hq] at he
    cases he
  · by_cases e : regKey q 0x010 = regKey p o
    · rw [Board.rd_wr, if_pos e]
      obtain ⟨rfl, e2⟩ := (regKey_eq_iff ho (by omega)).1 e
      exact hw (by omega) i hi
    · rw [Board.rd_wr_key e]
      exact hi

theorem Board.EventFrame.put {b c : Board} (h : b.EventFrame c) {p : Nat} {f : Fld} {v : Nat} (ho : f.off < 4096) (he : eventReg p f.off = true)
    (hw : f.off / 4 ≠ 4) : b.EventFrame (c.put p f v) :=
  h.wr ho he (fun e => absurd e hw)

theorem Board.EventFrame.tally {b c : Board} (h : b.EventFrame c) (p k n : Nat) : b.EventFrame (c.tally p k n) := by
  refine h.trans ⟨fun q off _ _ => Board.rd_tally _ _ _ _ _ _, fun q i hi => by rw [Board.rd_tally]; exact hi, ?_⟩
  unfold Board.tally
  split <;> rfl

theorem Board.EventFrame.count {b c : Board} (h : b.EventFrame c) {p : Nat} {f : Fld} {n : Nat} (ho : f.off < 4096) (he : eventReg p f.off = true)
    (hw : f.off / 4 ≠ 4) : b.EventFrame (c.count p f n) := (h.put ho he hw).tally _ _ _

theorem testBit_foldl_wordSet (evs : List Ev) : ∀ (w : Word) (i : Nat), w.toNat.testBit i = true →
    (evs.foldl (fun w x => wordSet w x.bit 1 1) w).toNat.testBit i = true := by
  induction evs with
  | nil => exact fun _ _ h => h
  | cons e evs ih =>
    intro w i h
    refine ih _ i ?_
    have hi : i < 32 := by
      by_contra hc
      rw [Nat.testBit_lt_two_pow (lt_of_lt_of_le w.isLt (Nat.pow_le_pow_right (by omega) (by omega)))] at h
      cases h
    rw [testBit_wordSet _ _ _ _ _ hi]
    split
    · have : i - e.bit = 0 := by omega
      simp [this]
    · exact h

/-- R18: what a capture does. -/
theorem Board.EventFrame.capture {b c : Board} (h : b.EventFrame c) (p : Nat) (evs : List Ev) : b.EventFrame (c.capture p evs) := by
  have he : ∀ o, o / 4 = 4 ∨ o / 4 = 8 ∨ o / 4 = 9 ∨ o / 4 = 10 ∨ o / 4 = 11 → eventReg p o = true := by
    intro o ho
    simp only [eventReg]
    rcases ho with ho | ho | ho | ho | ho <;> simp [ho]
  unfold Board.capture
  split
  · exact h
  · rename_i e rest
    have h1 : b.EventFrame ((c.wr p 0x010 ((e :: rest).foldl (fun w x => wordSet w x.bit 1 1) (c.rd p 0x010))).tally p 2
        ((e :: rest).filter (fun x => !x.forced)).length) :=
      (h.wr (by omega) (he _ (by omega)) (fun _ i hi => testBit_foldl_wordSet _ _ _ hi)).tally _ _ _
    dsimp only
    split
    · exact h1.put (by decide) (he _ (by decide)) (by decide)
    · exact ((((h1.wr (o := 0x020) (by omega) (he _ (by omega)) (fun e => absurd e (by omega))).wr (o := 0x024) (by omega) (he _ (by omega))
        (fun e => absurd e (by omega))).wr (o := 0x028) (by omega) (he _ (by omega)) (fun e => absurd e (by omega))).wr (o := 0x02C) (by omega)
        (he _ (by omega)) (fun e => absurd e (by omega))).hold _

/-- Work of an event whose head, if it names one, exists. -/
def Act.ok : Act → Prop
  | .msix h _ _ => h < 8
  | _ => True

theorem Act.ok_ite {p : Prop} [Decidable p] {l r : List Act} (hl : ∀ x ∈ l, x.ok) (hr : ∀ x ∈ r, x.ok) : ∀ x ∈ (if p then l else r), x.ok := by
  split
  · exact hl
  · exact hr

theorem Act.ok_one {a : Act} (h : a.ok) : ∀ x ∈ [a], x.ok := by simpa using h

theorem Act.ok_nil : ∀ x ∈ ([] : List Act), x.ok := by simp

theorem Board.act_frame (b : Board) (a : Act) (ha : a.ok) : b.EventFrame (b.act a).1 ∧ ∀ x ∈ (b.act a).2, x.ok := by
  cases a with
  | events page evs =>
    simp only [Board.act]
    refine ⟨(Board.EventFrame.refl b).capture _ _, fun x hx => ?_⟩
    split at hx
    · simp only [List.mem_singleton] at hx
      subst hx
      trivial
    · simp at hx
  | notice page evBit =>
    simp only [Board.act]
    split
    · refine ⟨.refl b, fun x hx => ?_⟩
      simp only [List.mem_singleton] at hx
      subst hx
      exact Board.get_lt b page F.EVT_ROUTE.HEAD
    · refine ⟨.refl b, fun x hx => ?_⟩
      simp only [List.mem_singleton] at hx
      subst hx
      trivial
    · refine ⟨.refl b, fun x hx => ?_⟩
      simp only [List.mem_singleton] at hx
      subst hx
      trivial
    · exact ⟨.refl b, fun x hx => by simp at hx⟩
  | msix head vector source =>
    simp only [Board.act]
    have hh : head < 8 := ha
    split
    · refine ⟨(Board.EventFrame.refl b).count (by decide) ?_ (by decide), fun x hx => ?_⟩
      · have : 16 ≤ pHPT head ∧ pHPT head ≤ 23 := by simp only [pHPT]; omega
        simp only [eventReg]
        simp [this]
      · simp only [List.mem_singleton] at hx
        subst hx
        trivial
    · split
      · exact ⟨(Board.EventFrame.refl b).of_same rfl rfl, fun x hx => by simp at hx⟩
      · exact ⟨(Board.EventFrame.refl b).of_same rfl rfl, fun x hx => by simp at hx⟩
  | pageEvent page evBit code =>
    simp only [Board.act]
    split
    · exact ⟨(Board.EventFrame.refl b).of_same rfl rfl, fun x hx => by simp at hx⟩
    · exact ⟨((Board.EventFrame.refl b).count (p := pMGT) (f := F.MGT_IBI_DROP.COUNT) (n := 1) (by decide) (by decide) (by decide)).of_same rfl rfl,
        fun x hx => by simp at hx⟩
  | packet qn kind payload =>
    simp only [Board.act]
    split
    · refine ⟨?_, fun x hx => ?_⟩
      · have h0 : ∀ v, b.EventFrame (b.setQueue qn v) := fun v => (Board.EventFrame.refl b).of_same rfl rfl
        dsimp only
        split
        · exact h0 _
        · exact (h0 _).count (p := pEVQ) (f := F.EVQ_TRUNC.COUNT) (n := 1) (by decide) (by decide) (by decide)
      · simp only [List.mem_cons, List.mem_append] at hx
        rcases hx with rfl | hx | hx
        · trivial
        · exact Act.ok_ite Act.ok_nil (Act.ok_one (a := .events _ _) trivial) x hx
        · exact Act.ok_ite (Act.ok_one (a := .events _ _) trivial) Act.ok_nil x hx
    · have h0 : ∀ v, b.EventFrame (b.setQueue qn v) := fun v => (Board.EventFrame.refl b).of_same rfl rfl
      refine ⟨(h0 _).count (p := pEVQ) (f := F.EVQ_DROPPED.COUNT) (n := 1) (by decide) (by decide) (by decide), fun x hx => ?_⟩
      simp only [List.mem_singleton] at hx
      subst hx
      trivial
  | announce qn =>
    simp only [Board.act]
    refine ⟨(Board.EventFrame.refl b).of_same rfl rfl, fun x hx => ?_⟩
    split at hx
    · have := List.eq_of_mem_replicate hx
      subst this
      split
      · exact wordBits_lt _ _ _
      · trivial
    · simp at hx

/-- What any amount of event work may do. -/
theorem Board.run_frame (n : Nat) : ∀ (acts : List Act) (b : Board), (∀ x ∈ acts, x.ok) → b.EventFrame (Board.run n acts b) := by
  induction n with
  | zero =>
    intro acts b _
    cases acts <;> exact .refl b
  | succ n ih =>
    intro acts b h
    cases acts with
    | nil => exact .refl b
    | cons a rest =>
      obtain ⟨h1, h2⟩ := b.act_frame a (h a (by simp))
      simp only [Board.run]
      refine h1.trans (ih _ _ fun x hx => ?_)
      simp only [List.mem_append] at hx
      rcases hx with hx | hx
      · exact h2 x hx
      · exact h x (by simp [hx])

/-- Events of a page change what `EventFrame` says, and nothing else. -/
theorem Board.raises_frame (b : Board) (p : Nat) (evs : List Ev) : b.EventFrame (b.raises p evs) :=
  Board.run_frame _ _ _ (by simp [Act.ok])

theorem Board.raise_frame (b : Board) (p : Nat) (e : Ev) : b.EventFrame (b.raise p e) := b.raises_frame p [e]

theorem Board.offer_frame (b : Board) (q k : Nat) (bytes : List Byte) : b.EventFrame (b.offer q k bytes) :=
  Board.run_frame _ _ _ (by simp [Act.ok])

theorem Board.rd_held (b : Board) (l : List Nat) (p o : Nat) : ({ b with held := l } : Board).rd p o = b.rd p o := rfl

/-- The events of one cycle set their status bits (R18), and no notice clears one. -/
theorem Board.raises_status (b : Board) (p : Nat) (evs : List Ev) (e : Ev) (he : e ∈ evs) (h : e.bit < 32) :
    ((b.raises p evs).rd p 0x010).toNat.testBit e.bit = true := by
  have hcap : ((b.capture p evs).rd p 0x010).toNat.testBit e.bit = true := by
    have hfold : (evs.foldl (fun w x => wordSet w x.bit 1 1) (b.rd p 0x010)).toNat.testBit e.bit = true := by
      generalize b.rd p 0x010 = w
      induction evs generalizing w with
      | nil => cases he
      | cons a evs ih =>
        rw [List.foldl_cons]
        rcases List.mem_cons.1 he with rfl | he
        · refine testBit_foldl_wordSet _ _ _ ?_
          rw [testBit_wordSet _ _ _ _ _ h, if_pos (by omega)]
          simp
        · exact ih he _
    unfold Board.capture
    split
    · cases he
    · rename_i a rest
      have h0 : (((b.wr p 0x010 ((a :: rest).foldl (fun w x => wordSet w x.bit 1 1) (b.rd p 0x010))).tally p 2
          ((a :: rest).filter (fun x => !x.forced)).length).rd p 0x010).toNat.testBit e.bit = true := by
        rw [Board.rd_tally, Board.rd_wr_self]
        exact hfold
      dsimp only
      split
      · rw [Board.rd_put_key]
        · exact h0
        · show p * 1024 + 16 / 4 ≠ p * 1024 + 32 / 4
          omega
      · have hk : ∀ o, o / 4 ≠ 4 → o < 4096 → regKey p 0x010 ≠ regKey p o := by
          intro o h1 h2 e
          have := ((regKey_eq_iff h2 (by omega)).1 e).2
          omega
        rw [Board.rd_held]
        rw [Board.rd_wr_key (hk _ (by omega) (by omega)), Board.rd_wr_key (hk _ (by omega) (by omega)),
          Board.rd_wr_key (hk _ (by omega) (by omega)), Board.rd_wr_key (hk _ (by omega) (by omega))]
        exact h0
  show ((Board.run 256 [.events p evs] b).rd p 0x010).toNat.testBit e.bit = true
  simp only [Board.run, Board.act]
  refine (Board.run_frame 255 _ _ ?_).status p e.bit hcap
  intro x hx
  simp only [List.append_nil] at hx
  split at hx
  · simp only [List.mem_singleton] at hx
    subst hx
    trivial
  · simp at hx

theorem Board.raise_status (b : Board) (p : Nat) (e : Ev) (h : e.bit < 32) : ((b.raise p e).rd p 0x010).toNat.testBit e.bit = true :=
  b.raises_status p [e] e (by simp) h

end Sys2Proof.Machine
end

