-- ==== Sys2Proof/Laws/State.lean ====
section
/-! SUPPORT. What each update of the state leaves alone, one lemma per field, all by definition. -/

namespace Sys2Proof.Machine

/-! ### A change of the board -/

@[simp] theorem State.on_pending (s : State) (f : Board → Board) : (s.on f).pending = s.pending := rfl
@[simp] theorem State.on_bd (s : State) (f : Board → Board) : (s.on f).bd = f s.bd := rfl
@[simp] theorem State.on_xtn (s : State) (f : Board → Board) : (s.on f).xtn = s.xtn := rfl
@[simp] theorem State.on_heads (s : State) (f : Board → Board) : (s.on f).heads = s.heads := rfl
@[simp] theorem State.on_home (s : State) (f : Board → Board) : (s.on f).home = s.home := rfl
@[simp] theorem State.on_cache (s : State) (f : Board → Board) : (s.on f).cache = s.cache := rfl
@[simp] theorem State.on_mapx (s : State) (f : Board → Board) : (s.on f).mapx = s.mapx := rfl
@[simp] theorem State.on_media (s : State) (f : Board → Board) : (s.on f).media = s.media := rfl
@[simp] theorem State.on_wp (s : State) (f : Board → Board) : (s.on f).wp = s.wp := rfl
@[simp] theorem State.on_keys (s : State) (f : Board → Board) : (s.on f).keys = s.keys := rfl
@[simp] theorem State.on_age (s : State) (f : Board → Board) : (s.on f).age = s.age := rfl
@[simp] theorem State.on_thm (s : State) (f : Board → Board) : (s.on f).thm = s.thm := rfl
@[simp] theorem State.on_rtm (s : State) (f : Board → Board) : (s.on f).rtm = s.rtm := rfl
@[simp] theorem State.on_slot (s : State) (f : Board → Board) : (s.on f).slot = s.slot := rfl
@[simp] theorem State.on_pst (s : State) (f : Board → Board) : (s.on f).pst = s.pst := rfl
@[simp] theorem State.on_traffic (s : State) (f : Board → Board) : (s.on f).traffic = s.traffic := rfl
@[simp] theorem State.on_shelf (s : State) (f : Board → Board) : (s.on f).shelf = s.shelf := rfl
@[simp] theorem State.on_seq (s : State) (f : Board → Board) : (s.on f).seq = s.seq := rfl
@[simp] theorem State.on_sec (s : State) (f : Board → Board) : (s.on f).sec = s.sec := rfl
@[simp] theorem State.on_mgmt (s : State) (f : Board → Board) : (s.on f).mgmt = s.mgmt := rfl
@[simp] theorem State.on_copy (s : State) (f : Board → Board) : (s.on f).copy = s.copy := rfl

/-! ### The clock moved on -/

@[simp] theorem State.upTo_pending (s : State) (t : Nat) : (s.upTo t).pending = s.pending := rfl
@[simp] theorem State.upTo_bd (s : State) (t : Nat) : (s.upTo t).bd = { s.bd with now := max s.bd.now t } := rfl
@[simp] theorem State.upTo_xtn (s : State) (t : Nat) : (s.upTo t).xtn = s.xtn := rfl
@[simp] theorem State.upTo_heads (s : State) (t : Nat) : (s.upTo t).heads = s.heads := rfl
@[simp] theorem State.upTo_home (s : State) (t : Nat) : (s.upTo t).home = s.home := rfl
@[simp] theorem State.upTo_cache (s : State) (t : Nat) : (s.upTo t).cache = s.cache := rfl
@[simp] theorem State.upTo_mapx (s : State) (t : Nat) : (s.upTo t).mapx = s.mapx := rfl
@[simp] theorem State.upTo_media (s : State) (t : Nat) : (s.upTo t).media = s.media := rfl
@[simp] theorem State.upTo_wp (s : State) (t : Nat) : (s.upTo t).wp = s.wp := rfl
@[simp] theorem State.upTo_keys (s : State) (t : Nat) : (s.upTo t).keys = s.keys := rfl
@[simp] theorem State.upTo_age (s : State) (t : Nat) : (s.upTo t).age = s.age := rfl
@[simp] theorem State.upTo_thm (s : State) (t : Nat) : (s.upTo t).thm = s.thm := rfl
@[simp] theorem State.upTo_rtm (s : State) (t : Nat) : (s.upTo t).rtm = s.rtm := rfl
@[simp] theorem State.upTo_slot (s : State) (t : Nat) : (s.upTo t).slot = s.slot := rfl
@[simp] theorem State.upTo_pst (s : State) (t : Nat) : (s.upTo t).pst = s.pst := rfl
@[simp] theorem State.upTo_traffic (s : State) (t : Nat) : (s.upTo t).traffic = s.traffic := rfl
@[simp] theorem State.upTo_shelf (s : State) (t : Nat) : (s.upTo t).shelf = s.shelf := rfl
@[simp] theorem State.upTo_seq (s : State) (t : Nat) : (s.upTo t).seq = s.seq := rfl
@[simp] theorem State.upTo_sec (s : State) (t : Nat) : (s.upTo t).sec = s.sec := rfl
@[simp] theorem State.upTo_mgmt (s : State) (t : Nat) : (s.upTo t).mgmt = s.mgmt := rfl
@[simp] theorem State.upTo_copy (s : State) (t : Nat) : (s.upTo t).copy = s.copy := rfl

/-! ### An output -/

@[simp] theorem State.say_pending (s : State) (o : Output) : (s.say o).pending = s.pending := rfl
@[simp] theorem State.say_bd (s : State) (o : Output) : (s.say o).bd = s.bd.emit o := rfl
@[simp] theorem State.say_xtn (s : State) (o : Output) : (s.say o).xtn = s.xtn := rfl
@[simp] theorem State.say_heads (s : State) (o : Output) : (s.say o).heads = s.heads := rfl
@[simp] theorem State.say_home (s : State) (o : Output) : (s.say o).home = s.home := rfl
@[simp] theorem State.say_cache (s : State) (o : Output) : (s.say o).cache = s.cache := rfl
@[simp] theorem State.say_mapx (s : State) (o : Output) : (s.say o).mapx = s.mapx := rfl
@[simp] theorem State.say_media (s : State) (o : Output) : (s.say o).media = s.media := rfl
@[simp] theorem State.say_wp (s : State) (o : Output) : (s.say o).wp = s.wp := rfl
@[simp] theorem State.say_keys (s : State) (o : Output) : (s.say o).keys = s.keys := rfl
@[simp] theorem State.say_age (s : State) (o : Output) : (s.say o).age = s.age := rfl
@[simp] theorem State.say_thm (s : State) (o : Output) : (s.say o).thm = s.thm := rfl
@[simp] theorem State.say_rtm (s : State) (o : Output) : (s.say o).rtm = s.rtm := rfl
@[simp] theorem State.say_slot (s : State) (o : Output) : (s.say o).slot = s.slot := rfl
@[simp] theorem State.say_pst (s : State) (o : Output) : (s.say o).pst = s.pst := rfl
@[simp] theorem State.say_traffic (s : State) (o : Output) : (s.say o).traffic = s.traffic := rfl
@[simp] theorem State.say_shelf (s : State) (o : Output) : (s.say o).shelf = s.shelf := rfl
@[simp] theorem State.say_seq (s : State) (o : Output) : (s.say o).seq = s.seq := rfl
@[simp] theorem State.say_sec (s : State) (o : Output) : (s.say o).sec = s.sec := rfl
@[simp] theorem State.say_mgmt (s : State) (o : Output) : (s.say o).mgmt = s.mgmt := rfl
@[simp] theorem State.say_copy (s : State) (o : Output) : (s.say o).copy = s.copy := rfl

/-! ### A rejected write -/

@[simp] theorem State.rejects_pending (s : State) (p : Path) (page off : Nat) (c : Code) : (s.rejects p page off c).pending = s.pending := rfl
@[simp] theorem State.rejects_bd (s : State) (p : Path) (page off : Nat) (c : Code) : (s.rejects p page off c).bd = s.bd.reject page p off c := rfl
@[simp] theorem State.rejects_xtn (s : State) (p : Path) (page off : Nat) (c : Code) : (s.rejects p page off c).xtn = s.xtn := rfl
@[simp] theorem State.rejects_heads (s : State) (p : Path) (page off : Nat) (c : Code) : (s.rejects p page off c).heads = s.heads := rfl
@[simp] theorem State.rejects_home (s : State) (p : Path) (page off : Nat) (c : Code) : (s.rejects p page off c).home = s.home := rfl
@[simp] theorem State.rejects_cache (s : State) (p : Path) (page off : Nat) (c : Code) : (s.rejects p page off c).cache = s.cache := rfl
@[simp] theorem State.rejects_mapx (s : State) (p : Path) (page off : Nat) (c : Code) : (s.rejects p page off c).mapx = s.mapx := rfl
@[simp] theorem State.rejects_media (s : State) (p : Path) (page off : Nat) (c : Code) : (s.rejects p page off c).media = s.media := rfl
@[simp] theorem State.rejects_wp (s : State) (p : Path) (page off : Nat) (c : Code) : (s.rejects p page off c).wp = s.wp := rfl
@[simp] theorem State.rejects_keys (s : State) (p : Path) (page off : Nat) (c : Code) : (s.rejects p page off c).keys = s.keys := rfl
@[simp] theorem State.rejects_age (s : State) (p : Path) (page off : Nat) (c : Code) : (s.rejects p page off c).age = s.age := rfl
@[simp] theorem State.rejects_thm (s : State) (p : Path) (page off : Nat) (c : Code) : (s.rejects p page off c).thm = s.thm := rfl
@[simp] theorem State.rejects_rtm (s : State) (p : Path) (page off : Nat) (c : Code) : (s.rejects p page off c).rtm = s.rtm := rfl
@[simp] theorem State.rejects_slot (s : State) (p : Path) (page off : Nat) (c : Code) : (s.rejects p page off c).slot = s.slot := rfl
@[simp] theorem State.rejects_pst (s : State) (p : Path) (page off : Nat) (c : Code) : (s.rejects p page off c).pst = s.pst := rfl
@[simp] theorem State.rejects_traffic (s : State) (p : Path) (page off : Nat) (c : Code) : (s.rejects p page off c).traffic = s.traffic := rfl
@[simp] theorem State.rejects_shelf (s : State) (p : Path) (page off : Nat) (c : Code) : (s.rejects p page off c).shelf = s.shelf := rfl
@[simp] theorem State.rejects_seq (s : State) (p : Path) (page off : Nat) (c : Code) : (s.rejects p page off c).seq = s.seq := rfl
@[simp] theorem State.rejects_sec (s : State) (p : Path) (page off : Nat) (c : Code) : (s.rejects p page off c).sec = s.sec := rfl
@[simp] theorem State.rejects_mgmt (s : State) (p : Path) (page off : Nat) (c : Code) : (s.rejects p page off c).mgmt = s.mgmt := rfl
@[simp] theorem State.rejects_copy (s : State) (p : Path) (page off : Nat) (c : Code) : (s.rejects p page off c).copy = s.copy := rfl

/-! ### A change of a head -/

@[simp] theorem State.onHead_pending (s : State) (h : Nat) (f : Head → Head) : (s.onHead h f).pending = s.pending := rfl
@[simp] theorem State.onHead_bd (s : State) (h : Nat) (f : Head → Head) : (s.onHead h f).bd = s.bd := rfl
@[simp] theorem State.onHead_xtn (s : State) (h : Nat) (f : Head → Head) : (s.onHead h f).xtn = s.xtn := rfl
@[simp] theorem State.onHead_heads (s : State) (h : Nat) (f : Head → Head) : (s.onHead h f).heads = s.heads.modify h f := rfl
@[simp] theorem State.onHead_home (s : State) (h : Nat) (f : Head → Head) : (s.onHead h f).home = s.home := rfl
@[simp] theorem State.onHead_cache (s : State) (h : Nat) (f : Head → Head) : (s.onHead h f).cache = s.cache := rfl
@[simp] theorem State.onHead_mapx (s : State) (h : Nat) (f : Head → Head) : (s.onHead h f).mapx = s.mapx := rfl
@[simp] theorem State.onHead_media (s : State) (h : Nat) (f : Head → Head) : (s.onHead h f).media = s.media := rfl
@[simp] theorem State.onHead_wp (s : State) (h : Nat) (f : Head → Head) : (s.onHead h f).wp = s.wp := rfl
@[simp] theorem State.onHead_keys (s : State) (h : Nat) (f : Head → Head) : (s.onHead h f).keys = s.keys := rfl
@[simp] theorem State.onHead_age (s : State) (h : Nat) (f : Head → Head) : (s.onHead h f).age = s.age := rfl
@[simp] theorem State.onHead_thm (s : State) (h : Nat) (f : Head → Head) : (s.onHead h f).thm = s.thm := rfl
@[simp] theorem State.onHead_rtm (s : State) (h : Nat) (f : Head → Head) : (s.onHead h f).rtm = s.rtm := rfl
@[simp] theorem State.onHead_slot (s : State) (h : Nat) (f : Head → Head) : (s.onHead h f).slot = s.slot := rfl
@[simp] theorem State.onHead_pst (s : State) (h : Nat) (f : Head → Head) : (s.onHead h f).pst = s.pst := rfl
@[simp] theorem State.onHead_traffic (s : State) (h : Nat) (f : Head → Head) : (s.onHead h f).traffic = s.traffic := rfl
@[simp] theorem State.onHead_shelf (s : State) (h : Nat) (f : Head → Head) : (s.onHead h f).shelf = s.shelf := rfl
@[simp] theorem State.onHead_seq (s : State) (h : Nat) (f : Head → Head) : (s.onHead h f).seq = s.seq := rfl
@[simp] theorem State.onHead_sec (s : State) (h : Nat) (f : Head → Head) : (s.onHead h f).sec = s.sec := rfl
@[simp] theorem State.onHead_mgmt (s : State) (h : Nat) (f : Head → Head) : (s.onHead h f).mgmt = s.mgmt := rfl
@[simp] theorem State.onHead_copy (s : State) (h : Nat) (f : Head → Head) : (s.onHead h f).copy = s.copy := rfl

/-! ### A change of a link -/

@[simp] theorem State.onLink_pending (s : State) (k : Nat) (f : Link → Link) : (s.onLink k f).pending = s.pending := rfl
@[simp] theorem State.onLink_bd (s : State) (k : Nat) (f : Link → Link) : (s.onLink k f).bd = s.bd := rfl
@[simp] theorem State.onLink_xtn (s : State) (k : Nat) (f : Link → Link) : (s.onLink k f).xtn = s.xtn := rfl
@[simp] theorem State.onLink_heads (s : State) (k : Nat) (f : Link → Link) : (s.onLink k f).heads = s.heads := rfl
@[simp] theorem State.onLink_home (s : State) (k : Nat) (f : Link → Link) : (s.onLink k f).home = s.home := rfl
@[simp] theorem State.onLink_cache (s : State) (k : Nat) (f : Link → Link) : (s.onLink k f).cache = s.cache := rfl
@[simp] theorem State.onLink_mapx (s : State) (k : Nat) (f : Link → Link) : (s.onLink k f).mapx = s.mapx := rfl
@[simp] theorem State.onLink_media (s : State) (k : Nat) (f : Link → Link) : (s.onLink k f).media = s.media := rfl
@[simp] theorem State.onLink_wp (s : State) (k : Nat) (f : Link → Link) : (s.onLink k f).wp = s.wp := rfl
@[simp] theorem State.onLink_keys (s : State) (k : Nat) (f : Link → Link) : (s.onLink k f).keys = s.keys := rfl
@[simp] theorem State.onLink_age (s : State) (k : Nat) (f : Link → Link) : (s.onLink k f).age = s.age := rfl
@[simp] theorem State.onLink_thm (s : State) (k : Nat) (f : Link → Link) : (s.onLink k f).thm = s.thm := rfl
@[simp] theorem State.onLink_rtm (s : State) (k : Nat) (f : Link → Link) : (s.onLink k f).rtm = s.rtm := rfl
@[simp] theorem State.onLink_slot (s : State) (k : Nat) (f : Link → Link) : (s.onLink k f).slot = s.slot := rfl
@[simp] theorem State.onLink_pst (s : State) (k : Nat) (f : Link → Link) : (s.onLink k f).pst = s.pst := rfl
@[simp] theorem State.onLink_traffic (s : State) (k : Nat) (f : Link → Link) : (s.onLink k f).traffic = s.traffic := rfl
@[simp] theorem State.onLink_shelf (s : State) (k : Nat) (f : Link → Link) : (s.onLink k f).shelf = { s.shelf with links := s.shelf.links.modify k f } := rfl
@[simp] theorem State.onLink_seq (s : State) (k : Nat) (f : Link → Link) : (s.onLink k f).seq = s.seq := rfl
@[simp] theorem State.onLink_sec (s : State) (k : Nat) (f : Link → Link) : (s.onLink k f).sec = s.sec := rfl
@[simp] theorem State.onLink_mgmt (s : State) (k : Nat) (f : Link → Link) : (s.onLink k f).mgmt = s.mgmt := rfl
@[simp] theorem State.onLink_copy (s : State) (k : Nat) (f : Link → Link) : (s.onLink k f).copy = s.copy := rfl

/-! ### How meanings end -/

theorem State.run_eq (s : State) (f : State → State) : s.run f = .next { (f s).settle with pending := s.pending } := rfl

theorem State.quick_eq (s : State) (f : State → State) : s.quick f = .next { (f s).closing with pending := s.pending } := rfl

@[simp] theorem State.closing_bd (s : State) : s.closing.bd = s.bd.closing := rfl

/-! ### Writes that nothing discards (R13, R489 to R491) -/

theorem State.written_pass {s : State} {p : Path} {page off : Nat} {hostNo mgmtNo : Bool} {f : State → State}
    (h : s.bd.gate p page off hostNo mgmtNo = none) : s.written p page off hostNo mgmtNo f = f s := by
  simp [State.written, h]

theorem State.written_stop {s : State} {p : Path} {page off : Nat} {hostNo mgmtNo : Bool} {f : State → State} {b : Board}
    (h : s.bd.gate p page off hostNo mgmtNo = some b) : s.written p page off hostNo mgmtNo f = { s with bd := b } := by
  simp [State.written, h]

end Sys2Proof.Machine
end

