-- ==== Sys2Proof/Laws/Access.lean ====
section
/-! SUPPORT. Accesses of the control space: what a write of one register comes down to once it reaches it. -/

namespace Sys2Proof.Machine

/-- A write of four bytes of an implemented, powered page is a write of one word. -/
theorem State.writeAccess_word {s : State} {p : Path} {auth : Bool} {page off v : Nat} (hi : implemented page = true) (hw : s.bd.powered page = true)
    (ho : off < 4096) (h4 : off % 4 = 0) : s.writeAccess p auth (page * 4096 + off) 4 v = s.writeWord p auth page off (BitVec.ofNat 32 v) := by
  have e1 : (page * 4096 + off) / 4096 = page := by omega
  have e2 : (page * 4096 + off) % 4096 = off := by omega
  unfold State.writeAccess
  simp [e1, e2, hi, hw, sized, h4]

/-- What a word write does once it reaches its register. -/
theorem State.writeWord_reaches {s : State} {p : Path} {auth : Bool} {page off : Nat} {w : Word} (h : s.bd.Reaches p page off w) :
    s.writeWord p auth page off w =
      if off = 0x00C then s.on (fun b => b.unitCmd page (wordBits w 0 4) (wordBits w 16 16))
      else if (rowsAt page off).isEmpty then s
      else
        match s.bd.writeCode page off w with
        | some c => s.rejects p page off c
        | none => s.writeEffect p auth page off w := by
  obtain ⟨-, -, hg⟩ := h
  unfold State.writeWord
  cases p with
  | host x =>
    dsimp only at hg ⊢
    generalize Board.restricted page off (some x) w = r at hg ⊢
    obtain ⟨a, b⟩ := r
    exact State.written_pass hg
  | mgmt =>
    dsimp only at hg ⊢
    generalize Board.restricted page off none w = r at hg ⊢
    obtain ⟨a, b⟩ := r
    exact State.written_pass hg

/-- A write that reaches its register and breaks no rule has its effect (R7 to R13). -/
theorem State.writeAccess_takes {s : State} {p : Path} {auth : Bool} {page off v : Nat} (hp : s.bd.Takes p page off (BitVec.ofNat 32 v)) (ho : off < 4096)
    (h4 : off % 4 = 0) (hc : off ≠ 0x00C) (hr : rowsAt page off ≠ []) :
    s.writeAccess p auth (page * 4096 + off) 4 v = s.writeEffect p auth page off (BitVec.ofNat 32 v) := by
  rw [State.writeAccess_word hp.1.1 hp.1.2.1 ho h4, State.writeWord_reaches hp.1]
  simp [hc, hr, hp.2]

/-- A write that reaches its register and breaks a rule changes PAGE_REJECT (R10). -/
theorem State.writeAccess_breaks {s : State} {p : Path} {auth : Bool} {page off v : Nat} {c : Code} (hp : s.bd.Reaches p page off (BitVec.ofNat 32 v))
    (ho : off < 4096) (h4 : off % 4 = 0) (hc : off ≠ 0x00C) (hr : rowsAt page off ≠ []) (hk : s.bd.writeCode page off (BitVec.ofNat 32 v) = some c) :
    s.writeAccess p auth (page * 4096 + off) 4 v = s.rejects p page off c := by
  rw [State.writeAccess_word hp.1 hp.2.1 ho h4, State.writeWord_reaches hp]
  simp [hc, hr, hk]

/-- The rows of a page at a header register are those of the header. -/
theorem rowsAt_header {page off : Nat} (hi : implemented page = true) (ho : off < 0x040) : rowsAt page off = rowsHeader.filter (rowAt · off) := by
  have hb : ∀ b : Block, ∀ r ∈ blockRows b ++ rowsCounters, 0x040 ≤ r.fld.off := by
    intro b
    cases b <;> decide
  unfold implemented at hi
  unfold rowsAt pageRows
  split
  · rename_i h
    simp [h] at hi
  · rename_i b x h
    rw [List.append_assoc, List.filter_append]
    have : (blockRows b ++ rowsCounters).filter (rowAt · off) = [] := by
      rw [List.filter_eq_nil_iff]
      intro r hr
      have := hb b r hr
      unfold rowAt
      have : ¬ (r.fld.off ≤ off) := by omega
      simp [this]
    rw [this, List.append_nil]

end Sys2Proof.Machine
end

