-- ==== Sys2Proof/WellFormed.lean ====
section
/-! DEFINITION. Which commands are well formed: what the operands satisfy beyond their types. The part takes any command; one that is not well formed names something that
no sender sends and no event brings about (a message longer than its carrier, a thermal round with a sensor too few). -/

namespace Sys2Proof

/-- The codeword numbers of the bit errors of a page rise strictly. -/
def risingErrors : List (Fin 65 × Fin 14) → Bool
  | [] => true
  | [_] => true
  | a :: b :: rest => decide (a.1 < b.1) && risingErrors (b :: rest)

/-- A message is no longer than the part reassembles (R393: 4,200 B, 8 of them the header). -/
def Abager.fits (m : Abager) : Bool := decide (m.body.length ≤ 4192)

/-- Is a command well formed? -/
def Instr.wellFormed : Instr → Bool
  | .registerWrite .. => true
  | .readClear .. => true
  | .unmappedAccess .. => true
  | .rtmTimeLoRead .. => true
  | .unitCmd .. => true
  | .unitStateChangeDone .. => true
  | .unitInitDone .. => true
  | .evtStatusClear .. => true
  | .evtForce .. => true
  | .evtEnableWrite .. => true
  | .pageLockSet .. => true
  | .lockAll .. => true
  | .containment .. => true
  | .internalClear .. => true
  | .coldReset .. => true
  | .strapSample .. => true
  | .resetN .. => true
  | .memrd .. => true
  | .memspecrd .. => true
  | .meminv .. => true
  | .memwr .. => true
  | .pwbSend .. => true
  | .homeRead .. => true
  | .homeWrite .. => true
  | .aliasWritebackDone .. => true
  | .keyDeriveDone => true
  | .mapLookupDone .. => true
  | .ptxLookupDone .. => true
  | .mediaReadData _ errors => risingErrors errors
  | .reconstructDone .. => true
  | .segRebuildDone .. => true
  | .fccFlipArm .. => true
  | .scrubRead .. => true
  | .scrubSlow .. => true
  | .hbmAccessTimeout .. => true
  | .hbmPhyLockLoss .. => true
  | .clean .. => true
  | .cleanInv .. => true
  | .cleanSw .. => true
  | .cleanInvSw .. => true
  | .invAll .. => true
  | .probe .. => true
  | .fcmAbort .. => true
  | .opDone => true
  | .cacheDisable .. => true
  | .cacheDisableDone => true
  | .cacheEnable .. => true
  | .vwnResize .. => true
  | .resizeDone => true
  | .remap .. => true
  | .remapDone => true
  | .mediaAttention .. => true
  | .suspendTimeout .. => true
  | .mchPorDone _ ids _ => decide (ids.length = 8)
  | .mediaCmdTimeout .. => true
  | .dieFailRecord .. => true
  | .rdyNStuck .. => true
  | .chanRetrain .. => true
  | .rebuildDone .. => true
  | .mchFlipArm .. => true
  | .mapAccPage .. => true
  | .ptxAccStart .. => true
  | .inspectDone .. => true
  | .denseHoldExpiry .. => true
  | .patchHoldExpiry => true
  | .foldSpacingExpiry => true
  | .slotStart .. => true
  | .stripeOverdue => true
  | .copyVerified .. => true
  | .replay => true
  | .replayDone .. => true
  | .thermalRound readings => decide (readings.length = 52)
  | .oldMarkTick => true
  | .ageSave => true
  | .patrolIssue => true
  | .patrolRatePeriod => true
  | .ptlCursorSave => true
  | .ageInsp .. => true
  | .wgvDaily => true
  | .healthSave => true
  | .healthMetaCopy => true
  | .fenceStart .. => true
  | .fenceComplete .. => true
  | .fenceDeadline .. => true
  | .fenceDurable .. => true
  | .gpfPhase2 .. => true
  | .hptLossPop .. => true
  | .reserveWord .. => true
  | .condWrite .. => true
  | .releaseWord .. => true
  | .rsvComplete .. => true
  | .rsvTimeout .. => true
  | .importKey .. => true
  | .clearKey .. => true
  | .inspectKey .. => true
  | .rkyStart .. => true
  | .sweepRatePeriod => true
  | .sweepCursorSave => true
  | .sweepLate .. => true
  | .eraseDone => true
  | .xtnRead .. => true
  | .xtnHxtWrite .. => true
  | .xtnXmbWrite .. => true
  | .xtnLxtWrite .. => true
  | .xtnAccDone => true
  | .releaseDone .. => true
  | .decoderCommit .. => true
  | .linkUp .. => true
  | .trainFail .. => true
  | .laneFault .. => true
  | .l0pNarrowDone .. => true
  | .linkDown .. => true
  | .ideFail .. => true
  | .ideRekey .. => true
  | .flr .. => true
  | .headReset .. => true
  | .headResetDone .. => true
  | .hptPortCfgWrite .. => true
  | .getEventRecords .. => true
  | .clearEventRecords _ _ _ _ handles => decide (handles.length ≤ 255)
  | .getEventInterruptPolicy .. => true
  | .setEventInterruptPolicy _ _ modes vectors => decide (modes.length = 5) && decide (vectors.length = 5)
  | .getFwInfo .. => true
  | .transferFw .. => true
  | .activateFw .. => true
  | .getTimestamp .. => true
  | .setTimestamp .. => true
  | .getSupportedLogs .. => true
  | .getLog .. => true
  | .identifyMemoryDevice .. => true
  | .getPartitionInfo .. => true
  | .getHealthInfo .. => true
  | .getAlertConfig .. => true
  | .setAlertConfig .. => true
  | .getShutdownState .. => true
  | .setShutdownState .. => true
  | .getPoisonList .. => true
  | .injectPoison .. => true
  | .clearPoison .. => true
  | .sanitize .. => true
  | .secureErase .. => true
  | .getDynamicCapacityConfig .. => true
  | .getDynamicCapacityExtentList .. => true
  | .addDynamicCapacityResponse .. => true
  | .releaseDynamicCapacity .. => true
  | .mailboxUnsupported .. => true
  | .shlTrainStart .. => true
  | .shlTrained .. => true
  | .shlPhaseTimeout .. => true
  | .hello .. => true
  | .flitRx .. => true
  | .shlIdleTimeout .. => true
  | .shlRecoverTimeout .. => true
  | .shlRecovered .. => true
  | .shlLaneFault .. => true
  | .linkKeyTick => true
  | .linkKeySelfDerive .. => true
  | .packetPassThrough .. => true
  | .mrd .. => true
  | .mwr .. => true
  | .mwrp .. => true
  | .mwrM .. => true
  | .mwrpM .. => true
  | .rsv .. => true
  | .mrsp .. => true
  | .ticket .. => true
  | .hold .. => true
  | .pull .. => true
  | .mwrData .. => true
  | .persisted .. => true
  | .rsvRsp .. => true
  | .order .. => true
  | .orderAck .. => true
  | .beacon .. => true
  | .beaconTick => true
  | .beaconTimeout => true
  | .downReport .. => true
  | .downReportWindow .. => true
  | .probeRsp .. => true
  | .probeTimeout .. => true
  | .member .. => true
  | .join _ _ _ _ _ _ bytes _ _ => decide (bytes.length ≤ 4080)
  | .joinTimeout .. => true
  | .lossRec words => decide (words.length = 4)
  | .tblWrite .. => true
  | .tblRsp .. => true
  | .mgrSync .. => true
  | .syncAck => true
  | .keyIssue .. => true
  | .rtime .. => true
  | .health _ words => decide (words.length = 7)
  | .healthTick => true
  | .healthStale .. => true
  | .keyBlob .. => true
  | .managerTakeover => true
  | .managerClaim => true
  | .leave .. => true
  | .handback .. => true
  | .resyncDone => true
  | .rtickEdge .. => true
  | .rtickMissed => true
  | .frameBoundary => true
  | .rtmSet .. => true
  | .rtmSlotMaskLo .. => true
  | .rtmSlotMaskHi .. => true
  | .seqStart .. => true
  | .powerDown .. => true
  | .seqStateSettled => true
  | .seqStepTimeout .. => true
  | .seqRetryWaitDone => true
  | .seqDownStepDone => true
  | .seqStepHigh => true
  | .seqSolo => true
  | .railFault .. => true
  | .pfail => true
  | .pfailGlitch .. => true
  | .admitEnd => true
  | .drained => true
  | .pfailRelease => true
  | .cpxFault .. => true
  | .thermtripCheck readings => decide (readings.length = 36)
  | .hbmTrainDone .. => true
  | .hbmTrainTimeout .. => true
  | .metaRestore .. => true
  | .enterService => true
  | .objectLoadDone .. => true
  | .provision message => message.fits
  | .enec .. => true
  | .disec .. => true
  | .entdaa .. => true
  | .setdasa .. => true
  | .setnewda .. => true
  | .rstdaa => true
  | .setmwl .. => true
  | .setmrl .. => true
  | .getmwl => true
  | .getmrl => true
  | .getpid => true
  | .getbcr => true
  | .getdcr => true
  | .getstatus => true
  | .getmxds => true
  | .rstact .. => true
  | .enthdr0 => true
  | .cccNack .. => true
  | .busError .. => true
  | .ibiSend .. => true
  | .alertTimeout => true
  | .mctpPacket packet => decide (packet.payload.length ≤ 1024)
  | .setEndpointId .. => true
  | .getEndpointId .. => true
  | .getEndpointUuid .. => true
  | .getMctpVersionSupport .. => true
  | .getMessageTypeSupport .. => true
  | .getVendorDefinedMessageSupport .. => true
  | .mctpControlUnsupported .. => true
  | .getTid .. => true
  | .getPldmVersion .. => true
  | .getPldmTypes .. => true
  | .getPldmCommands .. => true
  | .getPdrRepositoryInfo .. => true
  | .getPdr .. => true
  | .getSensorReading .. => true
  | .getStateSensorReadings .. => true
  | .setEventReceiver .. => true
  | .getEventReceiver .. => true
  | .getInfo message => message.fits
  | .getHealth message => message.fits
  | .getOpStatus message => message.fits
  | .regRead message => message.fits
  | .regWrite message => message.fits
  | .unitStateList message => message.fits
  | .memRead message => message.fits
  | .memWrite message => message.fits
  | .timeSet message => message.fits
  | .timeGet message => message.fits
  | .keyEkGet message => message.fits
  | .keyImport message _ => message.fits
  | .keyClear message => message.fits
  | .fwTransfer message => message.fits
  | .fwActivate message => message.fits
  | .activateDone .. => true
  | .getDcdInfo .. => true
  | .getHostDcRegionConfiguration .. => true
  | .getDcRegionExtentLists .. => true
  | .initiateDynamicCapacityAdd .. => true
  | .initiateDynamicCapacityRelease .. => true
  | .spdmRequest .. => true
  | .getMeasurements .. => true
  | .keyExchange .. => true
  | .heartbeatTimeout .. => true
  | .pufReconstruct .. => true
  | .rbgHealthFail => true
  | .fwBootVerify .. => true
  | .storeOpr .. => true
  | .dbgNonce => true
  | .dbgToken .. => true
  | .tamper .. => true
  | .pstRawRead .. => true
  | .pstRawWrite .. => true
  | .counterRead .. => true
  | .counterIncrement .. => true
  | .pstPageWriteDone => true
  | .aonLow => true
  | .cpdArm .. => true
  | .copyAbort .. => true
  | .retry .. => true
  | .skip .. => true
  | .copyGo .. => true
  | .cpsAbort .. => true
  | .copyLineDone .. => true
  | .copyLineRetry .. => true
  | .pushStart .. => true
  | .pushData .. => true
  | .pushEnd .. => true
  | .pushTimeout .. => true
  | .queuePop .. => true
  | .qosWindow => true
  | .qosPromote .. => true
  | .snap .. => true
  | .pmcAutoSnap => true
  | .snapDone => true
  | .trvScrub upsets => decide (upsets.length ≤ 32)
  | .trvFlipArm .. => true
  | .resetNRelease => true
  | .shelfProbe .. => true
  | .chatter .. => true
  | .aonLowRelease => true
  | .arrayOpTimeout .. => true
  | .rbgHealthPass => true

end Sys2Proof
end

