-- ==== Sys2Proof/Tests/Slice0.lean ====
section
/-! SUPPORT. Tests of the model: the spec's worked examples, ill-formed commands that WellFormed refuses, and for every statement with hypotheses a state
that meets them. -/

set_option Elab.async false

namespace Sys2Proof.Tests

open Sys2Proof Sys2Proof.Machine

/-! ### Small states -/

/-- The state after reset with every power domain up and fields set. -/
def st (l : List (Nat × Fld × Nat)) : State :=
  State.reset.on (fun b => l.foldl (fun (b : Board) x => b.put x.1 x.2.1 x.2.2) (b.put pSEQ1 F.SEQ_DOM_PG.PG 0xFFFFF))

/-- Pages in SERVICE. -/
def served (l : List Nat) : List (Nat × Fld × Nat) := l.map (fun p => (p, F.UNIT_STATE.STATE, stSERVICE))

/-- Head 0 in SERVICE with its link up at full width. -/
def headUp : List (Nat × Fld × Nat) :=
  [(pHPT 0, F.UNIT_STATE.STATE, stSERVICE), (pHPT 0, F.HPT_LINK_STAT.UP, 1), (pHPT 0, F.HPT_LINK_STAT.CXL_MEM, 1), (pHPT 0, F.HPT_LINK_STAT.WIDTH, 16),
    (pHPT 0, F.HPT_LINK_STAT.L0P_WIDTH, 16)]

/-- The manager's TERM and this part as its own manager. -/
def managed : List (Nat × Fld × Nat) :=
  [(pSHM, F.SHM_MGR.MGR_VALID, 1), (pSHM, F.SHM_MGR.TERM, 5), (pSHM, F.SHM_SELF.MANAGER, 1), (pSHM, F.SHM_MEMBERS.PARTS, 1)]

/-- A request of head 0. -/
def req (id : Nat) (ask : Ask) (lln : Nat) : Req := ⟨id, ask, Board.reset.headOid 0, 0, 0, false, lln, 1, 0, 0, 0, false, 0, 0, 0, allBytes, false⟩

/-- An accepted write of head 0. -/
def wr (id : Nat) : Wr := ⟨req id .write 0, 0, true, false, false, false, false, 0, false, false⟩

/-- A state with head 0 replaced. -/
def State.withHead (s : State) (d : Head) : State := { s with heads := d :: List.replicate 7 Head.empty }

/-! ### Witnesses: registers, unit states and events -/

theorem witness_StepRunsFrontCommand : { State.reset with pending := [Instr.enthdr0, .rstdaa] }.pending = Instr.enthdr0 :: [.rstdaa] := rfl

theorem witness_EmptyQueueTicks : State.reset.pending = [] := rfl

theorem witness_EventRegistersTakeWrites :
    (st []).bd.Takes .mgmt pDEV 0x014 1 ∧ (st []).bd.Takes .mgmt pDEV 0x018 1 ∧ (st []).bd.Takes .mgmt pDEV 0x010 1
      ∧ ∃ n : Fin 32, ((1 : Word) &&& evtMask pDEV).getLsbD n.val = true := by
  unfold Board.Takes Board.Reaches; decide +kernel

theorem witness_LocksCloseThePages :
    (st []).bd.Takes .mgmt pLOOP F.PAGE_LOCK.LOCK.off 1 ∧ (st []).bd.Takes .mgmt pDEV F.DEV_CTL.LOCK_ALL.off 1 := by
  unfold Board.Takes Board.Reaches; decide +kernel

theorem witness_UnitCommandIsCheckedFirst : (st []).bd.Reaches .mgmt pFCM 0x00C (BitVec.ofNat 32 (3 + 1 * 2 ^ 16)) := by
  unfold Board.Reaches; decide +kernel

theorem witness_UnitsMoveWithTheirEpoch :
    (let s := (st [(pFCM, F.UNIT_STATE.STATE, stCONTAINED), (pFCM, F.UNIT_CMD.PENDING, 1)]).on (fun b => { b with cmds := [(pFCM, stSERVICE)] });
      smFind pFCM s.bd.cmds = some stSERVICE ∧ s.bd.on pFCM F.UNIT_CMD.PENDING = true ∧ (s.bd.requestCheck pFCM stSERVICE).toOption = some true)
    ∧ (let s := (st [(pCPE, F.UNIT_STATE.STATE, stINIT)]);
      s.initElsewhere pCPE = false ∧ s.bd.unit pCPE = stINIT) := by
  decide +kernel

theorem witness_InternalFaultContains :
    ((st headUp).bd.powered (pHPT 0) = true ∧ (st headUp).bd.serves (pHPT 0) = true) ∧ (st headUp).bd.Takes .mgmt (pHPT 0) 0x04C 4 := by
  unfold Board.Takes Board.Reaches; decide +kernel

theorem witness_RegistersAreReadAndWritten :
    ((st []).bd.Takes .mgmt pDEV 0x01C 0 ∧ rowsAt pDEV 0x01C ≠ [])
    ∧ ((st []).bd.Reaches .mgmt pDEV 0x01C 0x1000000 ∧ rowsAt pDEV 0x01C ≠ [] ∧ ((st []).bd.writeCode pDEV 0x01C 0x1000000).isSome = true)
    ∧ (implemented pDEV = true ∧ (st []).bd.powered pDEV = true ∧ pDEV ∉ (st []).bd.resetting ∧ (st []).bd.pmcDue = [] ∧ (st []).bd.clockPages = [])
    ∧ implemented 0x1C = false := by
  unfold Board.Takes Board.Reaches; decide +kernel

theorem witness_IllFormedAccessesAreHandled :
    (implemented pDEV = true ∧ (∀ o, o = 0xFF8 ∨ o = 0xFF8 + 4 - 4 → rowsAt pDEV o = [] ∧ o ≠ 0x000 ∧ o ≠ 0x004 ∧ o ≠ 0x00C)
      ∧ (st []).bd.Reaches .mgmt pDEV 0xFF8 0)
    ∧ ((st []).bd.powered 0 = true ∧ sized 2 4 = false)
    ∧ (implemented pHLT = true ∧ State.reset.bd.powered pHLT = false) ∧ implemented 0x1C = false := by
  refine ⟨⟨by decide +kernel, ?_, by unfold Board.Reaches; decide +kernel⟩, by decide +kernel, by decide +kernel, by decide +kernel⟩
  rintro o (rfl | rfl) <;> decide +kernel

/-! ### Witnesses: host ports and the home -/

/-- Head 0 up, window 0 of 256 MiB over the volatile window, and a read of it. -/
def volatile : State :=
  let s := st (headUp ++ served [pXTN, pVWN, pFCM] ++ [(pVWN, F.VWN_STAT.CURRENT, 1), (pXTN, F.WIN_CTL.COMMITTED.ix 0, 1), (pXTN, F.WIN_CTL.TYPE.ix 0, 2),
    (pXTN, F.WIN_SIZE.SIZE.ix 0, 1)])
  s

/-- The same head with a persistent window of one active extent of this part. -/
def persistent : State :=
  let s := st (headUp ++ served [pXTN, pSHM] ++ managed ++ [(pXTN, F.WIN_CTL.COMMITTED.ix 0, 1), (pXTN, F.WIN_CTL.TYPE.ix 0, 1), (pXTN, F.WIN_SIZE.SIZE.ix 0, 1)]);
  { s with xtn := { s.xtn with hxt := [(0, { st := 2, head := 0, region := 0, unit := 0, width := 0, mirror := false, perm := 3, forced := false, xmbBase := 0, sxn := 7, length := 1 })],
                               xmb := [(0, { part := 0, lxn := 5, mirrorLxn := 0 })], lxt := [(5, { st := 1, role := 0, key := 1, hint := 0, sxn := 7 })],
                               dpaBase := [(0, 2 ^ 49)] } }

/-- The request that a decoded one leads to here, if it does. -/
def here (s : State) (r : Req) (d : Decoded) : Option Req :=
  match s.destination r d with
  | some ((q, p), none) => if p = s.bd.selfId then some q else none
  | _ => none

theorem witness_HostRequestsEnterTheHead :
    (volatile.heads[0]? = some Head.empty ∧ volatile.takes 0 = true ∧ volatile.bd.unit (pHPT 0) ≠ stCONTAINED)
    ∧ (Head.empty.reads.length < 1024 ∧ Head.empty.overlay 0x40 = (0, 0, false)
      ∧ ((here volatile (volatile.hostReq 0 .read 0x40 0 0 false) (volatile.decode 0 0x40 false none)).map
          (fun q => (volatile.mayLeave q 0).1 && !volatile.lowNow (masterOf q.oid))) = some true)
    ∧ (persistent.takes 0 = true
      ∧ (here persistent (persistent.hostReq 0 .hint 0x40 0 0 false) (persistent.decode 0 0x40 false none)).map (fun q => q.volatile) = some false)
    ∧ Head.empty.occupied < 256 := by
  decide +kernel

theorem witness_HeadLinksComeAndGo :
    (let s := st [(pHPT 0, F.UNIT_STATE.STATE, stINIT)];
      s.heads[0]? = some Head.empty ∧ s.headUsed 0 = true ∧ s.bd.on (pHPT 0) F.HPT_LINK_STAT.UP = false ∧ s.bd.unit (pHPT 0) = stINIT ∧ s.bd.rd (pHPT 0) 0x04C = 0
        ∧ 16 ≤ s.bd.maxWidth 0 ∧ 2 ≤ s.bd.get (pHPT 0) F.HPT_PORT_CFG.MAX_SPEED + 2)
    ∧ (let s := st (headUp ++ [(pHPT 0, F.HPT_PORT_CFG.L0P_EN, 1)]);
      s.headUsed 0 = true ∧ s.bd.on (pHPT 0) F.HPT_LINK_STAT.UP = true ∧ s.bd.on (pHPT 0) F.HPT_PORT_CFG.L0P_EN = true ∧ 15 < s.bd.maxWidth 0
        ∧ 2 ≤ s.bd.get (pHPT 0) F.HPT_LINK_STAT.L0P_WIDTH)
    ∧ (let s := State.withHead (st headUp) { Head.empty with lanes := 3 };
      (s.heads[0]?.map Head.lanes) = some 3 ∧ s.headUsed 0 = true ∧ s.bd.on (pHPT 0) F.HPT_LINK_STAT.UP = true) := by
  decide +kernel

theorem witness_HeadResetsAndIde :
    ((st headUp).headUsed 0 = true ∧ (st headUp).bd.on (pHPT 0) F.HPT_LINK_STAT.UP = true ∧ Head.empty.resetting = false)
    ∧ (let d := { Head.empty with resetting := true };
      (State.withHead (st headUp) d).heads[0]? = some d ∧ d.resetting = true ∧ d.fences.any (fun f => f.running) = false) := by
  decide +kernel

theorem witness_PortCfg : (st []).bd.powered (pHPT 7) = true ∧ pHPT 7 ∉ (st []).bd.resetting := by decide +kernel

theorem witness_HomeServesInTurn :
    (let w := { wr 1 with req := volatile.hostReq 0 .write 0x40 0 allBytes false };
      let s := State.withHead volatile { Head.empty with writes := [w] };
      (s.heads[0]?.map Head.unsent) = some [w] ∧ w.req.ask = .write
        ∧ ((here s w.req (s.decodeEntry 0 w)).map (fun q => (s.mayLeave q 0).1 && !s.lowNow (masterOf q.oid))) = some true)
    ∧ (let r := { req 1 .read 5 with volatile := true, oid := 1 };
      let s := { st (served [pVWN] ++ [(pXTN, F.XTN_SELF.SHELF_ID, 0)]) with home := { Home.empty with queue := [r] } };
      s.home.queue = [r] ∧ s.blocked r [] = false ∧ s.yields r = false ∧ s.bd.isLocal r = false ∧ s.windowLost 0 = false ∧ s.bd.bypass = false ∧ 0 ∉ s.cache.bitmap)
    ∧ (let r := { req 1 .write 5 with volatile := true };
      let s := { st (served [pVWN]) with home := { Home.empty with queue := [r] } };
      s.home.queue = [r] ∧ s.blocked r [] = false ∧ s.yields r = false ∧ s.windowLost 0 = false ∧ r.poison = false ∧ r.mask = allBytes)
    ∧ { Home.empty with derive := [req 1 .read 5] }.derive = [req 1 .read 5]
    ∧ { Home.empty with aliases := [⟨req 1 .read 5, 0⟩] }.aliases[0]? = some ⟨req 1 .read 5, 0⟩ ∧ State.reset.pageDirty 0 = 0 := by
  decide +kernel

/-! ### Witnesses: map, media, front cache -/

/-- A miss with nothing known of it. -/
def miss : Miss :=
  { id := 1, lln := 64, key := 1, reqs := [], entry := none, slot := none, needSlot := true, base := none, read := none, ppa := 0, frame := 0, pseq := 0, predicted := 0,
    tried := [], toTry := [], recon := false, reconBins := [], viaRecon := false, overwritten := false, retried := false, partials := [], erased := false,
    verifying := false, uncorr := false, epoch := 0, since := 0 }

/-- A media read that has been sent. -/
def mread : MRead := { id := 1, ppa := 5, frame := 0, bin := 0, miss := 1, whole := false, sent := true, squashed := false, since := 0 }

/-- A state with the whole map loaded, one miss and one read. -/
def looking (r : MRead) : State :=
  let s := st [];
  { s with mapx := { s.mapx with misses := [miss], reads := [r], loadedAll := true, rebuild := [(4, 0)], inspectMap := some 7 } }

theorem witness_MapAndIndexLookups :
    (let s := looking mread;
      s.mapx.misses[0]? = some miss ∧ miss.entry = none ∧ s.segLoaded 0 = true ∧ s.rebuilding (segKey true 0) = false ∧ (s.readBlock 0 0 0 0 0).1 = true
        ∧ ((s.readBlock 0 0 0 0 0).2.mapEntry 1).legal = true)
    ∧ (let s := looking mread;
      miss.slot = none ∧ miss.base = none ∧ s.segLoaded (24576 + ptxBucket 64 / 2 ^ 14) = true ∧ s.rebuilding (segKey false (ptxBucket 64 / 64)) = false
        ∧ (s.readBlock 12 (ptxBucket 64 / 64) (ptxBucket 64 % 64) 0 0).1 = true ∧ ((s.readBlock 12 (ptxBucket 64 / 64) (ptxBucket 64 % 64) 0 0).2.probe 64).2 = none)
    ∧ (looking mread).mapx.rebuild[0]? = some (4, 0)
    ∧ ((st []).bd.gate .mgmt pMAP 0x050 false false = none ∧ (st []).bd.on pMAP F.MAP_ACC_STAT.BUSY = false)
    ∧ ((st []).bd.gate .mgmt pPTX 0x068 false false = none ∧ (st []).bd.on pPTX F.PTX_ACC_STAT.BUSY = false)
    ∧ ((looking mread).mapx.inspectMap = some 7 ∧ (looking mread).segLoaded 0 = true) := by
  decide +kernel

theorem witness_MediaReadsAreCollected :
    (let s := looking mread;
      s.mapx.reads[0]? = some mread ∧ mread.sent = true ∧ mread.squashed = false ∧ mread.whole = false
        ∧ s.mapx.misses.find? (fun m => decide (m.id = mread.miss)) = some miss)
    ∧ ({ miss with overwritten := true, entry := some ⟨5, 1, false, false, false, false, 0, 0, false⟩, slot := some none, needSlot := false, base := some 0 }).undecided = false
    ∧ (looking { mread with squashed := true }).mapx.reads[0]? = some { mread with squashed := true } := by
  decide +kernel

theorem witness_ArrayOperationsEnd :
    smFind ((1 * 8 + 2) * 16 + 3) [((1 * 8 + 2) * 16 + 3, (⟨false, 0, 5, false, 0, 0, 0⟩ : MOp))] = some ⟨false, 0, 5, false, 0, 0, 0⟩
    ∧ (st [(pMCH 1, F.MCH_DIE_STATE.DIE, 0x22222222)]).bd.dieState 1 2 = 2 := by
  decide +kernel

theorem witness_ChannelsFailAndRecover :
    ((st [(pMCH 0, F.UNIT_STATE.STATE, stINIT)]).bd.unit (pMCH 0) = stINIT ∧ (st []).media.recorded = []
      ∧ ∀ k, k < 8 → dieIdOk (((List.range 8).map (fun d => BitVec.ofNat 128 (0x4A + 0xB1 * 256 + d * 2 ^ 24))).getD k 0).toNat k = true)
    ∧ { (st []).media with dieNew := [(0 * 8 + 3, 0)] }.dieNew.any (fun e => decide (e.1 = 3)) = true
    ∧ ((st (served [pMCH 0])).bd.on (pMCH 0) F.MCH_CAUSE.CHAN_FAULT = false ∧ (st (served [pMCH 0])).bd.powered (pMCH 0) = true)
    ∧ (st [(pMCH 0, F.MCH_CAUSE.CHAN_FAULT, 1)]).bd.on (pMCH 0) F.MCH_CAUSE.CHAN_FAULT = true
    ∧ (st [(pMCH 0, F.MCH_CAUSE.REBUILD, 1)]).bd.on (pMCH 0) F.MCH_CAUSE.REBUILD = true
    ∧ ((st [(pMCH 0, F.MCH_FLIP.MASK.ix 0, 1)]).bd.gate .mgmt (pMCH 0) F.MCH_FLIP_CTL.ARM.off false false = none
      ∧ (st [(pMCH 0, F.MCH_FLIP.MASK.ix 0, 1)]).bd.get (pMCH 0) (F.MCH_FLIP.MASK.ix 0) ≠ 0) := by
  decide +kernel

theorem witness_MaintenanceOperationsStartAndEnd :
    ((st []).bd.gate .mgmt pFCM 0x048 false false = none ∧ (st []).bd.on pFCM F.FCM_STAT.OP_BUSY = false ∧ (st []).bd.get pFCM F.FCM_SETWAY.WAY < 12)
    ∧ (let o : MaintOp := ⟨1, [], [], 0, 0, 0, false⟩;
      { (st []).cache with op := some o }.op = some o ∧ (st []).opLeft o = [] ∧ o.inv = []) := by
  decide +kernel

theorem witness_CacheIsDisabledAndEnabled :
    ((st [(pFCM, F.FCM_STAT.ENABLED, 1)]).bd.gate .mgmt pFCM 0x040 false false = none ∧ (st [(pFCM, F.FCM_STAT.ENABLED, 1)]).bd.on pFCM F.FCM_STAT.ENABLED = true
      ∧ (st [(pFCM, F.FCM_STAT.ENABLED, 1)]).bd.on pFCM F.FCM_STAT.DISABLING = false)
    ∧ ((st [(pFCM, F.FCM_STAT.DISABLING, 1)]).bd.on pFCM F.FCM_STAT.DISABLING = true ∧ (st []).dirty = 0)
    ∧ (let s := st [(pFCM, F.FCM_STAT.ENABLED, 0), (pFCM, F.FCM_STAT.CLEAN_SLATE, 1)];
      s.bd.on pFCM F.FCM_STAT.ENABLED = false ∧ s.bd.on pFCM F.FCM_STAT.CLEAN_SLATE = true ∧ s.cache.staged = [])
    ∧ (let s := st [(pFCM, F.FCM_STAT.ENABLED, 0), (pFCM, F.FCM_STAT.CLEAN_SLATE, 0)];
      s.bd.gate .mgmt pFCM 0x040 false false = none ∧ s.bd.on pFCM F.FCM_STAT.ENABLED = false ∧ s.bd.on pFCM F.FCM_STAT.CLEAN_SLATE = false) := by
  decide +kernel

theorem witness_VolatileWindowChanges :
    ((st []).bd.gate .mgmt pVWN 0x040 false false = none ∧ (st []).bd.on pVWN F.VWN_STAT.RESIZING = false ∧ ∀ hw, hw < 64 → (st []).bd.committed hw = false)
    ∧ ({ (st []).cache with resize := some (0, 4) }.resize = some (0, 4) ∧ (st []).cache.frames = [])
    ∧ ((st []).bd.gate .mgmt pVWN 0x048 false false = none ∧ (st []).bd.on pVWN F.VWN_CMD.REMAP = false)
    ∧ ((st [(pVWN, F.VWN_STAT.REMAPPING, 1)]).bd.on pVWN F.VWN_STAT.REMAPPING = true ∧ (st []).planFrames (st []).remapPlan = []) := by
  decide +kernel

theorem witness_StacksAreScrubbedAndLost :
    (let s := st (served [pFCC 0] ++ [(pFCC 0, F.FCC_CFG.SCRUB_EN, 1), (pFCC 0, F.FCC_SCRUB_POS.LINE, 805306366)]);
      s.bd.powered (pFCC 0) = true ∧ s.bd.on (pFCC 0) F.FCC_CFG.SCRUB_EN = true ∧ s.bd.stackLost 0 = false ∧ s.bd.serves (pFCC 0) = true
        ∧ s.bd.get (pFCC 0) F.FCC_SCRUB_POS.LINE + 1 < 805306368 ∧ 0 ∉ s.cache.scrubTold)
    ∧ (let s := st [(pFCC 0, F.FCC_FLIP_LO.MASK, 1)];
      s.bd.gate .mgmt (pFCC 0) 0x060 (decide (s.bd.unit (pFCC 0) ≠ stTEST)) false = none ∧ s.bd.get64 (pFCC 0) F.FCC_FLIP_LO.MASK F.FCC_FLIP_HI.MASK ≠ 0) := by
  decide +kernel

/-! ### Witnesses: the write path, ages, fences and keys -/

/-- A line of a frame, dirty since time 3. -/
def dirtyLine (patched : Bool) : LineSt := ⟨0, true, patched, false, 0, 0, 3, false, []⟩

/-- A state with one dirty line in the cache. -/
def oneDirty : State :=
  let s := st (served [pFCM] ++ [(pFCM, F.FCM_STAT.ENABLED, 1)]);
  { s with cache := { s.cache with frames := [(setOf 1 * 16, ⟨1, 1, [(0, dirtyLine false)], 0⟩)] } }

theorem witness_ExpiriesMoveTheClock :
    ((oneDirty.frameOf 1).map (fun f => leastOf ((f.2.lines.filter (fun l => l.2.dirty && !l.2.patched)).map (fun l => l.2.since))) = some (some 3))
    ∧ leastOf ([⟨64, 0, 1, 1, 1, false, 3, []⟩].map PatchRef.since) = some 3
    ∧ leastOf (([(⟨0, 1, 0, 1, 1, [], [], [], 0, 0, some 5, [], 0⟩ : Fold)].filter (fun f => f.programmed.isSome)).filterMap
        (fun f => (smFind f.page [(1, 3)]).map (· + 120))) = some 123
    ∧ (oneDirty.oldestDirty.isSome = true ∧ oneDirty.bd.declared = false) := by
  decide +kernel

theorem witness_SlotsCopiesAndReplay :
    ((st []).bd.on pRTM F.RTM_STAT.DRAIN = false ∧ nbit { (st []).slot with mask := 0 }.mask 63 = false)
    ∧ (let s0 := st [];
      let p : MPage := { kind := 0, stream := 0, slc := false, width := 16, page := 9, gen := 2, key := 1, seq := 1, time := 0, positions := 0, kindData := [], frames := [] };
      let s := { s0 with wp := { s0.wp with copies := [(5, 9, 6, 0)] }, media := { s0.media with pages := [(6, p)] },
                         mapx := { s0.mapx with map := [(9, ⟨5, 2, false, false, false, false, 0, 0, false⟩)] } };
      s.wp.copies[0]? = some (5, 9, 6, 0) ∧ s.journalFull = false ∧ s.mediaPage 6 = some p ∧ p.page = 9 ∧ p.gen = (s.mapEntry 9).gen ∧ (s.mapEntry 9).hasBase = true
        ∧ (s.mapEntry 9).ppa = 5)
    ∧ (st []).openBands = [] ∧ (st []).ledgerFound.declared = false := by
  decide +kernel

theorem witness_PeriodicWorkKeepsItsPeriods :
    (st []).bd.powered pAGE = true ∧ (st []).bd.powered pPTL = true ∧ (st []).bd.powered pWGV = true ∧ State.reset.bd.powered pHLT = false := by decide +kernel

theorem witness_PatrolAndInspection :
    (let s0 := st (served [pPTL, pMAP] ++ [(pPTL, F.PTL_CFG.EN, 1), (pMCH 0, F.UNIT_STATE.STATE, stSERVICE), (pMCH 0, F.MCH_DIE_STATE.DIE, 0x22222222)]);
      let p : MPage := { kind := 0, stream := 0, slc := false, width := 16, page := 9, gen := 2, key := 1, seq := 1, time := 0, positions := 0, kindData := [], frames := [] };
      let s := { s0 with age := { s0.age with suspects := [5] }, media := { s0.media with pages := [(5, p)], bands := [(0, { (s0.band 0) with st := 2, excluded := [] })] } };
      s.patrolRuns = true ∧ s.bgInFlight < s.bd.get pMAP F.MAP_CFG.BG_MAX ∧ (s.mediaPage 5).isSome = true ∧ s.patrols 5 = true)
    ∧ (let s := st (served [pPTL] ++ [(pPTL, F.PTL_CFG.EN, 1)]);
      s.bd.unit pPTL = stSERVICE ∧ s.bd.on pPTL F.PTL_LAP.PRIORITY = false
        ∧ s.lapLeft / max 1 ((s.bd.get pPTL F.PTL_CFG.LAP_HOURS * 60 - min (2 ^ F.PTL_ELAPSED.MINUTES.width - 1) (s.bd.get pPTL F.PTL_ELAPSED.MINUTES + 1)) * 60)
          ≤ s.bd.get pLOOP F.LOOP_PATROL.MAX_RATE)
    ∧ ((st []).bd.gate .mgmt pAGE F.AGE_INSP.FIELD.off false false = none ∧ (st []).bd.on pAGE F.AGE_INSP_RES.BUSY = false) := by
  decide +kernel

/-- A fence in slot 0 over nothing. -/
def fence (scope : Nat) : Fence := ⟨0, scope, [], [], 0, 0, false, false, true⟩

theorem witness_FencesRunAndComplete :
    ((st headUp).bd.gate .mgmt (pHPT 0) (F.HPT_FNC_CTL.SCOPE.ix 0).off false true ≠ none
      ∧ (st headUp).bd.gate (.host 0) (pHPT 0) (F.HPT_FNC_CTL.SCOPE.ix 0).off false true = none
      ∧ (st headUp).bd.on (pHPT 0) (F.HPT_FNC_STAT.BUSY.ix 0) = false ∧ wordBits 4 2 1 = 1 ∧ wordBits 4 0 2 ≠ 3)
    ∧ (let d := { Head.empty with fences := [fence 0] };
      d.fences.find? (fun f => decide (f.slot = 0) && f.running) = some (fence 0) ∧ (State.withHead (st headUp) d).fenceDone d (fence 0) = true ∧ d.writes = [])
    ∧ (let d := { Head.empty with fences := [fence 3] };
      d.fences.find? (fun f => decide (f.slot = 0) && decide (f.scope = 3)) = some (fence 3) ∧ d.allDurable (fence 3) = true ∧ (fence 3).running = true ∧ (fence 3).lost = false)
    ∧ ((st headUp).bd.gate (.host 0) (pHPT 0) 0x268 false false = none ∧ { Head.empty with losses := [⟨0, 1, 0, 0, 0, 1, 0, 0, false, 0⟩] }.losses ≠ []) := by
  decide +kernel

theorem witness_ReservationsAndFlush :
    ((st headUp).bd.gate (.host 0) (pHPT 0) (F.HPT_RSV_CMD.OP.ix 3).off false true = none ∧ (st headUp).bd.on (pHPT 0) (F.HPT_RSV_STAT.BUSY.ix 3) = false)
    ∧ ({ Head.empty with rsv := [⟨none, 1, 5, some (0, 0, 0)⟩] }.rsv[0]?).map Rsv.ans = some (some (0, 0, 0))
    ∧ (smFind (0 * 32 + 1) [(1, (⟨0, 5, false, 7, 0⟩ : HomeRsv))]).map HomeRsv.lost = some 0
    ∧ (st headUp).bd.on (pHPT 0) F.HPT_LINK_STAT.UP = true := by
  decide +kernel

/-- A key slot in ACTIVE. -/
def keyed : State := { st (served [pKEY, pRKY]) with keys := { State.reset.keys with slots := [(1, ⟨1, 0, 5, false, false, 1⟩)] } }

theorem witness_KeySlotsAreFilledAndCleared :
    (let s := st (served [pKEY]);
      s.bd.gate .mgmt pKEY 0x040 true false = none ∧ s.bd.on pKEY F.KEY_STAT.BUSY = false ∧ s.bd.unit pKEY ≠ stCONTAINED ∧ s.bd.unit pKEY ≠ stTEST ∧ s.keys.rbgBad = false
        ∧ (s.keySlot 4095).st = 0)
    ∧ (keyed.bd.gate .mgmt pKEY 0x040 true false = none ∧ keyed.bd.on pKEY F.KEY_STAT.BUSY = false ∧ (keyed.keySlot 1).st = 1 ∧ keyed.xtn.lxt = []
      ∧ ∀ hw, hw < 64 → keyed.bd.committed hw = false) := by
  decide +kernel

theorem witness_SweepsAndErasesRun :
    (keyed.bd.gate .mgmt pRKY 0x044 true false = none ∧ (keyed.keySlot 1).st ≠ 0 ∧ (keyed.keySlot 1).st ≠ 5 ∧ (keyed.keySlot 1).ver ≠ 2 ^ 32 - 1)
    ∧ (let w : Sweep := ⟨1, [(5, 0)], 0, 0, none, false, 0, 0, 0⟩;
      let s := { st (served [pRKY]) with keys := { State.reset.keys with slots := [(1, ⟨3, 1, 5, false, false, 0⟩)], sweeps := [w], erases := [(5, 0)] } };
      s.keys.sweeps = [w] ∧ (s.keySlot w.slot).st = 3 ∧ s.bd.get pPDR F.PDR_STAT.PHASE = 0 ∧ s.sweepOf 1 = some w ∧ w.late = false ∧ s.keys.erases = [(5, 0)]) := by
  decide +kernel

/-! ### Witnesses: extents and the mailbox -/

theorem witness_ExtentTablesAndDecoders :
    ((st []).bd.gate .mgmt pXTN 0x044 false false = none ∧ (st []).bd.gate .mgmt pXTN 0x044 true false = none ∧ (st []).bd.on pXTN F.XTN_ACC_STAT.BUSY = false)
    ∧ ({ (st []).xtn with access := some ⟨0, some [1, 2, 3, 4]⟩ }.access = some ⟨0, some [1, 2, 3, 4]⟩)
    ∧ (let s := { persistent with xtn := { persistent.xtn with hxt := [(0, { (persistent.hxt 0) with st := 3 })] } };
      (s.hxt 0).st = 3 ∧ s.openThrough 0 = 0)
    ∧ (volatile.bd.powered pXTN = true ∧ volatile.bd.unit (pHPT 0) ≠ stOFF ∧ waysCode 1 = some 0 ∧ volatile.bd.windowType 0 (2 ^ 28 / 1) = some (2, 0)
      ∧ volatile.bd.committed (8 * 0 + 1) = false) := by
  decide +kernel

/-- Head 0 up in a part in service. -/
def mailbox : State := st (headUp ++ served [pXTN])

theorem witness_MailboxOpen : mailbox.bd.MailboxOpen 0 ∧ mailbox.heads[0]? = some Head.empty := by
  refine ⟨?_, by decide +kernel⟩
  unfold Board.MailboxOpen; decide +kernel

theorem witness_MailboxRefusals :
    (0xC000 ∉ celEntries.map Prod.fst ∧ 0xC000 ∉ [0x0201, 0x0202, 0x0301, 0x4400, 0x4401])
    ∧ (let s := st (headUp ++ [(pHPT 0, F.UNIT_STATE.STATE, stCONTAINED)]); s.bd.mailboxUp 0 = true ∧ s.bd.unit (pHPT 0) = stCONTAINED) := by
  decide +kernel

theorem witness_MailboxPoisonAndExtents :
    (Head.empty.injected.length < 64 ∧ (persistent.mbxWrite 0 (2 ^ 49) 0 true).isSome = true ∧ (persistent.mbxWrite 0 (2 ^ 49) 0 false).isSome = true)
    ∧ (0 ≤ (persistent.hxtOf 0 [2, 3]).length)
    ∧ (let e := { (persistent.hxt 0) with st := 1 };
      { persistent.xtn with hxt := [(0, e)] }.hxt = [(0, e)] ∧ e.head = 0 ∧ e.range = (2 ^ 49, 2 ^ 28) ∧ 0 < e.length ∧ e.st = 1)
    ∧ (persistent.hxt 0).range = (2 ^ 49, 2 ^ 28) := by
  decide +kernel

/-! ### Witnesses: links, ring and shelf -/

/-- A state with link 0 in a phase. -/
def linked (phase : Nat) : State := st [(pSHL 0, F.SHL_STAT.PHASE, phase)]

theorem witness_LinksTrainAndRecover :
    ((linked 0).shelf.links[0]? = some Link.down ∧ (linked 0).bd.phase 0 = 0 ∧ (linked 0).bd.powered (pSHL 0) = true)
    ∧ (linked 1).bd.phase 0 = 1 ∧ (linked 2).bd.phase 0 = 2 ∧ (linked 4).bd.phase 0 = 4 ∧ (linked 5).bd.phase 0 = 5
    ∧ miscabled (linked 2).bd.selfId 0 1 1 = 0 ∧ miscabled (linked 2).bd.selfId 0 2 1 ≠ 0
    ∧ (linked 4).bd.get (pSHL 0) F.SHL_LANE_ERR.LANE_FAULT = 0 := by
  decide +kernel

theorem witness_FlitsKeysAndPackets :
    2 ≤ (linked 2).bd.phase 0 ∧ (linked 4).bd.linkUp 0 = true ∧ (st managed).bd.manages = true
    ∧ (3 ≠ (linked 4).bd.selfId ∧ (linked 4).bd.carries (1 - 1) 0x10 = true ∧ (linked 2).bd.carries (1 - 1) 0x10 = false) := by
  decide +kernel

theorem witness_RingRequestsReachTheHome :
    (State.reset.shelf.failover = none ∧ State.reset.atWork 1 0 = false ∧ State.reset.shelf.recent = [])
    ∧ ((st []).bd.now ≤ 0 + 100 ∧ oidShelf 1 ≠ (st []).bd.selfId)
    ∧ (let s := st [(pSHM, F.SHM_PAIR.STATE, 1)]; s.bd.pairState ≠ 0 ∧ s.bd.pairState ≠ 2 ∧ s.home.mirror.orders = [] ∧ s.home.mirror.fills = [] ∧ s.home.mirror.held = [])
    ∧ [(⟨3, req 1 .write 5, false⟩ : MonWait)].find? (fun w => decide (w.mon = 3)) = some ⟨3, req 1 .write 5, false⟩ := by
  decide +kernel

/-- Head 0 with a read and a write at another part. -/
def away : State :=
  let s := State.withHead (st headUp) { Head.empty with writes := [{ wr 1 with owner := 1, sent := true }], reads := [⟨req 2 .read 5, 1, 0, 0⟩], rsv := [⟨none, 1, 5, none⟩] };
  { s with traffic := { s.traffic with flight := [(req 2 .read 5, 1, true)] } }

theorem witness_RingAnswersReachTheSender :
    (let o := (req 2 .read 5).oid;
      (away.inFlightOf o 2).isSome = true ∧ oidClass o = 0 ∧ ((away.heads[0]?.bind (fun d => d.reads.find? (fun y => decide (y.req.id = 2)))).isSome = true)
        ∧ away.writeOf o 1 = some { wr 1 with owner := 1, sent := true } ∧ oidInst o = 0)
    ∧ (let r := { req 3 .read 5 with oid := 2 ^ 5 };
      ({ away with traffic := { away.traffic with flight := [(r, 1, true)] } }.inFlightOf r.oid 3).isSome = true ∧ oidClass r.oid ≠ 0)
    ∧ (let r := { req 3 .write 5 with mask := 1 }; [r].find? (fun x => decide (x.oid = r.oid) && decide (x.id = 3)) = some r ∧ r.mask ≠ allBytes)
    ∧ ((away.heads[0]?.bind (fun d => d.rsv[0]?)) = some ⟨none, 1, 5, none⟩) := by
  decide +kernel

theorem witness_OlderTermsAreDiscarded :
    (st managed).bd.on pSHM F.SHM_MGR.MGR_VALID = true ∧ serialNewer 16 ((st managed).bd.get pSHM F.SHM_MGR.TERM) 4 = true := by decide +kernel

theorem witness_BeaconsHealthAndKeysArrive :
    ((st managed).bd.get pSHM F.SHM_MGR.TERM = 5
      ∧ (let s := { st (managed ++ [(pSHL 0, F.SHL_STAT.PHASE, 3)]) with shelf := { State.reset.shelf with links := [{ Link.down with keys := 2 }, Link.down] } };
        s.bd.phase 0 = 3 ∧ (s.shelf.links[0]?.map Link.keys) = some 2))
    ∧ (let s := st (managed ++ [(pRTM, F.RTM_CFG.SOURCE, 2)]); s.bd.now ≤ s.bd.rtAt + 900 ∧ s.bd.ringTime = true)
    ∧ (let s := (st managed).on (fun b => { b with now := 901 }); s.bd.rtAt + 900 < s.bd.now)
    ∧ (let s := st [(pSHM, F.SHM_MGR.MGR_VALID, 1), (pSHM, F.SHM_MGR.MGR_ID, 1), (pSHM, F.SHM_MEMBERS.PARTS, 3)];
      s.bd.manages = false ∧ s.bd.on pSHM F.SHM_MGR.MGR_VALID = true ∧ s.bd.on pSHM F.SHM_SELF.CUT = false
        ∧ nbit (s.bd.get pSHM F.SHM_FAILED.PARTS) (s.bd.get pSHM F.SHM_MGR.MGR_ID) = false ∧ s.bd.joined = true)
    ∧ smFind 1 [(1, (⟨[], 0, false⟩ : MemberHealth))] = some ⟨[], 0, false⟩ := by
  decide +kernel

theorem witness_LostLinksAreJudged :
    (let s := st (managed ++ [(pSHM, F.SHM_MEMBERS.PARTS, 7)]);
      s.bd.decides 1 = true ∧ s.shelf.downs = [] ∧ s.bd.breaks = [])
    ∧ (let s := { st (managed ++ [(pSHM, F.SHM_MEMBERS.PARTS, 7)]) with shelf := { State.reset.shelf with downs := [(1, 0, 0)] } };
      s.shelf.downs.find? (fun d => decide (reportLink s.bd.shelfSize d.1 d.2.1 = 1)) = some (1, 0, 0) ∧ s.bd.decides ((1 + 1) % s.bd.shelfSize) = true)
    ∧ [(1, 0, 0)].find? (fun p => decide (p.1 = 1)) = some (1, 0, 0) ∧ (st managed).traffic.flight = [] ∧ 1 ≠ (st managed).bd.selfId := by
  decide +kernel
theorem witness_JoinsTablesAndSyncs :
    ([(⟨1, 3, 0, none⟩ : JoinX)].find? (fun x => decide (x.peer = 1)) = some ⟨1, 3, 0, none⟩)
    ∧ [(⟨1, 10, 0, none⟩ : JoinX)].find? (fun x => decide (x.peer = 1)) = some ⟨1, 10, 0, none⟩
    ∧ (List.replicate 4080 (0 : Byte)).length = 4080
    ∧ ((([0, 0, 0, 0] : List Word).map BitVec.toNat).getD 2 0) / 2 ^ 24 % 32 = (st []).bd.selfId
    ∧ ((st managed).bd.on pSHM F.SHM_MGR.MGR_VALID = true ∧ (st managed).bd.get pSHM F.SHM_MGR.TERM = 5)
    ∧ (let s := st (managed ++ served [pKEY]);
      s.bd.on pKEY F.KEY_STAT.BUSY = false ∧ s.bd.unit pKEY ≠ stCONTAINED ∧ s.bd.unit pKEY ≠ stTEST ∧ s.keys.rbgBad = false ∧ (s.keySlot 1).st = 0)
    ∧ { State.reset.shelf with tables := [(1, 0x100)] }.tables = [(1, 0x100)] ∧ { State.reset.shelf with syncs := [.nextSxn 9] }.syncs = [.nextSxn 9] := by
  decide +kernel

theorem witness_DutiesChangeHands :
    (let s := st [(pSHM, F.SHM_SELF.DEPUTY, 1), (pSHM, F.SHM_MGR.MGR_ID, 1), (pSHM, F.SHM_FAILED.PARTS, 2)];
      s.bd.on pSHM F.SHM_SELF.DEPUTY = true ∧ nbit (s.bd.get pSHM F.SHM_FAILED.PARTS) (s.bd.get pSHM F.SHM_MGR.MGR_ID) = true)
    ∧ (let s := st (served [pSHM] ++ [(pSHM, F.SHM_SELF.ROLE, 1)]);
      s.bd.on pSHM F.SHM_SELF.ROLE = true ∧ s.bd.selfId = 0 ∧ s.bd.joined = false ∧ s.bd.serves pSHM = true ∧ s.shelf.joins = [])
    ∧ ((st managed).bd.gate .mgmt pSHM 0x060 true false = none ∧ (st managed).bd.manages = true)
    ∧ (let s := { st [(pSHM, F.SHM_MEMBERS.PARTS, 3)] with shelf := { State.reset.shelf with members := [(0, 2), (1, 2)] } };
      s.bd.gate .mgmt pSHM 0x060 true false = none ∧ s.bd.manages = false ∧ s.member s.bd.partner = 2 ∧ nbit (s.bd.get pSHM F.SHM_MEMBERS.PARTS) s.bd.partner = true ∧ s.xtn.lxt = [])
    ∧ (let s := st (managed ++ [(pXTN, F.XTN_SELF.SHELF_ID, 1), (pSHM, F.SHM_MEMBERS.PARTS, 3)]);
      s.bd.gate .mgmt pSHM 0x060 true false = none ∧ s.bd.manages = true ∧ nbit (s.bd.get pSHM F.SHM_MEMBERS.PARTS) 0 = true ∧ s.bd.selfId ≠ 0)
    ∧ ((st [(pSHM, F.SHM_PAIR.STATE, 6)]).bd.pairState = 6 ∧ (st []).home.mirror.waits = [])
    ∧ ((st [(pSHM, F.SHM_PAIR.STATE, 4)]).bd.pairState = 4 ∧ (st []).shelf.resync = []) := by
  decide +kernel

theorem witness_RackTimeFollowsItsTicks :
    (st [(pRTM, F.RTM_STAT.TICK, 1)]).bd.get pRTM F.RTM_STAT.TICK = 1
    ∧ ((st []).bd.get pRTM F.RTM_STAT.TICK ≠ 1 ∧ (st []).rtm.qual < 3 ∧ { (st []).rtm with qual := 3 }.qual = 3)
    ∧ ((st [(pRTM, F.RTM_STAT.TICK, 1)]).bd.get pRTM F.RTM_STAT.MISSED < 2
      ∧ (let s := st [(pRTM, F.RTM_STAT.TICK, 1), (pRTM, F.RTM_STAT.MISSED, 2)]; s.bd.get pRTM F.RTM_STAT.TICK = 1 ∧ s.bd.get pRTM F.RTM_STAT.MISSED = 2))
    ∧ (st []).rtm.armed = none
    ∧ (let s := st [(pRTM, F.RTM_CFG.SOURCE, 1), (pRTM, F.RTM_SET_LO.VALUE, 1704)];
      s.bd.gate .mgmt pRTM F.RTM_SET_HI.VALUE.off true false = none ∧ s.bd.ringTime = false ∧ (s.bd.get pRTM F.RTM_SET_LO.VALUE + 2 ^ 32 * 1) % 1000 = 0
        ∧ (s.bd.get pRTM F.RTM_SET_LO.VALUE + 2 ^ 32 * 0) % 1000 ≠ 0)
    ∧ (let s := st [(pRTM, F.RTM_CFG.SOURCE, 2)]; s.bd.gate .mgmt pRTM F.RTM_SET_HI.VALUE.off true false = none ∧ s.bd.ringTime = true)
    ∧ (let s := st [];
      s.bd.gate .mgmt pRTM F.RTM_SLOT_MASK_LO.MASK.off true false = none ∧ s.bd.gate .mgmt pRTM F.RTM_SLOT_MASK_HI.MASK.off true false = none
        ∧ maskOk (0xFFFFFFFF + 2 ^ 32 * 0xFFFFFFFF) = true ∧ maskOk (0 + 2 ^ 32 * 0xFFFFFFFF) = false) := by
  decide +kernel

/-! ### Witnesses: power, start and management -/

/-- A state in a sequence state. -/
def inState (n : Nat) : State := st [(pSEQ0, F.SEQ_STAT.STATE, n)]

theorem witness_SequenceRunsUpAndDown :
    ((st []).seq.strapped = false ∧ (st []).bd.seqState = 0)
    ∧ ((inState 2).bd.gate .mgmt pSEQ0 0x048 false false = none ∧ (inState 2).bd.seqState ≠ 1)
    ∧ (let s := st [(pSEQ0, F.SEQ_STAT.STATE, 1), (pSEQ0, F.SEQ_CFG.SHARED, 0)];
      s.bd.seqState = 1 ∧ s.bd.on pSEQ0 F.SEQ_CAUSE.THERMTRIP = false ∧ s.bd.on pSEQ0 F.SEQ_CFG.SHARED = false)
    ∧ (let s := st [(pSEQ0, F.SEQ_STAT.STATE, 11), (pSEQ0, F.SEQ_CFG.SHARED, 1)];
      seqMiddle s.bd.seqState = true ∧ s.bd.seqDown = false ∧ s.seq.settled = false ∧ s.bd.paces = true ∧ s.atBarrier = false)
    ∧ (let s := st [(pSEQ0, F.SEQ_CFG.AUTO, 0)]; s.bd.seqState = 0 ∧ s.bd.seqDown = false ∧ s.seq.resetLow = false ∧ s.bd.on pSEQ0 F.SEQ_CFG.AUTO = false)
    ∧ (let s := st [(pSEQ0, F.SEQ_STAT.STATE, 11), (pSEQ0, F.SEQ_CFG.SHARED, 1)]; { s with seq := { s.seq with settled := true } }.atBarrier = true)
    ∧ (let s := st [(pSEQ0, F.SEQ_STAT.STATE, 15), (pSEQ0, F.SEQ_CFG.RETRIES, 2)];
      s.bd.seqState = 15 ∧ s.bd.get pSEQ0 F.SEQ_STAT.ATTEMPT < s.bd.get pSEQ0 F.SEQ_CFG.RETRIES)
    ∧ (let s := st [(pSEQ0, F.SEQ_STAT.STATE, 15), (pSEQ0, F.SEQ_CFG.RETRIES, 2), (pSEQ0, F.SEQ_STAT.ATTEMPT, 2)];
      s.bd.seqState = 15 ∧ s.bd.get pSEQ0 F.SEQ_CFG.RETRIES ≤ s.bd.get pSEQ0 F.SEQ_STAT.ATTEMPT)
    ∧ (let s := st [(pSEQ0, F.SEQ_STAT.STATE, 3), (pSEQ0, F.SEQ_STAT.DOWN, 1)]; s.bd.seqDown = true ∧ seqMiddle s.bd.seqState = true ∧ 2 < s.bd.seqState) := by
  decide +kernel

theorem witness_DrainsResetsAndShutOffs :
    (inState 12).bd.seqState = 12 ∧ (inState 1).bd.seqState = 1
    ∧ (let s := st [(pSEQ0, F.SEQ_STAT.STATE, 13), (pPDR, F.PDR_STAT.PHASE, 1)]; s.bd.seqState = 13 ∧ s.bd.get pPDR F.PDR_STAT.PHASE = 1)
    ∧ (let s := st [(pSEQ0, F.SEQ_STAT.STATE, 13), (pPDR, F.PDR_STAT.PHASE, 2)];
      s.bd.seqState = 13 ∧ s.bd.get pPDR F.PDR_STAT.PHASE = 2 ∧ s.drainDone = true ∧ s.seq.drainBy ≠ 1 ∧ { s.seq with drainBy := 1 }.drainBy = 1
        ∧ s.bd.on pSEQ0 F.SEQ_STAT.PFAIL = false)
    ∧ ((inState 1).bd.gate .mgmt pSEQ0 0x048 false false = none ∧ (inState 1).bd.seqState ≠ 12)
    ∧ ((inState 12).bd.gate .mgmt pSEQ0 0x048 false false = none ∧ (inState 12).bd.otherMembers = false ∧ (inState 12).bd.cleanDown = false)
    ∧ (st [(pSEQ0, F.SEQ_STAT.STATE, 12), (pSEQ1, F.SEQ_RAIL_EN.EN, 1), (pSEQ1, F.SEQ_RAIL_PG.PG, 1)]).bd.railRequired 0 = true
    ∧ (st []).bd.domainOn 3 = true
    ∧ (0 < 36 ∧ 1 ∈ sensorNear 0 ∧ ([some 1040, some 944] : List (Option (BitVec 16)))[0]? = some (some 1040) ∧ 1040 ≤ (1040 : BitVec 16).toInt
      ∧ 944 ≤ (944 : BitVec 16).toInt ∧ (inState 12).bd.suspectSensor 0 = false ∧ (inState 12).bd.on pTHM F.THM_STAT.TRIPPED = false)
    ∧ ((inState 1).bd.seqDown = false) := by
  decide +kernel

theorem witness_StartReachesService :
    (let s := st [(pSEQ0, F.SEQ_STAT.STATE, 12), (pFCC 0, F.UNIT_STATE.STATE, stINIT)];
      s.training 0 = true ∧ s.bd.openCauses (pFCC 0) = 0 ∧ s.bd.on (pFCC 0) F.FCC_CAUSE.PARTNER_LOSS = false ∧ s.bd.get (pFCC 0) F.FCC_PC_FAIL.PC_FAIL = 0
        ∧ (nsInsert 0 s.cache.trained).length < 4)
    ∧ (let s0 := st [];
      let s := { s0 with seq := { s0.seq with stage := 1 }, pst := { s0.pst with bodies := [(1, some (wordBytes (List.replicate 12 0)))] } };
      s.seq.stage = 1 ∧ s.bd.openCauses pCKP = 0 ∧ (s.actOnLedger.recordBody 1).isSome = true)
    ∧ (let s0 := st (served [pKEY] ++ [(pSEQ0, F.SEQ_STAT.STATE, 12), (pSEC, F.SEC_STAT.RT_VERIFIED, 1), (pXTN, F.UNIT_STATE.STATE, stINIT)]);
      { s0 with seq := { s0.seq with stage := 4 } }.mayServe = true ∧ s0.bd.openCauses pXTN = 0)
    ∧ (let s := st [(pCKP, F.CKP_STAT.PHASE, 7)];
      s.bd.get pCKP F.CKP_STAT.PHASE = 7 ∧ 0 ∉ s.mapx.loaded ∧ s.mapx.loadedAll = false ∧ (nsInsert 0 s.mapx.loaded).length < 32768) := by
  decide +kernel

/-- The management path with an endpoint identifier. -/
def heard : State := st (served [pKEY] ++ [(pSEQ0, F.SEQ_STAT.STATE, 1), (pMGT, F.MGT_STAT.EID, 8), (pMGT, F.MGT_STAT.EID_VALID, 1), (pMGT, F.MGT_CFG.SESSION_REQ, 0)])

/-- An Abager request outside a session. -/
def abager (body : List Byte) : Abager := ⟨1, BitVec.ofNat 16 body.length, none, 8, body⟩

theorem witness_Provision :
    heard.heard (abager (leBytes 4 0x50524F56 ++ leBytes 4 0)) = true ∧ heard.abagerCheck (abager (leBytes 4 0x50524F56 ++ leBytes 4 0)) 8 true = none
      ∧ bodyNum (abager (leBytes 4 0x50524F56 ++ leBytes 4 0)) 0 4 = 0x50524F56 ∧ heard.bd.powered pCKP = true := by
  decide +kernel

theorem witness_BusCommandsAreTaken :
    heard.bd.answers = true ∧ nbit 1 0 = true
    ∧ heard.bd.on pMGT F.MGT_STAT.ADDR_VALID = false ∧ (st [(pMGT, F.MGT_CFG.SDA_EN, 1)]).bd.on pMGT F.MGT_CFG.SDA_EN = true
    ∧ lengthOk 69 = true ∧ lengthOk 1024 = true ∧ lengthOk 68 = false
    ∧ (let s := (st [(pMGT, F.MGT_STAT.ADDR_VALID, 1), (pMGT, F.MGT_STAT.IBI_EN, 1)]).on (fun b => { b with stateQ := [⟨0x35, 4, 1, 8, 0⟩] });
      s.bd.on pMGT F.MGT_STAT.ADDR_VALID = true ∧ s.bd.on pMGT F.MGT_STAT.IBI_EN = true ∧ s.bd.resyncQ = none ∧ s.mgmt.ready = 0 ∧ s.bd.stateQ = [⟨0x35, 4, 1, 8, 0⟩]
        ∧ s.bd.noticeSince = some 0)
    ∧ (0x2B : Nat) ∉ cccCodes ∧ (st [(pMGT, F.MGT_CFG.ALERT_EN, 1)]).bd.on pMGT F.MGT_CFG.ALERT_EN = true := by
  decide +kernel

theorem witness_ControlAndPldmAnswer :
    heard.bd.answers = true ∧ heard.bd.hears = true
    ∧ ((st [(pSEC, F.SEC_STAT.PUF_OK, 1)]).bd.powered pSEC = true ∧ (st [(pSEC, F.SEC_STAT.PUF_OK, 1)]).bd.on pSEC F.SEC_STAT.PUF_OK = true)
    ∧ (st []).bd.on pSEC F.SEC_STAT.PUF_OK = false
    ∧ (numericSensor 1 = true ∧ (heard.sensor 1).isSome = true) ∧ (numericSensor 2 = true ∧ heard.sensor 2 = none) ∧ (heard.sensor 27).isSome = true := by
  decide +kernel

theorem witness_AbagerAndFmRequests :
    (heard.heard (abager []) = true ∧ heard.abagerCheck (abager []) 0 false = none ∧ heard.abagerCheck (abager [0]) 0 false = some .length
      ∧ heard.bd.powered pKEY = true ∧ pKEY ∉ heard.bd.resetting)
    ∧ (let m := abager (leBytes 4 0x35014 ++ leBytes 2 1 ++ [0, 0] ++ leBytes 4 1);
      heard.abagerCheck m (8 + 4 * 1) true = none ∧ bodyNum m 4 2 = 1 ∧ (heard.rangeCheck true (bodyNum m 0 4) 1).1 = .ok)
    ∧ (let m := abager (leBytes 4 0x35008 ++ leBytes 4 1);
      heard.bd.pmcDue = [] ∧ heard.bd.clockPages = [] ∧ heard.abagerCheck m 8 false = none ∧ (heard.rangeCheck false (bodyNum m 0 4) (bodyNum m 4 2)).1 = .ok)
    ∧ (let m := abager (leBytes 8 0 ++ leBytes 6 0 ++ leBytes 2 64 ++ leBytes 4 0); heard.abagerCheck m 20 true = none ∧ bodyNum m 14 2 = 64 ∧ heard.bd.reaches 0 = true)
    ∧ (let m := abager (leBytes 8 0 ++ leBytes 6 0 ++ leBytes 2 64 ++ leBytes 4 0 ++ leBytes 64 0); heard.abagerCheck m 84 true = none ∧ bodyNum m 14 2 = 64)
    ∧ (let m := abager (leBytes 2 0x35 ++ leBytes 2 2 ++ leBytes 4 7);
      heard.abagerCheck m 8 true = none ∧ implemented (bodyNum m 0 2) = true ∧ heard.bd.powered (bodyNum m 0 2) = true ∧ bodyNum m 0 2 ∉ heard.bd.resetting)
    ∧ (heard.abagerCheck (abager (leBytes 1632 1)) 1632 true = none ∧ heard.bd.keyShut = false ∧ heard.bd.on pKEY F.KEY_STAT.BUSY = false)
    ∧ heard.abagerCheck (abager (leBytes 4 1)) 4 true = none
    ∧ (let s := heard.on (fun b => b.put pRTM F.RTM_CFG.SOURCE 1); s.abagerCheck (abager (leBytes 8 1000)) 8 true = none ∧ s.bd.ringTime = false)
    ∧ (let m := abager (leBytes 4 0 ++ leBytes 2 64 ++ [0, 0] ++ leBytes 64 0); bodyNum m 4 2 = 64 ∧ heard.abagerCheck m (8 + 64) true = none ∧ heard.bd.powered pSEC = true)
    ∧ (heard.bd.on pSEC F.SEC_STAT.RT_VERIFIED = false ∧ heard.bd.on pSEC F.SEC_ACT.BUSY = false)
    ∧ heard.bd.manages = false ∧ (st managed).bd.manages = true := by
  decide +kernel

theorem witness_FmAdd :
    (let p : Placement := ⟨0, 0, 0, 0, 0, 1, 3, false, 0, 0, 0, [(0, 0, 0)]⟩;
      let s := { st managed with shelf := { State.reset.shelf with health := [(0, ⟨[0, 0, 0, 100, 5], 0, false⟩)] } };
      (placementGrant p s.shelf.nextSxn).span ≠ 0 ∧ s.shelf.nextSxn < 2 ^ 21
        ∧ (∀ o ∈ (placementGrant p s.shelf.nextSxn).owners, s.grantable o.1 (placementGrant p s.shelf.nextSxn).span = true) ∧ s.bd.deputyId = none) := by
  decide +kernel

/-- An image header of a type with no rollback value. -/
def image (typ : Nat) : Nat := 0x5746574A + 2 ^ 32 + typ * 2 ^ 40 + 4096 * 2 ^ 128

theorem witness_IslandGuardsThePart :
    (let s := st [];
      s.bd.powered pSEC = true ∧ s.bd.on pSEC F.SEC_STAT.PUF_OK = false ∧ s.bd.on pSEC F.SEC_CAUSE.PUF_FAIL = false)
    ∧ (let s0 := st [];
      let k := s0.bd.get pSEC F.SEC_BOOT.NEXT;
      let s := { s0 with seq := { s0.seq with stage := 1 }, sec := { s0.sec with images := smSet (fun _ => 0) k (image 2) [(3, image 1), (4, image 1)] } };
      s.seq.stage ≠ 0 ∧ s.bd.on pSEC F.SEC_STAT.RT_VERIFIED = false ∧ s.bd.on pSEC F.SEC_CAUSE.FW_INVALID = false
        ∧ s.verifyImage (s.sec.image 3) 1 true true = .ok ∧ s.verifyImage (s.sec.image 4) 1 true true = .ok ∧ s.verifyImage (s.sec.image k) 2 true true = .ok
        ∧ (∀ k ∈ List.range 4, (s.pst.counter k).isSome = true))
    ∧ ((st []).bd.gate .mgmt pSEC 0x070 false false = none ∧ (st [(pSEC, F.SEC_STAT.OPR_SET, 1)]).bd.on pSEC F.SEC_STAT.OPR_SET = true
      ∧ (st []).bd.on pSEC F.SEC_STAT.OPR_SET = false)
    ∧ ((st [(pSEC, F.SEC_CFG.DEBUG_EN, 1)]).bd.on pSEC F.SEC_CFG.DEBUG_EN = true ∧ (st []).responding = false ∧ (st []).sec.nonce ≠ some 1)
    ∧ ((st []).sec.tamperLow = false ∧ 0x99 ∉ spdmCodes)
    ∧ (let s := st [(pSEC, F.SEC_STAT.PUF_OK, 1), (pSEC, F.SEC_CFG.MUTUAL, 0), (pSEQ0, F.SEQ_STAT.STATE, 12), (pMGT, F.MGT_STAT.EID_VALID, 1), (pHPT 3, F.HPT_LINK_STAT.UP, 1),
        (pHPT 3, F.UNIT_STATE.STATE, stSERVICE)];
      s.bd.spdmHears none = true ∧ s.bd.spdmHears (some 3) = true ∧ s.spdmShut 0xEC = false ∧ s.spdmShut 0xE0 = false ∧ s.spdmShut 0xE4 = false ∧ s.keys.rbgBad = false ∧ s.bd.on pSEC F.SEC_CFG.MUTUAL = false ∧ s.sec.sessions = []) := by
  decide +kernel

theorem witness_ParameterStoreKeeps :
    ((st []).bd.gate .mgmt pPST 0x048 true false = none ∧ (st []).bd.on pPST F.PST_ACC_STAT.BUSY = false ∧ (st []).pstRunning = false)
    ∧ ((st [(pPST, F.UNIT_STATE.STATE, stTEST)]).bd.unit pPST = stTEST ∧ (st []).bd.protects 2047 = false)
    ∧ (st []).bd.unit pPST ≠ stTEST
    ∧ ((st []).bd.gate .mgmt pPST 0x050 true false = none ∧ (st []).bd.on pPST F.PST_CTR_STAT.BUSY = false ∧ (st []).pst.counter 8 = some 0)
    ∧ ((st [(pPST, F.PST_CTR_DELTA.DELTA, 3)]).bd.get pPST F.PST_CTR_DELTA.DELTA = 3 ∧ ((st []).pst.increment 8 3).2.2 ≠ [])
    ∧ (let s0 := st [(pPST, F.PST_STAT.WRITING, 1)];
      let j : PstJob := ⟨2, 0, [(2176, 1)], .raw⟩;
      let k : PstJob := ⟨2, 6, [(5, 1), (1029, 1)], .store⟩;
      let s := { s0 with pst := { s0.pst with queue := [j, k] } };
      let t := { s0 with pst := { s0.pst with queue := [k] } };
      s.pstRunning = true ∧ s.pst.queue = j :: [k] ∧ j.writes = [(2176, 1)] ∧ t.pstRunning = true ∧ t.pst.queue = k :: [] ∧ k.writes = (5, 1) :: (1029, 1) :: []) := by
  decide +kernel

/-! ### Witnesses: copy engines, queues and counters -/

theorem witness_CopyChannelsAreCommanded :
    ((st []).bd.gate .mgmt (chanPage 31) (chanCtl 31) false false = none ∧ (st []).bd.armed 31 = false ∧ (st []).bd.chanState 31 = 0)
    ∧ (let s := st [(chanPage 31, chanStat 31 F.CPD_STAT.SHADOW_ARMED, 1), (chanPage 31, chanStat 31 F.CPD_STAT.STATE, 1)]; s.bd.armed 31 = true ∧ s.bd.chanState 31 = 1)
    ∧ (let s := st [(chanPage 31, chanStat 31 F.CPD_STAT.STATE, 2)];
      s.bd.chanState 31 = 2 ∧ s.bd.get (chanPage 31) (chanStat 31 F.CPD_STAT.CAUSE) ≠ 5 ∧ (s.bd.desc 31).record = false)
    ∧ ((st []).bd.gate .mgmt pCPS (chanCtl (32 + 7)) false false = none ∧ (st []).bd.chanState (32 + 7) ≠ 1)
    ∧ (let a : Answer := ⟨oidOf 0 1 31, 1, 0, 0⟩; [a].find? (fun a => decide (chanOf a.oid = some 31)) = some a) := by
  decide +kernel

theorem witness_QueuesCountersAndVoter :
    (let b := ((st []).on (fun b => { b with queues := [(3, { (b.queue 3) with cfg := BitVec.ofNat 32 (1 + 512 * 2 ^ 16) })] })).bd;
      b.gate .mgmt pEVQ 0x058 false false = none ∧ (b.port .mgmt).isOpen = false ∧ ceilDiv (60 + 4) 64 ≤ (b.queue 3).maxCells ∧ (b.queue 3).en = true ∧ b.cellFree 3 = true)
    ∧ (let b := ((st []).on (fun b => { b with pushMgmt := { PushPort.empty with isOpen := true, len := 60, queue := 3 } })).bd;
      b.gate .mgmt pEVQ 0x05C false false = none ∧ (b.port .mgmt).isOpen = true ∧ (b.port .mgmt).bytes.length + 4 ≤ (b.port .mgmt).len
        ∧ ceilDiv ((b.port .mgmt).bytes.length + 8) 64 ≤ ceilDiv ((b.port .mgmt).bytes.length + 4) 64 ∧ wordBits (b.port .mgmt).ctl 16 1 = 0)
    ∧ ((st []).bd.gate .mgmt pEVQ 0x050 false false = none ∧ ((st []).bd.queue 0).head = none)
    ∧ (let b := ((st []).on (fun b => { b with queues := [(0, { (b.queue 0) with pkts := [⟨0, 60, false, [], 1, true, false, 0⟩] })] })).bd; (b.queue 0).head.isSome = true)
    ∧ (let s := { st [] with traffic := { State.reset.traffic with low := [(0, 1, [])] } };
      (s.traffic.low.filter (fun l => decide (masterOf l.1 = 0) && decide (1 ∉ l.2.2)))[0]? = some (0, 1, []))
    ∧ ((st []).bd.snap = none ∧ (st []).bd.pmcDue = [] ∧ (st []).bd.clockPages = [] ∧ (st []).bd.on pPMC F.PMC_CTL.CLEAR_ON_SNAP = false
      ∧ (st []).bd.gate .mgmt pPMC 0x040 false false = none ∧ (st [(pPMC, F.PMC_PERIOD.AUTO, 1)]).bd.on pPMC F.PMC_PERIOD.AUTO = true)
    ∧ ((st []).bd.on pTRV F.TRV_FLIP_CTL.ARM = false ∧ (st []).bd.gate .mgmt pTRV 0x058 false false = none ∧ (st []).bd.unit pTRV ≠ stTEST)
    ∧ (let s := st [(pTRV, F.UNIT_STATE.STATE, stTEST), (pTRV, F.TRV_FLIP_MASK.MASK, 1)]; s.bd.unit pTRV = stTEST ∧ s.bd.get pTRV F.TRV_FLIP_MASK.MASK ≠ 0) := by
  decide +kernel
/-! ### Worked examples of the spec -/

/-- A 16-part shelf seen from part 5, with the window and the extent of the example of chapter 2. -/
def example5 : State :=
  let s := st (served [pXTN] ++ [(pXTN, F.XTN_SELF.SHELF_ID, 5), (pSHM, F.SHM_MEMBERS.PARTS, 0xFFFF), (pXTN, F.WIN_CTL.COMMITTED.ix 26, 1), (pXTN, F.WIN_CTL.TYPE.ix 26, 1),
    (pXTN, F.WIN_BASE_HI.BASE_HI.ix 26, 0x40), (pXTN, F.WIN_SIZE.SIZE.ix 26, 256), (pXTN, F.WIN_CTL.KEY.ix 26, 0x2A7)]);
  { s with xtn := { s.xtn with
      hxt := [(17, { st := 2, head := 3, region := 1, unit := 40, width := 3, mirror := false, perm := 3, forced := false, xmbBase := 100, sxn := 5000, length := 4 })],
      xmb := [(103, ⟨7, 1234, 0⟩)], dpaBase := [(26, 2 * 2 ^ 49)] } }

/-- Example of chapter 2: the read at HPA 0x0000_0042_9A12_3480 through head 3 goes to part 7, line 5,177,479,698, 2 hops EAST. -/
theorem test_decode_example :
    example5.decode 3 0x429A123480 false none = .route 7 5177479698 0x2A7 5000 17 none ∧ example5.bd.hopsEast 7 = 2 ∧ example5.bd.linkTo 7 = 0 := by
  decide +kernel

/-- Example of chapter 2, second half: once HXT entry 17 is RELEASING by force, a write fails with NO_EXTENT. -/
theorem test_decode_forced :
    ({ example5 with xtn := { example5.xtn with hxt := [(17, { (example5.hxt 17) with st := 3, forced := true })] } }).decode 3 0x429A123480 true none = .fail 2 (some 2) := by
  decide +kernel

/-- Example of chapter 6: map entry, patch-index hash, bucket, remainder and slot of the patched line. -/
theorem test_map_and_slot_words :
    (⟨0x723E8802, 3098, true, false, false, false, 0, 2, false⟩ : MapEntry).word = 0x81000C1A723E8802
    ∧ ptxHash 5177479698 = 40502260658 ∧ ptxBucket 5177479698 = 19776494 ∧ ptxRem 5177479698 = 946 ∧ ptxBucket 5177479698 / 64 = 309007
    ∧ (⟨false, 0, 946, false, 0xA50E12BC, 33, 5⟩ : Slot).word = 0x0161A50E12BC3B21 := by
  decide +kernel

/-- Example of chapter 5: die, channel, field and page of PPA 0x723E_8802. -/
theorem test_ppa_fields : ppaDie 0x723E8802 = 3 ∧ ppaChan 0x723E8802 = 9 ∧ ppaF 0x723E8802 = 1000 ∧ ppaPage 0x723E8802 = 2050 ∧ ppaPart 0x723E8802 = 8
    ∧ ppaField 0x723E8205 = 467944 ∧ ppaBand 0x723E8205 = 25576 := by decide +kernel

/-- Example of chapter 4: set of the page, and the dirty limit with a hold-up of 5,000 us declared. -/
theorem test_set_and_limit : setOf 80898120 = 0x12686E
    ∧ (let b := (st [(pPDR, F.PDR_CFG.DECLARED, 1), (pPDR, F.PDR_HOLDUP_US.US, 5000)]).bd; min (b.get pPDR F.PDR_HOLDUP_US.US * 40000 * 8 / 640) (2 ^ 32) = 2500000) := by
  decide +kernel

/-- MCH5 as the example of chapter 0 finds it at its step 3: CONTAINED with EPOCH 8 and a cause open. -/
def mch5 : State := st [(0x35, F.UNIT_STATE.STATE, 4), (0x35, F.UNIT_STATE.CAUSE_OPEN, 1), (0x35, F.UNIT_STATE.EPOCH, 8), (0x35, F.MCH_CAUSE.CHAN_FAULT, 1)]

/-- Example of chapter 0, step 3: UNIT_CMD 0x0007_0002 is stale and reads 0x0007_1102. -/
theorem test_unit_cmd_example : (mch5.bd.unitCmd 0x35 2 7).rd 0x35 0x00C = 0x00071102 := by decide +kernel

/-- Example of chapter 21: the write through head 3 leaves PAGE_REJECT of HPT5 at 0x0020_0014. -/
theorem test_page_reject_example : ((st []).writeWord (.host 3) false 0x15 0x200 4).bd.rd 0x15 0x034 = 0x00200014 := by decide +kernel

/-- Example of chapter 21: the write through head 5 to page 0x05A is counted, and captured with DETAIL 0b1_0101. -/
theorem test_unmapped_example :
    (let b := ((st []).unmapped (.host 5) true 0x5A000 4).bd; b.get pDEV F.DEV_UNMAPPED.COUNT = 1 ∧ b.get pDEV F.ERR_INFO0.DETAIL = 0b10101 ∧ b.rd pDEV 0x024 = 0x5A000) := by
  decide +kernel

/-- Example of chapter 9: the words of the loss record. -/
theorem test_loss_words :
    (⟨0x4123456000, 4, 2, 0x1C4, 12, 0, 0x205, 0, true, 0⟩ : Loss).words = [0x23456000, 0x41, 0x0C1C4404, 0x00080205] := by decide +kernel

/-- Example of chapter 12: in HOLDOVER a slot has 88 units, and the limiter is holdover. -/
theorem test_holdover_budget :
    (let b := ((st [(pRTM, F.RTM_STAT.TICK, 2), (pRTM, F.RTM_SLOT_CFG.UNITS, 176), (pWGV, F.WGV_CEIL.PCT, 100)]).bd).budgets; b.get pRTM F.RTM_BUDGET.B = 88 ∧ b.get pRTM F.RTM_BUDGET.LIMITER = 1) := by
  decide +kernel

/-- Example of chapter 19: at throttle level 1 a slot has 88 units. -/
theorem test_throttle_budget :
    (let b := ((st [(pRTM, F.RTM_STAT.TICK, 1), (pTHM, F.THM_STAT.LEVEL, 1), (pRTM, F.RTM_SLOT_CFG.UNITS, 176)]).bd).budgets; b.get pRTM F.RTM_BUDGET.B = 88) := by
  decide +kernel

/-- Example of chapter 15: the body of REG_READ names 0x0003_5008, one word; UNIT_STATE then answers with its four bytes. -/
theorem test_reg_read_example :
    bodyNum (abager [0x08, 0x50, 0x03, 0x00, 0x01, 0x00, 0x00, 0x00]) 0 4 = 0x35008
    ∧ (let s := st [(0x35, F.UNIT_STATE.STATE, 4), (0x35, F.UNIT_STATE.EPOCH, 7)]; (s.readRange 0x35008 1).1 = [0x04, 0x00, 0x07, 0x00]) := by
  decide +kernel

/-- Example of chapter 15, step 5: the body that answers the stale UNIT_CMD. -/
theorem test_unit_cmd_message : mch5.bd.unitBytes 0x35 = [0x35, 0x00, 0x04, 0x01, 0x08, 0x00, 0x00, 0x00] := by decide +kernel

/-- Example of chapter 17: the carry of counter 9 writes the high cell with VALUE 2 and STAMP 7 first, and the low cell after it. -/
theorem test_counter_carry :
    (let t := { (st []).pst with pages := [(2048 + 18, cellValue 9 0 0xFFFFFFFF 6), (2048 + 19, cellValue 9 1 1 6)] };
      t.counter 9 = some 0x1FFFFFFFF ∧ t.increment 9 1 = (0x200000000, .ok, [(2048 + 19, cellValue 9 1 2 7), (2048 + 18, cellValue 9 0 0 7)])) := by
  decide +kernel

/-- Example of chapter 18: a copy record is 60 B, so its length word is 0x0100_003C. -/
theorem test_copy_record : ((st []).bd.copyRecord 5).length = 60 ∧ (⟨1, 60, false, [], 1, true, false, 0⟩ : Pkt).lengthWord = 0x0100003C := by decide +kernel

/-- Examples of chapters 5 and 7: the parity channel of band (3, 1,000) is 11 and channel 9 is its data position 13; of band (4, 5,100) it is 0, and channel 6 is position 5. -/
theorem test_parity_channel :
    (let o := (((st []).band 0).order (3 * 8192 + 1000)); o.head? = some 11 ∧ (o.drop 1)[13]? = some 9)
    ∧ (let o := (((st []).band 0).order (4 * 8192 + 5100)); o.head? = some 0 ∧ (o.drop 1)[5]? = some 6) := by
  decide +kernel

/-! ### Single steps -/

/-- A command's next state, or the state itself. -/
def next (c : Instr) (s : State) : State := match exec c s with | .next t => t | _ => s

/-- R20: EVT_FORCE sets the status bit that it names. -/
theorem test_force_sets_status : ((next (.evtForce .mgmt 0 1) (st [])).bd.rd pDEV 0x010) = 1 := by decide +kernel

/-- R21: a locked page stays locked when 0 is written. -/
theorem test_lock_holds : (next (.registerWrite .mgmt (BitVec.ofNat 21 (pLOOP * 4096 + F.PAGE_LOCK.LOCK.off)) 4 0) (next (.pageLockSet .mgmt ⟨pLOOP, by decide⟩) (st []))).bd.on pLOOP F.PAGE_LOCK.LOCK = true := by
  decide +kernel

/-- R90: the host path cannot change HPT_PORT_CFG. -/
theorem test_host_port_cfg : (next (.hptPortCfgWrite (.host 0) 0 0xF) (st [])).bd.rd (pHPT 0) 0x034 = 0x00040014 := by decide +kernel

/-- R83: a mailbox command other than the four of R83 is refused while the head is CONTAINED, with return code Media Disabled. -/
theorem test_mailbox_contained :
    (next (.getTimestamp 0 0) (st (headUp ++ [(pHPT 0, F.UNIT_STATE.STATE, stCONTAINED)]))).bd.get (pHPT 0) F.HPT_MBX_LAST.RETURN = rcMediaDisabled := by decide +kernel

/-! ### Ill-formed commands -/

theorem test_wf_media_read : (Instr.mediaReadData 0 [(3, 1), (2, 1)]).wellFormed = false ∧ (Instr.mediaReadData 0 [(2, 1), (3, 1)]).wellFormed = true := by decide
theorem test_wf_mch_por : (Instr.mchPorDone 0 [] true).wellFormed = false := by decide
theorem test_wf_thermal : (Instr.thermalRound []).wellFormed = false ∧ (Instr.thermtripCheck []).wellFormed = false := by decide
theorem test_wf_policy : (Instr.setEventInterruptPolicy 0 5 [] []).wellFormed = false := by decide
theorem test_wf_clear : (Instr.clearEventRecords 0 6 0 false (List.replicate 256 0)).wellFormed = false := by decide +kernel
theorem test_wf_join : (Instr.join 0 0 1 0 0 0 (List.replicate 4081 0) true true).wellFormed = false := by decide +kernel
theorem test_wf_loss : (Instr.lossRec []).wellFormed = false ∧ (Instr.health 0 []).wellFormed = false := by decide
theorem test_wf_packet : (Instr.mctpPacket ⟨0, 0, 0, 0, true, true, true, List.replicate 1025 0, none⟩).wellFormed = false := by decide +kernel
theorem test_wf_scrub : (Instr.trvScrub (List.replicate 33 (0, 0, 1))).wellFormed = false := by decide +kernel
theorem test_wf_message : (Instr.regRead (abager (List.replicate 4193 0))).wellFormed = false := by decide +kernel

/-- No row of the table gives bits: no word spells a command. -/
theorem test_no_words : decodeTableWord 32 0 = none := by decide

end Sys2Proof.Tests
end

section
/-! What every step ends with: CAUSE_OPEN follows the causes, and the queue stays as the command found it (O1, O3, O4, O5, O6). -/

namespace Sys2Proof.Machine

/-- Both ways in which a meaning ends close the step (log entry 112). -/
theorem exec_closes (c : Instr) (s : State) : ∃ u : State, exec c s = .next { u.closing with pending := s.pending } := by
  cases c <;> exact ⟨_, rfl⟩

theorem step_front {c : Instr} {rest : List Instr} {s : State} (h : s.pending = c :: rest) : step s = exec c { s with pending := rest } := by
  unfold step
  rw [h]

theorem step_empty {s : State} (h : s.pending = []) : step s = s.run State.tick := by
  unfold step
  rw [h]

/-- Whatever a step answers has a closed board. -/
theorem step_closes {s s' : State} (h : step s = .next s') : ∃ b : Board, s'.bd = b.closing := by
  cases hp : s.pending with
  | nil =>
    rw [step_empty hp] at h
    injection h with h
    exact ⟨_, by rw [← h]; rfl⟩
  | cons c rest =>
    obtain ⟨u, hu⟩ := exec_closes c { s with pending := rest }
    rw [step_front hp, hu] at h
    injection h with h
    exact ⟨u.bd, by rw [← h]; rfl⟩

/-- Once the causes of a page have been followed, its CAUSE_OPEN keeps showing them while those of other pages are followed. -/
theorem Board.foldl_followCauses_shows {page : Nat} (l : List Nat) : ∀ b : Board,
    page ∈ l ∨ b.get page F.UNIT_STATE.CAUSE_OPEN = (if b.openCauses page = 0 then 0 else 1) →
    (l.foldl Board.followCauses b).get page F.UNIT_STATE.CAUSE_OPEN = if b.openCauses page = 0 then 0 else 1 := by
  induction l with
  | nil => intro b h; simpa using h
  | cons q l ih =>
    intro b h
    have hc := (b.followCauses_frame q).openCauses page
    rw [List.foldl_cons, ih, hc]
    rw [hc]
    by_cases hq : page = q
    · subst hq
      exact .inr (b.followCauses_shows page)
    · rw [Board.followCauses_other b hq]
      simpa [hq] using h

/-- R16, R24: a closed board shows the open causes of every powered unit that is not OFF. -/
theorem Board.closing_causesShown (b : Board) : b.closing.CausesShown := by
  intro page hp ha
  have hf := b.closing_frame
  have hact : b.active page = true := by simpa only [Board.active, hf.powered page, hf.unit page] using ha
  have hshow : b.closing.get page F.UNIT_STATE.CAUSE_OPEN = if b.openCauses page = 0 then 0 else 1 :=
    Board.foldl_followCauses_shows _ b (.inl (List.mem_filter.2 ⟨hp, hact⟩))
  rw [hf.openCauses page]
  unfold Board.on
  rw [hshow]
  by_cases h : b.openCauses page = 0 <;> simp [h]

end Sys2Proof.Machine

open Sys2Proof Sys2Proof.Machine

/-- Settles O1. -/
theorem stepRunsFrontCommand : Obligations.StepRunsFrontCommand := fun _ _ _ h => step_front h

/-- Settles O3: the queue of the closing's state is put back to what the command found. -/
theorem everyCommandAnswersNext : Obligations.EveryCommandAnswersNext := by
  intro c s
  obtain ⟨u, hu⟩ := exec_closes c s
  exact ⟨_, hu, rfl⟩

/-- Settles O4: every step ends with the closing, and a closed board shows its causes. -/
theorem stepShowsOpenCauses : Obligations.StepShowsOpenCauses := by
  intro s s' h
  obtain ⟨b, hb⟩ := step_closes h
  rw [hb]
  exact b.closing_causesShown

/-- Settles O5: no page has an open cause in the register file after reset. -/
theorem resetShowsOpenCauses : Obligations.ResetShowsOpenCauses := by
  unfold Obligations.ResetShowsOpenCauses Board.CausesShown Board.RegsCanonical
  decide +kernel

/-- Settles O6. -/
theorem closingOnlyFollowsCauses : Obligations.ClosingOnlyFollowsCauses := fun s => ⟨s.bd.closing_frame, rfl⟩

end

section
/-! Writes of the registers of every page's header (O7, O8, O9): what the write of one register changes, and that it changes no other. -/

namespace Sys2Proof.Machine

/-! ### How a command comes to its end -/

theorem Runs.of_run {c : Instr} {s u : State} {f : State → State} (h : exec c s = s.run f) (hu : f s = u) : Runs c s u := by
  subst hu
  exact h

theorem Ends.of_quick {c : Instr} {s u : State} {f : State → State} (h : exec c s = s.quick f) (hu : f s = u) : Ends c s u := by
  subst hu
  exact h

/-! ### The meanings of the event commands (R18 to R20) -/

theorem exec_evtEnableWrite (p : Path) (page : Fin 512) (w : Word) (s : State) :
    exec (.evtEnableWrite p page w) s = s.quick (fun s => s.writeAccess p false (page.val * 4096 + 0x014) 4 w.toNat) := rfl

theorem exec_evtForce (p : Path) (page : Fin 512) (w : Word) (s : State) :
    exec (.evtForce p page w) s = s.quick (fun s => s.writeAccess p false (page.val * 4096 + 0x018) 4 w.toNat) := rfl

theorem exec_evtStatusClear (p : Path) (page : Fin 512) (w : Word) (s : State) :
    exec (.evtStatusClear p page w) s = s.quick (fun s => s.writeAccess p false (page.val * 4096 + 0x010) 4 w.toNat) := rfl

/-! ### Registers that stay -/

theorem Board.Only.refl (b : Board) (ks : List (Nat × Nat)) : b.Only b ks := fun _ _ _ _ => rfl

theorem Board.Only.wr {b c : Board} {ks : List (Nat × Nat)} (h : b.Only c ks) {p o : Nat} (w : Word) (ho : o < 4096) (hk : (p, o / 4) ∈ ks) :
    b.Only (c.wr p o w) ks := by
  intro q off hoff hn
  rw [Board.rd_wr_key, h q off hoff hn]
  intro e
  obtain ⟨rfl, e2⟩ := (regKey_eq_iff ho hoff).1 e
  exact hn (e2 ▸ hk)

theorem Board.Only.put {b c : Board} {ks : List (Nat × Nat)} (h : b.Only c ks) {p : Nat} {f : Fld} (v : Nat) (ho : f.off < 4096)
    (hk : (p, f.off / 4) ∈ ks) : b.Only (c.put p f v) ks := h.wr _ ho hk

theorem Board.on_iff {b : Board} {page : Nat} {f : Fld} : b.on page f = true ↔ b.get page f = 1 := by simp [Board.on]

/-- A field reads the same on boards whose registers of its word are the same. -/
theorem Board.get_congr {b c : Board} {page : Nat} {f : Fld} (h : c.rd page f.off = b.rd page f.off) : c.get page f = b.get page f := by
  simp only [Board.get, h]

theorem Board.on_congr {b c : Board} {page : Nat} {f : Fld} (h : c.rd page f.off = b.rd page f.off) : c.on page f = b.on page f := by
  simp only [Board.on, Board.get_congr h]

/-! ### Writes of the header -/

/-- A write of a header register that has rows, and breaks no rule, has its effect. -/
theorem State.writeAccess_header {s : State} {p : Path} {page off : Nat} {w : Word} (hp : s.bd.Takes p page off w) (ho : off < 0x040) (h4 : off % 4 = 0)
    (hc : off ≠ 0x00C) (hr : rowsHeader.filter (rowAt · off) ≠ []) : s.writeAccess p false (page * 4096 + off) 4 w.toNat = s.writeEffect p false page off w := by
  have hw : BitVec.ofNat 32 w.toNat = w := by simp
  rw [State.writeAccess_takes (by rwa [hw]) (by omega) h4 hc (by rwa [rowsAt_header hp.1.1 ho]), hw]

/-- R19: EVT_ENABLE takes the implemented bits of what is written, and only a notice may follow. -/
theorem Board.enableEvents_frame (b : Board) (page : Nat) (w : Word) : (b.wr page 0x014 (w &&& evtMask page)).EventFrame (b.enableEvents page w) := by
  unfold Board.enableEvents
  dsimp only
  split
  · exact Board.run_frame _ _ _ (Act.ok_one (a := .notice _ _) trivial)
  · exact .refl _

theorem eventReg_enable (page : Nat) : eventReg page 0x014 = false := by simp [eventReg]

/-- R20: EVT_FORCE sets the implemented status bits that it names. -/
theorem Board.forceEvents_status (b : Board) (page : Nat) (w : Word) {n : Nat} (hn : n < 32) (h : (w &&& evtMask page).getLsbD n = true) :
    ((b.forceEvents page w).rd page 0x010).getLsbD n = true := by
  have hmem : n ∈ bitList (w &&& evtMask page).toNat 32 := by
    refine List.mem_filter.2 ⟨List.mem_range.2 hn, ?_⟩
    have ht : (w &&& evtMask page).toNat.testBit n = true := h
    simpa [nbit, Nat.testBit_eq_decide_div_mod_eq, Nat.shiftRight_eq_div_pow] using ht
  exact b.raises_status page _ ⟨n, 0, 0, 0, 0, 0, true⟩ (List.mem_map.2 ⟨n, hmem, rfl⟩) hn

theorem mem_nsErase {k j : Nat} {m : List Nat} : j ∈ nsErase k m ↔ j ∈ m ∧ j ≠ k := by simp [nsErase]

/-- R18: the status bits that an EVT_STATUS write leaves. -/
theorem Board.clearEvents_status (b : Board) (page : Nat) (w : Word) : (b.clearEvents page w).rd page 0x010 = b.rd page 0x010 &&& ~~~w := by
  unfold Board.clearEvents
  dsimp only
  split
  · have hk : ∀ o, o < 4096 → o / 4 ≠ 4 → regKey page 0x010 ≠ regKey page o := fun o ho hne e =>
      hne ((regKey_eq_iff ho (by decide)).1 e).2.symm
    rw [Board.rd_held, Board.rd_wr_key (hk _ (by decide) (by decide)), Board.rd_wr_key (hk _ (by decide) (by decide)),
      Board.rd_wr_key (hk _ (by decide) (by decide)), Board.rd_wr_key (hk _ (by decide) (by decide)), Board.rd_wr_self]
  · exact Board.rd_wr_self _ _ _ _

theorem Board.clearEvents_only (b : Board) (page : Nat) (w : Word) :
    b.Only (b.clearEvents page w) [(page, 4), (page, 8), (page, 9), (page, 10), (page, 11)] := by
  have h0 := (Board.Only.refl b [(page, 4), (page, 8), (page, 9), (page, 10), (page, 11)]).wr (p := page) (o := 0x010) (b.rd page 0x010 &&& ~~~w) (by decide) (by simp)
  unfold Board.clearEvents
  dsimp only
  split
  · exact (((h0.wr (o := 0x020) 0 (by decide) (by simp)).wr (o := 0x024) 0 (by decide) (by simp)).wr (o := 0x028) 0 (by decide) (by simp)).wr (o := 0x02C) 0
      (by decide) (by simp)
  · exact h0

/-- R18: a capture that stays is of an event whose status bit has not been cleared. -/
theorem Board.clearEvents_held (b : Board) (page : Nat) (w : Word) (h : page ∈ (b.clearEvents page w).held) :
    wordBits w (b.get page F.ERR_INFO0.EVENT) 1 = 0 := by
  have hget : (b.wr page 0x010 (b.rd page 0x010 &&& ~~~w)).get page F.ERR_INFO0.EVENT = b.get page F.ERR_INFO0.EVENT :=
    Board.get_congr (Board.rd_wr_off (by decide) (by decide) (by decide))
  unfold Board.clearEvents at h
  dsimp only at h
  rw [hget] at h
  split at h
  · exact absurd rfl (mem_nsErase.1 h).2
  · rename_i hn
    have hlt : wordBits w (b.get page F.ERR_INFO0.EVENT) 1 < 2 := wordBits_lt _ _ _
    have : wordBits w (b.get page F.ERR_INFO0.EVENT) 1 ≠ 1 := fun e => hn ⟨h, e⟩
    omega

end Sys2Proof.Machine

open Sys2Proof Sys2Proof.Machine

/-- Settles O7: each write is the effect of its register, and the rest is the frame of the event work that follows. -/
theorem eventRegistersTakeWrites : Obligations.EventRegistersTakeWrites := by
  intro s p page w
  refine ⟨fun h => ⟨s.on (·.enableEvents page.val w), ?_, rfl, ?_, Board.enableEvents_frame _ _ _⟩,
    fun h => ⟨s.on (·.forceEvents page.val w), ?_, rfl, Board.raises_frame _ _ _, fun n hn hb => Board.forceEvents_status _ _ _ hn hb⟩,
    fun h => ⟨s.on (·.clearEvents page.val w), ?_, rfl, Board.clearEvents_status _ _ _, Board.clearEvents_only _ _ _, Board.clearEvents_held _ _ _⟩⟩
  · exact Ends.of_quick (exec_evtEnableWrite _ _ _ _) (State.writeAccess_header h (by decide) (by decide) (by decide) (by decide))
  · rw [State.on_bd, (Board.enableEvents_frame _ _ _).regs _ _ (by decide) (eventReg_enable _), Board.rd_wr_self]
  · exact Ends.of_quick (exec_evtForce _ _ _ _) (State.writeAccess_header h (by decide) (by decide) (by decide) (by decide))
  · exact Ends.of_quick (exec_evtStatusClear _ _ _ _) (State.writeAccess_header h (by decide) (by decide) (by decide) (by decide))

end

section
/-! Locks (O8) and UNIT_CMD writes (O9). -/

namespace Sys2Proof.Machine

/-! ### Locks (R21, R493) -/

theorem exec_pageLockSet (p : Path) (page : Fin 512) (s : State) :
    exec (.pageLockSet p page) s = s.quick (fun s => s.writeAccess p false (page.val * 4096 + F.PAGE_LOCK.LOCK.off) 4 1) := rfl

theorem exec_lockAll (p : Path) (s : State) :
    exec (.lockAll p) s = s.quick (fun s => s.writeAccess p false (pDEV * 4096 + F.DEV_CTL.LOCK_ALL.off) 4 1) := rfl

/-- CONFIG keeps no field of PAGE_LOCK. -/
theorem State.plainWrite_lock (s : State) (page : Nat) (w : Word) :
    s.plainWrite page F.PAGE_LOCK.LOCK.off w = s.on (fun b => b.wr page F.PAGE_LOCK.LOCK.off (b.written page F.PAGE_LOCK.LOCK.off w)) := by
  have h : configFields.any (fun e => decide (e.1 = page) && decide (e.2.off = F.PAGE_LOCK.LOCK.off)) = false := by
    rw [List.any_eq_false]
    intro e he
    have : ∀ e ∈ configFields, e.2.off ≠ F.PAGE_LOCK.LOCK.off := by decide
    simp [this e he]
  unfold State.plainWrite
  simp [h]

/-- PAGE_LOCK.LOCK is W1S: a 1 written sets it (R11, R21). -/
theorem Board.written_lock (b : Board) {page : Nat} (hi : implemented page = true) :
    b.written page F.PAGE_LOCK.LOCK.off 1 = wordSet (b.rd page F.PAGE_LOCK.LOCK.off) 0 1 (Nat.lor (wordBits (b.rd page F.PAGE_LOCK.LOCK.off) 0 1) 1) := by
  have hrows : rowsHeader.filter (rowAt · F.PAGE_LOCK.LOCK.off) = [⟨F.PAGE_LOCK.LOCK, 1, .w1s, 0, .warm, .any⟩] := by decide
  unfold Board.written
  rw [rowsAt_header hi (by decide), hrows]
  rfl

theorem rowsAt_lockAll : rowsAt pDEV F.DEV_CTL.LOCK_ALL.off ≠ [] := by decide +kernel

theorem Board.foldl_lock_on {q : Nat} (l : List Nat) : ∀ b : Board, q ∈ l ∨ b.on q F.PAGE_LOCK.LOCK = true →
    (l.foldl (fun b p => b.put p F.PAGE_LOCK.LOCK 1) b).on q F.PAGE_LOCK.LOCK = true := by
  induction l with
  | nil => intro b h; simpa using h
  | cons p l ih =>
    intro b h
    refine ih _ ?_
    by_cases hq : q = p
    · subst hq
      exact .inr (Board.on_iff.2 (Board.get_put_self _ _ _ _ (by decide)))
    · rw [Board.on_iff, Board.get_put_page _ _ (by decide) (by decide) hq, ← Board.on_iff]
      simpa [hq] using h

theorem Board.foldl_lock_rd {q off : Nat} (ho : off < 4096) (h : off / 4 ≠ F.PAGE_LOCK.LOCK.off / 4) (l : List Nat) :
    ∀ b : Board, (l.foldl (fun b p => b.put p F.PAGE_LOCK.LOCK 1) b).rd q off = b.rd q off := by
  induction l with
  | nil => exact fun _ => rfl
  | cons p l ih =>
    intro b
    rw [List.foldl_cons, ih]
    exact Board.rd_wr_off (by decide) ho h

theorem Board.lockAll_locks (b : Board) {q : Nat} (hq : q ∈ allPages) (hw : b.powered q = true) : b.lockAll.on q F.PAGE_LOCK.LOCK = true := by
  unfold Board.lockAll
  exact Board.foldl_lock_on _ _ (.inl (List.mem_filter.2 ⟨hq, hw⟩))

theorem Board.lockAll_rd (b : Board) {q off : Nat} (ho : off < 4096) (h : off / 4 ≠ F.PAGE_LOCK.LOCK.off / 4) : b.lockAll.rd q off = b.rd q off := by
  unfold Board.lockAll
  exact Board.foldl_lock_rd ho h _ _

/-! ### Unit state requests (R22) -/

theorem exec_unitCmd_write (p : Path) (page : Fin 512) (target : Fin 16) (epoch : BitVec 16) (s : State) :
    exec (.unitCmd (.write p page target epoch)) s
      = s.quick (fun s => s.writeAccess p false (page.val * 4096 + 0x00C) 4 (target.val + epoch.toNat * 2 ^ 16)) := rfl

/-- The board with a request and its answer shown. -/
def Board.asked (b : Board) (page target epoch : Nat) (c : Code) : Board :=
  ((b.put page F.UNIT_CMD.TARGET target).put page F.UNIT_CMD.EXP_EPOCH epoch).put page F.UNIT_CMD.RESULT c.num

/-- The board with a request pending. -/
def Board.pend (b : Board) (page target : Nat) : Board := { b.put page F.UNIT_CMD.PENDING 1 with cmds := smPut page target b.cmds }

theorem Code.num_lt (c : Code) : c.num < 2 ^ 8 := by cases c <;> decide

section
variable (b : Board) (page target epoch : Nat) (c : Code)

theorem Board.asked_only : b.Only (b.asked page target epoch c) [(page, 3)] :=
  (((Board.Only.refl b _).put _ (by decide) (by simp)).put _ (by decide) (by simp)).put _ (by decide) (by simp)

theorem Board.asked_target (h : target < 16) : (b.asked page target epoch c).get page F.UNIT_CMD.TARGET = target := by
  unfold Board.asked
  rw [Board.get_put_apart _ _ (by decide) (by decide) (by decide) (.inr (by decide)), Board.get_put_apart _ _ (by decide) (by decide) (by decide)
    (.inr (by decide)), Board.get_put_self _ _ _ _ (by decide)]
  exact Nat.mod_eq_of_lt h

theorem Board.asked_epoch (h : epoch < 2 ^ 16) : (b.asked page target epoch c).get page F.UNIT_CMD.EXP_EPOCH = epoch := by
  unfold Board.asked
  rw [Board.get_put_apart _ _ (by decide) (by decide) (by decide) (.inr (by decide)), Board.get_put_self _ _ _ _ (by decide)]
  exact Nat.mod_eq_of_lt h

theorem Board.asked_result : (b.asked page target epoch c).get page F.UNIT_CMD.RESULT = c.num := by
  unfold Board.asked
  rw [Board.get_put_self _ _ _ _ (by decide)]
  exact Nat.mod_eq_of_lt (Code.num_lt c)

theorem Board.asked_pending : (b.asked page target epoch c).on page F.UNIT_CMD.PENDING = b.on page F.UNIT_CMD.PENDING := by
  unfold Board.asked Board.on
  rw [Board.get_put_apart _ _ (by decide) (by decide) (by decide) (.inr (by decide)), Board.get_put_apart _ _ (by decide) (by decide) (by decide)
    (.inr (by decide)), Board.get_put_apart _ _ (by decide) (by decide) (by decide) (.inr (by decide))]

theorem Board.pend_only : b.Only (b.pend page target) [(page, 3)] := (Board.Only.refl b _).put _ (by decide) (by simp)

theorem Board.pend_pending : (b.pend page target).on page F.UNIT_CMD.PENDING = true := Board.on_iff.2 (Board.get_put_self _ _ _ _ (by decide))

/-- A pending request shows the other fields of UNIT_CMD as they were. -/
theorem Board.pend_get {f : Fld} (ho : f.off = 0x00C) (hf : f.lo + f.width ≤ 7 ∨ 8 ≤ f.lo) (hw : f.lo + f.width ≤ 32) :
    (b.pend page target).get page f = b.get page f :=
  Board.get_put_apart b _ (by omega) (by decide) hw (.inr ⟨ho, hf⟩)

end

theorem Board.Only.trans {b c d : Board} {ks : List (Nat × Nat)} (h : b.Only c ks) (k : c.Only d ks) : b.Only d ks := fun p o ho hn =>
  (k p o ho hn).trans (h p o ho hn)

/-- The checks of a request read UNIT_STATE and the straps of the ports alone. -/
theorem Board.requestCheck_congr {b c : Board} {page : Nat} (target : Nat) (h : c.rd page 0x008 = b.rd page 0x008) (hs : c.splits = b.splits) :
    c.requestCheck page target = b.requestCheck page target := by
  have hu : c.unit page = b.unit page := Board.get_congr h
  have hc : c.get page F.UNIT_STATE.CAUSE_OPEN = b.get page F.UNIT_STATE.CAUSE_OPEN := Board.get_congr h
  have hst : c.states page = b.states page := by unfold Board.states; rw [hs]
  unfold Board.requestCheck
  rw [hu, hc, hst]

/-- R22: what a request comes to, in the order of its checks. -/
inductive Board.Answered (b : Board) (page target epoch : Nat) : Board → Prop
  | stale (h : epoch ≠ b.get page F.UNIT_STATE.EPOCH) : Answered b page target epoch (b.asked page target epoch .staleEpoch)
  | busy (h : epoch = b.get page F.UNIT_STATE.EPOCH) (hp : b.on page F.UNIT_CMD.PENDING = true) : Answered b page target epoch (b.asked page target epoch .busy)
  | fails (h : epoch = b.get page F.UNIT_STATE.EPOCH) (hp : b.on page F.UNIT_CMD.PENDING = false) {c : Code} (hc : b.requestCheck page target = .error c) :
      Answered b page target epoch (b.asked page target epoch c)
  | same (h : epoch = b.get page F.UNIT_STATE.EPOCH) (hp : b.on page F.UNIT_CMD.PENDING = false) (hc : b.requestCheck page target = .ok false) :
      Answered b page target epoch (b.asked page target epoch .ok)
  | accepted (h : epoch = b.get page F.UNIT_STATE.EPOCH) (hp : b.on page F.UNIT_CMD.PENDING = false) (hc : b.requestCheck page target = .ok true) :
      Answered b page target epoch ((b.asked page target epoch .ok).pend page target)

theorem Board.unitCmd_answered (b : Board) (page target epoch : Nat) : b.Answered page target epoch (b.unitCmd page target epoch) := by
  have hrd : ((b.put page F.UNIT_CMD.TARGET target).put page F.UNIT_CMD.EXP_EPOCH epoch).rd page 0x008 = b.rd page 0x008 := by
    rw [Board.put, Board.rd_wr_off (by decide) (by decide) (by decide), Board.put, Board.rd_wr_off (by decide) (by decide) (by decide)]
  unfold Board.unitCmd
  dsimp only
  rw [Board.get_congr (f := F.UNIT_STATE.EPOCH) hrd, Board.requestCheck_congr target hrd rfl]
  split
  · next h => exact .stale h
  · next h =>
    have h := not_not.1 h
    split
    · next hp => exact .busy h hp
    · next hp =>
      have hp := Bool.eq_false_iff.2 hp
      split
      · next hc => exact .fails h hp hc
      · next hc => exact .same h hp hc
      · next hc => exact .accepted h hp hc

section
variable {b c : Board} {page target epoch : Nat}

theorem Board.Answered.shows_target (h : b.Answered page target epoch c) (ht : target < 16) : c.get page F.UNIT_CMD.TARGET = target := by
  cases h with
  | accepted => rw [Board.pend_get _ _ _ rfl (by decide) (by decide), Board.asked_target _ _ _ _ _ ht]
  | _ => exact Board.asked_target _ _ _ _ _ ht

theorem Board.Answered.shows_epoch (h : b.Answered page target epoch c) (he : epoch < 2 ^ 16) : c.get page F.UNIT_CMD.EXP_EPOCH = epoch := by
  cases h with
  | accepted => rw [Board.pend_get _ _ _ rfl (by decide) (by decide), Board.asked_epoch _ _ _ _ _ he]
  | _ => exact Board.asked_epoch _ _ _ _ _ he

theorem Board.Answered.only (h : b.Answered page target epoch c) : b.Only c [(page, 3)] := by
  cases h with
  | accepted => exact (Board.asked_only _ _ _ _ _).trans (Board.pend_only _ _ _)
  | _ => exact Board.asked_only _ _ _ _ _

end

/-- The word of a UNIT_CMD write. -/
theorem wordBits_unitCmd (target : Fin 16) (epoch : BitVec 16) :
    wordBits (BitVec.ofNat 32 (target.val + epoch.toNat * 2 ^ 16)) 0 4 = target.val
      ∧ wordBits (BitVec.ofNat 32 (target.val + epoch.toNat * 2 ^ 16)) 16 16 = epoch.toNat := by
  obtain ⟨h1, -, h2⟩ := word_state target.val 0 epoch.toNat target.isLt (by decide) epoch.isLt
  exact ⟨by simpa using h1, by simpa using h2⟩

end Sys2Proof.Machine

open Sys2Proof Sys2Proof.Machine

/-- Settles O8: one page's lock is a W1S field, and LOCK_ALL sets those of all implemented, powered pages. -/
theorem locksCloseThePages : Obligations.LocksCloseThePages := by
  intro s p page
  refine ⟨fun h => ⟨s.on (fun b => b.wr page.val F.PAGE_LOCK.LOCK.off (b.written page.val F.PAGE_LOCK.LOCK.off 1)), ?_, rfl, ?_, ?_⟩,
    fun h => ⟨s.on Board.lockAll, ?_, rfl, ?_⟩⟩
  · refine Ends.of_quick (exec_pageLockSet _ _ _) ?_
    refine (State.writeAccess_header (w := 1) h (by decide) (by decide) (by decide) (by decide)).trans ?_
    exact s.plainWrite_lock page.val 1
  · rw [Board.on_iff, State.on_bd, Board.get, Board.rd_wr_self, Board.written_lock _ h.1.1, wordBits_wordSet_self _ _ _ _ (by decide)]
    exact Nat.or_mod_two_eq_one.2 (.inr rfl)
  · exact (Board.Only.refl _ _).wr _ (by decide) (by simp)
  · refine Ends.of_quick (exec_lockAll _ _) ?_
    rw [State.writeAccess_takes (v := 1) h (by decide) (by decide) (by decide) rowsAt_lockAll]
    rfl
  · rw [State.on_bd]
    exact ⟨fun q hq hw => s.bd.lockAll_locks hq hw, fun q off ho hn => s.bd.lockAll_rd ho hn⟩

/-- Settles O9: by the order of the checks that `Board.Answered` lists. -/
theorem unitCommandIsCheckedFirst : Obligations.UnitCommandIsCheckedFirst := by
  intro s p page target epoch h
  have ha := s.bd.unitCmd_answered page.val target.val epoch.toNat
  refine ⟨s.on (·.unitCmd page.val target.val epoch.toNat), ?_, rfl, ha.shows_target target.isLt, ha.shows_epoch epoch.isLt, ha.only, ?_⟩
  · refine Ends.of_quick (exec_unitCmd_write _ _ _ _ _) ?_
    rw [State.writeAccess_word h.1 h.2.1 (by decide) (by decide), State.writeWord_reaches h, if_pos rfl, (wordBits_unitCmd _ _).1, (wordBits_unitCmd _ _).2]
  · rw [State.on_bd]
    generalize s.bd.unitCmd page.val target.val epoch.toNat = c at ha
    cases ha with
    | stale he => simp [he, Board.asked_result]
    | busy he hp => simp [he, hp, Board.asked_result]
    | fails he hp hc => simp [he, hp, hc, Board.asked_result, Board.asked_pending]
    | same he hp hc => simp [he, hp, hc, Board.asked_result, Board.asked_pending]
    | accepted he hp hc =>
      simp [he, hp, hc, Board.pend_pending, Board.pend_get _ _ _ (f := F.UNIT_CMD.RESULT) rfl (by decide) (by decide), Board.asked_result]

end

section
/-! Accesses of reserved offsets and of other sizes (O60). Reads count first (R467), so what counting leaves alone comes before. -/

namespace Sys2Proof.Machine

theorem exec_readClear (p : Path) (offset : BitVec 21) (size : Fin 65) (s : State) :
    exec (.readClear p offset size) s = s.run (fun s => (s.on Board.followCounters).readAccess p offset.toNat size.val) := rfl

theorem exec_registerWrite (p : Path) (offset : BitVec 21) (size : Fin 65) (w : BitVec 64) (s : State) :
    exec (.registerWrite p offset size w) s = s.run (fun s => s.writeAccess p false offset.toNat size.val w.toNat) := rfl

theorem exec_unmappedAccess (p : Path) (write : Bool) (offset : BitVec 21) (size : Fin 65) (s : State) :
    exec (.unmappedAccess p write offset size) s = s.quick (fun s => if implemented (offset.toNat / 4096) then s
      else if write then s.writeAccess p false offset.toNat size.val 0 else s.readAccess p offset.toNat size.val) := rfl

/-! ### What counting leaves alone (R467 to R469) -/

section
variable {b c d : Board} {q off : Nat}

theorem Board.Same.refl (b : Board) (q off : Nat) : b.Same b q off := rfl

theorem Board.Same.trans (h : b.Same c q off) (k : c.Same d q off) : b.Same d q off := Eq.trans k h

theorem Board.Same.ite {p : Prop} [Decidable p] (h : b.Same c q off) (k : b.Same d q off) : b.Same (if p then c else d) q off := by
  split
  · exact h
  · exact k

/-- A register below the counters that no event writes: counting leaves it alone. -/
structure Uncounted (q off : Nat) : Prop where
  below : off < 0xC00
  quiet : eventReg q off = false

variable (hu : Uncounted q off)
include hu

theorem Uncounted.wr (h : b.Same c q off) (p o : Nat) (w : Word) (ho : 0xC00 ≤ o ∧ o < 4096) : b.Same (c.wr p o w) q off :=
  h.trans (Board.rd_wr_off ho.2 (by have := hu.below; omega) (by have := hu.below; omega))

theorem Uncounted.put (h : b.Same c q off) (p : Nat) (f : Fld) (v : Nat) (ho : 0xC00 ≤ f.off ∧ f.off < 4096) : b.Same (c.put p f v) q off :=
  hu.wr h p _ _ ho

theorem Uncounted.putIf {P : Prop} [Decidable P] (f : Fld) (ho : 0xC00 ≤ f.off ∧ f.off < 4096) (h : b.Same c q off) {p v : Nat} :
    b.Same (if P then c.put p f v else c) q off := (hu.put h p f v ho).ite h

theorem Uncounted.sample (h : b.Same c q off) (p n : Nat) : b.Same (c.sample p n) q off :=
  hu.put (hu.put (hu.wr (c := c.useOpen.useOpen.useOpen) h _ _ _ (by decide)) _ _ _ (by decide)) _ _ _ (by decide)

theorem Uncounted.setPmc (h : b.Same c q off) (p v : Nat) {n : Nat} (hn : n < 8) : b.Same (c.setPmc p n v) q off :=
  hu.put (hu.put h _ _ _ (by simp only [Fld.ix]; omega)) _ _ _ (by simp only [Fld.ix]; omega)

theorem Uncounted.raises (h : b.Same c q off) (p : Nat) (evs : List Ev) : b.Same (c.raises p evs) q off :=
  h.trans ((c.raises_frame p evs).regs q off (by have := hu.below; omega) hu.quiet)

theorem Uncounted.advancePmc (h : b.Same c q off) (p k : Nat) {n : Nat} (hn : n < 8) : b.Same (c.advancePmc p n k) q off := by
  unfold Board.advancePmc
  dsimp only
  refine hu.raises ?_ _ _
  generalize hset : c.setPmc p n ((c.pmc p n + k) % 2 ^ 48) = d
  have h0 : b.Same d q off := hset ▸ hu.setPmc h p _ hn
  refine Board.Same.ite (hu.sample ?_ _ _) ?_ <;>
    exact hu.putIf F.PMC_PCTL.FREEZE (by decide) (hu.putIf F.PMC_PSTAT.OVF (by decide) (hu.putIf F.PMC_PSTAT.THR (by decide) h0))

theorem Uncounted.countCode (h : b.Same c q off) (p code k : Nat) : b.Same (c.countCode p code k) q off := by
  unfold Board.countCode
  refine List.foldlRecOn (motive := fun c => b.Same c q off) _ _ h fun c hc n hn => ?_
  exact (hu.advancePmc hc p k (List.mem_range.1 hn)).ite hc

theorem Uncounted.countDue (n : Nat) : ∀ {c : Board}, b.Same c q off → b.Same (Board.countDue n c) q off := by
  induction n with
  | zero => exact id
  | succ n ih =>
    intro c h
    unfold Board.countDue
    split
    · exact h
    · next p code k rest _ =>
      have h' : b.Same { c with pmcDue := rest } q off := h
      refine ih ?_
      split
      · exact h'
      · exact hu.countCode h' _ _ _

theorem Uncounted.followCounters (b : Board) : b.Same b.followCounters q off := by
  unfold Board.followCounters
  dsimp only
  have h0 := hu.countDue 4096 (Board.Same.refl b q off)
  split
  · exact h0
  · refine hu.countDue 4096 ?_
    exact List.foldlRecOn (motive := fun c => b.Same c q off) _ _ h0 fun c hc p _ => hu.countCode hc p _ _

end

/-- Counting moves no power domain. -/
theorem Board.followCounters_powered (b : Board) (page : Nat) : b.followCounters.powered page = b.powered page := by
  have h : b.Same b.followCounters pSEQ1 F.SEQ_DOM_PG.PG.off := Uncounted.followCounters ⟨by decide, by decide⟩ b
  unfold Board.powered Board.domainOn
  rw [Board.get_congr h]

/-! ### Reserved offsets (R9) -/

/-- A register offset with no rows: every page has its header. -/
structure Reserved (page off : Nat) : Prop where
  rows : rowsAt page off = []
  notId : off ≠ 0x000
  notCaps : off ≠ 0x004
  notCmd : off ≠ 0x00C

theorem Reserved.resetWord {page off : Nat} (h : Reserved page off) (hi : implemented page = true) : resetWord page off = 0 := by
  have h8 : off ≠ 0x008 := by
    rintro rfl
    have := rowsAt_header (off := 0x008) hi (by decide)
    rw [h.rows] at this
    exact absurd this (by decide)
  unfold Sys2Proof.Machine.resetWord
  split
  · rfl
  · rw [if_neg h.notId, if_neg h.notCaps, if_neg h8, h.rows]
    rfl

/-- R9: a reserved offset reads zero, and the read changes nothing. -/
theorem State.readWord_reserved (s : State) (p : Path) {page off : Nat} (h : Reserved page off) (hi : implemented page = true) :
    s.readWord p page off = (0, s) := by
  have hrows : (rowsAt page off).isEmpty = true ∧ off ≠ 0x000 ∧ off ≠ 0x004 := ⟨by rw [h.rows]; rfl, h.notId, h.notCaps⟩
  unfold State.readWord
  dsimp only
  rw [h.resetWord hi, if_pos hrows]
  simp only [ite_self]

/-- R9: a write of a reserved offset that the page lets through is discarded. -/
theorem State.writeWord_reserved {s : State} {p : Path} {page off : Nat} {w : Word} (h : Reserved page off) (hr : s.bd.Reaches p page off w) :
    s.writeWord p false page off w = s := by
  rw [State.writeWord_reaches hr, if_neg h.notCmd, h.rows]
  rfl

/-- The address of an offset of a page, and the two parts it is taken apart into. -/
theorem toNat_address {page off : Nat} (hp : page < 512) (ho : off < 4096) : (BitVec.ofNat 21 (page * 4096 + off)).toNat = page * 4096 + off := by
  rw [BitVec.toNat_ofNat]
  exact Nat.mod_eq_of_lt (by omega)

section
variable {s : State} {p : Path} {page off size : Nat} (hi : implemented page = true) (hp : page < 512) (ho : off < 4096) (hs : size = 4 ∨ size = 8)
  (ha : off % size = 0) (h1 : Reserved page off) (h2 : Reserved page (off + size - 4))
include hi ho hs ha h1 h2

theorem State.readAccess_reserved : s.readAccess p (page * 4096 + off) size = s.say (.regRead p (page * 4096 + off) size 0) := by
  have e1 : (page * 4096 + off) / 4096 = page := by omega
  have e2 : (page * 4096 + off) % 4096 = off := by omega
  have hz : sized off size = true := by rcases hs with rfl | rfl <;> simp [sized, ha]
  unfold State.readAccess
  simp only [e1, e2, hi, hz, Bool.not_true, Bool.false_eq_true, if_false]
  split
  · rfl
  · rcases hs with rfl | rfl
    · simp [State.readWords, State.readWord_reserved s p h1 hi]
    · rw [show off + 8 - 4 = off + 4 by omega] at h2
      simp [State.readWords, State.readWord_reserved s p h1 hi, State.readWord_reserved s p h2 hi]

theorem State.writeAccess_reserved {v : Nat} (hr : ∀ o w, o = off ∨ o = off + size - 4 → s.bd.Reaches p page o w) :
    s.writeAccess p false (page * 4096 + off) size v = s := by
  have e1 : (page * 4096 + off) / 4096 = page := by omega
  have e2 : (page * 4096 + off) % 4096 = off := by omega
  have hz : sized off size = true := by rcases hs with rfl | rfl <;> simp [sized, ha]
  have hw : s.bd.powered page = true := (hr off 0 (.inl rfl)).2.1
  unfold State.writeAccess
  simp only [e1, e2, hi, hz, hw, Bool.not_true, Bool.false_eq_true, if_false, State.writeWord_reserved h1 (hr off _ (.inl rfl))]
  rcases hs with rfl | rfl
  · rfl
  · exact State.writeWord_reserved h2 (hr _ _ (.inr rfl))

end

/-! ### Other sizes and alignments (R6, R7), and pages that are not there (R488, R491) -/

theorem Board.reject_only (b : Board) (page : Nat) (p : Path) (off : Nat) (c : Code) : b.Only (b.reject page p off c) [(page, F.PAGE_REJECT.CODE.off / 4)] :=
  (Board.Only.refl b _).wr (o := 0x034) _ (by decide) (by simp)

theorem Board.reject_out (b : Board) (page : Nat) (p : Path) (off : Nat) (c : Code) : (b.reject page p off c).out = b.out := rfl

/-- R10: PAGE_REJECT.CODE shows the code of the rejected access. -/
theorem Board.reject_code (b : Board) (page : Nat) (p : Path) (off : Nat) (c : Code) : (b.reject page p off c).get page F.PAGE_REJECT.CODE = c.num := by
  have hc := Code.num_lt c
  unfold Board.reject Board.get
  rw [Board.rd_wr_self]
  unfold wordBits
  rw [BitVec.toNat_ofNat, Nat.shiftRight_zero]
  cases p <;> dsimp only <;> split <;> omega

section
variable {s : State} {p : Path} {offset size : Nat}

theorem State.readAccess_unsized (hi : implemented (offset / 4096) = true) (hw : s.bd.powered (offset / 4096) = true)
    (hz : sized (offset % 4096) size = false) :
    s.readAccess p offset size = (s.rejects p (offset / 4096) (offset % 4096) .unsupported).say (.regRead p offset size (2 ^ (8 * size) - 1)) := by
  simp [State.readAccess, hi, hw, hz]

theorem State.writeAccess_unsized {v : Nat} (hi : implemented (offset / 4096) = true) (hw : s.bd.powered (offset / 4096) = true)
    (hz : sized (offset % 4096) size = false) : s.writeAccess p false offset size v = s.rejects p (offset / 4096) (offset % 4096) .unsupported := by
  simp [State.writeAccess, hi, hw, hz]

theorem State.readAccess_unpowered (hi : implemented (offset / 4096) = true) (hw : s.bd.powered (offset / 4096) = false) :
    s.readAccess p offset size = s.say (.regRead p offset size 0) := by
  simp [State.readAccess, hi, hw]

theorem State.writeAccess_unpowered {v : Nat} (hi : implemented (offset / 4096) = true) (hw : s.bd.powered (offset / 4096) = false) :
    s.writeAccess p false offset size v = s := by
  simp [State.writeAccess, hi, hw]

theorem State.readAccess_unmapped (hi : implemented (offset / 4096) = false) :
    s.readAccess p offset size = (s.unmapped p false offset size).say (.regRead p offset size 0) := by
  simp [State.readAccess, hi]

theorem State.writeAccess_unmapped {v : Nat} (hi : implemented (offset / 4096) = false) :
    s.writeAccess p false offset size v = s.unmapped p true offset size := by
  simp [State.writeAccess, hi]

/-- R488: an unmapped access records nothing in PAGE_REJECT. -/
theorem State.unmapped_reject (s : State) (p : Path) (write : Bool) (offset size q : Nat) :
    (s.unmapped p write offset size).bd.rd q F.PAGE_REJECT.CODE.off = s.bd.rd q F.PAGE_REJECT.CODE.off := by
  unfold State.unmapped
  rw [State.on_bd, (Board.raise_frame _ _ _).regs _ _ (by decide) (by simp [eventReg]), Board.rd_count_key]
  intro e
  exact absurd ((regKey_eq_iff (by decide) (by decide)).1 e).2 (by decide)

end

end Sys2Proof.Machine

open Sys2Proof Sys2Proof.Machine

/-- Settles O60: reserved offsets have no rows, and the other accesses are turned away before they reach a register. -/
theorem illFormedAccessesAreHandled : Obligations.IllFormedAccessesAreHandled := by
  refine ⟨fun s p page off size w hp ho hi hs ha hres => ?_, fun s p offset size w page hpage => ?_⟩
  · have h1 : Reserved page off := by obtain ⟨a, b, c, d⟩ := hres off (.inl rfl); exact ⟨a, b, c, d⟩
    have h2 : Reserved page (off + size - 4) := by obtain ⟨a, b, c, d⟩ := hres _ (.inr rfl); exact ⟨a, b, c, d⟩
    have hsize : (Fin.ofNat 65 size).val = size := by rcases hs with rfl | rfl <;> rfl
    refine ⟨⟨(s.on Board.followCounters).say (.regRead p (page * 4096 + off) size 0), Runs.of_run (exec_readClear _ _ _ _) ?_, rfl, rfl⟩, fun hr => ?_⟩
    · rw [toNat_address hp ho, hsize, State.readAccess_reserved hi ho hs ha h1 h2]
    · refine Runs.of_run (exec_registerWrite _ _ _ _ _) ?_
      rw [toNat_address hp ho, hsize, State.writeAccess_reserved hi ho hs ha h1 h2 hr]
  · subst hpage
    have hfollow : ∀ {v}, s.bd.powered (offset.toNat / 4096) = v → (s.on Board.followCounters).bd.powered (offset.toNat / 4096) = v := fun h => by
      rw [State.on_bd, Board.followCounters_powered, h]
    refine ⟨fun hi hw hz => ⟨⟨_, Runs.of_run (exec_readClear _ _ _ _) (State.readAccess_unsized hi (hfollow hw) hz), rfl, Board.reject_code _ _ _ _ _,
        Board.reject_only _ _ _ _ _, rfl⟩,
      ⟨_, Runs.of_run (exec_registerWrite _ _ _ _ _) (State.writeAccess_unsized hi hw hz), rfl, Board.reject_code _ _ _ _ _, Board.reject_only _ _ _ _ _, rfl⟩⟩,
      fun hi hw => ⟨⟨_, Runs.of_run (exec_readClear _ _ _ _) (State.readAccess_unpowered hi (hfollow hw)), rfl, rfl⟩,
        Runs.of_run (exec_registerWrite _ _ _ _ _) (State.writeAccess_unpowered hi hw)⟩,
      fun hi => ⟨⟨(s.unmapped p false offset.toNat size.val).say (.regRead p offset.toNat size.val 0), Ends.of_quick (exec_unmappedAccess _ _ _ _ _) ?_, rfl,
          State.unmapped_reject s p false _ _, by simp⟩,
        ⟨s.unmapped p true offset.toNat size.val, Ends.of_quick (exec_unmappedAccess _ _ _ _ _) ?_, rfl, State.unmapped_reject s p true _ _⟩⟩⟩
    · simp [hi, State.readAccess_unmapped]
    · simp [hi, State.writeAccess_unmapped]

end

section
/-! Units that move (O10): an accepted change, and the end of INIT. -/

namespace Sys2Proof.Machine

theorem exec_unitStateChangeDone (page : Fin 512) (s : State) : exec (.unitStateChangeDone page) s = s.run (fun s => s.unitDone page.val) := rfl

theorem exec_unitInitDone (page : Fin 512) (s : State) : exec (.unitInitDone page) s = s.run (fun s => s.unitInitDone page.val) := rfl

/-! ### What `toState` does (R16) -/

section
variable (b : Board) (page : Nat) {st : Nat} (h : st < 16)

theorem Board.toState_cause_lt : (if b.openCauses page = 0 then 0 else 1) < 2 := by split <;> decide

include h

theorem Board.toState_unit : (b.toState page st).unit page = st := (b.move_reads page st _ h (b.toState_cause_lt page)).1

/-- A unit that takes another state takes the next epoch. -/
theorem Board.toState_epoch (hne : b.unit page ≠ st) :
    (b.toState page st).get page F.UNIT_STATE.EPOCH = (b.get page F.UNIT_STATE.EPOCH + 1) % 2 ^ 16 :=
  b.move_epoch page st _ h (b.toState_cause_lt page) (fun e => hne e.1)

end

theorem Board.toState_only (b : Board) (page st : Nat) : b.Only (b.toState page st) [(page, 2), (pMGT, 23)] := by
  intro p o ho hn
  simp only [List.mem_cons, Prod.mk.injEq, List.not_mem_nil, or_false, not_or] at hn
  exact Board.rd_move ho hn.1 hn.2

/-! ### Redundancy (R24) does not rest on UNIT_CMD -/

theorem State.reduced_congr {s t : State} (ht : s.SameBelow t) (hr : ∀ q off, off < 4096 → off / 4 ≠ 3 → t.bd.rd q off = s.bd.rd q off) (page : Nat) :
    t.reduced page = s.reduced page := by
  have hget : ∀ (q : Nat) (f : Fld), f.off < 4096 → f.off / 4 ≠ 3 → t.bd.get q f = s.bd.get q f := fun q f ho hn => Board.get_congr (hr q f.off ho hn)
  have hcache : t.cache = s.cache := (congrArg State.cache ht :)
  have hmedia : t.media = s.media := (congrArg State.media ht :)
  have hpst : t.pst = s.pst := (congrArg State.pst ht :)
  have hleft : ∀ c, t.leftOut c = s.leftOut c := fun c => by unfold State.leftOut State.field; rw [hmedia]
  unfold State.reduced
  split <;> simp (disch := decide) only [Board.on, Board.ageReduced, Board.headReduced, Board.shelfReduced, Board.phase, Board.dieState, State.pstReduced, hget,
    hcache, hpst, hleft] <;> rfl

/-! ### Completed requests (R24) -/

/-- The state in which a request has completed and its unit has not yet moved. -/
def State.completed (s : State) (page : Nat) : State :=
  s.on (fun b => (({ b with cmds := smDel page b.cmds } : Board).put page F.UNIT_CMD.PENDING 0).put page F.UNIT_CMD.RESULT Code.ok.num)

theorem State.completed_only (s : State) (page : Nat) : s.bd.Only (s.completed page).bd [(page, 3)] :=
  ((show s.bd.Only { s.bd with cmds := smDel page s.bd.cmds } _ from fun _ _ _ _ => rfl).put _ (by decide) (by simp)).put _ (by decide) (by simp)

theorem State.completed_pending (s : State) (page : Nat) : (s.completed page).bd.on page F.UNIT_CMD.PENDING = false := by
  have h : (s.completed page).bd.get page F.UNIT_CMD.PENDING = 0 := by
    unfold State.completed
    rw [State.on_bd, Board.get_put_apart _ _ (by decide) (by decide) (by decide) (.inr (by decide)), Board.get_put_self _ _ _ _ (by decide)]
    rfl
  simp [Board.on, h]

theorem State.completed_result (s : State) (page : Nat) : (s.completed page).bd.get page F.UNIT_CMD.RESULT = Code.ok.num :=
  Board.get_put_self _ _ _ _ (by decide)

/-- An accepted change that is still permitted completes and takes the unit to its target. -/
theorem State.unitDone_accepted {s : State} {page target : Nat} (hc : smFind page s.bd.cmds = some target) (hp : s.bd.on page F.UNIT_CMD.PENDING = true)
    (hr : s.bd.requestCheck page target = .ok true) : s.unitDone page = (s.completed page).applyTarget page target := by
  have hp' : ({ s.bd with cmds := smDel page s.bd.cmds } : Board).on page F.UNIT_CMD.PENDING = true := hp
  have hr' : ({ s.bd with cmds := smDel page s.bd.cmds } : Board).requestCheck page target = .ok true := hr
  unfold State.unitDone
  rw [hc]
  simp only [State.on_bd, hp', hr', Bool.true_eq_false, if_false]
  rfl

/-- The state that a request for OFF, SERVICE or DEGRADED takes its unit to. -/
def State.goal (s : State) (page target : Nat) : Nat := if target = stOFF then stOFF else if s.reduced page then stDEGRADED else stSERVICE

theorem State.goal_lt (s : State) (page target : Nat) : s.goal page target < 4 := by
  unfold State.goal
  split
  · decide
  · split <;> decide

theorem State.applyTarget_goal (s : State) {page target : Nat} (h : target = stOFF ∨ target = stSERVICE ∨ target = stDEGRADED) :
    s.applyTarget page target = s.on (fun b => b.toState page (s.goal page target)) := by
  rcases h with rfl | rfl | rfl <;> rfl

/-- Table 00-9: a unit that a request changes is in CONTAINED or in TEST. -/
theorem Board.unit_of_accepted {b : Board} {page target : Nat} (hr : b.requestCheck page target = .ok true)
    (h : target = stOFF ∨ target = stSERVICE ∨ target = stDEGRADED) : 4 ≤ b.unit page := by
  have hperm : permitted (b.unit page) target = 2 := by
    unfold Board.requestCheck at hr
    split at hr
    · cases hr
    · split at hr
      · cases hr
      · split at hr
        · cases hr
        · split at hr
          · cases hr
          · simpa using hr
  have key : ∀ st : Fin 16, ∀ t ∈ [stOFF, stSERVICE, stDEGRADED], permitted st.val t = 2 → 4 ≤ st.val := by decide
  exact key ⟨b.unit page, Board.get_lt b page F.UNIT_STATE.STATE⟩ target (by simpa using h) hperm

end Sys2Proof.Machine

open Sys2Proof Sys2Proof.Machine

/-- Settles O10: a completed request and the end of INIT each end in one `toState`, to a state that the unit is not in. -/
theorem unitsMoveWithTheirEpoch : Obligations.UnitsMoveWithTheirEpoch := by
  intro s page
  refine ⟨fun target hc hp hr ht => ?_, fun he hi => ?_⟩
  · have hun := s.completed_only page.val
    have hred : (s.completed page.val).goal page.val target = s.goal page.val target := by
      unfold State.goal
      rw [State.reduced_congr (s := s) (t := s.completed page.val) rfl fun q off ho hn => hun q off ho (by simp [hn])]
    have hunit : (s.completed page.val).bd.unit page.val = s.bd.unit page.val := Board.get_congr (hun _ _ (by decide) (by simp))
    have hlt := s.goal_lt page.val target
    have hfrom := Board.unit_of_accepted hr ht
    refine ⟨(s.completed page.val).on (fun b => b.toState page.val (s.goal page.val target)), Runs.of_run (exec_unitStateChangeDone _ _) ?_, ?_, ?_, ?_, ?_⟩
    · rw [State.unitDone_accepted hc hp hr, State.applyTarget_goal _ ht, hred]
    · rw [State.on_bd, Board.on_congr (Board.toState_only _ _ _ _ _ (by decide) (by simp)), State.completed_pending]
    · rw [State.on_bd, Board.get_congr (Board.toState_only _ _ _ _ _ (by decide) (by simp)), State.completed_result]
    · exact Board.toState_unit _ _ (by omega)
    · rw [State.on_bd, Board.toState_epoch _ _ (by omega) (by omega), Board.get_congr (f := F.UNIT_STATE.EPOCH) (hun _ _ (by decide) (by simp))]
  · refine ⟨s.on (fun b => b.toState page.val
      (if s.bd.openCauses page.val ≠ 0 then stCONTAINED else if s.reduced page.val then stDEGRADED else stSERVICE)),
      Runs.of_run (exec_unitInitDone _ _) ?_, rfl, ?_, ?_, Board.toState_only _ _ _⟩
    · unfold State.unitInitDone Board.endInit
      simp [he, hi, State.on]
    · exact Board.toState_unit _ _ (by split_ifs <;> decide)
    · exact Board.toState_epoch _ _ (by split_ifs <;> decide) (by rw [hi]; split_ifs <;> decide)

end

section
/-! What the work of power and of the store leaves alone in PD00 (O51): registers but for those named, status bits, what has been sent, and the clock. -/

namespace Sys2Proof.Machine

/-! ### Bits of a number -/

theorem nbit_eq_testBit (v n : Nat) : nbit v n = v.testBit n := by
  rw [nbit, Nat.testBit_eq_decide_div_mod_eq, Nat.shiftRight_eq_div_pow]

theorem nsetbit_false_le (v n : Nat) : nsetbit v n false ≤ v := by
  unfold nsetbit
  split
  · exact le_refl v
  · simp

/-- Clearing bit `n` clears no other. -/
theorem nbit_nsetbit_false (v n m : Nat) : nbit (nsetbit v n false) m = (decide (m ≠ n) && nbit v m) := by
  simp only [nbit_eq_testBit, nsetbit, Bool.false_eq_true, if_false]
  split
  · next h =>
    by_cases hm : m = n
    · subst hm
      simp [h]
    · simp [hm]
  · next h =>
    have hset : v / 2 ^ n % 2 = 1 := by simpa [Nat.testBit_eq_decide_div_mod_eq] using h
    obtain ⟨q, hq⟩ : ∃ q, v / 2 ^ n = 2 * q + 1 := ⟨v / 2 ^ n / 2, by omega⟩
    have hr : v % 2 ^ n < 2 ^ n := Nat.mod_lt _ (Nat.two_pow_pos n)
    have hv : v = 2 ^ n * (2 * q + 1) + v % 2 ^ n := by rw [← hq]; exact (Nat.div_add_mod v (2 ^ n)).symm
    have hv' : v - 2 ^ n = 2 ^ n * (2 * q) + v % 2 ^ n := by
      rw [Nat.mul_succ] at hv
      omega
    rw [hv']
    conv_rhs => rw [hv]
    rw [Nat.testBit_two_pow_mul_add _ hr, Nat.testBit_two_pow_mul_add _ hr]
    split
    · next hm => simp [Nat.ne_of_lt hm]
    · next hm =>
      by_cases hmn : m = n
      · subst hmn
        simp
      · obtain ⟨j, hj⟩ : ∃ j, m - n = j + 1 := ⟨m - n - 1, by omega⟩
        simp [hmn, hj, Nat.testBit_succ, Nat.mul_add_div]

/-! ### Fields of other words, and of other bits of a word -/

/-- Setting a field leaves a field of another page, of another word or of other bits alone. -/
theorem Board.get_put_clear (b : Board) {p q : Nat} {f g : Fld} (v : Nat) (ho : f.off < 4096 ∧ g.off < 4096 ∧ f.lo + f.width ≤ 32)
    (h : p ≠ q ∨ f.off / 4 ≠ g.off / 4 ∨ f.off = g.off ∧ (f.lo + f.width ≤ g.lo ∨ g.lo + g.width ≤ f.lo)) : (b.put q g v).get p f = b.get p f := by
  obtain ⟨hf, hg, hw⟩ := ho
  by_cases hp : p = q
  · subst hp
    exact Board.get_put_apart b v hf hg hw (h.resolve_left (by simp))
  · exact Board.get_put_page b v hf hg hp

/-! ### The frame of power work -/

/-- From `b` to `c` the registers of PD00 pages stay, but for the words `ks` and those of events and unit states; no status bit of theirs clears, nothing that has been sent is
taken back, and the clock stands. -/
structure Board.Calm (ks : List (Nat × Nat)) (b c : Board) : Prop where
  regs : ∀ p off, off < 4096 → domainOf p = 0 → eventReg p off = false → stateReg p off = false → (p, off / 4) ∉ ks → c.rd p off = b.rd p off
  status : ∀ p i, domainOf p = 0 → (b.rd p 0x010).getLsbD i = true → (c.rd p 0x010).getLsbD i = true
  out : ∀ o ∈ b.out, o ∈ c.out
  now : c.now = b.now

section
variable {ks : List (Nat × Nat)} {b c d : Board}

theorem Board.Calm.refl (ks : List (Nat × Nat)) (b : Board) : b.Calm ks b := ⟨fun _ _ _ _ _ _ _ => rfl, fun _ _ _ h => h, fun _ h => h, rfl⟩

theorem Board.Calm.trans (h : Board.Calm ks b c) (k : Board.Calm ks c d) : Board.Calm ks b d :=
  ⟨fun p o ho hd he hs hn => (k.regs p o ho hd he hs hn).trans (h.regs p o ho hd he hs hn), fun p i hd hi => k.status p i hd (h.status p i hd hi),
    fun o ho => k.out o (h.out o ho), k.now.trans h.now⟩

/-- The value of a field that a frame keeps. -/
theorem Board.Calm.get (h : Board.Calm ks b c) (p : Nat) (f : Fld)
    (hk : (f.off < 4096 ∧ domainOf p = 0) ∧ (eventReg p f.off = false ∧ stateReg p f.off = false) ∧ (p, f.off / 4) ∉ ks) : c.get p f = b.get p f :=
  Board.get_congr (h.regs p f.off hk.1.1 hk.1.2 hk.2.1.1 hk.2.1.2 hk.2.2)

theorem Board.Calm.on (h : Board.Calm ks b c) (p : Nat) (f : Fld)
    (hk : (f.off < 4096 ∧ domainOf p = 0) ∧ (eventReg p f.off = false ∧ stateReg p f.off = false) ∧ (p, f.off / 4) ∉ ks) : c.on p f = b.on p f := by
  unfold Board.on
  rw [h.get p f hk]

/-- A change beside registers, output and clock. -/
theorem Board.Calm.same (h : Board.Calm ks b c) (hr : d.regs = c.regs) (ho : d.out = c.out) (hn : d.now = c.now) : Board.Calm ks b d :=
  h.trans ⟨fun _ _ _ _ _ _ _ => by simp only [Board.rd, hr], fun _ _ _ hi => by simpa only [Board.rd, hr] using hi, fun o => by rw [ho]; exact id, hn⟩

theorem Board.Calm.wr (h : Board.Calm ks b c) (p : Nat) {o : Nat} (w : Word) (ho : o < 4096)
    (hk : domainOf p ≠ 0 ∨ o / 4 ≠ 4 ∧ ((p, o / 4) ∈ ks ∨ stateReg p o = true)) : Board.Calm ks b (c.wr p o w) := by
  refine h.trans ⟨fun q off hoff hd _ hs hn => ?_, fun q i hd hi => ?_, fun _ => id, rfl⟩
  · apply Board.rd_wr_key
    intro e
    obtain ⟨rfl, e2⟩ := (regKey_eq_iff ho hoff).1 e
    rcases hk with hk | ⟨-, hk | hk⟩
    · exact hk hd
    · exact hn (e2 ▸ hk)
    · simp only [stateReg] at hk hs
      rw [e2] at hs
      rw [hs] at hk
      cases hk
  · rw [Board.rd_wr_key]
    · exact hi
    · intro e
      obtain ⟨rfl, e2⟩ := (regKey_eq_iff ho (by decide)).1 e
      rcases hk with hk | ⟨hk, -⟩
      · exact hk hd
      · exact hk e2.symm

theorem Board.Calm.put (h : Board.Calm ks b c) (p : Nat) (f : Fld) (v : Nat) (hk : f.off < 4096 ∧ f.off / 4 ≠ 4 ∧ (p, f.off / 4) ∈ ks) :
    Board.Calm ks b (c.put p f v) := h.wr p _ hk.1 (.inr ⟨hk.2.1, .inl hk.2.2⟩)

theorem Board.Calm.tally (h : Board.Calm ks b c) (p k n : Nat) : Board.Calm ks b (c.tally p k n) :=
  h.same (Board.tally_regs _ _ _ _) (Board.tally_out _ _ _ _) (Board.tally_now _ _ _ _)

theorem Board.Calm.count (h : Board.Calm ks b c) (p : Nat) (f : Fld) (n : Nat) (hk : f.off < 4096 ∧ f.off / 4 ≠ 4 ∧ (p, f.off / 4) ∈ ks) :
    Board.Calm ks b (c.count p f n) := (h.put p f _ hk).tally _ _ _

theorem Board.Calm.emit (h : Board.Calm ks b c) (o : Output) : Board.Calm ks b (c.emit o) :=
  h.trans ⟨fun _ _ _ _ _ _ _ => rfl, fun _ _ _ hi => hi, fun _ ho => List.mem_append_left _ ho, rfl⟩

end

/-! ### Events -/

theorem Board.count_out (b : Board) (p : Nat) (f : Fld) (n : Nat) : (b.count p f n).out = b.out := Board.tally_out _ _ _ _

theorem Board.held_out (b : Board) (l : List Nat) : ({ b with held := l } : Board).out = b.out := rfl

theorem Board.capture_out (b : Board) (p : Nat) (evs : List Ev) : (b.capture p evs).out = b.out := by
  unfold Board.capture
  split
  · rfl
  · dsimp only
    split
    · rw [Board.put_out, Board.tally_out, Board.wr_out]
    · rw [Board.held_out, Board.wr_out, Board.wr_out, Board.wr_out, Board.wr_out, Board.tally_out, Board.wr_out]

/-- A piece of event work takes nothing back that has been sent. -/
theorem Board.act_out (b : Board) (a : Act) {o : Output} (h : o ∈ b.out) : o ∈ (b.act a).1.out := by
  cases a with
  | events p evs =>
    simp only [Board.act]
    rwa [Board.capture_out]
  | notice p n =>
    simp only [Board.act]
    split <;> exact h
  | msix hd v src =>
    simp only [Board.act]
    split
    · rwa [Board.count_out]
    · split
      · exact h
      · exact List.mem_append_left _ h
  | pageEvent p n code =>
    simp only [Board.act]
    split
    · exact h
    · show o ∈ (b.count pMGT F.MGT_IBI_DROP.COUNT 1).out
      rwa [Board.count_out]
  | packet q k bytes =>
    simp only [Board.act]
    split
    · dsimp only
      split
      · exact h
      · rw [Board.count_out]
        exact h
    · rw [Board.count_out]
      exact h
  | announce q => exact h

theorem Board.run_out {o : Output} (n : Nat) : ∀ (acts : List Act) (b : Board), o ∈ b.out → o ∈ (Board.run n acts b).out := by
  induction n with
  | zero => intro acts b h; cases acts <;> exact h
  | succ n ih =>
    intro acts b h
    cases acts with
    | nil => exact h
    | cons a rest => exact ih _ _ (b.act_out a h)

section
variable {ks : List (Nat × Nat)} {b c : Board}

theorem Board.Calm.raise (h : Board.Calm ks b c) (p : Nat) (e : Ev) : Board.Calm ks b (c.raise p e) := by
  have hf := c.raise_frame p e
  refine h.trans ⟨fun q o ho _ he _ _ => hf.regs q o ho he, fun q i _ hi => hf.status q i hi, fun o ho => Board.run_out _ _ _ ho, ?_⟩
  exact (congrArg Board.now hf.same :)

/-- The words of FLT that a fault entry writes (R472). -/
def faultWords : List (Nat × Nat) := [(pFLT, 17), (pFLT, 18), (pFLT, 19), (pFLT, 26), (pFLT, 27), (pFLT, 28)]

theorem Board.Calm.ite {P : Prop} [Decidable P] {d : Board} (h : Board.Calm ks b c) (k : Board.Calm ks b d) : Board.Calm ks b (if P then c else d) := by
  split
  · exact h
  · exact k

theorem Board.Calm.logFault (h : Board.Calm ks b c) (hk : faultWords ⊆ ks) (page event cls stall info : Nat) (fatal : Bool) :
    Board.Calm ks b (c.logFault page event cls stall info fatal) := by
  have key : ∀ w, w ∈ [17, 18, 19, 26, 27, 28] → (pFLT, w) ∈ ks := fun w hw => hk (by simpa [faultWords] using hw)
  have hput : ∀ {d : Board} (f : Fld) (v : Nat), (f.off < 4096 ∧ f.off / 4 ≠ 4 ∧ f.off / 4 ∈ [17, 18, 19, 26, 27, 28]) → Board.Calm ks b d →
      Board.Calm ks b (d.put pFLT f v) := fun f v ho hd => hd.put _ _ _ ⟨ho.1, ho.2.1, key _ ho.2.2⟩
  have hcount : ∀ {d : Board} (f : Fld) (n : Nat), (f.off < 4096 ∧ f.off / 4 ≠ 4 ∧ f.off / 4 ∈ [17, 18, 19, 26, 27, 28]) → Board.Calm ks b d →
      Board.Calm ks b (d.count pFLT f n) := fun f n ho hd => hd.count _ _ _ ⟨ho.1, ho.2.1, key _ ho.2.2⟩
  have hclass : ∀ {d : Board}, Board.Calm ks b d → Board.Calm ks b (if 1 ≤ cls ∧ cls ≤ 10 then d.count pFLT F.FLT_CATALOGUE.COUNT 1
      else if cls = 12 ∨ cls = 13 then d.count pFLT F.FLT_OUTSIDE.COUNT 1 else d) := fun hd =>
    (hcount _ _ (by decide) hd).ite ((hcount _ _ (by decide) hd).ite hd)
  have hbound : ∀ {d : Board}, Board.Calm ks b d → Board.Calm ks b (if 1 ≤ cls ∧ cls ≤ 8 then d.raiseTo pFLT F.FLT_BOUND.NS stall else d) := fun hd =>
    (hput _ _ (by decide) hd).ite hd
  unfold Board.logFault
  dsimp only
  have h0 : ∀ log, Board.Calm ks b { c with faultLog := log } := fun log => h.same rfl rfl rfl
  have h1 : ∀ log v, Board.Calm ks b (({ c with faultLog := log } : Board).put pFLT F.FLT_STAT.ENTRIES v) := fun log v => hput _ _ (by decide) (h0 log)
  have h2 := fun log v => hbound (hclass (hcount F.FLT_SEQ.COUNT 1 (by decide) (h1 log v)))
  have h3 : ∀ {d : Board} {P : Prop} [Decidable P] (e : Ev), Board.Calm ks b d → Board.Calm ks b (if P then d else d.raise pFLT e) := fun e hd =>
    hd.ite (hd.raise _ _)
  have h4 : ∀ {d : Board} {P : Prop} [Decidable P] (e : Ev), Board.Calm ks b d →
      Board.Calm ks b (if P then (d.count pFLT F.FLT_BOUND_MISS.COUNT 1).raise pFLT e else d) := fun e hd =>
    ((hcount _ _ (by decide) hd).raise _ _).ite hd
  have h5 : ∀ {d : Board} {P : Prop} [Decidable P] (e : Ev), Board.Calm ks b d → Board.Calm ks b (if P then d.raise pFLT e else d) := fun e hd =>
    (hd.raise _ _).ite hd
  exact h5 _ (h4 _ (h3 _ (h2 _ _)))

/-! ### Unit states -/

theorem Board.Calm.move (h : Board.Calm ks b c) (page st co : Nat) : Board.Calm ks b (c.move page st co) := by
  refine h.trans ⟨fun q o ho _ _ hs _ => Board.rd_move ho ?_ ?_, fun q i _ hi => ?_, fun o ho => ?_, (congrArg Board.now (c.move_same page st co) :)⟩
  · rintro ⟨-, e⟩
    simp [stateReg, e] at hs
  · rintro ⟨rfl, e⟩
    simp [stateReg, e] at hs
  · rwa [Board.rd_move (by decide) (by simp) (by simp)]
  · have : (c.move page st co).out = c.out := (congrArg Board.out (c.move_same page st co) :)
    rwa [this]

theorem Board.Calm.toState (h : Board.Calm ks b c) (page st : Nat) : Board.Calm ks b (c.toState page st) := h.move _ _ _

theorem Board.Calm.seqUnit (h : Board.Calm ks b c) : Board.Calm ks b c.seqUnit := (h.toState _ _).ite ((h.toState _ _).ite (h.toState _ _))

/-! ### Outputs of the sequence -/

theorem Board.Calm.setRails (h : Board.Calm ks b c) (hk : (pSEQ1, 16) ∈ ks) (en : Nat) : Board.Calm ks b (c.setRails en) :=
  h.ite ((h.put _ _ _ ⟨by decide, by decide, hk⟩).emit _)

theorem Board.Calm.driveStep (h : Board.Calm ks b c) (hk : (pSEQ0, 17) ∈ ks) (low : Bool) : Board.Calm ks b (c.driveStep low) :=
  h.ite ((((h.put _ _ _ ⟨by decide, by decide, hk⟩).ite h).put _ _ _ ⟨by decide, by decide, hk⟩).emit _)

end

/-- R355: the RAIL_EN outputs show what they are set to. -/
theorem Board.setRails_get (b : Board) {en : Nat} (h : en < 2 ^ 16) : (b.setRails en).get pSEQ1 F.SEQ_RAIL_EN.EN = en := by
  unfold Board.setRails
  split
  · next he => exact he
  · rw [Board.emit_get, Board.get_put_self _ _ _ _ (by decide)]
    exact Nat.mod_eq_of_lt h

/-- Driving SEQ_STEP leaves the fields of SEQ_STAT below LINE alone. -/
theorem Board.driveStep_get (b : Board) (low : Bool) {f : Fld} (ho : f.off = 0x044) (hf : f.lo + f.width ≤ 9) :
    (b.driveStep low).get pSEQ0 f = b.get pSEQ0 f := by
  have hclear : ∀ (c : Board) (g : Fld) (v : Nat), g.off = 0x044 → 9 ≤ g.lo → (c.put pSEQ0 g v).get pSEQ0 f = c.get pSEQ0 f := fun c g v hg hl =>
    Board.get_put_clear c v ⟨by omega, by omega, by omega⟩ (.inr (.inr ⟨by omega, by omega⟩))
  unfold Board.driveStep
  dsimp only
  split
  · rfl
  · rw [Board.emit_get, hclear _ _ _ rfl (by decide)]
    split
    · exact hclear _ _ _ rfl (by decide)
    · rfl

/-! ### The store -/

/-- Two states agree on everything but the board and the parameter store. -/
def State.SameButStore (s t : State) : Prop := { t with bd := s.bd, pst := s.pst } = s

theorem State.SameButStore.trans {s t u : State} (h : s.SameButStore t) (k : t.SameButStore u) : s.SameButStore u := by
  have e : ({ u with bd := s.bd, pst := s.pst } : State) = { ({ u with bd := t.bd, pst := t.pst } : State) with bd := s.bd, pst := s.pst } := rfl
  unfold State.SameButStore at h k ⊢
  rw [e, k, h]

section
variable {ks : List (Nat × Nat)} {s t : State}

/-- A change of a state that keeps the registers of PD00 but for `ks`, and everything but board and store. -/
structure State.StoreFrame (ks : List (Nat × Nat)) (s t : State) : Prop where
  calm : Board.Calm ks s.bd t.bd
  same : s.SameButStore t

theorem State.StoreFrame.refl (ks : List (Nat × Nat)) (s : State) : s.StoreFrame ks s := ⟨.refl _ _, rfl⟩

theorem State.StoreFrame.trans {u : State} (h : State.StoreFrame ks s t) (k : State.StoreFrame ks t u) : State.StoreFrame ks s u :=
  ⟨h.calm.trans k.calm, h.same.trans k.same⟩

theorem State.StoreFrame.ite {P : Prop} [Decidable P] {u : State} (h : State.StoreFrame ks s t) (k : State.StoreFrame ks s u) :
    State.StoreFrame ks s (if P then t else u) := by
  split
  · exact h
  · exact k

theorem State.StoreFrame.withPst (h : State.StoreFrame ks s t) (p : Pst) : State.StoreFrame ks s { t with pst := p } := h.trans ⟨.refl _ _, rfl⟩

theorem State.StoreFrame.withBoard (h : State.StoreFrame ks s t) {f : Board → Board} (k : Board.Calm ks t.bd (f t.bd)) : State.StoreFrame ks s (t.on f) :=
  h.trans ⟨k, rfl⟩

theorem State.StoreFrame.pstKick (h : State.StoreFrame ks s t) (hk : (pPST, 16) ∈ ks) : State.StoreFrame ks s t.pstKick := by
  unfold State.pstKick
  split
  · exact h
  · split
    · exact h
    · exact (h.withPst _).withBoard ((Board.Calm.refl _ _).put _ _ _ ⟨by decide, by decide, hk⟩)

theorem State.StoreFrame.pstQueue (h : State.StoreFrame ks s t) (hk : (pPST, 16) ∈ ks) (j : PstJob) : State.StoreFrame ks s (t.pstQueue j) :=
  (h.withPst _).pstKick hk

/-- R429: storing a record changes the store, and of the registers PST_STAT. -/
theorem State.StoreFrame.store (h : State.StoreFrame ks s t) (hk : (pPST, 16) ∈ ks) (id : Nat) (body : List Byte) : State.StoreFrame ks s (t.store id body) := by
  unfold State.store
  exact State.StoreFrame.ite ((h.withPst _).withPst _) (State.StoreFrame.pstQueue ((h.withPst _).withPst _) hk _)

theorem State.StoreFrame.writeLedger (h : State.StoreFrame ks s t) (hk : (pPST, 16) ∈ ks) (l : LedgerRec) : State.StoreFrame ks s (t.writeLedger l) := by
  unfold State.writeLedger
  split
  · exact h.store hk _ _
  · exact h

/-- R375: a CUT record changes the store, PST_STAT and PDR_CUTS. -/
theorem State.StoreFrame.writeCut (h : State.StoreFrame ks s t) (hk : (pPST, 16) ∈ ks) (hc : (pPDR, 32) ∈ ks) (event rail dirty saved us : Nat) :
    State.StoreFrame ks s (t.writeCut event rail dirty saved us).2 := by
  unfold State.writeCut
  dsimp only
  refine State.StoreFrame.withBoard (State.StoreFrame.writeLedger ?_ hk _) ((Board.Calm.refl _ _).count _ _ _ ⟨by decide, by decide, hc⟩)
  exact h.ite (h.pstQueue hk _)

theorem State.readLedger_calm (h : Board.Calm ks s.bd t.bd) (hk : (pPDR, 25) ∈ ks) : Board.Calm ks s.bd t.readLedger.bd := by
  have hput : ∀ {c : Board} (f : Fld) (v : Nat), (f.off < 4096 ∧ f.off / 4 ≠ 4 ∧ f.off / 4 = 25) → Board.Calm ks s.bd c → Board.Calm ks s.bd (c.put pPDR f v) :=
    fun f v ho hc => hc.put _ _ _ ⟨ho.1, ho.2.1, ho.2.2 ▸ hk⟩
  exact hput _ _ (by decide) (hput _ _ (by decide) (hput _ _ (by decide) (hput _ _ (by decide) (hput _ _ (by decide) (hput _ _ (by decide)
    (hput _ _ (by decide) h))))))

end

end Sys2Proof.Machine
end

section
/-! The sequence (O51): entering a state, the end of a drain, and what a domain that powers down leaves of PD00. -/

namespace Sys2Proof.Machine

section
variable {ks : List (Nat × Nat)} {b : Board} {s : State}

/-! ### Entering a state (R357) -/

theorem State.enterSeq_calm (h : Board.Calm ks b s.bd) (hk : (pSEQ0, 17) ∈ ks) (st : Nat) (down : Bool) : Board.Calm ks b (s.enterSeq st down).bd :=
  ((h.put _ _ _ ⟨by decide, by decide, hk⟩).put _ _ _ ⟨by decide, by decide, hk⟩).seqUnit

theorem State.enterSeq_state (s : State) {st : Nat} (h : st < 16) (down : Bool) : (s.enterSeq st down).bd.seqState = st := by
  have hc := (Board.Calm.refl [] ((s.bd.put pSEQ0 F.SEQ_STAT.STATE st).put pSEQ0 F.SEQ_STAT.DOWN (bit down))).seqUnit
  show (((s.bd.put pSEQ0 F.SEQ_STAT.STATE st).put pSEQ0 F.SEQ_STAT.DOWN (bit down)).seqUnit).get pSEQ0 F.SEQ_STAT.STATE = st
  rw [hc.get _ _ (by decide), Board.get_put_clear _ _ (by decide) (by decide), Board.get_put_self _ _ _ _ (by decide)]
  exact Nat.mod_eq_of_lt h

theorem State.enterSeq_down (s : State) (st : Nat) (down : Bool) : (s.enterSeq st down).bd.seqDown = down := by
  have hc := (Board.Calm.refl [] ((s.bd.put pSEQ0 F.SEQ_STAT.STATE st).put pSEQ0 F.SEQ_STAT.DOWN (bit down))).seqUnit
  show (((s.bd.put pSEQ0 F.SEQ_STAT.STATE st).put pSEQ0 F.SEQ_STAT.DOWN (bit down)).seqUnit).on pSEQ0 F.SEQ_STAT.DOWN = down
  rw [hc.on _ _ (by decide), Board.on, Board.get_put_self _ _ _ _ (by decide)]
  cases down <;> rfl

theorem Board.driveStep_seqState (b : Board) (low : Bool) : (b.driveStep low).seqState = b.seqState := b.driveStep_get low rfl (by decide)

theorem Board.driveStep_seqDown (b : Board) (low : Bool) : (b.driveStep low).seqDown = b.seqDown := by
  unfold Board.seqDown Board.on
  rw [b.driveStep_get low rfl (by decide)]

/-- The way down: RAIL_EN and the state change, and of the other registers none but those of the sequence. -/
theorem State.enterDown_calm (h : Board.Calm ks b s.bd) (hk : (pSEQ0, 17) ∈ ks) (hr : (pSEQ1, 16) ∈ ks) (st : Nat) : Board.Calm ks b (s.enterDown st).bd :=
  ((State.enterSeq_calm h hk st true).setRails hr _).driveStep hk false

theorem State.enterDown_state (s : State) {st : Nat} (h : st < 16) : (s.enterDown st).bd.seqState = st ∧ (s.enterDown st).bd.seqDown = true := by
  have hc : ∀ en, Board.Calm [(pSEQ1, 16)] (s.enterSeq st true).bd ((s.enterSeq st true).bd.setRails en) := fun en => (Board.Calm.refl _ _).setRails (by decide) en
  unfold State.enterDown
  rw [State.on_bd, Board.driveStep_seqState, Board.driveStep_seqDown]
  exact ⟨((hc _).get pSEQ0 F.SEQ_STAT.STATE (by decide)).trans (s.enterSeq_state h true),
    ((hc _).on pSEQ0 F.SEQ_STAT.DOWN (by decide)).trans (s.enterSeq_down st true)⟩

/-! ### The end of a drain -/

theorem State.endDrain_calm (h : Board.Calm ks b s.bd) (hp : (pPDR, 18) ∈ ks) (hr : (pRTM, 17) ∈ ks) : Board.Calm ks b s.endDrain.bd :=
  ((h.put _ _ _ ⟨by decide, by decide, hp⟩).put _ _ _ ⟨by decide, by decide, hp⟩).put _ _ _ ⟨by decide, by decide, hr⟩

theorem State.endDrain_phase (s : State) : s.endDrain.bd.get pPDR F.PDR_STAT.PHASE = 0 := by
  unfold State.endDrain
  rw [Board.get_put_clear _ _ (by decide) (by decide), Board.get_put_clear _ _ (by decide) (by decide), Board.get_put_self _ _ _ _ (by decide)]
  rfl

theorem State.endDrain_drain (s : State) : s.endDrain.bd.on pRTM F.RTM_STAT.DRAIN = false := by
  unfold State.endDrain Board.on
  rw [Board.get_put_self _ _ _ _ (by decide)]
  rfl

/-! ### A domain powers down (R491) -/

theorem Board.Calm.resetPage {c : Board} (h : Board.Calm ks b c) {p : Nat} (hp : domainOf p ≠ 0) (keep : RstClass → Bool) : Board.Calm ks b (c.resetPage p keep) := by
  unfold Board.resetPage
  refine Board.Calm.same (List.foldlRecOn (motive := Board.Calm ks b) _ _ h fun d hd e _ => ?_) rfl rfl rfl
  exact hd.ite (hd.wr p _ (by omega) (.inl hp))

theorem domainPages_domain {d p : Nat} (hd : 0 < d) (hp : p ∈ domainPages d) : domainOf p ≠ 0 := by
  have h := (List.mem_filter.1 hp).2
  simp only [Bool.or_eq_true, Bool.and_eq_true, decide_eq_true_eq] at h
  omega

end

/-- What a loss of a domain's memories leaves: the registers, what has been sent, the clock and the sequence. -/
structure State.Dropped (s t : State) : Prop where
  regs : t.bd.regs = s.bd.regs
  out : t.bd.out = s.bd.out
  now : t.bd.now = s.bd.now
  seq : t.seq = s.seq

theorem State.Dropped.refl (s : State) : s.Dropped s := ⟨rfl, rfl, rfl, rfl⟩

theorem State.Dropped.trans {s t u : State} (h : s.Dropped t) (k : t.Dropped u) : s.Dropped u :=
  ⟨k.regs.trans h.regs, k.out.trans h.out, k.now.trans h.now, k.seq.trans h.seq⟩

theorem State.cutStripe_dropped (s : State) (t : Stripe) : s.Dropped (s.cutStripe t) := by
  have h0 : s.Dropped (s.on Board.useOpen) := ⟨rfl, rfl, rfl, rfl⟩
  unfold State.cutStripe
  dsimp only
  split
  · exact List.foldlRecOn (motive := s.Dropped) _ _ h0 fun u hu e _ => hu.trans ⟨rfl, rfl, rfl, rfl⟩
  · exact h0

theorem State.foldl_cutStripe_dropped (l : List Stripe) (s : State) : s.Dropped (l.foldl State.cutStripe s) :=
  List.foldlRecOn (motive := s.Dropped) _ _ (.refl s) fun u hu t _ => hu.trans (u.cutStripe_dropped t)

theorem State.dropCore_dropped (s : State) : s.Dropped s.dropCore := by
  obtain ⟨hr, ho, hn, hq⟩ := s.foldl_cutStripe_dropped s.wp.stripes
  exact ⟨hr, ho, hn, hq⟩

theorem State.cutMedia_dropped (s : State) (p : Nat → Bool) : s.Dropped (s.cutMedia p) := by
  obtain ⟨hr, ho, hn, hq⟩ := s.foldl_cutStripe_dropped (s.wp.stripes.filter (fun (t : Stripe) => t.pages.any (fun (e : Nat × PageJob) => p e.1)))
  exact ⟨hr, ho, hn, hq⟩

theorem State.dropDomain_dropped (s : State) (d : Nat) : s.Dropped (s.dropDomain d) := by
  unfold State.dropDomain
  split_ifs
  · exact s.dropCore_dropped
  · exact ⟨rfl, rfl, rfl, rfl⟩
  · exact ⟨rfl, rfl, rfl, rfl⟩
  · exact ⟨rfl, rfl, rfl, rfl⟩
  · exact ⟨rfl, rfl, rfl, rfl⟩
  · exact ⟨rfl, rfl, rfl, rfl⟩
  · exact s.cutMedia_dropped _
  · exact .refl s

theorem State.dropAll_dropped (s : State) : s.Dropped s.dropAll :=
  List.foldlRecOn (motive := s.Dropped) _ _ (.refl s) fun u hu k _ => hu.trans (u.dropDomain_dropped (k + 1))

/-- The units of a domain move to OFF and their pages lose their registers. -/
def Board.unitsOff (b : Board) (d : Nat) : Board := (domainPages d).foldl (fun b p => (b.resetPage p keepWarm).move p stOFF 0) b

theorem Board.unitsOff_calm (b : Board) {d : Nat} (hd : 0 < d) : Board.Calm [] b (b.unitsOff d) :=
  List.foldlRecOn (motive := Board.Calm [] b) _ _ (.refl _ _) fun _ hc _ hp => (hc.resetPage (domainPages_domain hd hp) _).move _ _ _

theorem Board.Calm.mono {ks ls : List (Nat × Nat)} {b c : Board} (h : Board.Calm ks b c) (hk : ks ⊆ ls) : Board.Calm ls b c :=
  ⟨fun p o ho hd he hs hn => h.regs p o ho hd he hs fun hm => hn (hk hm), h.status, h.out, h.now⟩

section
variable {ks : List (Nat × Nat)} {b : Board} {s : State}

theorem State.domainDown_calm (h : Board.Calm ks b s.bd) (hk : (pSEQ1, 18) ∈ ks) {d : Nat} (hd : 0 < d) : Board.Calm ks b (s.domainDown d).bd := by
  have h1 := h.trans ((s.bd.unitsOff_calm hd).mono (List.nil_subset ks))
  have hdrop := State.dropDomain_dropped ((s.on (Board.unitsOff · d)).on
    (fun b => b.put pSEQ1 F.SEQ_DOM_PG.PG (nsetbit (b.get pSEQ1 F.SEQ_DOM_PG.PG) d false))) d
  exact (h1.put _ _ _ ⟨by decide, by decide, hk⟩).same hdrop.regs hdrop.out hdrop.now

end

/-- R356, R491: the domain's power-good falls, and no other does. -/
theorem State.domainDown_domainOn (s : State) {d e : Nat} (hd : 0 < d) (he : 0 < e) :
    (s.domainDown d).bd.domainOn e = (decide (e ≠ d) && s.bd.domainOn e) := by
  have h1 := s.bd.unitsOff_calm hd
  have hdrop := State.dropDomain_dropped ((s.on (Board.unitsOff · d)).on
    (fun b => b.put pSEQ1 F.SEQ_DOM_PG.PG (nsetbit (b.get pSEQ1 F.SEQ_DOM_PG.PG) d false))) d
  have hpg : (s.domainDown d).bd.get pSEQ1 F.SEQ_DOM_PG.PG = nsetbit (s.bd.get pSEQ1 F.SEQ_DOM_PG.PG) d false := by
    have hrd : (s.domainDown d).bd.rd pSEQ1 F.SEQ_DOM_PG.PG.off =
        ((s.bd.unitsOff d).put pSEQ1 F.SEQ_DOM_PG.PG (nsetbit ((s.bd.unitsOff d).get pSEQ1 F.SEQ_DOM_PG.PG) d false)).rd pSEQ1 F.SEQ_DOM_PG.PG.off := by
      simp only [Board.rd]
      exact congrArg (fun m => smGet regDefault m _) hdrop.regs
    rw [Board.get_congr hrd, Board.get_put_self _ _ _ _ (by decide), h1.get _ _ (by decide)]
    exact Nat.mod_eq_of_lt (lt_of_le_of_lt (nsetbit_false_le _ _) (Board.get_lt _ _ _))
  unfold Board.domainOn
  rw [hpg, nbit_nsetbit_false]
  simp [Nat.pos_iff_ne_zero.1 he]

/-! ### Shut-off (R366, R367) -/

/-- The loop of a shut-off over the domains `ds`. -/
def State.domainsDown (s : State) (ds : List Nat) : State := ds.foldl (fun s k => if s.bd.domainOn (k + 1) then s.domainDown (k + 1) else s) s

theorem State.domainsDown_calm {ks : List (Nat × Nat)} (hk : (pSEQ1, 18) ∈ ks) (s : State) (ds : List Nat) : Board.Calm ks s.bd (s.domainsDown ds).bd := by
  refine List.foldlRecOn (motive := fun t : State => Board.Calm ks s.bd t.bd) _ _ (.refl _ _) fun t ht k _ => ?_
  split
  · exact State.domainDown_calm ht hk (Nat.succ_pos k)
  · exact ht

theorem State.domainsDown_off {e : Nat} (he : 0 < e) (ds : List Nat) : ∀ s : State, e - 1 ∈ ds ∨ s.bd.domainOn e = false →
    (s.domainsDown ds).bd.domainOn e = false := by
  induction ds with
  | nil => intro s h; simpa [State.domainsDown] using h
  | cons k ds ih =>
    intro s h
    refine ih _ ?_
    by_cases hek : e = k + 1
    · subst hek
      right
      dsimp only
      split
      · rw [State.domainDown_domainOn _ he he]
        simp
      · next h' => simpa using h'
    · have hne : e - 1 ≠ k := by omega
      rcases h with h | h
      · exact .inl (List.mem_of_ne_of_mem hne h)
      · right
        dsimp only
        split
        · rw [State.domainDown_domainOn _ (Nat.succ_pos k) he, h, Bool.and_false]
        · exact h

/-- The words of PD00 that a shut-off writes. -/
def offWords : List (Nat × Nat) := [(pSEQ1, 16), (pSEQ1, 17), (pSEQ1, 18), (pPDR, 18), (pRTM, 17), (pSEQ0, 17)]

/-- The rails fall, while the domains are still up. -/
def State.railsLow (s : State) : State :=
  ({ s with seq := { s.seq with regions := s.regions } } : State).on (fun b => (b.setRails 0).put pSEQ1 F.SEQ_RAIL_PG.PG 0)

/-- The rails fall and the domains power down. -/
def State.railsDown (s : State) : State := s.railsLow.domainsDown (List.range 19)

theorem State.shutOff_eq (s : State) : s.shutOff = ((s.railsDown.endDrain).enterSeq 14 false).on (fun b => b.driveStep false) := rfl

/-- The end of a shut-off writes no word of SEQ1. -/
theorem State.shutOff_after (s : State) : Board.Calm [(pPDR, 18), (pRTM, 17), (pSEQ0, 17)] s.railsDown.bd s.shutOff.bd := by
  rw [State.shutOff_eq]
  exact (State.enterSeq_calm (State.endDrain_calm (.refl _ _) (by decide) (by decide)) (by decide) 14 false).driveStep (by decide) false

theorem State.railsDown_before (s : State) : Board.Calm [(pSEQ1, 18)] s.railsLow.bd s.railsDown.bd := State.domainsDown_calm (by decide) _ _

theorem State.shutOff_calm {ks : List (Nat × Nat)} {b : Board} {s : State} (h : Board.Calm ks b s.bd) (hk : offWords ⊆ ks) : Board.Calm ks b s.shutOff.bd := by
  have h1 : Board.Calm ks b s.railsLow.bd := (h.setRails (hk (by decide)) 0).put pSEQ1 F.SEQ_RAIL_PG.PG 0 ⟨by decide, by decide, hk (by decide)⟩
  exact (h1.trans (s.railsDown_before.mono fun x hx => hk (by revert x; decide))).trans (s.shutOff_after.mono fun x hx => hk (by revert x; decide))

theorem State.shutOff_state (s : State) : s.shutOff.bd.seqState = 14 := by
  rw [State.shutOff_eq, State.on_bd, Board.driveStep_seqState, State.enterSeq_state _ (by decide)]

theorem State.shutOff_rails (s : State) : s.shutOff.bd.get pSEQ1 F.SEQ_RAIL_EN.EN = 0 := by
  rw [s.shutOff_after.get _ _ (by decide), s.railsDown_before.get _ _ (by decide)]
  exact (Board.get_put_clear _ _ (by decide) (by decide)).trans (Board.setRails_get _ (by decide))

theorem State.shutOff_domains (s : State) {d : Nat} (h1 : 1 ≤ d) (h2 : d ≤ 19) : s.shutOff.bd.domainOn d = false := by
  have h : s.railsDown.bd.domainOn d = false := State.domainsDown_off h1 _ _ (.inl (List.mem_range.2 (by omega)))
  unfold Board.domainOn at h ⊢
  rwa [s.shutOff_after.get _ _ (by decide)]

end Sys2Proof.Machine
end

section
/-! Drains, resets and shut-offs (O51): one lemma for each row of chapter 13 that the statement speaks of. -/

namespace Sys2Proof.Machine

section
variable (s : State)

theorem exec_pfail : exec .pfail s = s.run State.pfail := rfl
theorem exec_resetN (ns : Nat) : exec (.resetN ns) s = s.run (·.resetN ns) := rfl
theorem exec_pfailGlitch (ns : Fin 1000) : exec (.pfailGlitch ns) s = s.quick (·.pfailGlitch ns.val) := rfl
theorem exec_pfailRelease : exec .pfailRelease s = s.quick State.pfailRelease := rfl
theorem exec_admitEnd : exec .admitEnd s = s.run State.admitEnd := rfl
theorem exec_drained : exec .drained s = s.run State.drained := rfl
theorem exec_powerDown (p : Path) : exec (.powerDown p) s = s.run (·.powerDown p) := rfl
theorem exec_railFault (rail : Fin 64) : exec (.railFault rail) s = s.run (·.railFault rail.val) := rfl
theorem exec_cpxFault (page : Fin 512) (event : Fin 32) (info : Word) :
    exec (.cpxFault page event info) s = s.run (·.cpxFault page.val event.val info.toNat) := rfl
theorem exec_thermtripCheck (readings : List (Option (BitVec 16))) :
    exec (.thermtripCheck readings) s = s.run (·.thermtrip (readings.map (fun x => x.map BitVec.toInt))) := rfl
theorem exec_resetNRelease : exec .resetNRelease s = s.quick State.resetRelease := rfl
theorem exec_coldReset (low : Bool) : exec (.coldReset low) s = s.quick (·.coldReset low) := rfl

end

theorem getLsbD_of_raise (b : Board) (p : Nat) (e : Ev) (h : e.bit < 32) : ((b.raise p e).rd p 0x010).getLsbD e.bit = true := b.raise_status p e h

/-! ### The drain begins (R371, R377) -/

/-- The state in which a drain has begun and its work has not. -/
def State.draining (s : State) (event : Nat) : State :=
  let t := s.enterSeq 13 true
  ({ t with seq := { t.seq with drainBy := event, drainFrom := t.bd.now, creditsHeld := true } } : State).on
    (fun b => ((b.put pPDR F.PDR_STAT.PHASE 1).put pRTM F.RTM_STAT.DRAIN 1).overrideLoop 5 0 0 0)

theorem State.startDrain_eq (s : State) (event : Nat) : s.startDrain event = ((s.draining event).stopWork).drainPass := rfl

theorem Board.overrideLoop_calm (b : Board) (what bound applied : Nat) : Board.Calm [(pLOOP, 22), (pLOOP, 29)] b (b.overrideLoop 5 what bound applied) :=
  (((Board.Calm.refl _ _).count _ _ _ (by decide)).count _ _ _ (by decide)).raise _ _

/-- R371: what the beginning of a drain shows, and that it leaves home and cache alone. -/
theorem State.draining_shows (s : State) (event : Nat) :
    (s.draining event).bd.seqState = 13 ∧ (s.draining event).bd.get pPDR F.PDR_STAT.PHASE = 1 ∧ (s.draining event).bd.on pRTM F.RTM_STAT.DRAIN = true
      ∧ (s.draining event).seq.drainFrom = s.bd.now := by
  have hseq := State.enterSeq_calm (.refl [(pSEQ0, 17)] s.bd) (by decide) 13 true
  have hloop := (((s.enterSeq 13 true).bd.put pPDR F.PDR_STAT.PHASE 1).put pRTM F.RTM_STAT.DRAIN 1).overrideLoop_calm 0 0 0
  have hput : Board.Calm [(pPDR, 18), (pRTM, 17)] (s.enterSeq 13 true).bd (((s.enterSeq 13 true).bd.put pPDR F.PDR_STAT.PHASE 1).put pRTM F.RTM_STAT.DRAIN 1) :=
    ((Board.Calm.refl _ _).put _ _ _ (by decide)).put _ _ _ (by decide)
  refine ⟨?_, ?_, ?_, hseq.now⟩
  · exact (hloop.get pSEQ0 F.SEQ_STAT.STATE (by decide)).trans ((hput.get pSEQ0 F.SEQ_STAT.STATE (by decide)).trans (s.enterSeq_state (by decide) true))
  · refine (hloop.get pPDR F.PDR_STAT.PHASE (by decide)).trans ?_
    rw [Board.get_put_clear _ _ (by decide) (by decide), Board.get_put_self _ _ _ _ (by decide)]
    rfl
  · refine (hloop.on pRTM F.RTM_STAT.DRAIN (by decide)).trans ?_
    rw [Board.on_iff, Board.get_put_self _ _ _ _ (by decide)]
    rfl

/-- PFAIL_N is shown and counted (R369). -/
def Board.pfailSeen (b : Board) : Board := (b.put pSEQ0 F.SEQ_STAT.PFAIL 1).count pPDR F.PDR_PFAILS.COUNT 1

/-- The state once PFAIL_N has been shown and counted. -/
def State.pfailSeen (s : State) : State :=
  let t := s.on Board.pfailSeen
  { t with seq := { t.seq with pfailAt := t.bd.now } }

theorem State.pfail_run {s : State} (h : s.bd.seqState = 12) :
    ∃ e : Board → Ev, s.pfail = (s.pfailSeen.on (fun b => b.raise pPDR (e b))).startDrain 1 :=
  ⟨fun b => ev E.PDR.PFAIL (bit b.declared) s.pfailSeen.dirty s.pfailSeen.regions.length b.dirtyLimit, if_pos h⟩

theorem State.pfail_standby {s : State} (h : s.bd.seqState = 1) : s.pfail = s.pfailSeen := by
  have h12 : ¬ s.bd.seqState = 12 := by omega
  have h15 : ¬ s.bd.seqState = 15 := by omega
  have hm : seqMiddle s.bd.seqState = false := by rw [h]; decide
  unfold State.pfail
  simp only [h12, h15, hm, Bool.and_false, Bool.false_eq_true, if_false]
  rfl

theorem State.pfailSeen_shows (s : State) : s.pfailSeen.bd.seqState = s.bd.seqState ∧ s.pfailSeen.bd.on pSEQ0 F.SEQ_STAT.PFAIL = true
    ∧ s.pfailSeen.bd.get pPDR F.PDR_PFAILS.COUNT = min (2 ^ F.PDR_PFAILS.COUNT.width - 1) (s.bd.get pPDR F.PDR_PFAILS.COUNT + 1) := by
  have hc : Board.Calm [(pPDR, 31)] (s.bd.put pSEQ0 F.SEQ_STAT.PFAIL 1) s.bd.pfailSeen := (Board.Calm.refl _ _).count _ _ _ (by decide)
  refine ⟨?_, ?_, ?_⟩
  · exact (hc.get pSEQ0 F.SEQ_STAT.STATE (by decide)).trans (Board.get_put_clear _ _ (by decide) (by decide))
  · refine (hc.on pSEQ0 F.SEQ_STAT.PFAIL (by decide)).trans ?_
    rw [Board.on_iff, Board.get_put_self _ _ _ _ (by decide)]
    rfl
  · show s.bd.pfailSeen.get pPDR F.PDR_PFAILS.COUNT = _
    unfold Board.pfailSeen
    rw [Board.get_count_self _ _ _ _ (by decide), Board.get_put_clear _ _ (by decide) (by decide)]

theorem State.resetN_run {s : State} (h : s.bd.seqState = 12) :
    s.resetN 1000 = ({ s with seq := { s.seq with resetLow := true, resetHeld := true } } : State).startDrain 3 := by
  unfold State.resetN
  simp only [decide_true, Bool.true_or, Bool.not_true, Bool.false_eq_true, le_refl, if_false, lt_self_iff_false, and_false]
  exact if_pos h

/-! ### The drain goes on (R371 steps 2 to 6) -/

/-- The state once the homes take no more writes, before the drain's next pass. -/
theorem State.admitEnd_shows {s : State} (h : s.bd.seqState = 13) (hp : s.bd.get pPDR F.PDR_STAT.PHASE = 1) :
    ∃ v : State, s.admitEnd = v.drainPass ∧ v.bd.get pPDR F.PDR_STAT.PHASE = 2 ∧ v.bd.on pPDR F.PDR_STAT.HELD = true
      ∧ v.bd.get pPDR F.PDR_DIRTY_AT.LINES = s.dirty % 2 ^ F.PDR_DIRTY_AT.LINES.width ∧ v.bd.now = max s.bd.now (s.seq.drainFrom + 10) ∧ v.cache = s.cache := by
  unfold State.admitEnd
  rw [if_pos ⟨h, hp⟩]
  extract_lets dirty s1 s2 s3
  have hs : State.StoreFrame [(pPST, 16)] s3 (s3.writeLedger (s3.ledgerNow 2 s3.seq.drainBy 63)) := (State.StoreFrame.refl _ _).writeLedger (by decide) _
  refine ⟨_, rfl, ?_, ?_, ?_, hs.calm.now, (congrArg State.cache hs.same :)⟩
  · rw [hs.calm.get _ _ (by decide)]
    show (((((s1.bd.put pPDR F.PDR_STAT.PHASE 2).put pPDR F.PDR_STAT.HELD 1).put pPDR F.PDR_DIRTY_AT.LINES dirty).put pPDR F.PDR_SAVED.LINES 0).put pPDR
      F.PDR_DRAIN_US.US 0).get pPDR F.PDR_STAT.PHASE = 2
    rw [Board.get_put_clear _ _ (by decide) (by decide), Board.get_put_clear _ _ (by decide) (by decide), Board.get_put_clear _ _ (by decide) (by decide),
      Board.get_put_clear _ _ (by decide) (by decide), Board.get_put_self _ _ _ _ (by decide)]
    rfl
  · rw [hs.calm.on _ _ (by decide), Board.on_iff]
    show (((((s1.bd.put pPDR F.PDR_STAT.PHASE 2).put pPDR F.PDR_STAT.HELD 1).put pPDR F.PDR_DIRTY_AT.LINES dirty).put pPDR F.PDR_SAVED.LINES 0).put pPDR
      F.PDR_DRAIN_US.US 0).get pPDR F.PDR_STAT.HELD = 1
    rw [Board.get_put_clear _ _ (by decide) (by decide), Board.get_put_clear _ _ (by decide) (by decide), Board.get_put_clear _ _ (by decide) (by decide),
      Board.get_put_self _ _ _ _ (by decide)]
    rfl
  · rw [hs.calm.get _ _ (by decide)]
    show (((((s1.bd.put pPDR F.PDR_STAT.PHASE 2).put pPDR F.PDR_STAT.HELD 1).put pPDR F.PDR_DIRTY_AT.LINES dirty).put pPDR F.PDR_SAVED.LINES 0).put pPDR
      F.PDR_DRAIN_US.US 0).get pPDR F.PDR_DIRTY_AT.LINES = _
    rw [Board.get_put_clear _ _ (by decide) (by decide), Board.get_put_clear _ _ (by decide) (by decide), Board.get_put_self _ _ _ _ (by decide)]

/-- The part returns to RUN out of a drain. -/
def State.backToRun (t : State) (l : LedgerRec) : State := ((t.endDrain).enterSeq 12 false).writeLedger l

/-- The part goes on down out of a drain. -/
def State.goDown (t : State) : State := (t.on (fun b => (b.put pPDR F.PDR_STAT.PHASE 3).put pRTM F.RTM_STAT.DRAIN 0)).enterDown 11

/-- The words that the end of a drain writes. -/
def drainWords : List (Nat × Nat) := [(pPDR, 18), (pRTM, 17), (pSEQ0, 17), (pSEQ1, 16), (pPST, 16)]

theorem State.backToRun_shows (t : State) (l : LedgerRec) : Board.Calm drainWords t.bd (t.backToRun l).bd ∧ (t.backToRun l).bd.on pRTM F.RTM_STAT.DRAIN = false
    ∧ (t.backToRun l).bd.seqState = 12 ∧ (t.backToRun l).bd.seqDown = false ∧ (t.backToRun l).bd.get pPDR F.PDR_STAT.PHASE = 0 := by
  have hs : State.StoreFrame [(pPST, 16)] (t.endDrain.enterSeq 12 false) (t.backToRun l) := (State.StoreFrame.refl _ _).writeLedger (by decide) _
  have he : Board.Calm [(pSEQ0, 17)] t.endDrain.bd (t.endDrain.enterSeq 12 false).bd := State.enterSeq_calm (.refl _ _) (by decide) _ _
  have hd : Board.Calm drainWords t.bd (t.endDrain.enterSeq 12 false).bd :=
    State.enterSeq_calm (State.endDrain_calm (.refl _ _) (by decide) (by decide)) (by decide) _ _
  refine ⟨hd.trans (hs.calm.mono (by decide)), ?_, ?_, ?_, ?_⟩
  · rw [hs.calm.on _ _ (by decide), he.on _ _ (by decide), State.endDrain_drain]
  · exact (hs.calm.get pSEQ0 F.SEQ_STAT.STATE (by decide)).trans (State.enterSeq_state _ (by decide) _)
  · exact (hs.calm.on pSEQ0 F.SEQ_STAT.DOWN (by decide)).trans (State.enterSeq_down _ _ _)
  · rw [hs.calm.get _ _ (by decide), he.get _ _ (by decide), State.endDrain_phase]

theorem State.goDown_shows (t : State) : Board.Calm drainWords t.bd t.goDown.bd ∧ t.goDown.bd.on pRTM F.RTM_STAT.DRAIN = false
    ∧ t.goDown.bd.seqState = 11 ∧ t.goDown.bd.seqDown = true ∧ t.goDown.bd.get pPDR F.PDR_STAT.PHASE = 3 := by
  have hp : Board.Calm drainWords t.bd ((t.bd.put pPDR F.PDR_STAT.PHASE 3).put pRTM F.RTM_STAT.DRAIN 0) :=
    ((Board.Calm.refl _ _).put _ _ _ (by decide)).put _ _ _ (by decide)
  have hd : Board.Calm [(pSEQ0, 17), (pSEQ1, 16)] ((t.bd.put pPDR F.PDR_STAT.PHASE 3).put pRTM F.RTM_STAT.DRAIN 0) t.goDown.bd :=
    State.enterDown_calm (s := t.on (fun b => (b.put pPDR F.PDR_STAT.PHASE 3).put pRTM F.RTM_STAT.DRAIN 0)) (.refl _ _) (by decide) (by decide) 11
  obtain ⟨hst, hdn⟩ := State.enterDown_state (t.on (fun b => (b.put pPDR F.PDR_STAT.PHASE 3).put pRTM F.RTM_STAT.DRAIN 0)) (st := 11) (by decide)
  refine ⟨hp.trans (hd.mono (by decide)), ?_, hst, hdn, ?_⟩
  · rw [hd.on _ _ (by decide), Board.on, Board.get_put_self _ _ _ _ (by decide)]
    rfl
  · rw [hd.get _ _ (by decide), Board.get_put_clear _ _ (by decide) (by decide), Board.get_put_self _ _ _ _ (by decide)]
    rfl

/-- R371 steps 5 and 6: the end of a drain raises DRAINED, and the part returns to RUN where the PFAIL_N that began the drain has been released. -/
theorem State.drained_cases {s : State} (h : s.bd.seqState = 13) (hp : s.bd.get pPDR F.PDR_STAT.PHASE = 2) (hd : s.drainDone = true) :
    ∃ t : State, (t.bd.rd pPDR 0x010).getLsbD E.PDR.DRAINED = true ∧
      ((s.seq.drainBy = 1 ∧ s.bd.on pSEQ0 F.SEQ_STAT.PFAIL = false) ∧ (∃ l, s.drained = t.backToRun l)
        ∨ (s.seq.drainBy ≠ 1 ∨ s.bd.on pSEQ0 F.SEQ_STAT.PFAIL = true) ∧ s.drained = t.goDown) := by
  unfold State.drained
  rw [if_pos ⟨h, hp, hd⟩]
  extract_lets us saved back margin s1 s2 s3
  refine ⟨s3, getLsbD_of_raise _ _ (ev E.PDR.DRAINED (bit back) saved us margin) (show E.PDR.DRAINED < 32 by decide), ?_⟩
  cases hback : back with
  | true =>
    have hb : s.seq.drainBy = 1 ∧ s.bd.on pSEQ0 F.SEQ_STAT.PFAIL = false := by simpa [back] using hback
    exact .inl ⟨hb, _, rfl⟩
  | false =>
    have hb : s.seq.drainBy = 1 → s.bd.on pSEQ0 F.SEQ_STAT.PFAIL = true := by simpa [back] using hback
    exact .inr ⟨by tauto, rfl⟩

/-! ### Clean shutdown (R376) -/

theorem Board.otherMembers_put (b : Board) (v : Nat) : (b.put pSEQ0 F.SEQ_CMD.OP v).otherMembers = b.otherMembers := by
  unfold Board.otherMembers Board.selfId
  rw [Board.get_put_clear _ _ (by decide) (by decide), Board.get_put_clear _ _ (by decide) (by decide)]

theorem Board.seqState_putOp (b : Board) (v : Nat) : (b.put pSEQ0 F.SEQ_CMD.OP v).seqState = b.seqState := Board.get_put_clear _ _ (by decide) (by decide)

theorem Board.cleanDown_putOp (b : Board) (v : Nat) : (b.put pSEQ0 F.SEQ_CMD.OP v).cleanDown = b.cleanDown := by
  unfold Board.cleanDown
  rw [Board.get_put_clear _ _ (by decide) (by decide)]

/-- The state in which a POWER_DOWN has been refused. -/
def State.downRefused (s : State) : State := s.on (fun b => (b.put pSEQ0 F.SEQ_CMD.OP 2).put pSEQ0 F.SEQ_CMD.RESULT Code.conflict.num)

theorem State.powerDown_refused {s : State} {p : Path} (h : s.bd.gate p pSEQ0 0x048 false false = none) (hs : s.bd.seqState ≠ 12) :
    s.powerDown p = s.downRefused := by
  unfold State.powerDown
  rw [State.written_pass h]
  exact if_pos (.inl (by rwa [State.on_bd, Board.seqState_putOp]))

/-- The state in which a clean shutdown has begun and nothing has been saved yet. -/
def State.downBegun (s : State) : State :=
  let t := s.on (fun b => b.put pSEQ0 F.SEQ_CMD.OP 2)
  ({ t with seq := { t.seq with creditsHeld := true }, wp := { t.wp with cleanMark := false } } : State).on
    (fun b => (b.put pSEQ0 F.SEQ_CMD.RESULT Code.busy.num).put pPDR F.PDR_STAT.PHASE 4)

theorem State.powerDown_begins {s : State} {p : Path} (h : s.bd.gate p pSEQ0 0x048 false false = none) (hs : s.bd.seqState = 12)
    (ho : s.bd.otherMembers = false) (hc : s.bd.cleanDown = false) :
    s.powerDown p = ((((s.downBegun.saveAge).savePatrol).countHours).saveHealth).writeBackAll := by
  unfold State.powerDown
  rw [State.written_pass h]
  exact if_neg (by simp [Board.seqState_putOp, Board.otherMembers_put, Board.cleanDown_putOp, hs, ho, hc])

/-! ### Shut-offs (R366, R367, R475) -/

/-- The words that a CUT record and a shut-off write. -/
def cutWords : List (Nat × Nat) := (pPST, 16) :: (pPDR, 32) :: offWords

/-- A CUT record is written and everything drops. -/
def State.cutOff (s : State) (event rail dirty : Nat) : State := ((s.writeCut event rail dirty 0 0).2).shutOff

theorem State.cutOff_calm (s : State) (event rail dirty : Nat) : Board.Calm cutWords s.bd (s.cutOff event rail dirty).bd :=
  State.shutOff_calm ((State.StoreFrame.refl cutWords s).writeCut (by decide) (by decide) _ _ _ _ _).calm (by decide)

/-- A fault of a rail in RUN, before the ledger takes it. -/
def State.runFault (s : State) (rail : Nat) : State :=
  let pg := s.bd.railsGood rail
  ((s.noteLast rail).on (fun b =>
    (((b.markRail rail).put pSEQ0 F.SEQ_CAUSE.RAIL_FAULT 1).seqUnit).raise pSEQ0 (ev E.SEQ.RAIL_FAULT rail pg (b.domainsGood rail) s.dirty))).on
    (fun b => (b.logFault pSEQ0 E.SEQ.RAIL_FAULT 12 0 pg false).count pSEQ0 F.SEQ_SHUTOFFS.COUNT 1)

theorem State.railFault_run {s : State} {rail : Nat} (h : s.bd.seqState = 12) (hr : s.bd.railRequired rail = true) :
    s.railFault rail = (s.runFault rail).cutOff 4 rail s.dirty := by
  unfold State.railFault
  simp only [hr, h, Bool.not_true, Bool.false_eq_true, if_false, if_true]
  rfl

/-- The words that the log of a shut-off writes. -/
def logWords : List (Nat × Nat) := (pSEQ0, 24) :: faultWords

theorem Board.logged_calm (b : Board) (event info : Nat) :
    Board.Calm logWords b ((b.logFault pSEQ0 event 12 0 info false).count pSEQ0 F.SEQ_SHUTOFFS.COUNT 1) :=
  ((Board.Calm.refl _ _).logFault (by decide) _ _ _ _ _ _).count _ _ _ (by decide)

theorem State.runFault_shows (s : State) (rail : Nat) :
    (s.runFault rail).bd.on pSEQ0 F.SEQ_CAUSE.RAIL_FAULT = true ∧ ((s.runFault rail).bd.rd pSEQ0 0x010).getLsbD E.SEQ.RAIL_FAULT = true := by
  unfold State.runFault
  extract_lets pg
  generalize hb : ((s.noteLast rail).bd.markRail rail).put pSEQ0 F.SEQ_CAUSE.RAIL_FAULT 1 = b
  have hcause : b.on pSEQ0 F.SEQ_CAUSE.RAIL_FAULT = true := by
    rw [← hb, Board.on_iff, Board.get_put_self _ _ _ _ (by decide)]
    rfl
  simp only [State.on_bd, hb]
  generalize hev : ev E.SEQ.RAIL_FAULT rail pg ((s.noteLast rail).bd.domainsGood rail) s.dirty = e
  have hc := ((Board.Calm.refl [] b).seqUnit.raise pSEQ0 e)
  have hl := (b.seqUnit.raise pSEQ0 e).logged_calm E.SEQ.RAIL_FAULT pg
  refine ⟨by rw [hl.on _ _ (by decide), hc.on _ _ (by decide), hcause], hl.status _ _ (by decide) ?_⟩
  rw [← hev]
  exact getLsbD_of_raise b.seqUnit pSEQ0 _ (show E.SEQ.RAIL_FAULT < 32 by decide)

/-- A fatal stop is shown, before the ledger takes it. -/
def State.fatalShown (s : State) (cls : Nat) : State :=
  s.on (fun b => ((b.put pFLT F.FLT_STAT.FATAL 1).put pFLT F.FLT_STAT.FATAL_CLASS cls).count pSEQ0 F.SEQ_SHUTOFFS.COUNT 1)

theorem State.fatalStop_eq (s : State) (cls : Nat) : s.fatalStop cls = (s.fatalShown cls).cutOff 4 63 (s.fatalShown cls).dirty := rfl

theorem State.fatalShown_shows (s : State) {cls : Nat} (h : cls < 16) :
    (s.fatalShown cls).bd.on pFLT F.FLT_STAT.FATAL = true ∧ (s.fatalShown cls).bd.get pFLT F.FLT_STAT.FATAL_CLASS = cls := by
  have hc : Board.Calm [(pSEQ0, 24)] ((s.bd.put pFLT F.FLT_STAT.FATAL 1).put pFLT F.FLT_STAT.FATAL_CLASS cls) (s.fatalShown cls).bd :=
    (Board.Calm.refl _ _).count _ _ _ (by decide)
  refine ⟨?_, ?_⟩
  · rw [hc.on _ _ (by decide), Board.on_iff, Board.get_put_clear _ _ (by decide) (by decide), Board.get_put_self _ _ _ _ (by decide)]
    rfl
  · rw [hc.get _ _ (by decide), Board.get_put_self _ _ _ _ (by decide)]
    exact Nat.mod_eq_of_lt h

end Sys2Proof.Machine
end

section
/-! THERMTRIP, the short commands of power, WARM and COLD reset (O51). -/

namespace Sys2Proof.Machine

/-! ### PFAIL_N glitches (R369) -/

theorem State.pfailGlitch_shows (s : State) (ns : Nat) :
    (s.pfailGlitch ns).bd.seqState = s.bd.seqState ∧ ((s.pfailGlitch ns).bd.rd pPDR 0x010).getLsbD E.PDR.PFAIL_GLITCH = true := by
  have hc : Board.Calm [(pPDR, 33)] s.bd (s.pfailGlitch ns).bd := ((Board.Calm.refl _ _).count _ _ _ (by decide)).raise _ _
  exact ⟨hc.get pSEQ0 F.SEQ_STAT.STATE (by decide),
    getLsbD_of_raise (s.bd.count pPDR F.PDR_PFAIL_GLITCH.COUNT 1) pPDR (ev E.PDR.PFAIL_GLITCH 0 ns 0 0) (show E.PDR.PFAIL_GLITCH < 32 by decide)⟩

theorem State.pfailRelease_shows (s : State) : s.pfailRelease.bd.on pSEQ0 F.SEQ_STAT.PFAIL = false := by
  show (s.bd.put pSEQ0 F.SEQ_STAT.PFAIL 0).on pSEQ0 F.SEQ_STAT.PFAIL = false
  rw [Board.on, Board.get_put_self _ _ _ _ (by decide)]
  rfl

/-! ### What a POWER_DOWN shows (R376) -/

theorem State.downRefused_result (s : State) : s.downRefused.bd.get pSEQ0 F.SEQ_CMD.RESULT = Code.conflict.num :=
  (Board.get_put_self _ _ _ _ (by decide)).trans (Nat.mod_eq_of_lt (Code.num_lt _))

theorem State.downRefused_only (s : State) : s.bd.Only s.downRefused.bd [(pSEQ0, 18)] :=
  ((Board.Only.refl s.bd _).put _ (by decide) (by decide)).put _ (by decide) (by decide)

theorem State.downBegun_shows (s : State) :
    s.downBegun.bd.get pSEQ0 F.SEQ_CMD.RESULT = Code.busy.num ∧ s.downBegun.bd.get pPDR F.PDR_STAT.PHASE = 4 := by
  have hbd : s.downBegun.bd = ((s.bd.put pSEQ0 F.SEQ_CMD.OP 2).put pSEQ0 F.SEQ_CMD.RESULT Code.busy.num).put pPDR F.PDR_STAT.PHASE 4 := rfl
  rw [hbd]
  refine ⟨?_, ?_⟩
  · rw [Board.get_put_clear _ _ (by decide) (by decide), Board.get_put_self _ _ _ _ (by decide)]
    exact Nat.mod_eq_of_lt (Code.num_lt _)
  · rw [Board.get_put_self _ _ _ _ (by decide)]
    rfl

/-! ### A fault of the processor complex (R474) -/

theorem State.cpxFault_eq {s : State} (h : s.bd.domainOn 3 = true) (page event info : Nat) :
    s.cpxFault page event info = (s.on (·.logFault page event 12 0 info true)).fatalStop 12 := if_pos h

theorem State.fatalStop_shows (s : State) {cls : Nat} (h : cls < 16) :
    (s.fatalStop cls).bd.seqState = 14 ∧ (s.fatalStop cls).bd.on pFLT F.FLT_STAT.FATAL = true ∧ (s.fatalStop cls).bd.get pFLT F.FLT_STAT.FATAL_CLASS = cls
      ∧ ∀ d, 1 ≤ d → d ≤ 19 → (s.fatalStop cls).bd.domainOn d = false := by
  rw [State.fatalStop_eq]
  have hc := (s.fatalShown cls).cutOff_calm 4 63 (s.fatalShown cls).dirty
  obtain ⟨hfatal, hclass⟩ := s.fatalShown_shows h
  exact ⟨State.shutOff_state _, (hc.on _ _ (by decide)).trans hfatal, (hc.get _ _ (by decide)).trans hclass, fun d => State.shutOff_domains _⟩

/-! ### THERMTRIP (R367, R466) -/

/-- Does the reading of sensor `n` stand at `t` or more? -/
def readsAtLeast (temps : List (Option Int)) (n : Nat) (t : Int) : Bool :=
  match temps.getD n none with
  | some x => decide (t ≤ x)
  | none => false

/-- Does sensor `n` trip, with a neighbour that confirms it? -/
def Board.sensorTrips (b : Board) (temps : List (Option Int)) (n : Nat) : Bool :=
  !b.suspectSensor n && readsAtLeast temps n 1040 && (sensorNear n).any (readsAtLeast temps · 944)

theorem readsAtLeast_some {temps : List (Option Int)} {n : Nat} {x : Int} (h : temps.getD n none = some x) (t : Int) :
    readsAtLeast temps n t = decide (t ≤ x) := by
  unfold readsAtLeast
  rw [h]

/-- The readings of a round, as the comparison takes them. -/
theorem getD_readings {readings : List (Option (BitVec 16))} {n : Nat} {t : BitVec 16} (h : readings[n]? = some (some t)) :
    (readings.map (fun x => x.map BitVec.toInt)).getD n none = some t.toInt := by
  simp [List.getD, h]

theorem readsAtLeast_cool {readings : List (Option (BitVec 16))} {x : Int} (h : ∀ t, some t ∈ readings → t.toInt < x) (n : Nat) :
    readsAtLeast (readings.map (fun x => x.map BitVec.toInt)) n x = false := by
  unfold readsAtLeast
  split
  · next y hy =>
    obtain ⟨o, ho, hoy⟩ : ∃ o, readings[n]? = some o ∧ o.map BitVec.toInt = some y := by
      cases hn : readings[n]? with
      | none => simp [List.getD, hn] at hy
      | some o => exact ⟨o, rfl, by simpa [List.getD, hn] using hy⟩
    obtain ⟨t, rfl, rfl⟩ := Option.map_eq_some_iff.1 hoy
    have := h t (List.mem_of_getElem? ho)
    simpa using this
  · rfl

/-- No sensor trips while every reading is below 130 °C. -/
theorem Board.sensorTrips_cool (b : Board) {readings : List (Option (BitVec 16))} (h : ∀ t, some t ∈ readings → t.toInt < 1040) (n : Nat) :
    b.sensorTrips (readings.map (fun x => x.map BitVec.toInt)) n = false := by
  simp [Board.sensorTrips, readsAtLeast_cool h]

/-- A sensor at 130 °C that is not suspect trips with a neighbour at 118 °C. -/
theorem Board.sensorTrips_confirmed {b : Board} {readings : List (Option (BitVec 16))} {n m : Nat} {t t' : BitVec 16} (hs : b.suspectSensor n = false)
    (hm : m ∈ sensorNear n) (hn : readings[n]? = some (some t)) (hn' : readings[m]? = some (some t')) (ht : 1040 ≤ t.toInt) (ht' : 944 ≤ t'.toInt) :
    b.sensorTrips (readings.map (fun x => x.map BitVec.toInt)) n = true := by
  have hnear : (sensorNear n).any (readsAtLeast (readings.map (fun x => x.map BitVec.toInt)) · 944) = true :=
    List.any_eq_true.2 ⟨m, hm, by rw [readsAtLeast_some (getD_readings hn')]; exact decide_eq_true ht'⟩
  rw [Board.sensorTrips, hs, hnear, readsAtLeast_some (getD_readings hn), decide_eq_true ht]
  rfl

/-- The board once the comparison's 100 µs have passed. -/
def Board.compared (b : Board) : Board := b.elapse 13 100

theorem State.thermtrip_cool {s : State} {temps : List (Option Int)} (h : ∀ n, s.bd.compared.sensorTrips temps n = false) :
    s.thermtrip temps = s.on Board.compared := by
  refine if_pos (.inl ?_)
  have : (List.range 36).any (s.bd.compared.sensorTrips temps) = false := by simp [h]
  exact (congrArg (! ·) this : _)

/-- A trip is shown, before the ledger takes it. -/
def State.tripped (s : State) (e f : Ev) (dirty : Nat) : State :=
  ((s.noteLast 63).on (fun b =>
    (((((b.put pTHM F.THM_STAT.TRIPPED 1).emit (.pin "THERMTRIP_N" 0)).raise pTHM e).put pSEQ0 F.SEQ_CAUSE.THERMTRIP 1).seqUnit).raise pSEQ0 f)).on
    (fun b => (b.logFault pSEQ0 E.SEQ.THERMTRIP 12 0 dirty false).count pSEQ0 F.SEQ_SHUTOFFS.COUNT 1)

theorem State.noteLast_calm (s : State) (rail : Nat) : Board.Calm [(pSEQ0, 20)] s.bd (s.noteLast rail).bd :=
  (((Board.Calm.refl _ _).put _ _ _ (by decide)).put _ _ _ (by decide)).put _ _ _ (by decide)

theorem State.tripped_shows (s : State) (e f : Ev) (dirty : Nat) :
    (s.tripped e f dirty).bd.seqState = s.bd.seqState ∧ (s.tripped e f dirty).bd.on pTHM F.THM_STAT.TRIPPED = true
      ∧ (s.tripped e f dirty).bd.on pSEQ0 F.SEQ_CAUSE.THERMTRIP = true ∧ Output.pin "THERMTRIP_N" 0 ∈ (s.tripped e f dirty).bd.out := by
  unfold State.tripped
  rw [State.on_bd, State.on_bd]
  have hn := s.noteLast_calm 63
  generalize (s.noteLast 63).bd = b at hn
  have hp : Board.Calm [(pTHM, 17)] b (b.put pTHM F.THM_STAT.TRIPPED 1) := (Board.Calm.refl _ _).put _ _ _ (by decide)
  have htrip : (b.put pTHM F.THM_STAT.TRIPPED 1).on pTHM F.THM_STAT.TRIPPED = true := by
    rw [Board.on_iff, Board.get_put_self _ _ _ _ (by decide)]
    rfl
  generalize b.put pTHM F.THM_STAT.TRIPPED 1 = c at hp htrip
  have he : Board.Calm [] (c.emit (.pin "THERMTRIP_N" 0)) ((c.emit (.pin "THERMTRIP_N" 0)).raise pTHM e) := (Board.Calm.refl _ _).raise _ _
  have hce : Board.Calm [] c ((c.emit (.pin "THERMTRIP_N" 0)).raise pTHM e) := ((Board.Calm.refl _ _).emit _).raise _ _
  have hpin : Output.pin "THERMTRIP_N" 0 ∈ ((c.emit (.pin "THERMTRIP_N" 0)).raise pTHM e).out := he.out _ (List.mem_append_right _ (List.mem_singleton_self _))
  generalize (c.emit (.pin "THERMTRIP_N" 0)).raise pTHM e = d at hce hpin
  have hq : Board.Calm [(pSEQ0, 19)] d (d.put pSEQ0 F.SEQ_CAUSE.THERMTRIP 1) := (Board.Calm.refl _ _).put _ _ _ (by decide)
  have hcause : (d.put pSEQ0 F.SEQ_CAUSE.THERMTRIP 1).on pSEQ0 F.SEQ_CAUSE.THERMTRIP = true := by
    rw [Board.on_iff, Board.get_put_self _ _ _ _ (by decide)]
    rfl
  generalize d.put pSEQ0 F.SEQ_CAUSE.THERMTRIP 1 = g at hq hcause
  have hl : Board.Calm logWords g (((g.seqUnit.raise pSEQ0 f).logFault pSEQ0 E.SEQ.THERMTRIP 12 0 dirty false).count pSEQ0 F.SEQ_SHUTOFFS.COUNT 1) :=
    (((Board.Calm.refl [] g).seqUnit.raise pSEQ0 f).mono (List.nil_subset _)).trans (Board.logged_calm _ _ _)
  refine ⟨?_, ?_, (hl.on _ _ (by decide)).trans hcause, hl.out _ (hq.out _ hpin)⟩
  · unfold Board.seqState
    rw [hl.get _ _ (by decide), hq.get _ _ (by decide), hce.get _ _ (by decide), hp.get _ _ (by decide), hn.get _ _ (by decide)]
  · rw [hl.on _ _ (by decide), hq.on _ _ (by decide), hce.on _ _ (by decide), htrip]

/-- What a trip that has been shown leads to: outside the powered states nothing, else the full shut-off. -/
def State.tripEnd (s : State) (dirty : Nat) : State :=
  if s.bd.seqState = 0 ∨ s.bd.seqState = 1 ∨ s.bd.seqState = 14 ∨ s.bd.seqState = 15 then s else s.cutOff 6 63 dirty

theorem State.thermtrip_hot {s : State} {temps : List (Option Int)} {n : Nat} (hn : n < 36) (h : s.bd.compared.sensorTrips temps n = true)
    (ht : s.bd.compared.on pTHM F.THM_STAT.TRIPPED = false) :
    ∃ e f dirty, s.thermtrip temps = ((s.on Board.compared).tripped e f dirty).tripEnd dirty := by
  have hany : (List.range 36).any (s.bd.compared.sensorTrips temps) = true := List.any_eq_true.2 ⟨n, List.mem_range.2 hn, h⟩
  have hne : ¬ ((!(List.range 36).any (s.bd.compared.sensorTrips temps)) = true ∨ s.bd.compared.on pTHM F.THM_STAT.TRIPPED = true) := by
    simp [hany, ht]
  let who := ((List.range 36).find? (s.bd.compared.sensorTrips temps)).getD 0
  let near := ((sensorNear who).map (fun m => (temps.getD m none).getD (-10000))).foldl max (-10000)
  exact ⟨ev E.THM.THERMTRIP who (ofSigned 32 ((temps.getD who none).getD 0)) (ofSigned 32 near) 0, ev E.SEQ.THERMTRIP 0 (s.on Board.compared).dirty 0 0,
    (s.on Board.compared).dirty, if_neg hne⟩

/-- R367: in RUN a confirmed trip ends in the full shut-off. -/
theorem State.thermtrip_trips {s : State} {temps : List (Option Int)} {n : Nat} (hn : n < 36) (h : s.bd.compared.sensorTrips temps n = true)
    (ht : s.bd.compared.on pTHM F.THM_STAT.TRIPPED = false) (hs : s.bd.compared.seqState = 12) :
    ∃ e f dirty, s.thermtrip temps = ((s.on Board.compared).tripped e f dirty).cutOff 6 63 dirty := by
  obtain ⟨e, f, dirty, he⟩ := State.thermtrip_hot hn h ht
  refine ⟨e, f, dirty, he.trans (if_neg ?_)⟩
  rw [(State.tripped_shows (s.on Board.compared) e f dirty).1, State.on_bd, hs]
  decide

end Sys2Proof.Machine
end

section
/-! WARM and COLD reset (O51). -/

namespace Sys2Proof.Machine

/-! ### WARM reset (R12, R377) -/

/-- The board of a WARM reset before the part enters state 0: PD00 alone has power. -/
def Board.warmed (b : Board) : Board := ((b.setRails 0).warm.put pSEQ1 F.SEQ_DOM_PG.PG 1).put pSEQ1 F.SEQ_RAIL_PG.PG 0

theorem Board.warmed_domains (b : Board) : b.warmed.get pSEQ1 F.SEQ_DOM_PG.PG = 1 := by
  unfold Board.warmed
  rw [Board.get_put_clear _ _ (by decide) (by decide), Board.get_put_self _ _ _ _ (by decide)]
  rfl

/-- The words that the end of a WARM reset writes. -/
def warmWords : List (Nat × Nat) := [(pPDR, 18), (pRTM, 17), (pPDR, 25), (pSEQ0, 17)]

/-- R12, R377: after a WARM reset the part is in state 0, PD00 alone has power, and the part comes from a reset. -/
theorem State.warmReset_shows (s : State) : s.warmReset.bd.seqState = 0 ∧ s.warmReset.bd.get pSEQ1 F.SEQ_DOM_PG.PG = 1
    ∧ s.warmReset.seq.resetLow = s.seq.resetLow ∧ s.warmReset.seq.fromReset = true := by
  unfold State.warmReset
  extract_lets src s1 s2 s3 s4 s5 src5 srcSec s6
  have hseq : s2.seq = s1.seq := s1.dropAll_dropped.seq
  clear_value s2
  have h3 : s3.bd = s2.bd.warmed := rfl
  have hlow : s6.seq.resetLow = s3.seq.resetLow := rfl
  have hreset : s6.seq.fromReset = true := rfl
  have h6 : s6.bd = s5.bd := rfl
  clear_value s6
  have hdrain : Board.Calm warmWords s4.bd s4.endDrain.bd := State.endDrain_calm (.refl _ _) (by decide) (by decide)
  have hledger : Board.Calm warmWords s4.bd s5.bd := State.readLedger_calm (s := s4) (t := s4.endDrain) hdrain (by decide)
  have h4 : s4.bd = s2.bd.warmed := h3
  clear_value s5 s4
  rw [← h6] at hledger
  have henter : Board.Calm warmWords s4.bd (s6.enterSeq 0 false).bd := State.enterSeq_calm hledger (by decide) 0 false
  refine ⟨?_, ?_, ?_, hreset⟩
  · rw [State.on_bd, Board.driveStep_seqState, State.enterSeq_state _ (by decide)]
  · rw [State.on_bd, (henter.driveStep (by decide) true).get _ _ (by decide), h4, s2.bd.warmed_domains]
  · exact hlow.trans (congrArg Seq.resetLow hseq :)

/-- R377, R499: a RESET_N assertion takes effect at once in STANDBY. -/
theorem State.resetN_standby {s : State} {ns : Nat} (hn : 1000 ≤ ns) (h : s.bd.seqState = 1) (hd : s.bd.seqDown = false) :
    s.resetN ns = ({ s with seq := { s.seq with resetLow := true } } : State).warmReset := by
  have ht : decide (1000 ≤ ns) = true := decide_eq_true hn
  have hlow : ¬ (100 ≤ ns ∧ ns < 1000) := by omega
  unfold State.resetN
  simp only [ht, Bool.true_or, Bool.not_true, Bool.false_eq_true, if_false, hlow, h, hd, false_and]
  rfl

/-- R499: a low of RESET_N below 100 ns is ignored. -/
theorem State.resetN_ignored (s : State) {ns : Nat} (hn : ns < 100) : s.resetN ns = s := by
  have h1 : ¬ 1000 ≤ ns := by omega
  have h2 : ¬ 100 ≤ ns := by omega
  unfold State.resetN
  simp [h1, h2]

/-! ### What the store brings back (R430) -/

/-- The words of the configuration (Table 17-4). -/
def configWords : List (Nat × Nat) := configFields.map (fun c => (c.1, c.2.off / 4))

/-- The words that the load of the store writes. -/
def loadWords : List (Nat × Nat) :=
  faultWords ++ [(pPST, 16), (pPST, 25), (pPST, 26), (pPST, 31), (pPST, 32), (pPST, 33), (pPDR, 25), (pSEC, 24), (pSEC, 17)]
    ++ (List.range 16).map (fun k => (pSEC, 32 + k)) ++ configWords

theorem State.loadRecord_frame (s : State) (id : Nat) : State.StoreFrame loadWords s (s.loadRecord id) := by
  unfold State.loadRecord
  generalize s.pst.choose id = chosen
  obtain ⟨row, used, fix⟩ := chosen
  dsimp -zeta only
  extract_lets seq bad okA okB found src s1 s2
  have hs : State.StoreFrame loadWords s s1 := (State.StoreFrame.refl _ _).withPst _
  have h2 : State.StoreFrame loadWords s s2 := State.StoreFrame.ite hs (hs.pstQueue (by decide) _)
  refine h2.withBoard ?_
  have hr := Board.Calm.refl loadWords s2.bd
  split
  · exact (hr.count _ _ _ (by decide)).raise _ _
  · exact (hr.count _ _ _ (by decide)).raise _ _
  · exact hr.count _ _ _ (by decide)
  · exact ((hr.count _ _ _ (by decide)).raise _ _).logFault (by decide) _ _ _ _ _ _
  · exact (hr.raise _ _).logFault (by decide) _ _ _ _ _ _
  · exact hr

theorem State.repairSkip_frame (s : State) (n : Nat) : State.StoreFrame loadWords s (s.repairSkip n) := by
  have hput : ∀ {b c : Board} {f : Fld} (v : Nat), f = F.PST_SKIP_LO.SKIP ∨ f = F.PST_SKIP_HI.SKIP → Board.Calm loadWords b c →
      Board.Calm loadWords b (c.put pPST f v) := by
    rintro b c f v (rfl | rfl) h
    · exact h.put _ _ _ (by decide)
    · exact h.put _ _ _ (by decide)
  unfold State.repairSkip
  split
  · refine State.StoreFrame.ite (.refl _ _) (State.StoreFrame.withBoard ((State.StoreFrame.refl _ _).pstQueue (by decide) _) ?_)
    exact (hput _ (by split <;> simp) (.refl _ _)).raise _ _
  · exact .refl _ _

theorem State.StoreFrame.foldl {ks : List (Nat × Nat)} {f : State → Nat → State} (hf : ∀ s n, State.StoreFrame ks s (f s n)) (l : List Nat) (s : State) :
    State.StoreFrame ks s (l.foldl f s) :=
  List.foldlRecOn (motive := State.StoreFrame ks s) _ _ (.refl _ _) fun u hu n _ => hu.trans (hf u n)

theorem State.loadAll_frame (s : State) : State.StoreFrame loadWords s s.loadAll := by
  unfold State.loadAll
  extract_lets s1 s2
  have h2 : State.StoreFrame loadWords s s2 := (State.StoreFrame.foldl State.loadRecord_frame _ _).trans (State.StoreFrame.foldl State.repairSkip_frame _ _)
  have hput : Board.Calm loadWords s2.bd (s2.bd.put pPST F.PST_STAT.LOADED 1) := (Board.Calm.refl _ _).put _ _ _ (by decide)
  exact h2.withBoard hput

/-- What a load of the store keeps: of the registers all but its words, and home, cache and the tamper input. -/
structure State.Loads (s t : State) : Prop where
  calm : Board.Calm loadWords s.bd t.bd
  home : t.home = s.home
  cache : t.cache = s.cache
  tamper : t.sec.tamperLow = s.sec.tamperLow

theorem State.Loads.trans {s t u : State} (h : s.Loads t) (k : t.Loads u) : s.Loads u :=
  ⟨h.calm.trans k.calm, k.home.trans h.home, k.cache.trans h.cache, k.tamper.trans h.tamper⟩

theorem State.StoreFrame.loads {s t : State} (h : State.StoreFrame loadWords s t) : s.Loads t :=
  ⟨h.calm, (congrArg State.home h.same :), (congrArg State.cache h.same :), (congrArg (fun u : State => u.sec.tamperLow) h.same :)⟩

/-- The configuration that the store holds goes to its fields. -/
def Board.configure (b : Board) (ws : List Nat) : Board :=
  (configFields.zip ws).foldl (fun b (x : (Nat × Fld) × Nat) => b.put x.1.1 x.1.2 x.2) b

theorem configFields_words : ∀ c ∈ configFields, c.2.off < 4096 ∧ c.2.off / 4 ≠ 4 := by decide

theorem Board.configure_calm (b : Board) (ws : List Nat) : Board.Calm loadWords b (b.configure ws) := by
  refine List.foldlRecOn (motive := Board.Calm loadWords b) _ _ (.refl _ _) fun c hc x hx => ?_
  have hm : x.1 ∈ configFields := (List.of_mem_zip (a := x.1) (b := x.2) hx).1
  obtain ⟨ho, hne⟩ := configFields_words _ hm
  exact hc.put _ _ _ ⟨ho, hne, List.mem_append_right _ (List.mem_map_of_mem (f := fun c => (c.1, c.2.off / 4)) hm)⟩

theorem hashField (k : Nat) (hk : k < 16) :
    ((F.SEC_OPR.HASH.ix k).off < 4096 ∧ (F.SEC_OPR.HASH.ix k).off / 4 ≠ 4) ∧ (pSEC, (F.SEC_OPR.HASH.ix k).off / 4) ∈ loadWords := by
  revert k
  decide

/-- SEC_BOOT and the operator root as the store holds them. -/
def Board.loadRoot (b : Board) (boot opr : List Nat) : Board :=
  (List.range 16).foldl (fun (b : Board) k => b.put pSEC (F.SEC_OPR.HASH.ix k) (opr.getD (k + 1) 0))
    ((b.wr pSEC 0x060 (BitVec.ofNat 32 (boot.getD 0 0))).put pSEC F.SEC_STAT.OPR_SET (opr.getD 0 0))

theorem Board.loadRoot_calm (b : Board) (boot opr : List Nat) : Board.Calm loadWords b (b.loadRoot boot opr) := by
  have hboot : Board.Calm loadWords b (b.wr pSEC 0x060 (BitVec.ofNat 32 (boot.getD 0 0))) :=
    (Board.Calm.refl _ _).wr _ _ (by decide) (.inr ⟨by decide, .inl (by decide)⟩)
  refine List.foldlRecOn (motive := Board.Calm loadWords b) _ _ (hboot.put _ _ _ (by decide)) fun c hc k hk => ?_
  obtain ⟨⟨ho, hne⟩, hm⟩ := hashField k (List.mem_range.1 hk)
  exact hc.put _ _ _ ⟨ho, hne, hm⟩

/-- The state with a provisioning epoch. -/
def State.withProv (s : State) (epoch : Nat) : State := { s with sec := { s.sec with provEpoch := epoch } }

theorem State.withProv_loads (s : State) (epoch : Nat) : s.Loads (s.withProv epoch) := ⟨.refl _ _, rfl, rfl, rfl⟩

theorem State.loadSecurity_eq (s : State) : s.loadSecurity =
    (s.withProv ((s.recordWords 5).getD 1 0 + (s.recordWords 5).getD 2 0 * 2 ^ 32)).on (·.loadRoot (s.recordWords 5) (s.recordWords 7)) := rfl

theorem State.Loads.on {s t : State} (h : s.Loads t) {f : Board → Board} (k : Board.Calm loadWords t.bd (f t.bd)) : s.Loads (t.on f) :=
  ⟨h.calm.trans k, h.home, h.cache, h.tamper⟩

theorem State.loadSecurity_loads (s : State) : s.Loads s.loadSecurity := by
  rw [State.loadSecurity_eq]
  exact (s.withProv_loads _).on (Board.loadRoot_calm _ _ _)

/-- Retired units show their state. -/
theorem Board.retire_calm (b : Board) (l : List Nat) : Board.Calm loadWords b (l.foldl (fun b p => b.wr p 0x008 (BitVec.ofNat 32 stRETIRED)) b) :=
  List.foldlRecOn (motive := Board.Calm loadWords b) _ _ (.refl _ _) fun _ hc p _ => hc.wr p _ (by decide) (.inr ⟨by decide, .inr (by simp [stateReg])⟩)

theorem State.loadStore_loads (s : State) : s.Loads s.loadStore := by
  unfold State.loadStore
  extract_lets s1 ws s2 s3 s4 media slot s5 s6
  have h1 : s.Loads s1 := s.loadAll_frame.loads
  clear_value s1
  have h3 : s1.Loads s3 := by
    show s1.Loads (if ws = [] then s1 else _)
    split
    · exact (State.StoreFrame.refl _ _).loads
    · exact ⟨s1.bd.configure_calm ws, rfl, rfl, rfl⟩
  clear_value s3
  have h4 : s3.Loads s4 := s3.loadSecurity_loads
  clear_value s4
  have h6 : s4.Loads s6 := ⟨Board.retire_calm _ _, rfl, rfl, rfl⟩
  clear_value s6
  have h7 : s6.Loads s6.readLedger := ⟨State.readLedger_calm (.refl _ _) (by decide), rfl, rfl, rfl⟩
  exact (((h1.trans h3).trans h4).trans h6).trans h7

/-! ### COLD reset (R12) -/

theorem State.coldReset_shows (s : State) (low : Bool) : (s.coldReset low).bd.seqState = 0 ∧ (s.coldReset low).home = State.reset.home
    ∧ (s.coldReset low).cache = State.reset.cache ∧ (s.coldReset low).bd.now = s.bd.now ∧ (s.coldReset low).sec.tamperLow = low := by
  unfold State.coldReset
  extract_lets t z bd xtn media keys pst seq sec fresh loaded splits
  have hregs : fresh.bd.regs = Board.reset.regs := rfl
  have hnow : fresh.bd.now = s.bd.now := rfl
  have hhome : fresh.home = State.reset.home := rfl
  have hcache : fresh.cache = State.reset.cache := rfl
  have hlow : fresh.sec.tamperLow = low := rfl
  have hload : fresh.Loads loaded := fresh.loadStore_loads
  clear_value splits loaded fresh
  have hcalm : Board.Calm loadWords fresh.bd { loaded.bd with splits := splits } := hload.calm.same rfl rfl rfl
  have hstate : fresh.bd.seqState = 0 := by
    unfold Board.seqState
    rw [Board.get_congr (b := Board.reset) (by simp only [Board.rd, hregs])]
    decide
  refine ⟨?_, hload.home.trans hhome, hload.cache.trans hcache, ?_, hload.tamper.trans hlow⟩
  · rw [State.on_bd, Board.driveStep_seqState]
    exact (hcalm.get pSEQ0 F.SEQ_STAT.STATE (by decide)).trans hstate
  · rw [State.on_bd]
    exact (((Board.Calm.refl [(pSEQ0, 17)] _).driveStep (by decide) true).now.trans hcalm.now).trans hnow

end Sys2Proof.Machine
end

section
/-! The settlement of O51: the clauses of chapter 13, each by the lemma of its row. -/

namespace Sys2Proof.Machine

/-- What a drain of `t` shows as it begins (R371); what `t` changed of `s` does not matter to it. -/
theorem State.startDrain_begins {s t : State} (event : Nat) (hnow : t.bd.now = s.bd.now) (hhome : t.home = s.home) (hcache : t.cache = s.cache) :
    ∃ v : State, t.startDrain event = (v.stopWork).drainPass ∧ v.bd.seqState = 13 ∧ v.bd.get pPDR F.PDR_STAT.PHASE = 1 ∧ v.bd.on pRTM F.RTM_STAT.DRAIN = true
      ∧ v.seq.drainBy = event ∧ v.seq.drainFrom = s.bd.now ∧ v.seq.creditsHeld = true ∧ v.home = s.home ∧ v.cache = s.cache := by
  obtain ⟨hst, hph, hdr, hfrom⟩ := t.draining_shows event
  exact ⟨t.draining event, t.startDrain_eq event, hst, hph, hdr, rfl, hfrom.trans hnow, rfl, hhome, hcache⟩

/-- PFAIL_N in RUN begins a drain by event 1, a RESET_N assertion one by event 3 (R371, R377). -/
theorem State.runs_startDrain {s : State} (h : s.bd.seqState = 12) {c : Instr} {event : Nat} (hc : (c, event) ∈ [(Instr.pfail, 1), (Instr.resetN 1000, 3)]) :
    ∃ t : State, Runs c s (t.startDrain event) ∧ t.bd.now = s.bd.now ∧ t.home = s.home ∧ t.cache = s.cache := by
  simp only [List.mem_cons, Prod.mk.injEq, List.not_mem_nil, or_false] at hc
  rcases hc with ⟨rfl, rfl⟩ | ⟨rfl, rfl⟩
  · obtain ⟨e, he⟩ := State.pfail_run h
    have hseen : Board.Calm [(pSEQ0, 17), (pPDR, 31)] s.bd (s.bd.pfailSeen.raise pPDR (e s.bd.pfailSeen)) :=
      (((Board.Calm.refl _ _).put _ _ _ (by decide)).count _ _ _ (by decide)).raise _ _
    exact ⟨_, Runs.of_run (exec_pfail s) he, hseen.now, rfl, rfl⟩
  · exact ⟨_, Runs.of_run (exec_resetN s 1000) (State.resetN_run h), rfl, rfl, rfl⟩

/-- The end of a drain (R371 steps 5 and 6). -/
theorem State.drained_shows {s : State} (h : s.bd.seqState = 13) (hp : s.bd.get pPDR F.PDR_STAT.PHASE = 2) (hd : s.drainDone = true) :
    (s.drained.bd.rd pPDR 0x010).getLsbD E.PDR.DRAINED = true ∧ s.drained.bd.on pRTM F.RTM_STAT.DRAIN = false
      ∧ (s.seq.drainBy = 1 → s.bd.on pSEQ0 F.SEQ_STAT.PFAIL = false →
        s.drained.bd.seqState = 12 ∧ s.drained.bd.seqDown = false ∧ s.drained.bd.get pPDR F.PDR_STAT.PHASE = 0)
      ∧ (s.seq.drainBy ≠ 1 ∨ s.bd.on pSEQ0 F.SEQ_STAT.PFAIL = true →
        s.drained.bd.seqState = 11 ∧ s.drained.bd.seqDown = true ∧ s.drained.bd.get pPDR F.PDR_STAT.PHASE = 3) := by
  obtain ⟨t, ht, ⟨⟨hby, hpf⟩, l, he⟩ | ⟨hon, he⟩⟩ := State.drained_cases h hp hd
  · obtain ⟨hc, hdr, hends⟩ := t.backToRun_shows l
    rw [he]
    exact ⟨hc.status _ _ (by decide) ht, hdr, fun _ _ => hends, fun ho => by simp [hby, hpf] at ho⟩
  · obtain ⟨hc, hdr, hends⟩ := t.goDown_shows
    rw [he]
    exact ⟨hc.status _ _ (by decide) ht, hdr, fun hby hpf => by simp [hby, hpf] at hon, fun _ => hends⟩

/-- A fault of a rail in RUN (R366). -/
theorem State.railFault_shows {s : State} {rail : Nat} (h : s.bd.seqState = 12) (hr : s.bd.railRequired rail = true) :
    (s.railFault rail).bd.seqState = 14 ∧ (s.railFault rail).bd.get pSEQ1 F.SEQ_RAIL_EN.EN = 0 ∧ (s.railFault rail).bd.on pSEQ0 F.SEQ_CAUSE.RAIL_FAULT = true
      ∧ (∀ d, 1 ≤ d → d ≤ 19 → (s.railFault rail).bd.domainOn d = false) ∧ ((s.railFault rail).bd.rd pSEQ0 0x010).getLsbD E.SEQ.RAIL_FAULT = true := by
  rw [State.railFault_run h hr]
  have hc := (s.runFault rail).cutOff_calm 4 rail s.dirty
  obtain ⟨hcause, hevent⟩ := s.runFault_shows rail
  exact ⟨State.shutOff_state _, State.shutOff_rails _, (hc.on _ _ (by decide)).trans hcause, fun d => State.shutOff_domains _, hc.status _ _ (by decide) hevent⟩

/-- A THERMTRIP that a neighbour confirms (R367, R466). -/
theorem State.thermtrip_shows {s : State} {temps : List (Option Int)} {n : Nat} (hn : n < 36) (h : s.bd.compared.sensorTrips temps n = true)
    (ht : s.bd.on pTHM F.THM_STAT.TRIPPED = false) (hs : s.bd.seqState = 12) :
    (s.thermtrip temps).bd.seqState = 14 ∧ (s.thermtrip temps).bd.on pTHM F.THM_STAT.TRIPPED = true
      ∧ (s.thermtrip temps).bd.on pSEQ0 F.SEQ_CAUSE.THERMTRIP = true ∧ Output.pin "THERMTRIP_N" 0 ∈ (s.thermtrip temps).bd.out := by
  obtain ⟨e, f, dirty, he⟩ := State.thermtrip_trips hn h ht hs
  rw [he]
  have hc := ((s.on Board.compared).tripped e f dirty).cutOff_calm 6 63 dirty
  obtain ⟨-, htrip, hcause, hpin⟩ := (s.on Board.compared).tripped_shows e f dirty
  exact ⟨State.shutOff_state _, (hc.on _ _ (by decide)).trans htrip, (hc.on _ _ (by decide)).trans hcause, hc.out _ hpin⟩

end Sys2Proof.Machine

open Sys2Proof Sys2Proof.Machine

/-- Settles O51: each clause is the row of its command; what the command shows is carried past the rest of its work by the frame of power work. -/
theorem drainsResetsAndShutOffs : Obligations.DrainsResetsAndShutOffs := by
  intro s p
  refine ⟨fun c event hc h => ?_, fun h => ?_, fun ns => ?_, ?_, fun h hp => ?_, fun h hp hd => ?_, fun hg => ⟨fun h => ?_, fun h ho hcl => ?_⟩,
    fun rail h hr => ?_, fun page event info h => ?_, fun readings hcool => ?_, fun readings n m t t' hn hm hrn hrm ht ht' hsus htr h => ?_, fun ns hns => ?_,
    fun ns hns h hd => ?_, ?_, fun low => ?_⟩
  · obtain ⟨t, hr, hnow, hhome, hcache⟩ := State.runs_startDrain h hc
    obtain ⟨v, hv⟩ := State.startDrain_begins event hnow hhome hcache
    exact ⟨_, v, hr, hv⟩
  · obtain ⟨hst, hpf, hcount⟩ := s.pfailSeen_shows
    exact ⟨s.pfailSeen, Runs.of_run (exec_pfail s) (State.pfail_standby h), hst.trans h, hpf, hcount⟩
  · obtain ⟨hst, hev⟩ := s.pfailGlitch_shows ns
    exact ⟨s.pfailGlitch ns, Ends.of_quick (exec_pfailGlitch s ns) rfl, rfl, hst, hev⟩
  · exact ⟨s.pfailRelease, Ends.of_quick (exec_pfailRelease s) rfl, rfl, s.pfailRelease_shows, (Board.Only.refl _ _).put _ (by decide) (by simp)⟩
  · obtain ⟨v, he, hv⟩ := State.admitEnd_shows h hp
    exact ⟨_, v, Runs.of_run (exec_admitEnd s) he, rfl, hv⟩
  · exact ⟨s.drained, Runs.of_run (exec_drained s) rfl, State.drained_shows h hp hd⟩
  · exact ⟨s.downRefused, Runs.of_run (exec_powerDown s p) (State.powerDown_refused hg h), rfl, s.downRefused_result, s.downRefused_only⟩
  · obtain ⟨hres, hph⟩ := s.downBegun_shows
    exact ⟨_, s.downBegun, Runs.of_run (exec_powerDown s p) (State.powerDown_begins hg h ho hcl), rfl, hres, hph, rfl, rfl⟩
  · exact ⟨_, Runs.of_run (exec_railFault s rail) rfl, State.railFault_shows h hr⟩
  · exact ⟨_, Runs.of_run (exec_cpxFault s page event info) (State.cpxFault_eq h _ _ _), State.fatalStop_shows _ (by decide)⟩
  · exact ⟨s.on Board.compared, Runs.of_run (exec_thermtripCheck s readings) (State.thermtrip_cool (s.bd.compared.sensorTrips_cool hcool)), rfl, rfl⟩
  · have htrips := Board.sensorTrips_confirmed (b := s.bd.compared) hsus hm hrn hrm ht ht'
    exact ⟨_, Runs.of_run (exec_thermtripCheck s readings) rfl, State.thermtrip_shows hn htrips htr h⟩
  · exact Runs.of_run (exec_resetN s ns) (s.resetN_ignored hns)
  · exact ⟨_, Runs.of_run (exec_resetN s ns) (State.resetN_standby hns h hd), State.warmReset_shows _⟩
  · exact ⟨s.resetRelease, Ends.of_quick (exec_resetNRelease s) rfl, rfl, rfl⟩
  · exact ⟨s.coldReset low, Ends.of_quick (exec_coldReset s low) rfl, s.coldReset_shows low⟩

end

section
/-! Resize and remap of the volatile window (O25): write-backs leave board and cache alone, and storing CONFIG writes one register of PST. -/

namespace Sys2Proof.Machine

theorem exec_vwnResize (p : Path) (size : BitVec 4) (s : State) : exec (.vwnResize p size) s = s.run (fun s => s.vwnResize p size.toNat) := rfl
theorem exec_resizeDone (s : State) : exec .resizeDone s = s.run State.resizeDone := rfl
theorem exec_remap (p : Path) (s : State) : exec (.remap p) s = s.run (fun s => s.remap p) := rfl
theorem exec_remapDone (s : State) : exec .remapDone s = s.run State.remapDone := rfl

/-! ### Write-backs (R190, R191) change the write path alone -/

/-- Two states agree on everything but the write path. -/
def State.SameButWrites (s t : State) : Prop := { t with wp := s.wp } = s

theorem State.SameButWrites.refl (s : State) : s.SameButWrites s := rfl

theorem State.SameButWrites.trans {s t u : State} (h : s.SameButWrites t) (k : t.SameButWrites u) : s.SameButWrites u := by
  have e : ({ u with wp := s.wp } : State) = { ({ u with wp := t.wp } : State) with wp := s.wp } := rfl
  unfold State.SameButWrites at h k ⊢
  rw [e, k, h]

theorem State.SameButWrites.bd {s t : State} (h : s.SameButWrites t) : t.bd = s.bd := (congrArg State.bd h :)

theorem State.SameButWrites.cache {s t : State} (h : s.SameButWrites t) : t.cache = s.cache := (congrArg State.cache h :)

theorem State.wantFold_same (s : State) (page cause : Nat) : s.SameButWrites (s.wantFold page cause) := by
  unfold State.wantFold
  split <;> rfl

theorem State.SameButWrites.ite {P : Prop} [Decidable P] {s t u : State} (h : s.SameButWrites t) (k : s.SameButWrites u) :
    s.SameButWrites (if P then t else u) := by
  split
  · exact h
  · exact k

theorem State.writeBack_same (s : State) (page : Nat) : s.SameButWrites (s.writeBack page) := by
  have hflush : ∀ (t : State) (c : Bool), s.SameButWrites t → s.SameButWrites (if c then { t with wp := { t.wp with flushPatch := true } } else t) :=
    fun t c h => by
      split
      · exact h.trans (u := { t with wp := { t.wp with flushPatch := true } }) rfl
      · exact h
  exact hflush _ _ ((s.wantFold_same page 1).ite (.refl s))

theorem State.foldl_writeBack_same {α : Type} (page : α → Nat) (l : List α) : ∀ s : State, s.SameButWrites (l.foldl (fun s e => s.writeBack (page e)) s) := by
  induction l with
  | nil => exact .refl
  | cons e l ih => exact fun s => (s.writeBack_same (page e)).trans (ih _)

/-! ### Storing a record writes PST_STAT alone (R422, R429) -/

theorem State.only_ite {P : Prop} [Decidable P] {b : Board} {t u : State} {ks : List (Nat × Nat)} (h : b.Only t.bd ks) (k : b.Only u.bd ks) :
    b.Only (if P then t else u).bd ks := by
  split
  · exact h
  · exact k

theorem State.pstKick_only (s : State) : s.bd.Only s.pstKick.bd [(pPST, 16)] := by
  unfold State.pstKick
  split
  · exact .refl _ _
  · split
    · exact .refl _ _
    · exact (Board.Only.refl _ _).put _ (by decide) (by simp)

theorem State.store_only (s : State) (id : Nat) (body : List Byte) : s.bd.Only (s.store id body).bd [(pPST, 16)] :=
  State.only_ite (.refl _ _) (State.pstKick_only _)

theorem State.storeConfig_only (s : State) : s.bd.Only s.storeConfig.bd [(pPST, 16)] := s.store_only _ _

theorem State.storeConfig_same (s : State) : s.SameButStore s.storeConfig :=
  ((State.StoreFrame.refl [(pPST, 16)] s).store (by simp) _ _).same

theorem State.SameButStore.cache {s t : State} (h : s.SameButStore t) : t.cache = s.cache := (congrArg State.cache h :)

/-! ### Fields beside a frame -/

theorem Board.Only.get {b c : Board} {ks : List (Nat × Nat)} (h : b.Only c ks) (p : Nat) (f : Fld) (hk : f.off < 4096 ∧ (p, f.off / 4) ∉ ks) :
    c.get p f = b.get p f := Board.get_congr (h p f.off hk.1 hk.2)

theorem Board.Only.on {b c : Board} {ks : List (Nat × Nat)} (h : b.Only c ks) (p : Nat) (f : Fld) (hk : f.off < 4096 ∧ (p, f.off / 4) ∉ ks) :
    c.on p f = b.on p f := Board.on_congr (h p f.off hk.1 hk.2)

/-- An event leaves a field alone whose register no event writes. -/
theorem Board.get_raise (b : Board) (page : Nat) (e : Ev) {p : Nat} {f : Fld} (hk : f.off < 4096 ∧ eventReg p f.off = false) :
    (b.raise page e).get p f = b.get p f := Board.get_congr ((b.raise_frame page e).regs p f.off hk.1 hk.2)

theorem Board.on_raise (b : Board) (page : Nat) (e : Ev) {p : Nat} {f : Fld} (hk : f.off < 4096 ∧ eventReg p f.off = false) :
    (b.raise page e).on p f = b.on p f := Board.on_congr ((b.raise_frame page e).regs p f.off hk.1 hk.2)

theorem Board.on_put_one (b : Board) (p : Nat) (f : Fld) (h : f.lo + f.width ≤ 32 ∧ 1 % 2 ^ f.width = 1) : (b.put p f 1).on p f = true :=
  Board.on_iff.2 ((Board.get_put_self b p f 1 h.1).trans h.2)

theorem Board.on_put_zero (b : Board) (p : Nat) (f : Fld) (h : f.lo + f.width ≤ 32) : (b.put p f 0).on p f = false := by
  have e : (b.put p f 0).get p f = 0 := by rw [Board.get_put_self _ _ _ _ h, Nat.zero_mod]
  simp [Board.on, e]

/-- Setting a field leaves a field of another page, of another word or of other bits alone. -/
theorem Board.on_put_clear (b : Board) {p q : Nat} {f g : Fld} (v : Nat) (ho : f.off < 4096 ∧ g.off < 4096 ∧ f.lo + f.width ≤ 32)
    (h : p ≠ q ∨ f.off / 4 ≠ g.off / 4 ∨ f.off = g.off ∧ (f.lo + f.width ≤ g.lo ∨ g.lo + g.width ≤ f.lo)) : (b.put q g v).on p f = b.on p f := by
  unfold Board.on
  rw [Board.get_put_clear b v ho h]

/-! ### The window's size and its lost frames (R126, R127, R131) -/

theorem Board.serviceLevel_only (b : Board) (page : Nat) (reduced : Bool) : b.Only (b.serviceLevel page reduced) [(page, 2), (pMGT, 23)] := by
  unfold Board.serviceLevel
  split
  · exact b.toState_only page _
  · exact .refl b _

/-- What follows the lost frames leaves a field of VWN alone that is neither LOST_FRAMES nor the state of the unit. -/
theorem State.followWindow_get (s : State) {f : Fld} (h : f.off < 4096 ∧ f.off / 4 ≠ 2 ∧ f.lo + f.width ≤ 32)
    (hl : f.off / 4 ≠ 17 ∨ f.off = 0x044 ∧ f.lo + f.width ≤ 8) : s.followWindow.bd.get pVWN f = s.bd.get pVWN f := by
  unfold State.followWindow
  rw [State.on_bd, (Board.serviceLevel_only _ _ _).get _ _ ⟨h.1, by simp [h.2.1]⟩]
  exact Board.get_put_clear _ _ ⟨h.1, by decide, h.2.2⟩ (.inr (hl.imp id fun e => ⟨e.1, .inl e.2⟩))

/-- Once the resize has taken the new size, VWN_STAT shows it (R127). -/
theorem State.setWindow_current (s : State) {n : Nat} (h : n ≤ 4) : (s.setWindow n).bd.get pVWN F.VWN_STAT.CURRENT = n := by
  unfold State.setWindow
  dsimp only
  rw [State.followWindow_get _ (by decide) (by decide), State.on_bd, Board.get_put_self _ _ _ _ (by decide)]
  exact Nat.mod_eq_of_lt (show n < 2 ^ 3 by omega)

theorem State.setWindow_bitmap (s : State) (n : Nat) : (s.setWindow n).cache.bitmap = s.cache.bitmap.filter (fun v => decide (v / 2 ^ 21 < n)) := rfl

/-! ### The four rows -/

/-- The state in which a change of the window's size is stored and under way, before its joining frames are written back. -/
def State.resizing (s : State) (size : Nat) : State :=
  let t := (s.on (fun b => (b.put pVWN F.VWN_CFG.SIZE size).put pVWN F.VWN_STAT.RESIZING 1)).storeConfig
  { t with cache := { t.cache with resize := some (s.bd.windowWays, size) } }

/-- R45, R127: a size that no committed window contradicts is taken. -/
theorem State.vwnResize_takes {s : State} {p : Path} {size : Nat} (h4 : size ≤ 4) (hg : s.bd.gate p pVWN 0x040 false false = none)
    (hr : s.bd.on pVWN F.VWN_STAT.RESIZING = false) (hw : ∀ hw, hw < 64 → s.bd.committed hw = false) :
    (s.resizing size).SameButWrites (s.vwnResize p size) := by
  have hfit : ∀ x ∈ List.range 64, s.bd.committed x = false := fun x hx => hw x (List.mem_range.1 hx)
  unfold State.vwnResize
  rw [State.written_pass hg, if_neg (by omega), if_neg (by simp [hr]), if_neg ?_]
  · exact State.foldl_writeBack_same id _ (s.resizing size)
  · simp only [List.any_eq_true, decide_eq_true_eq, not_exists, not_and]
    intro x hx
    simp [hfit x hx]

theorem State.resizing_cache (s : State) (size : Nat) : (s.resizing size).cache = { s.cache with resize := some (s.bd.windowWays, size) } := by
  unfold State.resizing
  dsimp only
  rw [State.SameButStore.cache (State.storeConfig_same _), State.on_cache]

theorem State.resizing_shows (s : State) {size : Nat} (h4 : size ≤ 4) :
    (s.resizing size).bd.get pVWN F.VWN_CFG.SIZE = size ∧ (s.resizing size).bd.on pVWN F.VWN_STAT.RESIZING = true
      ∧ (s.resizing size).bd.get pVWN F.VWN_STAT.CURRENT = s.bd.get pVWN F.VWN_STAT.CURRENT := by
  have hf := State.storeConfig_only (s.on (fun b => (b.put pVWN F.VWN_CFG.SIZE size).put pVWN F.VWN_STAT.RESIZING 1))
  refine ⟨(hf.get _ _ (by decide)).trans ?_, (hf.on _ _ (by decide)).trans (Board.on_put_one _ _ _ (by decide)), (hf.get _ _ (by decide)).trans ?_⟩
  · rw [State.on_bd, Board.get_put_clear _ _ (by decide) (by decide), Board.get_put_self _ _ _ _ (by decide)]
    exact Nat.mod_eq_of_lt (show size < 2 ^ 3 by omega)
  · rw [State.on_bd, Board.get_put_clear _ _ (by decide) (by decide), Board.get_put_clear _ _ (by decide) (by decide)]

/-- The state in which the window has its new size and the change is about to end. -/
def State.resized (s : State) (old new : Nat) : State :=
  let t := ({ s with cache := { s.cache with resize := none } }).setWindow new
  { t with cache := { t.cache with bitmap := t.cache.bitmap.filter (fun v => decide (v / 2 ^ 21 < old)) } }

theorem State.resized_current (s : State) (old : Nat) {new : Nat} (h : new ≤ 4) : (s.resized old new).bd.get pVWN F.VWN_STAT.CURRENT = new := by
  unfold State.resized
  dsimp only
  exact State.setWindow_current _ h

/-- R127: with no frame left to clean, the change ends. -/
theorem State.resizeDone_ends {s : State} {old new : Nat} (h : s.cache.resize = some (old, new)) (hf : s.cache.frames = []) :
    s.resizeDone = (s.resized old new).on (fun b => (b.put pVWN F.VWN_STAT.RESIZING 0).raise pVWN (ev E.VWN.RESIZE_DONE (new + old * 8) 0 0 0)) := by
  unfold State.resizeDone State.resized
  simp only [h, hf, List.any_nil, Bool.false_eq_true, if_false]

theorem State.resized_bitmap (s : State) (old new v : Nat) (h : v ∈ (s.resized old new).cache.bitmap) :
    v ∈ s.cache.bitmap ∧ v / 2 ^ 21 < old ∧ v / 2 ^ 21 < new := by
  unfold State.resized at h
  simp only [State.setWindow_bitmap, List.mem_filter, decide_eq_true_eq] at h
  obtain ⟨⟨hv, hnew⟩, hold⟩ := h
  exact ⟨hv, hold, hnew⟩

/-- The state in which a remap is under way, before the frames that it takes are written back (R131). -/
def State.remapping (s : State) : State := s.on (fun b => (b.put pVWN F.VWN_CMD.REMAP 1).put pVWN F.VWN_STAT.REMAPPING 1)

theorem State.remap_takes {s : State} {p : Path} (hg : s.bd.gate p pVWN 0x048 false false = none) (hr : s.bd.on pVWN F.VWN_CMD.REMAP = false) :
    s.remapping.SameButWrites (s.remap p) := by
  unfold State.remap
  rw [State.written_pass hg, if_neg (by simp [hr])]
  exact State.foldl_writeBack_same (fun (e : Nat × Frame) => e.2.page) _ s.remapping

theorem State.remapping_shows (s : State) : s.remapping.bd.on pVWN F.VWN_CMD.REMAP = true ∧ s.remapping.bd.on pVWN F.VWN_STAT.REMAPPING = true :=
  ⟨(Board.on_put_clear _ _ (by decide) (by decide)).trans (Board.on_put_one _ _ _ (by decide)), Board.on_put_one _ _ _ (by decide)⟩

/-- The state in which the lost frame groups have their replacements and hold nothing any more (R131). -/
def State.remapped (s : State) : State :=
  let plan := s.remapPlan
  let mine := fun (v : Nat) => plan.any (fun (x : Nat × Nat) => decide (x.1 = windowGroup v))
  { s with cache := { s.cache with
    remap := plan.foldl (fun (m : SMap Nat) (x : Nat × Nat) => smPut x.1 x.2 m) s.cache.remap
    window := s.cache.window.filter (fun (e : Nat × Line) => !mine (e.1 / 64))
    markers := s.cache.markers.filter (fun l => !mine (l / 64))
    bitmap := s.cache.bitmap.filter (fun v => !mine v) } }

/-- The event that tells the end of a remap, on the board after it. -/
def State.remapEvent (s : State) (b : Board) : Ev := ev E.VWN.REMAP_DONE 0 (s.remapPlan.length * 65536) (b.get pVWN F.VWN_STAT.LOST_FRAMES) 0

/-- The state in which a remap has taken its replacements and cleared its fields, before its event. -/
def State.remapClosed (s : State) : State := (s.remapped.on (fun b => (b.put pVWN F.VWN_CMD.REMAP 0).put pVWN F.VWN_STAT.REMAPPING 0)).followWindow

/-- R131: with no frame left to take, the remap ends. -/
theorem State.remapDone_ends {s : State} (hr : s.bd.on pVWN F.VWN_STAT.REMAPPING = true) (hp : s.planFrames s.remapPlan = []) :
    s.remapDone = s.remapClosed.on (fun b => b.raise pVWN (s.remapEvent b)) := by
  unfold State.remapDone State.remapClosed State.remapped State.remapEvent
  simp only [hr, hp, List.any_nil, List.foldl_nil, Bool.not_true, Bool.false_eq_true, or_self, if_false]

/-- The end of a remap clears a field of VWN_CMD or VWN_STAT that its last two settings clear. -/
theorem State.remapClosed_off (s : State) : s.remapClosed.bd.on pVWN F.VWN_CMD.REMAP = false ∧ s.remapClosed.bd.on pVWN F.VWN_STAT.REMAPPING = false := by
  unfold State.remapClosed Board.on
  rw [State.followWindow_get _ (by decide) (by decide), State.followWindow_get _ (by decide) (by decide), State.on_bd,
    Board.get_put_clear _ _ (by decide) (by decide), Board.get_put_self _ _ _ _ (by decide), Board.get_put_self _ _ _ _ (by decide)]
  simp

end Sys2Proof.Machine

open Sys2Proof Sys2Proof.Machine

/-- Settles O25: a change of size and a remap are each stored with a mark that shows them under way; with no frame left to clean, the mark goes and the event follows. -/
theorem volatileWindowChanges : Obligations.VolatileWindowChanges := by
  intro s p
  refine ⟨fun size h4 hg hr hw => ?_, fun old new hres hnew hf => ?_, fun hg hr => ?_, fun hr hp => ?_⟩
  · have hsame := State.vwnResize_takes h4 hg hr hw
    obtain ⟨hsize, hunder, hcur⟩ := s.resizing_shows h4
    refine ⟨_, Runs.of_run (exec_vwnResize p size s) rfl, ?_⟩
    rw [hsame.cache, hsame.bd]
    exact ⟨s.resizing_cache _, hsize, hunder, hcur⟩
  · refine ⟨_, Runs.of_run (exec_resizeDone s) (State.resizeDone_ends hres hf), rfl, ?_, ?_, Board.raise_status _ _ _ (show E.VWN.RESIZE_DONE < 32 by decide), s.resized_bitmap old new⟩
    · rw [State.on_bd, Board.get_raise _ _ _ (by decide), Board.get_put_clear _ _ (by decide) (by decide)]
      exact s.resized_current old hnew
    · rw [State.on_bd, Board.on_raise _ _ _ (by decide)]
      exact Board.on_put_zero _ _ _ (by decide)
  · have hsame := State.remap_takes hg hr
    refine ⟨_, Runs.of_run (exec_remap p s) rfl, ?_⟩
    rw [hsame.cache, hsame.bd]
    exact ⟨rfl, s.remapping_shows⟩
  · obtain ⟨hcmd, hstat⟩ := s.remapClosed_off
    exact ⟨_, Runs.of_run (exec_remapDone s) (State.remapDone_ends hr hp), (Board.on_raise _ _ _ (by decide)).trans hcmd,
      (Board.on_raise _ _ _ (by decide)).trans hstat, rfl, Board.raise_status _ _ _ (show E.VWN.REMAP_DONE < 32 by decide)⟩

end

section
/-! Requests from other parts at the home (O42): a read, a write and a reservation operation take their turn, a write sent again is only answered, and a write to the other
copy waits for its ORDER (R322, R323). -/

namespace Sys2Proof.Machine

theorem exec_mrd (line : RingLine) (s : State) : exec (.mrd line) s = s.run (fun s => s.mrd (ringLine .read line 0 0 false)) := rfl
theorem exec_mwr (line : RingLine) (data : Line) (poison : Bool) (s : State) :
    exec (.mwr line data poison) s = s.run (fun s => s.mwr (ringLine .write line data allBytes poison)) := rfl
theorem exec_mwrp (line : RingLine) (data : Line) (mask : BitVec 64) (poison : Bool) (s : State) :
    exec (.mwrp line data mask poison) s = s.run (fun s => s.mwr (ringLine .write line data mask.toNat poison)) := rfl
theorem exec_mwrM (line : RingLine) (data : Line) (poison again : Bool) (s : State) :
    exec (.mwrM line data poison again) s = s.run (fun s => s.mwrM (ringLine .write line data allBytes poison) again) := rfl
theorem exec_mwrpM (line : RingLine) (data : Line) (mask : BitVec 64) (poison again : Bool) (s : State) :
    exec (.mwrpM line data mask poison again) s = s.run (fun s => s.mwrM (ringLine .write line data mask.toNat poison) again) := rfl
theorem exec_rsv (line : RingLine) (op word : Fin 4) (value : BitVec 128) (slot : Fin 32) (s : State) :
    exec (.rsv line op word value slot) s = s.run (fun s => s.rsvPacket (ringRsv op.val line word.val value.toNat slot.val)) := rfl
theorem exec_order (order : Word) (ingress : Fin 32) (tag : BitVec 16) (poison : Bool) (s : State) :
    exec (.order order ingress tag poison) s = s.run (fun s => s.orderPacket order.toNat ingress.val tag.toNat poison) := rfl
theorem exec_orderAck (order : Word) (fillFail : Bool) (s : State) :
    exec (.orderAck order fillFail) s = s.run (fun s => s.orderAck order.toNat fillFail) := rfl

/-! ### Reads, writes and reservation operations (R322) -/

theorem State.mrd_arrives {s : State} (h : s.shelf.failover = none) (r : Req) : s.mrd r = (s.arrive r).serialise r 0 := by
  unfold State.mrd
  rw [h]
  rfl

/-- The state in which the TAG of a write from the ring is kept (R322). -/
def State.remembering (s : State) (r : Req) : State := { s with shelf := { s.shelf with recent := s.shelf.recent ++ [(r.oid, r.id, s.bd.now)] } }

theorem State.ringWrite_new {s : State} {r : Req} (f : State → State) (hw : s.atWork r.oid r.id = false)
    (hr : ∀ x ∈ s.shelf.recent, x.1 ≠ r.oid ∨ x.2.1 ≠ r.id) : s.ringWrite r f = f (s.remembering r) := by
  have hnew : s.shelf.recent.any (fun (x : Nat × Nat × Nat) => decide (x.1 = r.oid) && decide (x.2.1 = r.id) && decide (s.bd.now ≤ x.2.2 + 100)) = false := by
    refine List.any_eq_false.2 fun x hx => ?_
    rcases hr x hx with h | h <;> simp [h]
  unfold State.ringWrite
  dsimp only
  rw [if_neg (by simp [hw]), if_neg (by simp [hnew])]
  rfl

theorem State.ringWrite_again {s : State} {r : Req} (f : State → State) (hw : s.atWork r.oid r.id = false) {t : Nat} (hr : (r.oid, r.id, t) ∈ s.shelf.recent)
    (ht : s.bd.now ≤ t + 100) : s.ringWrite r f = (s.on (fun b => b.count pSHM F.SHM_DUP_DROP.COUNT 1)).ticket r (s.bd.ticketStatus r) := by
  have hold : s.shelf.recent.any (fun (x : Nat × Nat × Nat) => decide (x.1 = r.oid) && decide (x.2.1 = r.id) && decide (s.bd.now ≤ x.2.2 + 100)) = true :=
    List.any_eq_true.2 ⟨_, hr, by simp [ht]⟩
  unfold State.ringWrite
  dsimp only
  rw [if_neg (by simp [hw]), if_pos hold]

/-- A write of another part is ticketed by a TICKET packet (R323). -/
theorem State.ticket_remote {s : State} {r : Req} (h : oidShelf r.oid ≠ s.bd.selfId) (status : Nat) :
    s.ticket r status = s.send 0x11 (oidShelf r.oid) [r.oid, r.id, r.role, status] none := by
  have hl : s.bd.isLocal r = false := decide_eq_false h
  unfold State.ticket
  dsimp only
  rw [if_pos (by simp [hl])]

theorem State.rsvPacket_arrives {s : State} {r : Req} (h : s.atWork r.oid r.id = false) : s.rsvPacket r = (s.arrive r).serialise r 0 := by
  unfold State.rsvPacket
  rw [if_neg (by simp [h])]
  rfl

/-! ### Writes to the other copy (R323) -/

/-- With nothing applied at the partner, nothing is to be acknowledged. -/
theorem State.ackApplied_idle {s : State} (h : s.home.mirror.fills = []) : s.ackApplied = s := by
  unfold State.ackApplied
  simp only [h, List.filter_nil, List.foldl_nil]
  rw [← h]

/-- No held write is applied while one of its data and its ORDER is missing. -/
theorem State.applyOrders_idle {s : State} (hf : s.home.mirror.fills = []) (h : s.home.mirror.orders = [] ∨ s.home.mirror.held = []) (n : Nat) :
    s.applyOrders n = s := by
  cases n with
  | zero => rfl
  | succ n =>
    unfold State.applyOrders
    dsimp only
    rw [s.ackApplied_idle hf, if_neg (by simp [hf])]
    split
    · rfl
    case h_2 ho =>
      rcases h with h | h
      · simp [h] at ho
      · simp [h]

/-- The state in which a write to the other copy waits for its ORDER. -/
def State.awaitingOrder (s : State) (r : Req) : State := { s with home := { s.home with mirror := { s.home.mirror with held := s.home.mirror.held ++ [r] } } }

theorem State.mwrM_holds {s : State} {r : Req} (hw : s.atWork r.oid r.id = false) (hr : ∀ x ∈ s.shelf.recent, x.1 ≠ r.oid ∨ x.2.1 ≠ r.id)
    (h0 : s.bd.pairState ≠ 0) (h2 : s.bd.pairState ≠ 2) (ho : s.home.mirror.orders = []) (hf : s.home.mirror.fills = []) :
    s.mwrM r false = (s.remembering r).awaitingOrder r := by
  have hp : ¬ ((s.remembering r).bd.pairState = 2 ∨ (s.remembering r).bd.pairState = 0) := not_or.2 ⟨h2, h0⟩
  unfold State.mwrM
  rw [if_neg (by decide), State.ringWrite_new _ hw hr]
  dsimp only
  rw [if_neg hp]
  exact State.applyOrders_idle (s := (s.remembering r).awaitingOrder r) hf (.inl ho) _

/-- The state in which an ORDER waits for its write. -/
def State.ordered (s : State) (o : Nat × Nat × Nat × Bool) : State :=
  { s with home := { s.home with mirror := { s.home.mirror with orders := s.home.mirror.orders ++ [o] } } }

theorem State.orderPacket_waits {s : State} {mon : Nat} (ingress tag : Nat) (poison : Bool) (h2 : s.bd.pairState ≠ 2) (ho : ∀ o ∈ s.home.mirror.orders, o.1 ≠ mon)
    (hh : s.home.mirror.held = []) (hf : s.home.mirror.fills = []) : s.orderPacket mon ingress tag poison = s.ordered (mon, ingress, tag, poison) := by
  have hnew : s.home.mirror.orders.any (fun o => decide (o.1 = mon)) = false := List.any_eq_false.2 fun o h => by simp [ho o h]
  unfold State.orderPacket
  dsimp only
  rw [if_neg (by simp [hnew, h2])]
  exact State.applyOrders_idle (s := s.ordered (mon, ingress, tag, poison)) hf (.inr hh) _

/-- The state in which a mirrored write waits for its ORDER_ACK no more. -/
def State.unwaiting (s : State) (mon : Nat) : State :=
  { s with home := { s.home with mirror := { s.home.mirror with waits := s.home.mirror.waits.filter (fun x => decide (x.mon ≠ mon)) } } }

theorem State.orderAck_serialises {s : State} {mon : Nat} {w : MonWait} (h : s.home.mirror.waits.find? (fun w => decide (w.mon = mon)) = some w) :
    s.orderAck mon false = (s.unwaiting mon).serialiseMirrored w := by
  unfold State.orderAck
  rw [h]
  rfl

end Sys2Proof.Machine

open Sys2Proof Sys2Proof.Machine

/-- Settles O42: each packet's row is cut down to its one effect under the stated conditions: the queue of the home, the TICKET of a write sent again, or what waits for an ORDER. -/
theorem ringRequestsReachTheHome : Obligations.RingRequestsReachTheHome := by
  intro s line data mask poison
  refine ⟨fun hf => ?read, fun c m hc hw hr => ?write, fun t hw hr ht hself => ?again, fun c m hc hw hr h0 h2 ho hf => ?mirror, fun op word value slot hw => ?rsv,
    fun order ingress tag h2 ho hh hf => ?order, fun order w hw => ?ack⟩
  case read => exact ⟨_, s.arrive (ringLine .read line 0 0 false), _, Runs.of_run (exec_mrd line s) (State.mrd_arrives hf _), rfl, rfl, rfl, rfl, rfl, rfl, rfl, rfl, rfl, rfl⟩
  case write =>
    have hrun : exec c s = s.run (fun s => s.mwr (ringLine .write line data m poison)) := by
      simp only [List.mem_cons, List.not_mem_nil, or_false, Prod.mk.injEq] at hc
      obtain ⟨rfl, rfl⟩ | ⟨rfl, rfl⟩ := hc
      · exact exec_mwr line data poison s
      · exact exec_mwrp line data mask poison s
    exact ⟨_, (s.remembering (ringLine .write line data m poison)).arrive (ringLine .write line data m poison), _,
      Runs.of_run hrun (State.ringWrite_new _ hw hr), rfl, rfl, rfl, rfl, rfl, rfl, rfl, rfl, rfl, rfl⟩
  case again =>
    have hid : (s.on (fun b => b.count pSHM F.SHM_DUP_DROP.COUNT 1)).bd.selfId = s.bd.selfId := Board.get_congr (Board.rd_count_key (by decide))
    have hsent := (State.ringWrite_again (fun s => s.arriveNow (ringLine .write line data allBytes poison)) hw hr ht).trans
      (State.ticket_remote (r := ringLine .write line data allBytes poison) (fun h => hself (h.trans hid)) _)
    refine ⟨_, Runs.of_run (exec_mwr line data poison s) hsent, rfl, Board.get_count_self _ _ _ _ (by decide),
      s.bd.ticketStatus (ringLine .write line data allBytes poison), ?_⟩
    unfold State.send
    rw [State.say_bd, Board.emit_out, hid, State.on_bd, Board.count_out]
    rfl
  case mirror =>
    have hrun : exec c s = s.run (fun s => s.mwrM (ringLine .write line data m poison) false) := by
      simp only [List.mem_cons, List.not_mem_nil, or_false, Prod.mk.injEq] at hc
      obtain ⟨rfl, rfl⟩ | ⟨rfl, rfl⟩ := hc
      · exact exec_mwrM line data poison false s
      · exact exec_mwrpM line data mask poison false s
    exact ⟨_, _, Runs.of_run hrun (State.mwrM_holds hw hr h0 h2 ho hf), rfl, rfl, rfl, rfl, rfl, rfl⟩
  case rsv =>
    have hid : (ringRsv op.val line word.val value.toNat slot.val).oid = line.oid.toNat ∧ (ringRsv op.val line word.val value.toNat slot.val).id = line.tag.toNat := ⟨rfl, rfl⟩
    exact ⟨_, s.arrive _, _, Runs.of_run (exec_rsv line op word value slot s) (State.rsvPacket_arrives (by rw [hid.1, hid.2]; exact hw)), rfl, rfl, rfl, rfl, rfl, rfl⟩
  case order => exact ⟨_, Runs.of_run (exec_order order ingress tag poison s) (State.orderPacket_waits _ _ _ h2 ho hh hf), rfl⟩
  case ack => exact ⟨_, s.unwaiting order.toNat, Runs.of_run (exec_orderAck order false s) (State.orderAck_serialises hw), rfl, rfl, rfl, rfl⟩

end

section
/-! Mailbox commands (R81, R82): a mailbox that is open runs a command and answers it. Poison commands and Dynamic Capacity responses (O39). -/

namespace Sys2Proof.Machine

theorem exec_injectPoison (h : Fin 8) (len : BitVec 21) (dpa : BitVec 64) (s : State) :
    exec (.injectPoison h len dpa) s = s.run (fun s => s.injectPoison h.val len.toNat dpa.toNat) := rfl
theorem exec_clearPoison (h : Fin 8) (len : BitVec 21) (dpa : BitVec 64) (data : Line) (s : State) :
    exec (.clearPoison h len dpa data) s = s.run (fun s => s.clearPoison h.val len.toNat dpa.toNat data) := rfl
theorem exec_getDynamicCapacityExtentList (h : Fin 8) (len : BitVec 21) (count start : Word) (s : State) :
    exec (.getDynamicCapacityExtentList h len count start) s = s.quick (fun s => s.getDcExtents h.val len.toNat count.toNat start.toNat) := rfl
theorem exec_addDynamicCapacityResponse (h : Fin 8) (len : BitVec 21) (l : List (BitVec 64 × BitVec 64)) (s : State) :
    exec (.addDynamicCapacityResponse h len l) s = s.run (fun s => s.addDcResponse h.val len.toNat (l.map (fun x => (x.1.toNat, x.2.toNat)))) := rfl
theorem exec_releaseDynamicCapacity (h : Fin 8) (len : BitVec 21) (l : List (BitVec 64 × BitVec 64)) (s : State) :
    exec (.releaseDynamicCapacity h len l) s = s.run (fun s => s.releaseDc h.val len.toNat (l.map (fun x => (x.1.toNat, x.2.toNat)))) := rfl

/-! ### An open mailbox runs a command and answers it (R81) -/

theorem State.mailbox_open {s : State} {h : Nat} (ho : s.bd.MailboxOpen h) (opcode : Nat) {len limit : Nat} (hl : len ≤ limit ∧ len ≤ 4096) (always early : Bool)
    (f : State → Nat × List Byte × State) : s.mailbox h opcode len limit always early f = (f s).2.2.mbxReply h opcode (f s).1 (f s).2.1 := by
  obtain ⟨hup, hunit, hserv⟩ := ho
  unfold State.mailbox
  rw [if_neg (by simp [hup]), if_neg (by simp [hunit]), if_neg (by simp [hserv]), if_neg (by omega)]

/-- The reply leaves after what the command sent, and HPT_MBX_LAST keeps opcode and return code. -/
theorem State.mbxReply_answers (s : State) (h : Nat) {opcode code : Nat} (ho : opcode < 2 ^ 16) (hc : code < 2 ^ 16) (payload : List Byte) :
    Answers s (s.mbxReply h opcode code payload) h opcode code payload := by
  unfold State.mbxReply
  refine ⟨rfl, ?_, ?_⟩ <;> rw [State.on_bd, Board.emit_get]
  · rw [Board.get_put_clear _ _ (by decide) (.inr (by decide)), Board.get_put_self _ _ _ _ (by decide)]
    exact Nat.mod_eq_of_lt ho
  · rw [Board.get_put_self _ _ _ _ (by decide)]
    exact Nat.mod_eq_of_lt hc

theorem State.mbxReply_only (s : State) (h opcode code : Nat) (payload : List Byte) : s.bd.Only (s.mbxReply h opcode code payload).bd [mbxLast h] :=
  ((Board.Only.refl _ _).put _ (by decide) (by simp [mbxLast])).put _ (by decide) (by simp [mbxLast])

/-! ### Poison commands (R75, R82): what a request's way out leaves of the heads -/

theorem State.sendReq_heads (s : State) (r : Req) (owner : Nat) (lead : Bool) : (s.sendReq r owner lead).heads = s.heads := by
  unfold State.sendReq
  dsimp only
  split <;> rfl

theorem State.dispatch_heads (s : State) (r : Req) (owner : Nat) (lead : Bool) : (s.dispatch r owner lead).heads = s.heads := by
  unfold State.dispatch
  dsimp only
  split
  · exact State.sendReq_heads _ _ _ _
  · split <;> rfl

theorem State.issueLine_heads (s : State) (r : Req) : (s.issueLine r).heads = s.heads := by
  unfold State.issueLine
  dsimp only
  split <;> split <;> rfl

/-- A write of the mailbox leaves through the home or the ring: the heads stay. -/
theorem State.mbxWrite_heads {s v : State} {h dpa : Nat} {data : Line} {poison : Bool} (hv : s.mbxWrite h dpa data poison = some v) : v.heads = s.heads := by
  unfold State.mbxWrite at hv
  obtain ⟨w, -, hv⟩ := Option.bind_eq_some_iff.1 hv
  obtain ⟨⟨⟨r, owner⟩, second⟩, -, rfl⟩ := Option.map_eq_some_iff.1 hv
  have hfirst : ((s.bump.issueLine r).dispatch r owner true).heads = s.heads := (State.dispatch_heads _ _ _ _).trans (State.issueLine_heads _ _)
  cases second with
  | none => exact hfirst
  | some q => exact (State.dispatch_heads _ _ _ _).trans hfirst

theorem State.onHead_get {s : State} {h : Nat} {d : Head} (hd : s.heads[h]? = some d) (f : Head → Head) : (s.onHead h f).heads[h]? = some (f d) := by
  simp [State.onHead, hd]

theorem mem_nsInsert_self (x : Nat) (l : List Nat) : x ∈ nsInsert x l := by
  induction l with
  | nil => simp [nsInsert]
  | cons y l ih =>
    unfold nsInsert
    split
    · simp
    · split
      · simp
      · simp [ih]

/-- An injected line is listed (R82). -/
def Head.poisonInjected (d : Head) (dpa : Nat) : Head :=
  { d with injected := nsInsert dpa d.injected, poisonList := if d.poisonList.length < 256 then nsInsert dpa d.poisonList else d.poisonList }

/-- A cleared line is listed no more (R82). -/
def Head.poisonCleared (d : Head) (dpa : Nat) : Head := { d with injected := nsErase dpa d.injected, poisonList := nsErase dpa d.poisonList }

theorem State.injectPoison_writes {s v : State} {h : Nat} {d : Head} (ho : s.bd.MailboxOpen h) (hd : s.heads[h]? = some d) {dpa : Nat} (hn : d.injected.length < 64)
    (hv : s.mbxWrite h (dpa / 64 * 64) 0 true = some v) :
    s.injectPoison h 8 dpa = (v.onHead h (fun d => d.poisonInjected (dpa / 64 * 64))).mbxReply h 0x4301 rcSuccess [] := by
  have hlen : ((s.head? h).map (fun d => d.injected.length)).getD 0 = d.injected.length := by simp [State.head?, hd]
  unfold State.injectPoison
  rw [State.mailbox_open ho _ (by decide)]
  dsimp only
  rw [hlen, if_neg (by omega), hv]
  rfl

theorem State.clearPoison_writes {s v : State} {h : Nat} (ho : s.bd.MailboxOpen h) {dpa : Nat} {data : Line} (hv : s.mbxWrite h (dpa / 64 * 64) data false = some v) :
    s.clearPoison h 72 dpa data = (v.onHead h (fun d => d.poisonCleared (dpa / 64 * 64))).mbxReply h 0x4302 rcSuccess [] := by
  unfold State.clearPoison
  rw [State.mailbox_open ho _ (by decide), hv]
  rfl

/-! ### Dynamic Capacity (R52, R53) -/

/-- A list within the extents of the head is answered, and the number of its entries stands first. -/
theorem State.getDcExtents_lists {s : State} {h : Nat} (ho : s.bd.MailboxOpen h) {start : Nat} (count : Nat) (hs : start ≤ (s.hxtOf h [2, 3]).length) :
    ∃ payload, s.getDcExtents h 8 count start
      = s.mbxReply h 0x4801 rcSuccess (leBytes 4 (min (min 84 count) ((s.hxtOf h [2, 3]).length - start)) ++ payload) := by
  unfold State.getDcExtents
  rw [State.mailbox_open ho _ (by decide)]
  dsimp only
  rw [if_neg (by omega), List.length_take, List.length_drop]
  simp only [List.append_assoc]
  exact ⟨_, rfl⟩

/-- The one entry of the table, named by its own range, is named whole. -/
theorem State.namedEntries_whole {s : State} {i : Nat} {e : Hxt} (hx : s.xtn.hxt = [(i, e)]) {h st : Nat} (hh : e.head = h) (hst : e.st = st) (hlen : 0 < e.length) :
    s.namedEntries h st [e.range] = some [(i, true)] := by
  have hentry : s.hxtOf h [st] = [(i, e)] := by simp [State.hxtOf, hx, hh, hst]
  have hrange : 0 < e.range.2 := Nat.mul_pos hlen (by decide)
  show s.namedEntries h st [(e.range.1, e.range.2)] = some [(i, true)]
  unfold State.namedEntries
  simp [State.namedEntries, hentry, hrange]

/-- The state in which an entry has changed and its segment of the table waits to be written. -/
def State.hxtTaken (s : State) (i : Nat) (e : Hxt) : State := (s.setHxt i e).dirtySegment (4096 + i / 256)

theorem State.hxt_hxtTaken (s : State) (i : Nat) (e : Hxt) : (s.hxtTaken i e).hxt i = e := smGet_smSet_self _ _ _ _

theorem State.hxt_of_single {s : State} {i : Nat} {e : Hxt} (hx : s.xtn.hxt = [(i, e)]) : s.hxt i = e := by
  simp [State.hxt, hx, smGet, smFind]

theorem State.addDcResponse_accepts {s : State} {h i : Nat} {e : Hxt} (ho : s.bd.MailboxOpen h) (hx : s.xtn.hxt = [(i, e)]) (hh : e.head = h) (hst : e.st = 1)
    (hlen : 0 < e.length) : s.addDcResponse h 32 [e.range] = (s.hxtTaken i { e with st := 2 }).mbxReply h 0x4802 rcSuccess [] := by
  have hoffer : s.answerOffer i true = s.hxtTaken i { e with st := 2 } := by
    unfold State.answerOffer
    dsimp only
    rw [State.hxt_of_single hx, if_neg (by simp [hst])]
    rfl
  unfold State.addDcResponse
  rw [State.mailbox_open ho _ (by decide), State.namedEntries_whole hx hh hst hlen]
  simp [hoffer]

theorem State.releaseDc_releases {s : State} {h i : Nat} {e : Hxt} (ho : s.bd.MailboxOpen h) (hx : s.xtn.hxt = [(i, e)]) (hh : e.head = h) (hst : e.st = 2)
    (hlen : 0 < e.length) : s.releaseDc h 32 [e.range] = (s.hxtTaken i { e with st := 3, forced := false }).mbxReply h 0x4803 rcSuccess [] := by
  unfold State.releaseDc
  rw [State.mailbox_open ho _ (by decide), State.namedEntries_whole hx hh hst hlen]
  simp [State.hxt_of_single hx, State.hxtTaken]

end Sys2Proof.Machine

open Sys2Proof Sys2Proof.Machine

/-- Settles O39: an open mailbox runs each command and replies; the two poison commands change the injected and listed lines of the head, and the two responses the one entry. -/
theorem mailboxPoisonAndExtents : Obligations.MailboxPoisonAndExtents := by
  intro s h d ho hd
  refine ⟨fun dpa v hn hv => ?inject, fun dpa data v hv => ?clear, fun count start hs => ?list, fun i e dpa len hx hh hr hlen hst => ?accept,
    fun i e dpa len hx hh hr hlen hst => ?release⟩
  case inject =>
    have hreply := State.mbxReply_answers (v.onHead h.val (fun d => d.poisonInjected (dpa.toNat / 64 * 64))) h.val (opcode := 0x4301) (code := rcSuccess) (by decide) (by decide) []
    exact ⟨_, _, Runs.of_run (exec_injectPoison h 8 dpa s) (State.injectPoison_writes ho hd hn hv), hreply,
      State.onHead_get ((State.mbxWrite_heads hv).symm ▸ hd) _, mem_nsInsert_self _ _, rfl, rfl⟩
  case clear =>
    have hreply := State.mbxReply_answers (v.onHead h.val (fun d => d.poisonCleared (dpa.toNat / 64 * 64))) h.val (opcode := 0x4302) (code := rcSuccess) (by decide) (by decide) []
    exact ⟨_, _, Runs.of_run (exec_clearPoison h 72 dpa data s) (State.clearPoison_writes ho hv), hreply,
      State.onHead_get ((State.mbxWrite_heads hv).symm ▸ hd) _, fun hm => (mem_nsErase.1 hm).2 rfl, fun hm => (mem_nsErase.1 hm).2 rfl, rfl, rfl⟩
  case list =>
    obtain ⟨payload, hlist⟩ := State.getDcExtents_lists ho count.toNat hs
    exact ⟨_, payload, Ends.of_quick (exec_getDynamicCapacityExtentList h 8 count start s) hlist, rfl, State.mbxReply_only _ _ _ _ _,
      State.mbxReply_answers _ _ (by decide) (by decide) _⟩
  case accept =>
    have hrun : s.addDcResponse h.val 32 [(dpa.toNat, len.toNat)] = _ := hr ▸ State.addDcResponse_accepts ho hx hh hst hlen
    exact ⟨_, Runs.of_run (exec_addDynamicCapacityResponse h 32 [(dpa, len)] s) hrun, State.mbxReply_answers (s.hxtTaken i _) _ (by decide) (by decide) _,
      State.hxt_hxtTaken _ _ _, State.mbxReply_only (s.hxtTaken i _) _ _ _ _⟩
  case release =>
    have hrun : s.releaseDc h.val 32 [(dpa.toNat, len.toNat)] = _ := hr ▸ State.releaseDc_releases ho hx hh hst hlen
    exact ⟨_, Runs.of_run (exec_releaseDynamicCapacity h 32 [(dpa, len)] s) hrun, State.mbxReply_answers (s.hxtTaken i _) _ (by decide) (by decide) _,
      State.hxt_hxtTaken _ _ _, State.mbxReply_only (s.hxtTaken i _) _ _ _ _⟩

end

section
/-! UNIT_CMD as a message settles nothing (O55): the board counts the message, and its page's performance counters take it in the next step that settles. -/

namespace Sys2Proof.Machine

theorem exec_unitCmd_message (m : Abager) (s : State) : exec (.unitCmd (.message m)) s = s.quick (fun s => s.unitMessage m) := rfl

/-- A settled state that the command could end in would have its board. -/
theorem Runs.unitCmd_message_bd {m : Abager} {s u : State} (h : Runs (.unitCmd (.message m)) s u) : u.settle.bd = (s.unitMessage m).closing.bd := by
  have hnext := (exec_unitCmd_message m s).symm.trans h
  unfold State.quick at hnext
  exact (congrArg State.bd (Host.Outcome.next.inj hnext)).symm

/-- A part that hears messages outside sessions and has one performance counter of page MGT running. -/
def countingPart : State :=
  State.reset.on (fun b => (((b.put pSEQ0 F.SEQ_STAT.STATE 1).put pMGT F.MGT_STAT.EID_VALID 1).put pMGT F.MGT_CFG.SESSION_REQ 0).put pMGT (F.PMC_SEL.EN.ix 0) 1)

/-- A UNIT_CMD message to page MGT that expects epoch 7 (R402). -/
def mgtUnitCmd : Abager := ⟨1, 8, none, 8, leBytes 2 pMGT ++ leBytes 2 2 ++ leBytes 4 7⟩

/-- The part with the message counted and its command checked, before it answers. -/
def countingUnit : State :=
  (countingPart.on (fun b => b.count pMGT F.MGT_RX_MSG.COUNT 1)).on
    (fun b => b.unitCmd (bodyNum mgtUnitCmd 0 2) (bodyNum mgtUnitCmd 2 1 % 16) (bodyNum mgtUnitCmd 4 2))

theorem mgtUnitCmd_passes : countingPart.heard mgtUnitCmd = true ∧ countingPart.abagerCheck mgtUnitCmd 8 true = none ∧ implemented (bodyNum mgtUnitCmd 0 2) = true
    ∧ countingPart.bd.powered (bodyNum mgtUnitCmd 0 2) = true ∧ bodyNum mgtUnitCmd 0 2 ∉ countingPart.bd.resetting := by
  decide +kernel

/-- The command leaves the counted message for the performance counters. -/
theorem unitMessage_leaves_due : (countingPart.unitMessage mgtUnitCmd).closing.bd.pmcDue ≠ [] := by
  decide +kernel

/-- Whatever the answer, a step that settles counts it. -/
theorem settle_counts_due (code : Code) :
    (countingUnit.respond 0x12 mgtUnitCmd.eid.toNat mgtUnitCmd.session.isSome code (countingUnit.bd.unitBytes (bodyNum mgtUnitCmd 0 2))).settle.bd.pmcDue = [] := by
  cases code <;> decide +kernel

end Sys2Proof.Machine

open Sys2Proof Sys2Proof.Machine

/-- Refutes O55: its UNIT_CMD clause says `Runs`, which settles the part after the effect, and the command ends without settling (as the requests of the first clause, which
say `Ends`). With a performance counter of page MGT running, the message that has been counted is still due after the command, and no longer due after a settled step. -/
theorem not_abagerAndFmRequests : ¬ Obligations.AbagerAndFmRequests := by
  unfold Obligations.AbagerAndFmRequests
  intro h
  obtain ⟨hheard, hcheck, himpl, hpow, hreset⟩ := mgtUnitCmd_passes
  obtain ⟨-, -, hmessage, -⟩ := h countingPart mgtUnitCmd hheard
  obtain ⟨-, -, -, hunit, -⟩ := hmessage (countingPart.on (fun b => b.count pMGT F.MGT_RX_MSG.COUNT 1)) rfl rfl
  obtain ⟨u, w, code, hruns, rfl, rfl⟩ := hunit hcheck himpl hpow hreset
  exact unitMessage_leaves_due (hruns.unitCmd_message_bd ▸ settle_counts_due code)

end

section
/-! What a settled step leaves of the queue of the home where the domain of the home is off (O13): its tail keeps the queue, or the part shuts off (R376, R417, R475). -/

namespace Sys2Proof.Machine

theorem exec_memrd (h : Fin 8) (hpa : BitVec 64) (s : State) : exec (.memrd h hpa) s = s.run (fun s => s.memRd h.val hpa.toNat) := rfl

theorem Board.Only.count {b c : Board} {ks : List (Nat × Nat)} (h : b.Only c ks) {p : Nat} {f : Fld} (n : Nat) (ho : f.off < 4096) (hk : (p, f.off / 4) ∈ ks) :
    b.Only (c.count p f n) ks := by
  intro q off hoff hn
  unfold Board.count
  rw [Board.rd_tally]
  exact h.put _ ho hk q off hoff hn

theorem Board.Only.domainOn {b c : Board} {ks : List (Nat × Nat)} (h : b.Only c ks) (hk : (pSEQ1, F.SEQ_DOM_PG.PG.off / 4) ∉ ks) (n : Nat) : c.domainOn n = b.domainOn n := by
  unfold Board.domainOn
  rw [h.get _ _ ⟨by decide, hk⟩]

/-! ### The frame of the tail -/

/-- The words that the tail of a step writes while the domains of the home, the keys and the links are off: PST_STAT, SEC_STAT, SEC_TAMPER, MGT_STAT, MGT_LAST, KEY_STAT. -/
def tailWords : List (Nat × Nat) :=
  [(pPST, 16), (pSEC, F.SEC_STAT.PUF_OK.off / 4), (pSEC, F.SEC_TAMPER.COUNT.off / 4), (pMGT, F.MGT_STAT.SESSION.off / 4), (pMGT, F.MGT_LAST.CODE.off / 4),
    (pKEY, F.KEY_STAT.BUSY.off / 4)]

/-- The queue of the home stays, and of the registers all but the tail's. -/
structure State.Tail (s t : State) : Prop where
  queue : t.home.queue = s.home.queue
  only : s.bd.Only t.bd tailWords

theorem State.Tail.refl (s : State) : s.Tail s := ⟨rfl, .refl _ _⟩

theorem State.Tail.trans {s t u : State} (h : s.Tail t) (k : t.Tail u) : s.Tail u := ⟨k.queue.trans h.queue, h.only.trans k.only⟩

theorem State.Tail.ite {P : Prop} [Decidable P] {s t u : State} (h : s.Tail t) (k : s.Tail u) : s.Tail (if P then t else u) := by
  split
  · exact h
  · exact k

/-- Domains 1 (the home), 4 (the keys and the island) and 7 (the links) are off, and this part is not the manager. -/
structure Board.HomeOff (b : Board) : Prop where
  home : b.domainOn 1 = false
  island : b.domainOn 4 = false
  links : b.domainOn 7 = false
  manages : b.manages = false
  cleanDown : b.cleanDown = false

theorem Board.HomeOff.only {b c : Board} {ks : List (Nat × Nat)} (h : b.HomeOff) (k : b.Only c ks)
    (hk : (pSEQ1, F.SEQ_DOM_PG.PG.off / 4) ∉ ks ∧ (pSHM, F.SHM_SELF.MANAGER.off / 4) ∉ ks ∧ (pPDR, F.PDR_STAT.PHASE.off / 4) ∉ ks) : c.HomeOff := by
  obtain ⟨hhome, hisland, hlinks, hman, hdown⟩ := h
  obtain ⟨kdom, kman, kdown⟩ := hk
  have hclean : c.cleanDown = b.cleanDown := by
    unfold Board.cleanDown
    rw [k.get _ _ ⟨by decide, kdown⟩]
  exact ⟨(k.domainOn kdom 1).trans hhome, (k.domainOn kdom 4).trans hisland, (k.domainOn kdom 7).trans hlinks, (k.on _ _ ⟨by decide, kman⟩).trans hman, hclean.trans hdown⟩

theorem State.Tail.homeOff {s t : State} (h : s.Tail t) (ho : s.bd.HomeOff) : t.bd.HomeOff := ho.only h.only (by decide)

/-! ### The tamper response of a reset (R417) -/

theorem State.SameButStore.queue {s t : State} (h : s.SameButStore t) : t.home.queue = s.home.queue := (congrArg (fun u : State => u.home.queue) h :)

theorem Board.Only.mono {b c : Board} {ks ls : List (Nat × Nat)} (h : b.Only c ks) (hk : ks ⊆ ls) : b.Only c ls := fun p o ho hn => h p o ho (mt (@hk _) hn)

theorem State.pstQueue_tail (s : State) (j : PstJob) : s.Tail (s.pstQueue j) :=
  ⟨((State.StoreFrame.refl [(pPST, 16)] s).pstQueue (by simp) j).same.queue, (State.pstKick_only _).mono (by decide)⟩

theorem State.bumpCounter_tail (s : State) (n prio : Nat) (after : PstAfter) : s.Tail (s.bumpCounter n prio after) := by
  unfold State.bumpCounter
  exact (State.Tail.refl s).ite (s.pstQueue_tail _)

theorem State.Tail.same {s t u : State} (h : s.Tail t) (hq : u.home.queue = t.home.queue) (hb : u.bd = t.bd) : s.Tail u :=
  h.trans ⟨hq, hb ▸ .refl _ _⟩

theorem State.Tail.withBoard {s t : State} (h : s.Tail t) {f : Board → Board} (k : t.bd.Only (f t.bd) tailWords) : s.Tail (t.on f) := h.trans ⟨rfl, k⟩

theorem State.Tail.followSessions {s t : State} (h : s.Tail t) : s.Tail t.followSessions :=
  h.withBoard ((((Board.Only.refl _ _).put _ (by decide) (by decide)).put _ (by decide) (by decide)).put _ (by decide) (by decide))

/-- Zeroisation writes SEC_STAT and KEY_STAT; its event is of a page whose domain is off. -/
theorem State.zeroise_tail {s : State} (h : s.bd.HomeOff) : s.Tail s.zeroise.2 := by
  have hputs : ∀ b : Board, b.Only ((b.put pSEC F.SEC_STAT.PUF_OK 0).put pKEY F.KEY_STAT.BUSY 0) tailWords := fun b =>
    ((Board.Only.refl b _).put _ (by decide) (by decide)).put _ (by decide) (by decide)
  unfold State.zeroise
  dsimp only
  generalize ht : State.followSessions _ = t
  have hsess : s.Tail t := ht ▸ State.Tail.followSessions (State.Tail.same (.refl s) (by rfl) (by rfl))
  have hoff : ((t.bd.put pSEC F.SEC_STAT.PUF_OK 0).put pKEY F.KEY_STAT.BUSY 0).powered pKEY = false := ((hsess.homeOff h).only (hputs _) (by decide)).island
  refine hsess.withBoard ?_
  rw [hoff, if_neg (by decide)]
  exact hputs _

theorem Board.HomeOff.powered_link {b : Board} (h : b.HomeOff) {k : Nat} (hk : k < 2) : b.powered (pSHL k) = false := by
  have hd : domainOf (pSHL k) = 7 := by
    interval_cases k <;> decide
  unfold Board.powered
  rw [hd]
  exact h.links

/-- With the links off, none goes down. -/
theorem State.linksGone_idle {s : State} (h : s.bd.HomeOff) :
    (List.range 2).foldl (fun (s : State) k => if s.bd.powered (pSHL k) ∧ s.bd.phase k ≠ 0 then s.linkGone k false 0 else s) s = s := by
  refine List.foldlRecOn (motive := (· = s)) _ _ rfl fun t ht k hk => ?_
  rw [ht, if_neg (by simp [h.powered_link (List.mem_range.1 hk)])]

/-- The part before the response is told: counter, keys and what the front holds. -/
def State.tamperWiped (s : State) : State := ((s.bumpCounter 2 0 .epoch).zeroise.2.forgetFront).2

theorem State.tamperWiped_tail {s : State} (h : s.bd.HomeOff) : s.Tail s.tamperWiped :=
  ((s.bumpCounter_tail _ _ _).trans (State.zeroise_tail ((s.bumpCounter_tail _ _ _).homeOff h))).same rfl rfl

/-- The response is told, with the `lines` and `slots` that it emptied (R417). -/
def State.tamperTold (s : State) (debug : Bool) (lines slots : Nat) : State :=
  let s := { s with sec := { s.sec with tampered := true } }
  let ns := s.bd.openVal % 10001
  let epoch := s.keyEpoch
  s.on (fun b =>
    let b := (b.useOpen.count pSEC F.SEC_TAMPER.COUNT 1).put pSEC F.SEC_TAMPER.LAST_NS ns
    if b.powered pSEC then
      let b := ((b.put pSEC F.SEC_STAT.TAMPERED 1).openCause pSEC F.SEC_CAUSE.TAMPER).raise pSEC (ev E.SEC.TAMPER (bit debug) lines slots (epoch % 2 ^ 32))
      b.logFault pSEC E.SEC.TAMPER 13 0 lines false
    else b)

/-- With the island off, the response opens no cause and makes no entry. -/
theorem State.tamperTold_tail {s : State} (h : s.bd.HomeOff) (debug : Bool) (lines slots : Nat) : s.Tail (s.tamperTold debug lines slots) := by
  have hc : ∀ ns, s.bd.Only ((s.bd.useOpen.count pSEC F.SEC_TAMPER.COUNT 1).put pSEC F.SEC_TAMPER.LAST_NS ns) tailWords := fun ns =>
    (Board.Only.count (c := s.bd.useOpen) (.refl s.bd _) _ (by decide) (by decide)).put _ (by decide) (by decide)
  have hoff : ∀ ns, ((s.bd.useOpen.count pSEC F.SEC_TAMPER.COUNT 1).put pSEC F.SEC_TAMPER.LAST_NS ns).powered pSEC = false := fun ns =>
    (h.only (hc ns) (by decide)).island
  refine ⟨rfl, ?_⟩
  unfold State.tamperTold
  dsimp only
  rw [State.on_bd, hoff, if_neg (by decide)]
  exact hc _

theorem State.tamperResponse_eq {s : State} (h : s.bd.HomeOff) (debug : Bool) :
    s.tamperResponse debug = if s.responding then s else s.tamperWiped.tamperTold debug ((s.bumpCounter 2 0 .epoch).zeroise.2.forgetFront).1 (s.bumpCounter 2 0 .epoch).zeroise.1 := by
  conv => rhs; rw [← State.linksGone_idle ((State.tamperWiped_tail h).homeOff h)]
  rfl

theorem State.resetTamper_tail {s : State} (h : s.bd.HomeOff) : s.Tail s.resetTamper := by
  have hresp : ∀ t : State, s.Tail t → s.Tail (t.tamperResponse false) := fun t ht => by
    rw [State.tamperResponse_eq (ht.homeOff h)]
    have hw := State.tamperWiped_tail (ht.homeOff h)
    exact ht.trans ((State.Tail.refl t).ite (hw.trans (State.tamperTold_tail (hw.homeOff (ht.homeOff h)) _ _ _)))
  unfold State.resetTamper
  split
  · exact .refl s
  · dsimp only
    split
    · exact hresp _ ((State.Tail.refl s).same rfl rfl)
    · exact (State.Tail.refl s).same rfl rfl

/-! ### Answers, sensors and the rest of the tail -/

theorem State.Tail.respond {s t : State} (h : s.Tail t) (code eid : Nat) (session : Bool) (c : Code) (body : List Byte) : s.Tail (t.respond code eid session c body) := by
  have hlast : t.bd.Only ((t.bd.put pMGT F.MGT_LAST.CODE code).put pMGT F.MGT_LAST.RESULT c.num) tailWords :=
    ((Board.Only.refl _ _).put _ (by decide) (by decide)).put _ (by decide) (by decide)
  exact h.trans ⟨rfl, hlast⟩

/-- A part that is not the manager sends a loss on, or keeps it until it knows the manager (R269). -/
theorem State.memLost_tail {s : State} (h : s.bd.HomeOff) (a : Answer) : s.Tail (s.memLost a) := by
  have hreport : ∀ owner ws, s.Tail (s.reportLoss owner ws) := fun owner ws => by
    unfold State.reportLoss
    rw [if_neg (by simp [h.manages])]
    exact State.Tail.ite ⟨rfl, .refl _ _⟩ ⟨rfl, .refl _ _⟩
  unfold State.memLost
  split
  · exact .refl s
  · exact (State.Tail.refl s).ite (hreport _ _)

/-- One answer for the management path is taken. -/
def State.takeAnswer (s : State) (a : Answer) : State :=
  let s := (s.memLost a).answered a.oid a.id
  { s with mgmt := { s.mgmt with reqs := s.mgmt.reqs.map (fun q => q.take a) } }

/-- The answers for the management path are taken (R400). -/
def State.answersTaken (s : State) : State :=
  (s.home.answers.filter (fun a => decide (oidClass a.oid = 3))).foldl State.takeAnswer
    { s with home := { s.home with answers := s.home.answers.filter (fun a => decide (oidClass a.oid ≠ 3)) } }

theorem State.answersTaken_tail {s : State} (h : s.bd.HomeOff) : s.Tail s.answersTaken :=
  List.foldlRecOn (motive := fun t : State => s.Tail t) _ _ ((State.Tail.refl s).same rfl rfl) fun _ ht a _ =>
    ht.trans ((State.memLost_tail (ht.homeOff h) a).same rfl rfl)

/-- The requests that are finished leave the list. -/
def State.requestsKept (s : State) : State := { s with mgmt := { s.mgmt with reqs := s.mgmt.reqs.filter (fun q => (s.reqDone q).isNone) } }

theorem State.followRequests_eq (s : State) :
    s.followRequests = (s.answersTaken.mgmt.reqs.filterMap (fun q => (s.answersTaken.reqDone q).map (fun x => (q, x)))).foldl
      (fun (s : State) (d : MemReq × Code × List Byte) => s.respond d.1.code d.1.eid d.1.session d.2.1 d.2.2) s.answersTaken.requestsKept := rfl

theorem State.followRequests_tail {s : State} (h : s.bd.HomeOff) : s.Tail s.followRequests := by
  rw [State.followRequests_eq]
  exact List.foldlRecOn (motive := fun t : State => s.Tail t) _ _ ((State.answersTaken_tail h).same rfl rfl) fun _ ht _ _ => ht.respond _ _ _ _ _

theorem State.followShutdown_idle {s : State} (h : s.bd.HomeOff) : s.followShutdown = s := by
  unfold State.followShutdown
  rw [if_pos (by simp [h.cleanDown])]

theorem State.followFm_queue {s : State} (h : s.bd.HomeOff) : s.followFm.home.queue = s.home.queue := by
  unfold State.followFm
  split
  · rfl
  · rw [if_pos (by simp [h.manages])]

theorem State.followSensor_queue (s : State) (id : Nat) : (s.followSensor id).home.queue = s.home.queue := by
  unfold State.followSensor
  split
  · rfl
  · dsimp only
    split
    · rfl
    · split <;> rfl

theorem State.followSensors_queue (s : State) : s.followSensors.home.queue = s.home.queue := by
  unfold State.followSensors
  split
  · rfl
  · exact List.foldlRecOn (motive := fun t : State => t.home.queue = s.home.queue) _ _ rfl fun t ht k _ => (t.followSensor_queue _).trans ht

/-! ### A settled step with the home off -/

/-- What a settled step does before it looks for a fatal stop, where the domain of the home is off. -/
def State.followed (s : State) : State :=
  (((((s.followShutdown.resetTamper).followSessions.followRequests).followFm).followSensors).on Board.followNotices).on (fun b => b.followAlert.followCounters)

theorem State.followed_queue {s : State} (h : s.bd.HomeOff) : s.followed.home.queue = s.home.queue := by
  have hsess : s.Tail s.resetTamper.followSessions := (State.resetTamper_tail h).followSessions
  have hreq := hsess.trans (State.followRequests_tail (hsess.homeOff h))
  unfold State.followed
  rw [State.on_home, State.on_home, State.followSensors_queue, State.followShutdown_idle h, State.followFm_queue (hreq.homeOff h), hreq.queue]

/-- A fatal stop that a check found is taken (R475). -/
def State.fatalTaken (s : State) : State :=
  match s.bd.fatal with
  | some (_, _, cls) => (s.on (fun b => { b with fatal := none })).fatalStop cls
  | none => s

theorem State.settle_homeOff {s : State} (h : s.bd.domainOn 1 = false) : s.settle = s.followed.fatalTaken.closing := by
  unfold State.settle
  rw [h, if_neg (by decide)]
  rfl

theorem State.fatalTaken_cases (s : State) : s.fatalTaken.bd.seqState = 14 ∨ s.fatalTaken = s := by
  unfold State.fatalTaken
  split
  · exact .inl (State.shutOff_state _)
  · exact .inr rfl

theorem State.closing_seqState (s : State) : s.closing.bd.seqState = s.bd.seqState :=
  Board.get_congr (f := F.SEQ_STAT.STATE) (s.bd.closing_frame.regs pSEQ0 F.SEQ_STAT.STATE.off (by decide) (by decide))

theorem State.settle_queue_or_off {s : State} (h : s.bd.HomeOff) : s.settle.home.queue = s.home.queue ∨ s.settle.bd.seqState = 14 := by
  rw [State.settle_homeOff h.home]
  obtain he | he := s.followed.fatalTaken_cases
  · right
    rw [State.closing_seqState, he]
  · left
    rw [he, State.closing, State.on_home, State.followed_queue h]

/-- A state in which a command can settle has the home and the board that the command leaves. -/
theorem Runs.settle_eq {c : Instr} {s u : State} {f : State → State} (h : Runs c s u) (hx : exec c s = s.run f) :
    u.settle.home = (f s).settle.home ∧ u.settle.bd = (f s).settle.bd := by
  have hnext : ({ u.settle with pending := s.pending } : State) = { (f s).settle with pending := s.pending } := Host.Outcome.next.inj (h.symm.trans hx)
  exact ⟨(congrArg State.home hnext :), (congrArg State.bd hnext :)⟩

/-! ### A read whose number an earlier request in flight still has -/

/-- Head 0 takes requests, and its window 0 lies over the volatile window; of the domains only the head's is on. -/
def lonelyHead : Board :=
  [(pSEQ1, F.SEQ_DOM_PG.PG, 2 ^ 5), (pHPT 0, F.UNIT_STATE.STATE, stSERVICE), (pHPT 0, F.HPT_LINK_STAT.UP, 1), (pHPT 0, F.HPT_LINK_STAT.CXL_MEM, 1),
    (pXTN, F.UNIT_STATE.STATE, stSERVICE), (pVWN, F.VWN_STAT.CURRENT, 1), (pXTN, F.WIN_CTL.COMMITTED.ix 0, 1), (pXTN, F.WIN_CTL.TYPE.ix 0, 2),
    (pXTN, F.WIN_SIZE.SIZE.ix 0, 1)].foldl (fun (b : Board) x => b.put x.1 x.2.1 x.2.2) Board.reset

/-- The master of head 0 is privileged with MAX_OUT 1, and a read of it in flight has the number that the next request will have: no read of the head has it yet, so that the
read in flight does not count as outstanding (R460). -/
def reusedNumber : State :=
  let s : State := { State.reset with bd := lonelyHead }
  { s with traffic := { s.traffic with
      force := [((F.QOS_MCFG.PRIV.ix 0).off, BitVec.ofNat 32 (2 ^ F.QOS_MCFG.PRIV.lo)), ((F.QOS_MMAX.MAX_OUT.ix 0).off, 1)]
      flight := [(s.hostReq 0 .read 0 0 0 false, 0, true)] } }

/-- The read of line 0 as it is decoded: line 0 of the volatile window. -/
def reusedRead : Req := { reusedNumber.hostReq 0 .read 0 0 0 false with volatile := true }

theorem reusedNumber_homeOff : reusedNumber.bd.HomeOff :=
  ⟨by decide +kernel, by decide +kernel, by decide +kernel, by decide +kernel, by decide +kernel⟩

theorem reusedNumber_after {b : Board} (h : reusedNumber.bd.Only b [(pHPT 0, F.HPT_RDQ.HIGH_WATER.off / 4)]) : b.HomeOff :=
  reusedNumber_homeOff.only h (by decide)

theorem reusedNumber_takes : reusedNumber.heads[0]? = some Head.empty ∧ reusedNumber.takes 0 = true ∧ reusedNumber.bd.unit (pHPT 0) ≠ stCONTAINED := by
  decide +kernel

/-- As long as the read is not among those of the head, it may leave. -/
theorem reusedRead_mayLeave : Head.empty.overlay 0 = (0, 0, false)
    ∧ reusedNumber.destination (reusedNumber.hostReq 0 .read 0 0 0 false) (reusedNumber.decode 0 0 false none) = some ((reusedRead, reusedNumber.bd.selfId), none)
    ∧ (reusedNumber.mayLeave reusedRead reusedNumber.bd.selfId).1 = true ∧ reusedNumber.lowNow (masterOf reusedRead.oid) = false := by
  decide +kernel

/-- Once it is, the one in flight counts, and the read waits: the step leaves nothing in the queue of the home, and no fatal stop. -/
theorem reusedRead_waits :
    (reusedNumber.memRd (0 : Fin 8).val (0 : BitVec 64).toNat).settle.home.queue = []
      ∧ (reusedNumber.memRd (0 : Fin 8).val (0 : BitVec 64).toNat).settle.bd.seqState ≠ 14 := by
  decide +kernel

end Sys2Proof.Machine

open Sys2Proof Sys2Proof.Machine

/-- Refutes O13, in its clause on reads: whether a read may leave is asked before the read is among those of the head, and the command asks it after. A read of the same number
that is in flight has become outstanding by then, so that the master stands at MAX_OUT: the read waits at its source, and the queue of the home stays empty. -/
theorem not_hostRequestsEnterTheHead : ¬ Obligations.HostRequestsEnterTheHead := by
  unfold Obligations.HostRequestsEnterTheHead
  intro h
  obtain ⟨hhead, htakes, hunit⟩ := reusedNumber_takes
  obtain ⟨hoverlay, hdest, hleave, hlow⟩ := reusedRead_mayLeave
  obtain ⟨hread, -⟩ := h reusedNumber 0 Head.empty 0 0 0 false hhead htakes hunit
  obtain ⟨u, -, hruns, hqueue, -, -, -, -, -, honly⟩ := hread reusedRead (by decide) hoverlay hdest hleave hlow
  obtain ⟨hhome, hbd⟩ := hruns.settle_eq (exec_memrd 0 0 reusedNumber)
  obtain ⟨hempty, hstate⟩ := reusedRead_waits
  obtain hkept | hoff := State.settle_queue_or_off (reusedNumber_after honly)
  · rw [hhome, hqueue] at hkept
    exact absurd (hkept.symm.trans hempty) (by simp)
  · rw [hbd] at hoff
    exact hstate hoff

end

section
/-! HPT_PORT_CFG (O16, O17): the host's writes are turned away, and the management path's take effect, SPLIT in the parameter store too (R64, R90). -/

namespace Sys2Proof.Machine

theorem exec_hptPortCfgWrite (p : Path) (h : Fin 8) (w : Word) (s : State) :
    exec (.hptPortCfgWrite p h w) s = s.quick (fun s => s.portCfgWrite p h.val w) := rfl

/-- R10: a rejected write changes PAGE_REJECT alone, which shows its code. -/
theorem State.rejects_shows (s : State) (p : Path) (page off : Nat) (c : Code) :
    s.SameBelow (s.rejects p page off c) ∧ (s.rejects p page off c).bd.get page F.PAGE_REJECT.CODE = c.num
      ∧ s.bd.Only (s.rejects p page off c).bd [(page, F.PAGE_REJECT.CODE.off / 4)] :=
  ⟨rfl, Board.reject_code _ _ _ _ _, Board.reject_only _ _ _ _ _⟩

/-- R90: no host path writes HPT_PORT_CFG. -/
theorem State.portCfgWrite_host {s : State} (x : Fin 8) {h : Nat} (w : Word) (hp : s.bd.powered (pHPT h) = true) (hr : pHPT h ∉ s.bd.resetting) :
    s.portCfgWrite (.host x) h w = s.rejects (.host x) (pHPT h) 0x040 .denied := by
  have hgate : s.bd.gate (.host x) (pHPT h) 0x040 true false = some (s.bd.reject (pHPT h) (.host x) 0x040 .denied) := by simp [Board.gate, hp, hr]
  exact State.written_stop hgate

/-- HPT_PORT_CFG of a head takes a word; an odd head has no SPLIT (R64). -/
def Board.portCfgTaken (b : Board) (h : Nat) (w : Word) : Board :=
  let c := (b.put (pHPT h) F.HPT_PORT_CFG.L0P_EN (wordBits w 1 1)).put (pHPT h) F.HPT_PORT_CFG.MAX_SPEED (wordBits w 2 2)
  if h % 2 = 0 then c.put (pHPT h) F.HPT_PORT_CFG.SPLIT (wordBits w 0 1) else c

theorem Board.portCfgTaken_only (b : Board) (h : Nat) (w : Word) : b.Only (b.portCfgTaken h w) [(pHPT h, 16)] := by
  have hc := ((Board.Only.refl b [(pHPT h, 16)]).put (p := pHPT h) (f := F.HPT_PORT_CFG.L0P_EN) (wordBits w 1 1) (by decide) (by simp)).put (p := pHPT h)
    (f := F.HPT_PORT_CFG.MAX_SPEED) (wordBits w 2 2) (by decide) (by simp)
  unfold Board.portCfgTaken
  dsimp only
  split
  · exact hc.put _ (by decide) (by simp)
  · exact hc

/-- A field set from as many bits of a word as it has shows them. -/
theorem Board.get_put_wordBits (b : Board) (p : Nat) (f : Fld) (w : Word) (lo : Nat) (h : f.lo + f.width ≤ 32) :
    (b.put p f (wordBits w lo f.width)).get p f = wordBits w lo f.width :=
  (Board.get_put_self b p f _ h).trans (Nat.mod_eq_of_lt (wordBits_lt w lo f.width))

/-- What HPT_PORT_CFG shows after the write (R65). -/
theorem Board.portCfgTaken_shows (b : Board) (h : Nat) (w : Word) :
    (b.portCfgTaken h w).get (pHPT h) F.HPT_PORT_CFG.MAX_SPEED = wordBits w 2 2 ∧ (b.portCfgTaken h w).get (pHPT h) F.HPT_PORT_CFG.L0P_EN = wordBits w 1 1
      ∧ (b.portCfgTaken h w).get (pHPT h) F.HPT_PORT_CFG.SPLIT = if h % 2 = 0 then wordBits w 0 1 else b.get (pHPT h) F.HPT_PORT_CFG.SPLIT := by
  have hl0p := Board.get_put_wordBits b (pHPT h) F.HPT_PORT_CFG.L0P_EN w 1 (by decide)
  have hspeed := Board.get_put_wordBits (b.put (pHPT h) F.HPT_PORT_CFG.L0P_EN (wordBits w 1 1)) (pHPT h) F.HPT_PORT_CFG.MAX_SPEED w 2 (by decide)
  have hclear : ∀ {f g : Fld} {c : Board} {v : Nat}, f.off = 0x040 ∧ g.off = 0x040 ∧ f.lo + f.width ≤ 32 →
      (f.lo + f.width ≤ g.lo ∨ g.lo + g.width ≤ f.lo) → (c.put (pHPT h) g v).get (pHPT h) f = c.get (pHPT h) f := fun ⟨hf, hg, hw⟩ ha =>
    Board.get_put_clear _ _ ⟨by omega, by omega, hw⟩ (.inr (.inr ⟨hf.trans hg.symm, ha⟩))
  unfold Board.portCfgTaken
  dsimp only
  split
  · exact ⟨(hclear (by decide) (by decide)).trans hspeed, ((hclear (by decide) (by decide)).trans (hclear (by decide) (by decide))).trans hl0p,
      Board.get_put_wordBits _ _ F.HPT_PORT_CFG.SPLIT w 0 (by decide)⟩
  · exact ⟨hspeed, (hclear (by decide) (by decide)).trans hl0p, (hclear (by decide) (by decide)).trans (hclear (by decide) (by decide))⟩

/-- R64: the management path's write takes effect; with SPLIT, CONFIG goes to the parameter store. -/
theorem State.portCfgWrite_mgmt {s : State} {h : Nat} (w : Word) (hp : s.bd.powered (pHPT h) = true) (hr : pHPT h ∉ s.bd.resetting) :
    s.portCfgWrite .mgmt h w = if h % 2 = 0 then (s.on (·.portCfgTaken h w)).storeConfig else s.on (·.portCfgTaken h w) :=
  State.written_pass (by simp [Board.gate, hp, hr])

theorem State.portCfgStored_only (s : State) (P : Prop) [Decidable P] : s.bd.Only (if P then s.storeConfig else s).bd [(pPST, 16)] :=
  State.only_ite s.storeConfig_only (.refl _ _)

end Sys2Proof.Machine

open Sys2Proof Sys2Proof.Machine

/-- Settles O16: the gate admits no host write of HPT_PORT_CFG, and PAGE_REJECT records it (R90). -/
theorem hostCannotWritePortCfg : Obligations.HostCannotWritePortCfg := by
  intro s x h w hp hr
  obtain ⟨hsame, hcode, honly⟩ := s.rejects_shows (.host x) (pHPT h.val) 0x040 .denied
  exact ⟨_, Ends.of_quick (exec_hptPortCfgWrite (.host x) h w s) (State.portCfgWrite_host x w hp hr), hsame, hcode, honly⟩

/-- Settles O17 (R64, R65): the fields are those of the word written, and storing CONFIG writes PST_STAT beside them. -/
theorem managementSetsPortCfg : Obligations.ManagementSetsPortCfg := by
  intro s h w hp hr
  have hstored := (s.on (·.portCfgTaken h.val w)).portCfgStored_only (h.val % 2 = 0)
  have hkept : ∀ f : Fld, f.off = 0x040 → _ := fun f hf => hstored.get (pHPT h.val) f ⟨by omega, by simp [pHPT, pPST]; omega⟩
  obtain ⟨hspeed, hl0p, hsplit⟩ := s.bd.portCfgTaken_shows h.val w
  exact ⟨_, Ends.of_quick (exec_hptPortCfgWrite .mgmt h w s) (State.portCfgWrite_mgmt w hp hr), (hkept _ rfl).trans hspeed, (hkept _ rfl).trans hl0p,
    (hkept _ rfl).trans hsplit, ((s.bd.portCfgTaken_only h.val w).mono (by simp)).trans (hstored.mono (by simp))⟩

end

section
/-! Mailbox commands that answer and change nothing else (O36), and those that are refused (O37): R81 to R83. -/

namespace Sys2Proof.Machine

/-! ### A row of the mailbox (R81, R83, R382) -/

/-- The command is a mailbox command of `len` bytes, at most `limit`, whose effect and answer `f` gives; `always` and `early` as `State.mailbox` has them. -/
def MbxRow (c : Instr) (h opcode len limit : Nat) (always early : Bool) (f : State → Nat × List Byte × State) : Prop :=
  ∀ s, exec c s = s.quick (fun s => s.mailbox h opcode len limit always early f)

/-- An answer of Success with a payload that the state gives. -/
def answering (payload : State → List Byte) : State → Nat × List Byte × State := fun s => (rcSuccess, payload s, s)

/-- An answer of Unsupported. -/
def unsupported : State → Nat × List Byte × State := fun s => (rcUnsupported, [], s)

section
variable {c : Instr} {s : State} {h opcode len limit : Nat} {always early : Bool} {f : State → Nat × List Byte × State}

theorem MbxRow.answers_open {p : State → List Byte} (hc : MbxRow c h opcode len limit always early (answering p)) (ho : s.bd.MailboxOpen h)
    (hl : len ≤ limit ∧ len ≤ 4096) : Ends c s (s.mbxReply h opcode rcSuccess (p s)) := Ends.of_quick (hc s) (State.mailbox_open ho opcode hl always early _)

theorem MbxRow.unsupported_open (hc : MbxRow c h opcode len limit always early unsupported) (ho : s.bd.MailboxOpen h)
    (hl : len ≤ limit ∧ len ≤ 4096) : Ends c s (s.mbxReply h opcode rcUnsupported []) := Ends.of_quick (hc s) (State.mailbox_open ho opcode hl always early _)

/-- A command of those that run in every state runs while the mailbox is up (R83). -/
theorem State.mailbox_always (hup : s.bd.mailboxUp h = true) (hl : len ≤ limit ∧ len ≤ 4096) :
    s.mailbox h opcode len limit true false f = (f s).2.2.mbxReply h opcode (f s).1 (f s).2.1 := by
  unfold State.mailbox
  rw [if_neg (by simp [hup]), if_neg (by simp), if_neg (by simp), if_neg (by omega)]

theorem MbxRow.answers_always {p : State → List Byte} (hc : MbxRow c h opcode len limit true false (answering p)) (hup : s.bd.mailboxUp h = true)
    (hl : len ≤ limit ∧ len ≤ 4096) : Ends c s (s.mbxReply h opcode rcSuccess (p s)) := Ends.of_quick (hc s) (State.mailbox_always hup hl)

/-- Any other command of a contained head returns Media Disabled (R83). -/
theorem MbxRow.ends_contained (hc : MbxRow c h opcode len limit false early f) (hup : s.bd.mailboxUp h = true) (hu : s.bd.unit (pHPT h) = stCONTAINED) :
    Ends c s (s.mbxReply h opcode rcMediaDisabled []) := by
  refine Ends.of_quick (hc s) ?_
  unfold State.mailbox
  rw [if_neg (by simp [hup]), if_pos ⟨hu, rfl⟩]

end

/-- What a command that only answers leaves: its response, and HPT_MBX_LAST. -/
theorem State.mbxReply_settles (s : State) (h : Nat) {opcode code : Nat} (ho : opcode < 2 ^ 16 ∧ code < 2 ^ 16) (payload : List Byte) :
    s.SameBelow (s.mbxReply h opcode code payload) ∧ Answers s (s.mbxReply h opcode code payload) h opcode code payload
      ∧ s.bd.Only (s.mbxReply h opcode code payload).bd [mbxLast h] :=
  ⟨rfl, s.mbxReply_answers h ho.1 ho.2 payload, s.mbxReply_only h opcode code payload⟩

/-! ### The rows that do nothing but answer (R82, R244) -/

section
variable (h : Fin 8) (len : BitVec 21)

theorem mbxRow_getTimestamp :
    MbxRow (.getTimestamp h len) h.val 0x0300 len.toNat 0 false false (answering fun s => leBytes 8 (s.bd.rackTime * 1000)) := fun _ => rfl

theorem mbxRow_getPartitionInfo :
    MbxRow (.getPartitionInfo h len) h.val 0x4100 len.toNat 0 false false (answering fun _ => List.replicate 32 0) := fun _ => rfl

theorem mbxRow_getShutdownState :
    MbxRow (.getShutdownState h len) h.val 0x4203 len.toNat 0 false false (answering fun s => leBytes 1 (((s.head? h.val).map Head.shutdown).getD 0)) :=
  fun _ => rfl

theorem mbxRow_getEventInterruptPolicy :
    MbxRow (.getEventInterruptPolicy h len) h.val 0x0102 len.toNat 0 false false
      (answering fun s => ((s.head? h.val).map (fun d => d.evtPolicy.flatMap (leBytes 2))).getD []) := fun _ => rfl

theorem mbxRow_getFwInfo : ∃ p, MbxRow (.getFwInfo h len) h.val 0x0200 len.toNat 0 false false (answering p) := ⟨_, fun _ => rfl⟩

theorem mbxRow_getSupportedLogs : ∃ p, MbxRow (.getSupportedLogs h len) h.val 0x0400 len.toNat 0 false false (answering p) := ⟨_, fun _ => rfl⟩

theorem mbxRow_identifyMemoryDevice : ∃ p, MbxRow (.identifyMemoryDevice h len) h.val 0x4000 len.toNat 0 true false (answering p) := ⟨_, fun _ => rfl⟩

theorem mbxRow_getHealthInfo : ∃ p, MbxRow (.getHealthInfo h len) h.val 0x4200 len.toNat 0 true false (answering p) := ⟨_, fun _ => rfl⟩

theorem mbxRow_getAlertConfig : ∃ p, MbxRow (.getAlertConfig h len) h.val 0x4201 len.toNat 0 false false (answering p) := ⟨_, fun _ => rfl⟩

theorem mbxRow_getPoisonList (start size : BitVec 64) :
    ∃ p, MbxRow (.getPoisonList h len start size) h.val 0x4300 len.toNat 16 false true (answering p) := ⟨_, fun _ => rfl⟩

end

/-- The Get commands without a payload of their own. -/
theorem mbxRow_get {h : Fin 8} {c : Instr} {op : Nat}
    (hc : (c, op) ∈ [(Instr.getEventInterruptPolicy h 0, 0x0102), (Instr.getFwInfo h 0, 0x0200), (Instr.getTimestamp h 0, 0x0300), (Instr.getSupportedLogs h 0, 0x0400),
        (Instr.identifyMemoryDevice h 0, 0x4000), (Instr.getPartitionInfo h 0, 0x4100), (Instr.getHealthInfo h 0, 0x4200), (Instr.getAlertConfig h 0, 0x4201),
        (Instr.getShutdownState h 0, 0x4203)]) :
    op < 2 ^ 16 ∧ ∃ always early p, MbxRow c h.val op 0 0 always early (answering p) := by
  simp only [List.mem_cons, Prod.mk.injEq, List.not_mem_nil, or_false] at hc
  rcases hc with ⟨rfl, rfl⟩ | ⟨rfl, rfl⟩ | ⟨rfl, rfl⟩ | ⟨rfl, rfl⟩ | ⟨rfl, rfl⟩ | ⟨rfl, rfl⟩ | ⟨rfl, rfl⟩ | ⟨rfl, rfl⟩ | ⟨rfl, rfl⟩
  · exact ⟨by decide, _, _, _, mbxRow_getEventInterruptPolicy h 0⟩
  · exact ⟨by decide, _, _, mbxRow_getFwInfo h 0⟩
  · exact ⟨by decide, _, _, _, mbxRow_getTimestamp h 0⟩
  · exact ⟨by decide, _, _, mbxRow_getSupportedLogs h 0⟩
  · exact ⟨by decide, _, _, mbxRow_identifyMemoryDevice h 0⟩
  · exact ⟨by decide, _, _, _, mbxRow_getPartitionInfo h 0⟩
  · exact ⟨by decide, _, _, mbxRow_getHealthInfo h 0⟩
  · exact ⟨by decide, _, _, mbxRow_getAlertConfig h 0⟩
  · exact ⟨by decide, _, _, _, mbxRow_getShutdownState h 0⟩

/-! ### The rows that are refused (R82, R83) -/

theorem mbxRow_transferFw (h : Fin 8) : MbxRow (.transferFw h) h.val 0x0201 0 0 false false unsupported := fun _ => rfl

/-- The commands of Table 03-5 that are unsupported. -/
theorem mbxRow_unsupported {h : Fin 8} {c : Instr} {op : Nat}
    (hc : (c, op) ∈ [(Instr.transferFw h, 0x0201), (Instr.activateFw h, 0x0202), (Instr.setTimestamp h, 0x0301), (Instr.sanitize h, 0x4400), (Instr.secureErase h, 0x4401)]) :
    op < 2 ^ 16 ∧ MbxRow c h.val op 0 0 false false unsupported := by
  simp only [List.mem_cons, Prod.mk.injEq, List.not_mem_nil, or_false] at hc
  rcases hc with ⟨rfl, rfl⟩ | ⟨rfl, rfl⟩ | ⟨rfl, rfl⟩ | ⟨rfl, rfl⟩ | ⟨rfl, rfl⟩ <;> exact ⟨by decide, fun _ => rfl⟩

/-- An opcode that Table 03-5 does not list. -/
theorem mbxRow_mailboxUnsupported (h : Fin 8) {op : BitVec 16} (hl : op.toNat ∉ celEntries.map Prod.fst)
    (hu : op.toNat ∉ [0x0201, 0x0202, 0x0301, 0x4400, 0x4401]) : MbxRow (.mailboxUnsupported h op) h.val op.toNat 0 0 false false unsupported := by
  intro s
  have hrow : exec (.mailboxUnsupported h op) s = s.quick (fun s => s.mbxUnlisted h.val op.toNat) := rfl
  have hneither : op.toNat ∉ celEntries.map Prod.fst ++ [0x0201, 0x0202, 0x0301, 0x4400, 0x4401] := fun hm => (List.mem_append.1 hm).elim hl hu
  rw [hrow]
  unfold State.mbxUnlisted
  simp only [if_neg hneither]
  rfl

theorem mbxRow_setShutdownState (h : Fin 8) (len : BitVec 21) (v : BitVec 8) :
    ∃ f, MbxRow (.setShutdownState h len v) h.val 0x4204 len.toNat 1 false false f := ⟨_, fun _ => rfl⟩

/-- The commands, among those that O37 names, that do not run in every state. -/
theorem mbxRow_sometimes {h : Fin 8} {len : BitVec 21} {v : BitVec 8} {c : Instr} {op : Nat}
    (hc : (c, op) ∈ [(Instr.getEventInterruptPolicy h len, 0x0102), (Instr.getFwInfo h len, 0x0200), (Instr.getTimestamp h len, 0x0300),
          (Instr.setShutdownState h len v, 0x4204), (Instr.getPartitionInfo h len, 0x4100), (Instr.getAlertConfig h len, 0x4201), (Instr.transferFw h, 0x0201)]) :
    op < 2 ^ 16 ∧ ∃ n limit early f, MbxRow c h.val op n limit false early f := by
  simp only [List.mem_cons, Prod.mk.injEq, List.not_mem_nil, or_false] at hc
  rcases hc with ⟨rfl, rfl⟩ | ⟨rfl, rfl⟩ | ⟨rfl, rfl⟩ | ⟨rfl, rfl⟩ | ⟨rfl, rfl⟩ | ⟨rfl, rfl⟩ | ⟨rfl, rfl⟩
  · exact ⟨by decide, _, _, _, _, mbxRow_getEventInterruptPolicy h len⟩
  · obtain ⟨p, hrow⟩ := mbxRow_getFwInfo h len
    exact ⟨by decide, _, _, _, _, hrow⟩
  · exact ⟨by decide, _, _, _, _, mbxRow_getTimestamp h len⟩
  · exact ⟨by decide, _, _, _, mbxRow_setShutdownState h len v⟩
  · exact ⟨by decide, _, _, _, _, mbxRow_getPartitionInfo h len⟩
  · obtain ⟨p, hrow⟩ := mbxRow_getAlertConfig h len
    exact ⟨by decide, _, _, _, _, hrow⟩
  · exact ⟨by decide, _, _, _, _, mbxRow_transferFw h⟩

/-! ### Event records (R78) -/

theorem exec_getEventRecords (h : Fin 8) (len : BitVec 21) (log : BitVec 8) (s : State) :
    exec (.getEventRecords h len log) s = s.quick (fun s => s.getEventRecords h.val len.toNat log.toNat) := rfl

/-- The records of one of the five logs are returned in every state, and stay. -/
theorem State.getEventRecords_answers {s : State} {h : Nat} {d : Head} (hup : s.bd.mailboxUp h = true) (hd : s.heads[h]? = some d) {log : Nat} (hl : log ≤ 4) :
    ∃ payload, s.getEventRecords h 1 log = s.mbxReply h 0x0100 rcSuccess payload := by
  have hhead : s.head? h = some d := hd
  unfold State.getEventRecords
  rw [State.mailbox_always hup (by decide)]
  simp only [hhead, if_neg (show ¬ 4 < log by omega)]
  exact ⟨_, rfl⟩

end Sys2Proof.Machine

open Sys2Proof Sys2Proof.Machine

/-- Settles O36: an open mailbox runs each Get command, whose meaning is its payload alone; the layouts of the payloads are the model's (log entries 66 and 153). -/
theorem mailboxGetsAnswer : Obligations.MailboxGetsAnswer := by
  intro s h ho
  refine ⟨fun c op hc => ?get, ?timestamp, ?partition, fun d hd => ?stored, fun start size => ?poison⟩
  case get =>
    obtain ⟨hop, _, _, p, hrow⟩ := mbxRow_get hc
    exact ⟨_, p s, hrow.answers_open ho (by decide), s.mbxReply_settles h.val ⟨hop, by decide⟩ _⟩
  case timestamp => exact ⟨_, (mbxRow_getTimestamp h 0).answers_open ho (by decide), s.mbxReply_answers h.val (by decide) (by decide) _⟩
  case partition => exact ⟨_, (mbxRow_getPartitionInfo h 0).answers_open ho (by decide), s.mbxReply_answers h.val (by decide) (by decide) _⟩
  case stored =>
    have hhead : s.head? h.val = some d := hd
    have hshutdown := (mbxRow_getShutdownState h 0).answers_open ho (by decide)
    have hpolicy := (mbxRow_getEventInterruptPolicy h 0).answers_open ho (by decide)
    simp only [hhead, Option.map_some, Option.getD_some] at hshutdown hpolicy
    exact ⟨⟨_, hshutdown, s.mbxReply_answers h.val (by decide) (by decide) _⟩, ⟨_, hpolicy, s.mbxReply_answers h.val (by decide) (by decide) _⟩⟩
  case poison =>
    obtain ⟨p, hrow⟩ := mbxRow_getPoisonList h 16 start size
    exact ⟨_, p s, hrow.answers_open ho (by decide), s.mbxReply_settles h.val (by decide) _⟩

/-- Settles O37: an unsupported command's meaning is its answer, and the check of the head's state comes before any meaning but that of the commands that run in every state. -/
theorem mailboxRefusals : Obligations.MailboxRefusals := by
  intro s h
  refine ⟨fun ho => ⟨fun c op hc => ?listed, fun op hl hu => ?unlisted⟩,
    fun hup hc => ⟨fun len v c op hm => ?contained, fun d log hd hl => ?records, ?identity, ?health⟩⟩
  case listed =>
    obtain ⟨hop, hrow⟩ := mbxRow_unsupported hc
    exact ⟨_, hrow.unsupported_open ho (by decide), s.mbxReply_settles h.val ⟨hop, by decide⟩ []⟩
  case unlisted => exact ⟨_, (mbxRow_mailboxUnsupported h hl hu).unsupported_open ho (by decide), s.mbxReply_settles h.val ⟨op.isLt, by decide⟩ []⟩
  case contained =>
    obtain ⟨hop, _, _, _, _, hrow⟩ := mbxRow_sometimes hm
    exact ⟨_, hrow.ends_contained hup hc, s.mbxReply_settles h.val ⟨hop, by decide⟩ []⟩
  case records =>
    obtain ⟨payload, hrecords⟩ := State.getEventRecords_answers hup hd hl
    exact ⟨_, payload, Ends.of_quick (exec_getEventRecords h 1 log s) hrecords, s.mbxReply_answers h.val (by decide) (by decide) _⟩
  case identity =>
    obtain ⟨p, hrow⟩ := mbxRow_identifyMemoryDevice h 0
    exact ⟨_, p s, hrow.answers_always hup (by decide), s.mbxReply_answers h.val (by decide) (by decide) _⟩
  case health =>
    obtain ⟨p, hrow⟩ := mbxRow_getHealthInfo h 0
    exact ⟨_, p s, hrow.answers_always hup (by decide), s.mbxReply_answers h.val (by decide) (by decide) _⟩

end

section
/-! Mailbox logs, policies, thresholds and regions (O38): R78 to R82. -/

namespace Sys2Proof.Machine

theorem exec_clearEventRecords (h : Fin 8) (len : BitVec 21) (log : BitVec 8) (all : Bool) (l : List (BitVec 16)) (s : State) :
    exec (.clearEventRecords h len log all l) s = s.quick (fun s => s.clearEventRecords h.val len.toNat log.toNat all (l.map BitVec.toNat)) := rfl
theorem exec_getLog (h : Fin 8) (len : BitVec 21) (cel : Bool) (offset size : Word) (s : State) :
    exec (.getLog h len cel offset size) s = s.quick (fun s => s.getLog h.val len.toNat cel offset.toNat size.toNat) := rfl
theorem exec_setEventInterruptPolicy (h : Fin 8) (len : BitVec 21) (modes : List (Fin 16)) (vectors : List (Fin 256)) (s : State) :
    exec (.setEventInterruptPolicy h len modes vectors) s = s.quick (fun s => s.setEventPolicy h.val len.toNat (modes.map Fin.val) (vectors.map Fin.val)) := rfl
theorem exec_setAlertConfig (h : Fin 8) (len : BitVec 21) (valid life : BitVec 8) (temp : BitVec 16) (s : State) :
    exec (.setAlertConfig h len valid life temp) s = s.quick (fun s => s.setAlertConfig h.val len.toNat valid.toNat life.toNat temp.toNat) := rfl
theorem exec_setShutdownState (h : Fin 8) (len : BitVec 21) (v : BitVec 8) (s : State) :
    exec (.setShutdownState h len v) s = s.quick (fun s => s.setShutdownState h.val len.toNat v.toNat) := rfl
theorem exec_getDynamicCapacityConfig (h : Fin 8) (len : BitVec 21) (count start : BitVec 8) (s : State) :
    exec (.getDynamicCapacityConfig h len count start) s = s.quick (fun s => s.getDcConfig h.val len.toNat count.toNat start.toNat) := rfl

/-! ### Storing sends nothing and leaves the heads alone (R429) -/

theorem State.pstKick_out (s : State) : s.pstKick.bd.out = s.bd.out := by
  unfold State.pstKick
  split
  · rfl
  · split <;> rfl

theorem State.out_ite {P : Prop} [Decidable P] {o : List Output} {t u : State} (h : t.bd.out = o) (k : u.bd.out = o) : (if P then t else u).bd.out = o := by
  split
  · exact h
  · exact k

theorem State.store_out (s : State) (id : Nat) (body : List Byte) : (s.store id body).bd.out = s.bd.out := State.out_ite rfl (State.pstKick_out _)

theorem State.storeConfig_out (s : State) : s.storeConfig.bd.out = s.bd.out := s.store_out _ _

theorem State.SameButStore.heads {s t : State} (h : s.SameButStore t) : t.heads = s.heads := (congrArg State.heads h :)

/-- A reply after work that has sent nothing. -/
theorem Answers.after {s t u : State} {h opcode code : Nat} {payload : List Byte} (k : Answers t u h opcode code payload) (ho : t.bd.out = s.bd.out) :
    Answers s u h opcode code payload := by
  obtain ⟨hout, hop, hcode⟩ := k
  exact ⟨ho ▸ hout, hop, hcode⟩

/-! ### Logs and policy (R78, R79, R82) -/

/-- The Informational log of a head, cleared. -/
def Head.infoCleared (d : Head) : Head := { d with info := { d.info with recs := [], ovr := 0 } }

/-- Clearing all the records of a log by their own handles leaves none. -/
theorem EvLog.filter_handles (l : EvLog) : l.recs.filter (fun r => decide (r.handle ∉ l.recs.map HostRec.handle)) = [] :=
  List.filter_eq_nil_iff.2 fun r hr => by simp [List.mem_map_of_mem (f := HostRec.handle) hr]

theorem State.clearEventRecords_clears {s : State} {h : Nat} {d : Head} (hup : s.bd.mailboxUp h = true) (hd : s.heads[h]? = some d) :
    ∃ t : State, s.clearEventRecords h 6 0 true [] = t.mbxReply h 0x0101 rcSuccess [] ∧ t.bd = s.bd ∧ t.heads[h]? = some d.infoCleared := by
  have hhead : s.head? h = some d := hd
  unfold State.clearEventRecords
  rw [State.mailbox_always hup (by decide)]
  simp only [hhead]
  have hnamed : (!((d.log 0).recs.map HostRec.handle).all (fun x => decide (x ∈ (d.log 0).recs.map HostRec.handle))) = false := by
    rw [List.all_eq_true.2 fun x hx => decide_eq_true hx]
    rfl
  simp only [Nat.reduceLT, OfNat.zero_ne_ofNat, if_false, if_true, hnamed, Bool.false_eq_true]
  refine ⟨_, rfl, rfl, (State.onHead_get hd _).trans (congrArg some ?_)⟩
  show ({ d with info := { d.info with recs := d.info.recs.filter (fun r => decide (r.handle ∉ d.info.recs.map HostRec.handle)), ovr := 0 } } : Head) = d.infoCleared
  rw [EvLog.filter_handles]
  rfl

theorem State.getLog_answers {s : State} {h : Nat} (ho : s.bd.MailboxOpen h) {offset size : Nat} (hl : offset + size ≤ celBytes.length) :
    s.getLog h 24 true offset size = s.mbxReply h 0x0401 rcSuccess ((celBytes.drop offset).take size) := by
  unfold State.getLog
  rw [State.mailbox_open ho _ (by decide)]
  simp only [if_neg (show ¬ ((!true) = true ∨ celBytes.length < offset + size) by simp; omega)]

/-! ### Thresholds and the shutdown state (R82, R244) -/

/-- The warning thresholds for life and temperature are set. -/
def Board.warned (b : Board) (life temp : Nat) : Board := (b.put pHLT F.HLT_WARN.LIFE_WARN life).put pHLT F.HLT_WARN.TEMP_WARN temp

theorem Board.warned_shows (b : Board) {life temp : Nat} (hl : life < 2 ^ 7) (ht : temp < 2 ^ 8) :
    (b.warned life temp).get pHLT F.HLT_WARN.LIFE_WARN = life ∧ (b.warned life temp).get pHLT F.HLT_WARN.TEMP_WARN = temp := by
  unfold Board.warned
  rw [Board.get_put_clear _ _ (by decide) (by decide), Board.get_put_self _ _ _ _ (by decide), Board.get_put_self _ _ _ _ (by decide)]
  exact ⟨Nat.mod_eq_of_lt hl, Nat.mod_eq_of_lt ht⟩

theorem State.setAlertConfig_stores {s : State} {h : Nat} (ho : s.bd.MailboxOpen h) {life temp : Nat} (hl : 0 < life ∧ life ≤ 100) (ht : temp ≤ 125) :
    s.setAlertConfig h 12 3 life temp = ((s.on (·.warned life temp)).storeConfig).mbxReply h 0x4202 rcSuccess [] := by
  have hvalid : ¬ ((nbit 3 0 = true ∧ (life = 0 ∨ 100 < life)) ∨ (nbit 3 1 = true ∧ 125 < temp)) := by omega
  unfold State.setAlertConfig
  rw [State.mailbox_open ho _ (by decide)]
  simp only [if_neg hvalid]
  rfl

theorem State.setShutdownState_stores {s : State} {h : Nat} (ho : s.bd.MailboxOpen h) {v : Nat} (hv : v ≤ 1) :
    s.setShutdownState h 1 v = ((s.onHead h (fun d => { d with shutdown := v })).storeConfig).mbxReply h 0x4204 rcSuccess [] := by
  unfold State.setShutdownState
  rw [State.mailbox_open ho _ (by decide)]
  simp only [if_neg (show ¬ 1 < v by omega)]

/-! ### Regions (R39, R82) -/

theorem State.getDcConfig_lists {s : State} {h : Nat} (ho : s.bd.MailboxOpen h) (count : Nat) {start : Nat} (hs : start < 8) :
    ∃ payload, s.getDcConfig h 2 count start = s.mbxReply h 0x4800 rcSuccess (leBytes 1 8 ++ leBytes 1 (min count (8 - start)) ++ payload) := by
  unfold State.getDcConfig
  rw [State.mailbox_open ho _ (by decide)]
  simp only [if_neg (show ¬ 8 ≤ start by omega), List.length_take, List.length_drop, List.length_range, List.append_assoc]
  exact ⟨_, rfl⟩

end Sys2Proof.Machine

open Sys2Proof Sys2Proof.Machine

/-- Settles O38: each command of an open mailbox comes to a reply after its own work, and what it stores goes to the parameter store beside the heads; codes and layouts are the model's
(log entries 66 and 153). -/
theorem mailboxSettings : Obligations.MailboxSettings := by
  intro s h d ho hd
  refine ⟨fun log hl => ?records, ?clear, fun offset size hl => ?log, fun modes vectors => ?policy, fun life temp h0 hl ht => ?alert, fun v hv => ?shutdown,
    fun count start hs => ?regions⟩
  case records =>
    obtain ⟨payload, hrecords⟩ := State.getEventRecords_answers ho.1 hd hl
    exact ⟨_, payload, Ends.of_quick (exec_getEventRecords h 1 log s) hrecords, s.mbxReply_settles h.val (by decide) payload⟩
  case clear =>
    obtain ⟨t, hclear, hbd, hhead⟩ := State.clearEventRecords_clears ho.1 hd
    exact ⟨_, _, Ends.of_quick (exec_clearEventRecords h 6 0 true [] s) hclear, (t.mbxReply_answers h.val (by decide) (by decide) []).after (by rw [hbd]), hhead, rfl,
      hbd ▸ t.mbxReply_only _ _ _ _⟩
  case log =>
    exact ⟨_, Ends.of_quick (exec_getLog h 24 true offset size s) (State.getLog_answers ho hl), rfl, s.mbxReply_answers h.val (by decide) (by decide) _⟩
  case policy =>
    exact ⟨_, _, Ends.of_quick (exec_setEventInterruptPolicy h 10 modes vectors s) (State.mailbox_open ho _ (by decide) _ _ _),
      (s.onHead h.val _).mbxReply_answers h.val (opcode := 0x0103) (code := rcSuccess) (by decide) (by decide) [], State.onHead_get hd _, rfl, (s.onHead h.val _).mbxReply_only _ _ _ _⟩
  case alert =>
    obtain ⟨hlife, htemp⟩ := s.bd.warned_shows (life := life.toNat) (temp := temp.toNat) (by omega) (by omega)
    have hstored := (s.on (·.warned life.toNat temp.toNat)).storeConfig_only
    have hreply := (s.on (·.warned life.toNat temp.toNat)).storeConfig.mbxReply_only h.val 0x4202 rcSuccess []
    have hkept : ∀ f : Fld, f.off = 0x040 → _ := fun f hf =>
      (hreply.get pHLT f ⟨by omega, by simp [mbxLast]; omega⟩).trans (hstored.get pHLT f ⟨by omega, by simp⟩)
    exact ⟨_, Ends.of_quick (exec_setAlertConfig h 12 3 life temp s) (State.setAlertConfig_stores ho ⟨h0, hl⟩ ht),
      (State.mbxReply_answers _ h.val (by decide) (by decide) []).after (State.storeConfig_out _), (hkept _ rfl).trans hlife, (hkept _ rfl).trans htemp,
      (State.storeConfig_same _).heads⟩
  case shutdown =>
    have hheads := (s.onHead h.val (fun d => { d with shutdown := v.toNat })).storeConfig_same.heads
    exact ⟨_, _, Ends.of_quick (exec_setShutdownState h 1 v s) (State.setShutdownState_stores ho hv),
      (State.mbxReply_answers _ h.val (by decide) (by decide) []).after (State.storeConfig_out _), (congrArg (·[h.val]?) hheads).trans (State.onHead_get hd _), rfl⟩
  case regions =>
    obtain ⟨payload, hlist⟩ := State.getDcConfig_lists ho count.toNat hs
    exact ⟨_, payload, Ends.of_quick (exec_getDynamicCapacityConfig h 2 count start s) hlist, s.mbxReply_settles h.val (by decide) _⟩

end

section
/-! What the work of a link leaves alone, and what it leaves of a head that loses its reads and reservations (O14, O15). -/

namespace Sys2Proof.Machine

/-! ### Registers beside those named and those that events write (R18) -/

/-- From `b` to `c` the registers stay, but for the words `ks` and those that events write, and no status bit clears. -/
structure Board.Beside (ks : List (Nat × Nat)) (b c : Board) : Prop where
  regs : ∀ p off, off < 4096 → eventReg p off = false → (p, off / 4) ∉ ks → c.rd p off = b.rd p off
  status : ∀ p i, (b.rd p 0x010).toNat.testBit i = true → (c.rd p 0x010).toNat.testBit i = true

section
variable {ks : List (Nat × Nat)} {b c d : Board}

theorem Board.Beside.refl (ks : List (Nat × Nat)) (b : Board) : b.Beside ks b := ⟨fun _ _ _ _ _ => rfl, fun _ _ h => h⟩

theorem Board.Beside.trans (h : Board.Beside ks b c) (k : Board.Beside ks c d) : Board.Beside ks b d :=
  ⟨fun p o ho he hn => (k.regs p o ho he hn).trans (h.regs p o ho he hn), fun p i hi => k.status p i (h.status p i hi)⟩

theorem Board.Beside.get (h : Board.Beside ks b c) (p : Nat) (f : Fld) (hk : f.off < 4096 ∧ eventReg p f.off = false ∧ (p, f.off / 4) ∉ ks) : c.get p f = b.get p f :=
  Board.get_congr (h.regs p f.off hk.1 hk.2.1 hk.2.2)

theorem Board.Beside.on (h : Board.Beside ks b c) (p : Nat) (f : Fld) (hk : f.off < 4096 ∧ eventReg p f.off = false ∧ (p, f.off / 4) ∉ ks) : c.on p f = b.on p f :=
  Board.on_congr (h.regs p f.off hk.1 hk.2.1 hk.2.2)

theorem Board.Only.beside (h : b.Only c ks) (hk : ∀ p, (p, 4) ∉ ks) : Board.Beside ks b c :=
  ⟨fun p o ho _ hn => h p o ho hn, fun p i hi => by rwa [h p 0x010 (by decide) (hk p)]⟩

theorem Board.EventFrame.beside (h : b.EventFrame c) (ks : List (Nat × Nat)) : Board.Beside ks b c := ⟨fun p o ho he _ => h.regs p o ho he, h.status⟩

theorem Board.Beside.raise (h : Board.Beside ks b c) (p : Nat) (e : Ev) : Board.Beside ks b (c.raise p e) :=
  h.trans ((c.raise_frame p e).beside ks)

end

/-! ### The fault log (R472) -/

/-- What a fault entry does: a property survives it that a change of the log, of a field of FLT and an event of FLT leave. -/
theorem Board.logFault_keeps {P : Board → Prop} (hlog : ∀ b l, P b → P { b with faultLog := l })
    (hput : ∀ b (f : Fld) v, f.off < 4096 ∧ (pFLT, f.off / 4) ∈ faultWords → P b → P (b.put pFLT f v)) (htally : ∀ b p k n, P b → P (b.tally p k n))
    (hraise : ∀ b e, P b → P (b.raise pFLT e)) {b : Board} (h : P b) (page event cls stall info : Nat) (fatal : Bool) :
    P (b.logFault page event cls stall info fatal) := by
  have hite : ∀ {Q : Prop} [Decidable Q] {c d : Board}, P c → P d → P (if Q then c else d) := fun hc hd => by
    split
    · exact hc
    · exact hd
  have hcount : ∀ {c : Board} (f : Fld) n, f.off < 4096 ∧ (pFLT, f.off / 4) ∈ faultWords → P c → P (c.count pFLT f n) := fun f n hf hc =>
    htally _ _ _ _ (hput _ f _ hf hc)
  have hclass : ∀ {c : Board}, P c → P (if 1 ≤ cls ∧ cls ≤ 10 then c.count pFLT F.FLT_CATALOGUE.COUNT 1
      else if cls = 12 ∨ cls = 13 then c.count pFLT F.FLT_OUTSIDE.COUNT 1 else c) := fun hc => hite (hcount _ 1 (by decide) hc) (hite (hcount _ 1 (by decide) hc) hc)
  have hbound : ∀ {c : Board}, P c → P (if 1 ≤ cls ∧ cls ≤ 8 then c.raiseTo pFLT F.FLT_BOUND.NS stall else c) := fun hc => hite (hput _ _ _ (by decide) hc) hc
  have htold : ∀ {c : Board} {Q : Prop} [Decidable Q] (e : Ev), P c → P (if Q then c else c.raise pFLT e) := fun e hc => hite hc (hraise _ e hc)
  have hmiss : ∀ {c : Board} {Q : Prop} [Decidable Q] (e : Ev), P c → P (if Q then (c.count pFLT F.FLT_BOUND_MISS.COUNT 1).raise pFLT e else c) := fun e hc =>
    hite (hraise _ e (hcount _ 1 (by decide) hc)) hc
  have hfull : ∀ {c : Board} {Q : Prop} [Decidable Q] (e : Ev), P c → P (if Q then c.raise pFLT e else c) := fun e hc => hite (hraise _ e hc) hc
  unfold Board.logFault
  exact hfull _ (hmiss _ (htold _ (hbound (hclass (hcount F.FLT_SEQ.COUNT 1 (by decide) (hput _ F.FLT_STAT.ENTRIES _ (by decide) (hlog b _ h)))))))

theorem Board.logFault_beside (b : Board) (page event cls stall info : Nat) (fatal : Bool) : b.Beside faultWords (b.logFault page event cls stall info fatal) := by
  have hstat : ∀ p, (p, 4) ∉ faultWords := fun p => by simp [faultWords]
  refine Board.logFault_keeps (P := b.Beside faultWords) (fun c l h => h.trans ⟨fun _ _ _ _ _ => rfl, fun _ _ hi => hi⟩)
    (fun c f v hf h => h.trans (((Board.Only.refl c faultWords).put v hf.1 hf.2).beside hstat))
    (fun c p k n h => h.trans ⟨fun _ _ _ _ _ => Board.rd_tally _ _ _ _ _ _, fun _ _ hi => by rwa [Board.rd_tally]⟩) (fun c e h => h.raise pFLT e) (.refl _ b) _ _ _ _ _ _

theorem head_not_faultWord (h w : Nat) : (pHPT h, w) ∉ faultWords := by
  have hpage : pHPT h ≠ pFLT := by simp only [pHPT, pFLT]; omega
  simp [faultWords, hpage]

/-- The registers of a head that no event writes. -/
theorem eventReg_head (h : Nat) {o : Nat} (ho : o / 4 ∉ [4, 8, 9, 10, 11, 28]) : eventReg (pHPT h) o = false := by
  have hpages : pHPT h ≠ pEVQ ∧ pHPT h ≠ pMGT := by simp only [pHPT, pEVQ, pMGT]; omega
  simp only [List.mem_cons, List.not_mem_nil, or_false, not_or] at ho
  simp [eventReg, ho, hpages]

/-! ### Unit states (R24) and causes (R476) -/

theorem Board.toState_resetting (b : Board) (page st : Nat) : (b.toState page st).resetting = b.resetting :=
  (congrArg Board.resetting (b.move_same page st _) :)

theorem Board.serves_congr {b c : Board} {page : Nat} (h : c.unit page = b.unit page) : c.serves page = b.serves page := by
  unfold Board.serves
  rw [h]

/-- A fault event and its entry of the log, of the same page. -/
def Board.told (b : Board) (page : Nat) (e : Ev) (cls stall info : Nat) : Board := (b.raise page e).logFault page e.bit cls stall info false

theorem Board.told_beside (b : Board) (page : Nat) (e : Ev) (cls stall info : Nat) : b.Beside faultWords (b.told page e cls stall info) :=
  ((Board.Beside.refl _ b).raise page e).trans (Board.logFault_beside _ _ _ _ _ _ _)

theorem Board.told_status (b : Board) (page : Nat) (e : Ev) (cls stall info : Nat) (h : e.bit < 32) :
    ((b.told page e cls stall info).rd page 0x010).getLsbD e.bit = true :=
  (Board.logFault_beside _ _ _ _ _ _ _).status page e.bit (b.raise_status page e h)

theorem Board.told_rd (b : Board) (h : Nat) (e : Ev) (cls stall info : Nat) {o : Nat} (ho : o < 4096 ∧ o / 4 ∉ [4, 8, 9, 10, 11, 28]) :
    (b.told (pHPT h) e cls stall info).rd (pHPT h) o = b.rd (pHPT h) o :=
  (b.told_beside _ e cls stall info).regs _ o ho.1 (eventReg_head h ho.2) (head_not_faultWord h _)

theorem Board.openCause_only (b : Board) (page : Nat) {f : Fld} (ho : f.off < 4096) : b.Only (b.openCause page f) [(page, f.off / 4), (page, 2), (pMGT, 23)] :=
  ((Board.Only.refl b _).put 1 ho (by simp)).trans ((Board.toState_only _ page _).mono (by simp))

/-- A cause that opens is open, and contains a unit that served (R24). -/
theorem Board.openCause_shows (b : Board) {page : Nat} {f : Fld} (ho : f.off < 4096 ∧ f.lo + f.width ≤ 32 ∧ 1 % 2 ^ f.width = 1) (h2 : f.off / 4 ≠ 2)
    (hp : page ≠ pMGT) :
    (b.openCause page f).on page f = true ∧ (b.serves page = true → (b.openCause page f).unit page = stCONTAINED) := by
  have hserves : (b.put page f 1).serves page = b.serves page := Board.serves_congr (Board.get_congr (Board.rd_wr_off ho.1 (by decide) (Ne.symm h2)))
  refine ⟨((Board.toState_only _ page _).on page f ⟨ho.1, by simp [h2, hp]⟩).trans (Board.on_put_one b page f ho.2), fun hs => ?_⟩
  unfold Board.openCause Board.contain
  rw [hserves, if_pos hs]
  exact Board.toState_unit _ _ (by decide)

/-- CAUSE_OPEN of a head follows the low three bits of HPT_CAUSE (R67, R476). -/
def headCauses : Fld := ⟨0x4C, 0, 3, 0⟩

theorem Board.openCauses_head (b : Board) (h : Fin 8) : b.openCauses (pHPT h.val) = b.get (pHPT h.val) headCauses := by
  have hblock : blockOf (pHPT h.val) = some (.hpt, h.val) := by revert h; decide
  have hreg : b.openCauses (pHPT h.val) = (b.rd (pHPT h.val) 0x04C).toNat &&& (2 ^ 3 - 1) := by
    unfold Board.openCauses
    rw [hblock]
    rfl
  rw [hreg, Nat.and_two_pow_sub_one_eq_mod]
  rfl

/-! ### A head loses its reads and its reservations (R85, R88) -/

theorem State.dropIdleMisses_heads (s : State) : s.dropIdleMisses.heads = s.heads := by
  unfold State.dropIdleMisses
  refine List.foldlRecOn (motive := fun t : State => t.heads = s.heads) _ _ rfl fun t ht m _ => ?_
  cases m.read <;> exact ht

theorem State.dropIdleMisses_only (s : State) : s.bd.Only s.dropIdleMisses.bd [(pMAP, 32)] := by
  unfold State.dropIdleMisses
  refine List.foldlRecOn (motive := fun t : State => s.bd.Only t.bd [(pMAP, 32)]) _ _ (.refl _ _) fun t ht m _ => ?_
  cases m.read with
  | none => exact ht
  | some rid => exact Board.Only.count ht 1 (by decide) (by simp)

theorem State.abandonReads_heads (s : State) (h : Nat) : (s.abandonReads h).heads = s.heads.modify h (fun d => { d with reads := [] }) :=
  State.dropIdleMisses_heads _

/-- The words HPT_RSV_STAT of a head. -/
def rsvWords (h : Nat) : List (Nat × Nat) := (List.range 4).map fun k => (pHPT h, F.HPT_RSV_STAT.HELD.off / 4 + 16 * k)

theorem State.loseRsv_only (s : State) (h : Nat) : s.bd.Only (s.loseRsv h).bd (rsvWords h) := by
  unfold State.loseRsv
  refine List.foldlRecOn (motive := fun b : Board => s.bd.Only b (rsvWords h)) _ _ (.refl _ _) fun b hb k hk => ?_
  have hword : ∀ f : Fld, f.off = 0x30C → f.step = 64 → (f.ix k).off < 4096 ∧ (pHPT h, (f.ix k).off / 4) ∈ rsvWords h := fun f ho hs => by
    have hk4 := List.mem_range.1 hk
    refine ⟨by simp only [Fld.ix, ho, hs]; omega, List.mem_map.2 ⟨k, hk, Prod.ext rfl ?_⟩⟩
    simp only [Fld.ix, ho, hs]
    omega
  split
  · exact (hb.put 0 (hword _ rfl rfl).1 (hword _ rfl rfl).2).put 4 (hword _ rfl rfl).1 (hword _ rfl rfl).2
  · exact hb

/-- The head abandons its reads, those that wait at their source with them, and loses its reservations. -/
def State.letGo (s : State) (h : Nat) : State := ((s.abandonReads h).dropWaits h).loseRsv h

/-- A head without reads and reservations. -/
def Head.bare (d : Head) : Head := { d with reads := [], rsv := d.rsv.map (fun v => { v with held := none }) }

theorem Head.bare_rsv (d : Head) : ∀ v ∈ d.bare.rsv, v.held = none := by
  intro v hv
  obtain ⟨w, -, rfl⟩ := List.mem_map.1 hv
  rfl

theorem State.letGo_head {s : State} {h : Nat} {d : Head} (hd : s.heads[h]? = some d) : (s.letGo h).heads[h]? = some d.bare := by
  have habandon : ((s.abandonReads h).dropWaits h).heads[h]? = some { d with reads := [] } := by
    show (s.abandonReads h).heads[h]? = _
    rw [State.abandonReads_heads]
    exact State.onHead_get hd _
  exact State.onHead_get habandon _

theorem State.letGo_only (s : State) (h : Nat) : s.bd.Only (s.letGo h).bd ((pMAP, 32) :: rsvWords h) := by
  have habandon : s.bd.Only (s.abandonReads h).bd [(pMAP, 32)] := State.dropIdleMisses_only _
  exact (habandon.mono (by simp)).trans ((State.loseRsv_only ((s.abandonReads h).dropWaits h) h).mono (by simp))

theorem State.letGo_rd (s : State) (h : Nat) {o : Nat} (ho : o < 0x080) : (s.letGo h).bd.rd (pHPT h) o = s.bd.rd (pHPT h) o := by
  refine s.letGo_only h (pHPT h) o (by omega) ?_
  simp only [rsvWords, List.mem_cons, List.mem_map, Prod.mk.injEq, not_or, not_exists, not_and]
  exact ⟨fun _ => by omega, fun k _ _ => by omega⟩

end Sys2Proof.Machine
end

section
/-! Links of a head (O14): training, failed training, lane faults, L0p narrowing and loss of the link (R66, R67, R71, R72, R84 to R86). -/

namespace Sys2Proof.Machine

theorem exec_linkUp (h : Fin 8) (mem : Bool) (speed : Fin 8) (width : Fin 32) (s : State) :
    exec (.linkUp h mem speed width) s = s.run (fun s => s.linkUp h.val mem speed.val width.val) := rfl
theorem exec_trainFail (h : Fin 8) (noFlit : Bool) (s : State) : exec (.trainFail h noFlit) s = s.quick (fun s => s.trainFail h.val noFlit) := rfl
theorem exec_laneFault (h : Fin 8) (lane : Fin 16) (l0p : Bool) (s : State) :
    exec (.laneFault h lane l0p) s = s.run (fun s => s.laneFault h.val lane.val l0p) := rfl
theorem exec_l0pNarrowDone (h : Fin 8) (stall : Word) (s : State) : exec (.l0pNarrowDone h stall) s = s.quick (fun s => s.l0pNarrowDone h.val stall.toNat) := rfl
theorem exec_linkDown (h : Fin 8) (s : State) : exec (.linkDown h) s = s.run (fun s => s.linkDown h.val) := rfl

/-! ### The link comes up (R67, R84) -/

/-- Clearing bits keeps a field that is 0. -/
theorem Board.get_put_zero (b : Board) (p : Nat) {f g : Fld} (ho : f.off = g.off) (hw : f.lo + f.width ≤ 32) (h : b.get p f = 0) : (b.put p g 0).get p f = 0 := by
  refine Nat.eq_of_testBit_eq fun i => ?_
  have hi := congrArg (Nat.testBit · i) h
  unfold Board.get Board.put at *
  rw [ho] at hi ⊢
  rw [Board.rd_wr_self, testBit_wordBits]
  simp only [testBit_wordBits, Nat.zero_testBit] at hi ⊢
  by_cases hlt : i < f.width
  · rw [testBit_wordSet _ _ _ _ _ (by omega)]
    split
    · simp
    · exact hi
  · simp [hlt]

/-- HPT_LINK_STAT of a head whose link is in L0 with CXL.mem. -/
def Board.linkedUp (b : Board) (h speed width : Nat) : Board :=
  let p := pHPT h
  let c := ((b.put p F.HPT_LINK_STAT.UP 1).put p F.HPT_LINK_STAT.FLIT 1).put p F.HPT_LINK_STAT.CXL_MEM 1
  ((c.put p F.HPT_LINK_STAT.SPEED speed).put p F.HPT_LINK_STAT.WIDTH width).put p F.HPT_LINK_STAT.L0P_WIDTH width

/-- NARROW and SLOW follow the link, LINK_DOWN closes, and LINK_UP is told (R67, R84). -/
def Board.linkTold (b : Board) (h : Nat) : Board :=
  let c := (b.followWidth h).put (pHPT h) F.HPT_CAUSE.LINK_DOWN 0
  c.raise (pHPT h) (ev E.HPT.LINK_UP (c.get (pHPT h) F.HPT_LINK_STAT.SPEED + c.get (pHPT h) F.HPT_LINK_STAT.WIDTH * 8) (c.rd (pHPT h) 0x044).toNat 0 0)

theorem Board.linkedUp_shows (b : Board) (h speed : Nat) {width : Nat} (hw : width < 2 ^ 5) :
    (b.linkedUp h speed width).on (pHPT h) F.HPT_LINK_STAT.UP = true ∧ (b.linkedUp h speed width).on (pHPT h) F.HPT_LINK_STAT.CXL_MEM = true
      ∧ (b.linkedUp h speed width).get (pHPT h) F.HPT_LINK_STAT.WIDTH = width := by
  have hclear : ∀ {f g : Fld} {c : Board} {v : Nat}, (f.off = 0x044 ∧ g.off = 0x044 ∧ f.lo + f.width ≤ 32) ∧
      (f.lo + f.width ≤ g.lo ∨ g.lo + g.width ≤ f.lo) → (c.put (pHPT h) g v).get (pHPT h) f = c.get (pHPT h) f := fun ⟨⟨hf, hg, hw⟩, ha⟩ =>
    Board.get_put_clear _ _ ⟨by omega, by omega, hw⟩ (.inr (.inr ⟨hf.trans hg.symm, ha⟩))
  unfold Board.linkedUp
  simp only [Board.on_iff]
  refine ⟨?_, ?_, ?_⟩
  · rw [hclear (by decide), hclear (by decide), hclear (by decide), hclear (by decide), hclear (by decide), Board.get_put_self _ _ _ _ (by decide)]
    rfl
  · rw [hclear (by decide), hclear (by decide), hclear (by decide), Board.get_put_self _ _ _ _ (by decide)]
    rfl
  · rw [hclear (by decide), Board.get_put_self _ _ _ _ (by decide)]
    exact Nat.mod_eq_of_lt hw

theorem Board.linkedUp_only (b : Board) (h speed width : Nat) : b.Only (b.linkedUp h speed width) [(pHPT h, 17)] :=
  have hput : ∀ {c : Board} (f : Fld) (v : Nat), f.off = 0x044 → b.Only c [(pHPT h, 17)] → b.Only (c.put (pHPT h) f v) [(pHPT h, 17)] := fun f v hf hc =>
    hc.put v (by omega) (by simp [hf])
  hput _ _ rfl (hput _ _ rfl (hput _ _ rfl (hput _ _ rfl (hput _ _ rfl (hput _ _ rfl (.refl b _))))))

theorem Board.linkTold_beside (b : Board) (h : Nat) : b.Beside [(pHPT h, 19)] (b.linkTold h) :=
  ((((Board.Only.refl b [(pHPT h, 19)]).put (p := pHPT h) (f := F.HPT_CAUSE.NARROW) _ (by decide) (by simp)).put (p := pHPT h) (f := F.HPT_CAUSE.SLOW) _ (by decide)
    (by simp)).put (p := pHPT h) (f := F.HPT_CAUSE.LINK_DOWN) 0 (by decide) (by simp)).beside (by simp) |>.raise _ _

/-- No cause of the head opens as its link comes up. -/
theorem Board.linkTold_causes (b : Board) (h : Nat) (hc : b.get (pHPT h) headCauses = 0) : (b.linkTold h).get (pHPT h) headCauses = 0 := by
  unfold Board.linkTold
  rw [Board.get_raise _ _ _ ⟨by decide, by simp [eventReg, headCauses]⟩]
  refine Board.get_put_zero _ _ rfl (by decide) ?_
  unfold Board.followWidth
  rw [Board.get_put_clear _ _ (by decide) (.inr (by decide)), Board.get_put_clear _ _ (by decide) (.inr (by decide)), hc]

/-- What LINK_UP does once the link has told that it is up: `was` with CXL.io alone before, `mem` with CXL.mem (R84, R88). -/
def State.linkTail (s : State) (h : Nat) (was mem : Bool) : State :=
  let resetting := (s.head? h).any (fun d => d.resetting)
  if s.bd.unit (pHPT h) = stCONTAINED then
    if s.bd.openCauses (pHPT h) = 0 ∧ !was ∧ !resetting then s.headResetStart h else s.on (fun b => b.followCauses (pHPT h))
  else if s.bd.unit (pHPT h) = stINIT ∧ mem ∧ !resetting then
    s.on (fun b => if b.openCauses (pHPT h) = 0 then b.headServe h else b.toState (pHPT h) stCONTAINED)
  else s

theorem State.linkTail_serves {s : State} {h : Nat} (was : Bool) (hr : (s.head? h).any (fun d => d.resetting) = false) (hi : s.bd.unit (pHPT h) = stINIT)
    (hc : s.bd.openCauses (pHPT h) = 0) : s.linkTail h was true = s.on (·.headServe h) := by
  unfold State.linkTail
  dsimp only
  rw [if_neg (by simp [hi]), if_pos (by simp [hi, hr])]
  simp only [State.on, if_pos hc]

/-- A head in INIT with no cause open serves once its link is up (Table 03-6). -/
theorem State.linkUp_serves {s : State} {h : Fin 8} {d : Head} (hd : s.heads[h.val]? = some d) (hused : s.headUsed h.val = true)
    (hdown : s.bd.on (pHPT h.val) F.HPT_LINK_STAT.UP = false) (hr : d.resetting = false) (hi : s.bd.unit (pHPT h.val) = stINIT) (hc : s.bd.rd (pHPT h.val) 0x04C = 0)
    {speed width : Nat} (hw : width ≤ s.bd.maxWidth h.val) (hs : speed ≤ s.bd.get (pHPT h.val) F.HPT_PORT_CFG.MAX_SPEED + 2) :
    s.linkUp h.val true speed width = s.on (fun b => ((b.linkedUp h.val speed width).linkTold h.val).headServe h.val) := by
  have hlinked := s.bd.linkedUp_only h.val speed width
  have htold := (s.bd.linkedUp h.val speed width).linkTold_beside h.val
  have hunit : ((s.bd.linkedUp h.val speed width).linkTold h.val).unit (pHPT h.val) = stINIT :=
    ((htold.get _ F.UNIT_STATE.STATE ⟨by decide, by simp [eventReg], by simp⟩).trans (hlinked.get _ F.UNIT_STATE.STATE ⟨by decide, by simp⟩)).trans hi
  have hcauses : ((s.bd.linkedUp h.val speed width).linkTold h.val).openCauses (pHPT h.val) = 0 := by
    rw [Board.openCauses_head]
    refine Board.linkTold_causes _ _ ((hlinked.get _ headCauses ⟨by decide, by simp [headCauses]⟩).trans ?_)
    unfold Board.get
    rw [show headCauses.off = 0x04C from rfl, hc]
    rfl
  have hhead : ((s.on (fun b => (b.linkedUp h.val speed width).linkTold h.val)).head? h.val).any (fun d => d.resetting) = false := by
    show (s.heads[h.val]?).any _ = false
    rw [hd, Option.any_some, hr]
  refine Eq.trans ?_ (State.linkTail_serves (s := s.on (fun b => (b.linkedUp h.val speed width).linkTold h.val)) false hhead hunit hcauses)
  unfold State.linkUp
  rw [if_neg (by simp [hused]; omega), if_neg (by simp [hdown]), hdown]
  rfl

/-- HPT_LINK_STAT stays as a head that has told its link goes on to serve. -/
theorem Board.linkServed_shows (b : Board) (h : Nat) :
    ((b.linkTold h).headServe h).rd (pHPT h) 0x044 = b.rd (pHPT h) 0x044 ∧ ((b.linkTold h).headServe h).serves (pHPT h) = true
      ∧ (((b.linkTold h).headServe h).rd (pHPT h) 0x010).getLsbD E.HPT.LINK_UP = true := by
  have hserve := (b.linkTold h).toState_only (pHPT h) (if (b.linkTold h).headReduced h then stDEGRADED else stSERVICE)
  refine ⟨(hserve _ _ (by decide) (by simp)).trans ((b.linkTold_beside h).regs _ _ (by decide) (eventReg_head h (by decide)) (by simp)), ?_, ?_⟩
  · have hunit : ((b.linkTold h).headServe h).unit (pHPT h) = _ := Board.toState_unit _ _ (by split <;> decide)
    unfold Board.serves
    rw [hunit]
    split <;> rfl
  · have htold : ((b.linkTold h).rd (pHPT h) 0x010).getLsbD E.HPT.LINK_UP = true := Board.raise_status _ _ _ (show E.HPT.LINK_UP < 32 by decide)
    exact (congrArg (BitVec.getLsbD · E.HPT.LINK_UP) (hserve _ _ (by decide) (by simp))).trans htold

/-! ### Training fails (R66) -/

theorem State.trainFail_tells {s : State} {h : Nat} {d : Head} (hd : s.heads[h]? = some d) (hused : s.headUsed h = true)
    (hdown : s.bd.on (pHPT h) F.HPT_LINK_STAT.UP = false) (noFlit : Bool) :
    s.trainFail h noFlit = (s.onHead h (fun x => { x with attempts := d.attempts + 1 })).on (fun b =>
      b.raise (pHPT h) (ev E.HPT.TRAIN_FAIL (bit noFlit) (d.attempts + 1) 0 0)) := by
  have hhead : s.head? h = some d := hd
  unfold State.trainFail
  rw [if_neg (by simp [hused, hdown]), hhead]
  rfl

/-! ### A lane fails (R86) -/

theorem nbit_nsetbit_true (v n : Nat) : nbit (nsetbit v n true) n = true := by
  unfold nsetbit
  split
  · assumption
  · next h =>
    rw [nbit_eq_testBit] at h ⊢
    rw [if_pos rfl, Nat.add_comm, Nat.testBit_two_pow_add_eq]
    simpa using h

/-- A failed lane shows in HPT_LANE_ERR and is told. -/
def Board.laneLost (b : Board) (p lane : Nat) : Board :=
  let c := b.put p F.HPT_LANE_ERR.LANE_FAULT (nsetbit (b.get p F.HPT_LANE_ERR.LANE_FAULT) lane true)
  c.raise p (ev E.HPT.LANE_FAULT lane (c.get p F.HPT_LANE_ERR.LANE_FAULT) 0 0)

theorem Board.laneLost_shows (b : Board) (h : Nat) {lane : Nat} (hl : lane < 16) :
    nbit ((b.laneLost (pHPT h) lane).get (pHPT h) F.HPT_LANE_ERR.LANE_FAULT) lane = true := by
  unfold Board.laneLost
  rw [Board.get_raise _ _ _ ⟨by decide, by simp [eventReg]⟩, Board.get_put_self _ _ _ _ (by decide), nbit_eq_testBit, Nat.testBit_mod_two_pow, ← nbit_eq_testBit,
    nbit_nsetbit_true, decide_eq_true hl]
  rfl

theorem State.laneFault_narrows {s : State} {h lane : Nat} (hup : s.bd.on (pHPT h) F.HPT_LINK_STAT.UP = true) (hen : s.bd.on (pHPT h) F.HPT_PORT_CFG.L0P_EN = true)
    (hl : lane < s.bd.maxWidth h) (hw : 2 ≤ s.bd.get (pHPT h) F.HPT_LINK_STAT.L0P_WIDTH) :
    s.laneFault h lane true = (s.on (·.laneLost (pHPT h) lane)).onHead h (fun d => { d with lanes := lane + 1 }) := by
  have hkept : (s.on (·.laneLost (pHPT h) lane)).bd.on (pHPT h) F.HPT_PORT_CFG.L0P_EN = true := by
    refine Eq.trans ?_ hen
    exact (Board.on_raise _ _ _ ⟨by decide, by simp [eventReg]⟩).trans (Board.on_put_clear _ _ (by decide) (.inr (by decide)))
  unfold State.laneFault
  dsimp only
  rw [if_neg (by simp [hup]; omega), if_pos]
  · rfl
  · exact ⟨rfl, hkept, hw⟩

/-! ### The width change completes (R84, R86) -/

/-- The link runs on half its lanes: NARROW opens, and the fault log has the stall. -/
def Board.narrowed (b : Board) (p lane ns : Nat) : Board :=
  let c := (b.put p F.HPT_LINK_STAT.L0P_WIDTH (b.get p F.HPT_LINK_STAT.L0P_WIDTH / 2)).put p F.HPT_CAUSE.NARROW 1
  let mine := decide (p ∈ c.held) && decide ((c.rd p 0x020).toNat % 32 = E.HPT.LANE_FAULT)
  (if mine then c.wr p 0x028 (BitVec.ofNat 32 ns) else c).logFault p E.HPT.LANE_FAULT 5 ns lane false

theorem Board.narrowed_beside (b : Board) (p lane ns : Nat) :
    Board.Beside faultWords ((b.put p F.HPT_LINK_STAT.L0P_WIDTH (b.get p F.HPT_LINK_STAT.L0P_WIDTH / 2)).put p F.HPT_CAUSE.NARROW 1) (b.narrowed p lane ns) := by
  unfold Board.narrowed
  dsimp only
  generalize (b.put p F.HPT_LINK_STAT.L0P_WIDTH (b.get p F.HPT_LINK_STAT.L0P_WIDTH / 2)).put p F.HPT_CAUSE.NARROW 1 = c
  refine Board.Beside.trans ?_ (Board.logFault_beside _ _ _ _ _ _ _)
  split
  · exact ((Board.EventFrame.refl c).wr (o := 0x028) (by decide) (by simp [eventReg]) (by simp)).beside _
  · exact .refl _ c

theorem Board.narrowed_shows (b : Board) (h lane ns : Nat) :
    (b.narrowed (pHPT h) lane ns).get (pHPT h) F.HPT_LINK_STAT.L0P_WIDTH = b.get (pHPT h) F.HPT_LINK_STAT.L0P_WIDTH / 2
      ∧ (b.narrowed (pHPT h) lane ns).on (pHPT h) F.HPT_CAUSE.NARROW = true ∧ (b.narrowed (pHPT h) lane ns).unit (pHPT h) = b.unit (pHPT h) := by
  have hbeside := b.narrowed_beside (pHPT h) lane ns
  have hlt := b.get_lt (pHPT h) F.HPT_LINK_STAT.L0P_WIDTH
  refine ⟨(hbeside.get _ _ ⟨by decide, by simp [eventReg], head_not_faultWord h _⟩).trans ?_,
    (hbeside.on _ _ ⟨by decide, by simp [eventReg], head_not_faultWord h _⟩).trans (Board.on_put_one _ _ _ (by decide)),
    (hbeside.get _ F.UNIT_STATE.STATE ⟨by decide, by simp [eventReg], by simp [faultWords]⟩).trans ?_⟩
  · rw [Board.get_put_clear _ _ (by decide) (.inr (by decide)), Board.get_put_self _ _ _ _ (by decide)]
    exact Nat.mod_eq_of_lt (by omega)
  · rw [Board.get_put_clear _ _ (by decide) (.inr (by decide)), Board.get_put_clear _ _ (by decide) (.inr (by decide))]
    rfl

theorem State.l0pNarrowDone_narrows {s : State} {h : Nat} {d : Head} (hd : s.heads[h]? = some d) (hup : s.bd.on (pHPT h) F.HPT_LINK_STAT.UP = true) (hl : d.lanes ≠ 0)
    (ns : Nat) : s.l0pNarrowDone h ns
      = (s.onHead h (fun d => { d with lanes := 0 })).on (fun b => (b.narrowed (pHPT h) (d.lanes - 1) ns).serviceLevel (pHPT h) true) := by
  have hhead : s.head? h = some d := hd
  unfold State.l0pNarrowDone
  simp only [hhead]
  rw [if_neg (by simp [hup, hl])]
  rfl

/-- A unit that serves with less than its full redundancy is DEGRADED (R24). -/
theorem Board.serviceLevel_degraded (b : Board) (page : Nat) (h : b.serves page = true) : (b.serviceLevel page true).unit page = stDEGRADED := by
  unfold Board.serviceLevel
  rw [if_pos h]
  exact Board.toState_unit _ _ (by decide)

/-! ### The link goes down (R85) -/

/-- LINK_DOWN is open and told, and HPT_LINK_STAT is cleared. -/
def Board.linkLost (b : Board) (p writes reads : Nat) : Board :=
  ((b.wr p 0x044 0).openCause p F.HPT_CAUSE.LINK_DOWN).told p (ev E.HPT.LINK_DOWN 0 writes reads 0) 6 0 writes

/-- The head after the loss of its link. -/
def State.headLinkLost (s : State) (h : Nat) (d : Head) : State :=
  ((s.on (·.linkLost (pHPT h) d.occupied d.reads.length)).letGo h).onHead h (fun d => { d with lanes := 0 })

theorem State.linkDown_lost {s : State} {h : Nat} {d : Head} (hd : s.heads[h]? = some d) (hup : s.bd.on (pHPT h) F.HPT_LINK_STAT.UP = true) :
    s.linkDown h = s.headLinkLost h d := by
  have hhead : s.head? h = some d := hd
  unfold State.linkDown
  simp only [hhead]
  rw [if_neg (by simp [hup])]
  rfl

theorem State.headLinkLost_head {s : State} {h : Nat} {d : Head} (hd : s.heads[h]? = some d) :
    (s.headLinkLost h d).heads[h]? = some { d.bare with lanes := 0 } :=
  have hbare : ((s.on (·.linkLost (pHPT h) d.occupied d.reads.length)).letGo h).heads[h]? = some d.bare := State.letGo_head hd
  State.onHead_get hbare _

/-- What the part of the board that a lost link concerns shows after it. -/
theorem State.headLinkLost_shows (s : State) (h : Nat) (d : Head) :
    (s.headLinkLost h d).bd.rd (pHPT h) 0x044 = 0 ∧ (s.headLinkLost h d).bd.on (pHPT h) F.HPT_CAUSE.LINK_DOWN = true
      ∧ (s.bd.serves (pHPT h) = true → (s.headLinkLost h d).bd.unit (pHPT h) = stCONTAINED) := by
  have hpage : pHPT h ≠ pMGT := by simp only [pHPT, pMGT]; omega
  obtain ⟨hon, hunit⟩ := (s.bd.wr (pHPT h) 0x044 0).openCause_shows (page := pHPT h) (f := F.HPT_CAUSE.LINK_DOWN) (by decide) (by decide) hpage
  have hopen := (s.bd.wr (pHPT h) 0x044 0).openCause_only (pHPT h) (f := F.HPT_CAUSE.LINK_DOWN) (by decide)
  have hkept : ∀ {o : Nat}, o < 0x080 ∧ o / 4 ∉ [4, 8, 9, 10, 11, 28] →
      (s.headLinkLost h d).bd.rd (pHPT h) o = ((s.bd.wr (pHPT h) 0x044 0).openCause (pHPT h) F.HPT_CAUSE.LINK_DOWN).rd (pHPT h) o := fun ho =>
    (State.letGo_rd _ h ho.1).trans (Board.told_rd _ h _ _ _ _ ⟨by omega, ho.2⟩)
  refine ⟨?_, (Board.on_congr (hkept (by decide))).trans hon, fun hs => (Board.get_congr (f := F.UNIT_STATE.STATE) (hkept (by decide))).trans (hunit ?_)⟩
  · rw [hkept (by decide), hopen _ _ (by decide) (by simp), Board.rd_wr_self]
  · rw [← hs]
    exact Board.serves_congr (Board.get_congr (Board.rd_wr_off (by decide) (by decide) (by decide)))

end Sys2Proof.Machine

open Sys2Proof Sys2Proof.Machine

/-- Settles O14 (R66, R67, R84 to R86): each row comes to one change of the board and of the head; what its events and its fault entry write lies beside the registers it shows. -/
theorem headLinksComeAndGo : Obligations.HeadLinksComeAndGo := by
  intro s h d hd hused
  refine ⟨fun speed width hdown hr hi hc hw hs => ?up, fun noFlit hdown => ?fails, fun lane hup hen hl hw => ?lane, fun stall hup hl => ?narrow, fun hup => ?down⟩
  case up =>
    obtain ⟨hon, hmem, hwidth⟩ := s.bd.linkedUp_shows h.val speed.val width.isLt
    obtain ⟨hkept, hserves, hevent⟩ := (s.bd.linkedUp h.val speed.val width.val).linkServed_shows h.val
    exact ⟨_, Runs.of_run (exec_linkUp h true speed width s) (State.linkUp_serves hd hused hdown hr hi hc hw hs), rfl, (Board.on_congr hkept).trans hon,
      (Board.on_congr hkept).trans hmem, (Board.get_congr hkept).trans hwidth, hserves, hevent⟩
  case fails =>
    exact ⟨_, _, Ends.of_quick (exec_trainFail h noFlit s) (State.trainFail_tells hd hused hdown noFlit), State.onHead_get hd _, rfl, Board.raise_frame _ _ _,
      Board.raise_status _ _ _ (show E.HPT.TRAIN_FAIL < 32 by decide)⟩
  case lane =>
    exact ⟨_, _, Runs.of_run (exec_laneFault h lane true s) (State.laneFault_narrows hup hen hl hw), State.onHead_get hd _, rfl, s.bd.laneLost_shows h.val lane.isLt,
      Board.raise_status _ _ _ (show E.HPT.LANE_FAULT < 32 by decide)⟩
  case narrow =>
    obtain ⟨hwidth, hcause, hunit⟩ := s.bd.narrowed_shows h.val (d.lanes - 1) stall.toNat
    have hlevel := (s.bd.narrowed (pHPT h.val) (d.lanes - 1) stall.toNat).serviceLevel_only (pHPT h.val) true
    exact ⟨_, _, Ends.of_quick (exec_l0pNarrowDone h stall s) (State.l0pNarrowDone_narrows hd hup hl stall.toNat), State.onHead_get hd _, rfl,
      (hlevel.get _ _ ⟨by decide, by simp⟩).trans hwidth, (hlevel.on _ _ ⟨by decide, by simp⟩).trans hcause,
      fun hs => Board.serviceLevel_degraded _ _ ((Board.serves_congr hunit).trans hs)⟩
  case down =>
    obtain ⟨hreg, hcause, hunit⟩ := s.headLinkLost_shows h.val d
    exact ⟨_, { d.bare with lanes := 0 }, Runs.of_run (exec_linkDown h s) (State.linkDown_lost hd hup), State.headLinkLost_head hd, rfl, rfl, d.bare_rsv,
      hreg, hcause, hunit⟩

end

section
/-! IDE failures and resets of a head (O15): R44, R63, R71, R85 to R88. -/

namespace Sys2Proof.Machine

theorem exec_ideFail (h : Fin 8) (mem io : Bool) (stream : Word) (s : State) : exec (.ideFail h mem io stream) s = s.run (fun s => s.ideFail h.val mem io stream.toNat) := rfl
theorem exec_ideRekey (h : Fin 8) (mem io : Bool) (s : State) : exec (.ideRekey h mem io) s = s.quick (fun s => s.ideRekey h.val mem io) := rfl
theorem exec_flr (h : Fin 8) (s : State) : exec (.flr h) s = s.run (fun s => s.functionReset h.val) := rfl
theorem exec_headReset (h : Fin 8) (s : State) : exec (.headReset h) s = s.run (fun s => s.headReset h.val) := rfl
theorem exec_headResetDone (h : Fin 8) (s : State) : exec (.headResetDone h) s = s.run (fun s => s.headResetDone h.val) := rfl

/-! ### IDE streams (R87) -/

/-- The CXL.mem stream, and the CXL.io link stream with it where `io` is set, takes a value. -/
def Board.streams (b : Board) (p : Nat) (io : Bool) (v : Nat) : Board :=
  let c := (b.put p F.HPT_IDE_STAT.MEM_STREAM v).put p F.HPT_LINK_STAT.IDE_ACTIVE v
  if io then c.put p F.HPT_IDE_STAT.IO_LINK v else c

theorem Board.streams_only (b : Board) (p : Nat) (io : Bool) (v : Nat) : b.Only (b.streams p io v) [(p, 17), (p, 29)] := by
  have hc := ((Board.Only.refl b [(p, 17), (p, 29)]).put (p := p) (f := F.HPT_IDE_STAT.MEM_STREAM) v (by decide) (by simp)).put (p := p)
    (f := F.HPT_LINK_STAT.IDE_ACTIVE) v (by decide) (by simp)
  cases io
  · exact hc
  · exact hc.put v (by decide) (by simp)

theorem Board.streams_mem (b : Board) (p : Nat) (io : Bool) {v : Nat} (hv : v < 2) : (b.streams p io v).get p F.HPT_IDE_STAT.MEM_STREAM = v := by
  have hc : ((b.put p F.HPT_IDE_STAT.MEM_STREAM v).put p F.HPT_LINK_STAT.IDE_ACTIVE v).get p F.HPT_IDE_STAT.MEM_STREAM = v := by
    rw [Board.get_put_clear _ _ (by decide) (.inr (by decide)), Board.get_put_self _ _ _ _ (by decide)]
    exact Nat.mod_eq_of_lt hv
  cases io
  · exact hc
  · exact (Board.get_put_clear _ _ (by decide) (.inr (by decide))).trans hc

/-- The board after an IDE failure of the CXL.mem stream. -/
def Board.ideFailed (b : Board) (p : Nat) (io : Bool) (stream : Nat) : Board :=
  ((b.streams p io 0).openCause p F.HPT_CAUSE.IDE_FAIL).told p (ev E.HPT.IDE_FAIL (bit true + 2 * bit io) stream 0 0) 6 0 stream

theorem State.ideFail_fails {s : State} {h : Nat} (hused : s.headUsed h = true) (hup : s.bd.on (pHPT h) F.HPT_LINK_STAT.UP = true) (io : Bool) (stream : Nat) :
    s.ideFail h true io stream = s.on (·.ideFailed (pHPT h) io stream) := by
  unfold State.ideFail
  dsimp only
  rw [if_neg (by simp [hused, hup])]
  rfl

theorem Board.ideFailed_shows (b : Board) (h : Nat) (io : Bool) (stream : Nat) :
    (b.ideFailed (pHPT h) io stream).get (pHPT h) F.HPT_IDE_STAT.MEM_STREAM = 0 ∧ (b.ideFailed (pHPT h) io stream).on (pHPT h) F.HPT_CAUSE.IDE_FAIL = true
      ∧ ((b.ideFailed (pHPT h) io stream).rd (pHPT h) 0x010).getLsbD E.HPT.IDE_FAIL = true
      ∧ (b.serves (pHPT h) = true → (b.ideFailed (pHPT h) io stream).unit (pHPT h) = stCONTAINED) := by
  have hpage : pHPT h ≠ pMGT := by simp only [pHPT, pMGT]; omega
  have hopen := (b.streams (pHPT h) io 0).openCause_only (pHPT h) (f := F.HPT_CAUSE.IDE_FAIL) (by decide)
  obtain ⟨hon, hunit⟩ := (b.streams (pHPT h) io 0).openCause_shows (page := pHPT h) (f := F.HPT_CAUSE.IDE_FAIL) (by decide) (by decide) hpage
  have hkept : ∀ {o : Nat}, o < 4096 ∧ o / 4 ∉ [4, 8, 9, 10, 11, 28] →
      (b.ideFailed (pHPT h) io stream).rd (pHPT h) o = ((b.streams (pHPT h) io 0).openCause (pHPT h) F.HPT_CAUSE.IDE_FAIL).rd (pHPT h) o :=
    Board.told_rd _ h _ _ _ _
  refine ⟨?_, (Board.on_congr (hkept (by decide))).trans hon, Board.told_status _ _ _ _ _ _ (show E.HPT.IDE_FAIL < 32 by decide),
    fun hs => (Board.get_congr (f := F.UNIT_STATE.STATE) (hkept (by decide))).trans (hunit ?_)⟩
  · exact ((Board.get_congr (hkept (by decide))).trans (hopen.get _ _ ⟨by decide, by simp⟩)).trans (b.streams_mem (pHPT h) io (by decide))
  · rw [← hs]
    exact Board.serves_congr ((b.streams_only (pHPT h) io 0).get _ F.UNIT_STATE.STATE ⟨by decide, by simp⟩)

theorem State.ideRekey_rekeys {s : State} {h : Nat} (hused : s.headUsed h = true) (hup : s.bd.on (pHPT h) F.HPT_LINK_STAT.UP = true) (io : Bool) :
    s.ideRekey h true io = s.on (fun b => (b.streams (pHPT h) io 1).closeCause (pHPT h) F.HPT_CAUSE.IDE_FAIL) := by
  unfold State.ideRekey
  dsimp only
  rw [if_neg (by simp [hused, hup])]
  rfl

/-- A cause that closes leaves the unit where it is (R24). -/
theorem Board.closeCause_shows (b : Board) {page : Nat} {f : Fld} (ho : f.off < 4096 ∧ f.lo + f.width ≤ 32) (h2 : f.off / 4 ≠ 2) (hp : page ≠ pMGT) :
    (b.closeCause page f).on page f = false ∧ (b.closeCause page f).unit page = b.unit page := by
  have hunit : (b.put page f 0).unit page = b.unit page := Board.get_congr (Board.rd_wr_off ho.1 (by decide) (Ne.symm h2))
  exact ⟨((Board.toState_only _ page _).on page f ⟨ho.1, by simp [h2, hp]⟩).trans (Board.on_put_zero b page f ho.2),
    ((b.put page f 0).followCauses_frame page).unit page |>.trans hunit⟩

theorem Board.closeCause_only (b : Board) (page : Nat) {f : Fld} (ho : f.off < 4096) : b.Only (b.closeCause page f) [(page, f.off / 4), (page, 2), (pMGT, 23)] :=
  ((Board.Only.refl b _).put 0 ho (by simp)).trans ((Board.toState_only _ page _).mono (by simp))

/-! ### Windows of a head that is reset (R44, R88) -/

/-- A window gives up its decoder and keeps KEY and KEY_VALID. -/
def Board.windowFreed (b : Board) (hw : Nat) : Board :=
  let c := ((b.wr pXTN (F.WIN_CTL.COMMITTED.ix hw).off 0).put pXTN (F.WIN_CTL.KEY.ix hw) (b.get pXTN (F.WIN_CTL.KEY.ix hw))).put pXTN (F.WIN_CTL.KEY_VALID.ix hw)
    (b.get pXTN (F.WIN_CTL.KEY_VALID.ix hw))
  ((c.wr pXTN (F.WIN_BASE_LO.BASE_LO.ix hw).off 0).wr pXTN (F.WIN_BASE_HI.BASE_HI.ix hw).off 0).wr pXTN (F.WIN_SIZE.SIZE.ix hw).off 0

theorem Board.uncommit_eq (b : Board) (h : Nat) : b.uncommit h = (List.range 8).foldl (fun b w => b.windowFreed (8 * h + w)) b := rfl

theorem Board.committed_windowFreed (b : Board) {hw x : Nat} (hl : hw < 64) (hx : x < 64) :
    (b.windowFreed hw).committed x = (decide (x ≠ hw) && b.committed x) := by
  have hword : ∀ {c : Board} {o : Nat} {w : Word}, o < 4096 → o / 4 ≠ 64 + 4 * x → (c.wr pXTN o w).get pXTN (F.WIN_CTL.COMMITTED.ix x) = c.get pXTN (F.WIN_CTL.COMMITTED.ix x) :=
    fun ho hn => Board.get_congr (Board.rd_wr_off ho (by simp only [Fld.ix]; omega) (by simp only [Fld.ix]; omega))
  have hbits : ∀ {c : Board} {g : Fld} {v : Nat}, g.off = 0x100 ∧ g.step = 16 ∧ 1 ≤ g.lo →
      (c.put pXTN (g.ix hw) v).get pXTN (F.WIN_CTL.COMMITTED.ix x) = c.get pXTN (F.WIN_CTL.COMMITTED.ix x) := fun ⟨ho, hs, hlo⟩ =>
    Board.get_put_clear _ _ (by simp only [Fld.ix, ho, hs]; omega) (.inr (by simp only [Fld.ix, ho, hs]; omega))
  unfold Board.committed Board.windowFreed Board.on
  dsimp only
  rw [hword (by simp only [Fld.ix]; omega) (by simp only [Fld.ix]; omega), hword (by simp only [Fld.ix]; omega) (by simp only [Fld.ix]; omega),
    hword (by simp only [Fld.ix]; omega) (by simp only [Fld.ix]; omega), hbits (by decide), hbits (by decide)]
  by_cases hxw : x = hw
  · subst hxw
    have hzero : (b.wr pXTN (F.WIN_CTL.COMMITTED.ix x).off 0).get pXTN (F.WIN_CTL.COMMITTED.ix x) = 0 := by
      unfold Board.get
      rw [Board.rd_wr_self]
      rfl
    rw [hzero]
    simp
  · rw [hword (by simp only [Fld.ix]; omega) (by simp only [Fld.ix]; omega)]
    simp [hxw]

theorem Board.committed_foldl_windowFreed {h x : Nat} (hh : h < 8) (hx : x < 64) (l : List Nat) (hl : ∀ w ∈ l, w < 8) :
    ∀ b : Board, (∃ w ∈ l, x = 8 * h + w) ∨ b.committed x = false → (l.foldl (fun b w => b.windowFreed (8 * h + w)) b).committed x = false := by
  induction l with
  | nil =>
    rintro b (⟨w, hw, -⟩ | hb)
    · cases hw
    · exact hb
  | cons v l ih =>
    intro b hb
    have hv := hl v (by simp)
    refine ih (fun w hw => hl w (by simp [hw])) _ ?_
    rw [Board.committed_windowFreed b (by omega) hx]
    rcases hb with ⟨w, hw, rfl⟩ | hb
    · rcases List.mem_cons.1 hw with rfl | hw
      · exact .inr (by simp)
      · exact .inl ⟨w, hw, rfl⟩
    · exact .inr (by simp [hb])

/-- R44: no window of the head is committed any more. -/
theorem Board.committed_uncommit (b : Board) {h w : Nat} (hh : h < 8) (hw : w < 8) : (b.uncommit h).committed (8 * h + w) = false :=
  Board.committed_foldl_windowFreed hh (by omega) _ (fun _ => List.mem_range.1) b (.inl ⟨w, List.mem_range.2 hw, rfl⟩)

/-! ### A HEAD reset begins (R88) -/

/-- The board of a head whose reset has begun. -/
def Board.resetBegun (b : Board) (h : Nat) : Board :=
  { (b.uncommit h).toState (pHPT h) stINIT with resetting := nsInsert (pHPT h) (b.uncommit h).resetting }

theorem Board.resetBegun_shows (b : Board) {h : Nat} (hh : h < 8) :
    (b.resetBegun h).unit (pHPT h) = stINIT ∧ pHPT h ∈ (b.resetBegun h).resetting ∧ ∀ w, w < 8 → (b.resetBegun h).committed (8 * h + w) = false :=
  ⟨(b.uncommit h).toState_unit (pHPT h) (by decide), mem_nsInsert_self _ _, fun w hw =>
    (((b.uncommit h).toState_only (pHPT h) stINIT).on pXTN (F.WIN_CTL.COMMITTED.ix (8 * h + w))
      ⟨by simp only [Fld.ix]; omega, by simp only [Fld.ix, pXTN, pHPT, pMGT]; simp; omega⟩).trans (b.committed_uncommit hh hw)⟩

theorem State.headResetStart_eq (s : State) (h : Nat) :
    s.headResetStart h = ((s.letGo h).onHead h (fun d => { d with resetting := true, lanes := 0 })).on (·.resetBegun h) := rfl

/-- A reset begins from a head as it stands, or with its function-level reset noted. -/
theorem runs_headResetStart {s : State} {h : Fin 8} {d : Head} (hd : s.heads[h.val]? = some d) (hused : s.headUsed h.val = true) (hr : d.resetting = false) {c : Instr}
    (hc : c = .flr h ∨ c = .headReset h) :
    ∃ (t : State) (e : Head), t.heads[h.val]? = some e ∧ e.writes = d.writes ∧ Runs c s (t.headResetStart h.val) := by
  have hhead : s.head? h.val = some d := hd
  have hgo : ¬ ((!s.headUsed h.val) = true ∨ d.resetting = true) := by simp [hused, hr]
  rcases hc with rfl | rfl
  · refine ⟨s.onHead h.val (fun d => { d with flr := true }), _, State.onHead_get hd _, rfl, Runs.of_run (exec_flr h s) ?_⟩
    unfold State.functionReset
    simp only [hhead, if_neg hgo]
  · refine ⟨s, d, hd, rfl, Runs.of_run (exec_headReset h s) ?_⟩
    unfold State.headReset
    simp only [hhead, if_neg hgo]

theorem State.headResetStart_head {s : State} {h : Nat} {d : Head} (hd : s.heads[h]? = some d) :
    (s.headResetStart h).heads[h]? = some { d.bare with resetting := true, lanes := 0 } :=
  State.onHead_get (State.letGo_head hd) _

/-! ### A HEAD reset ends (R12, R88, R274, R492) -/

/-- A head after its reset: logs, poison list and reservations are fresh. -/
def Head.fresh (d : Head) : Head :=
  { d with
    info := logReset, warn := logReset, fail := logReset, fatal := logReset, merges := [], poisonList := [], poisonOver := false,
    poisonOverTime := 0, injected := [], evtPolicy := [0, 0, 0, 0, 0], rsv := List.replicate 4 ⟨none, 0, 0, none⟩, flr := false, resetting := false }

/-- The page of a head with its reset values, but for the link and what outlives a HEAD reset, and out of its reset. -/
def Board.pageFresh (b : Board) (h : Nat) : Board :=
  let keep := [0x044, 0x04C, 0x074].map (fun off => (off, b.rd (pHPT h) off))
  let c := keep.foldl (fun (b : Board) (e : Nat × Word) => b.wr (pHPT h) e.1 e.2) (b.resetPage (pHPT h) keepNarrow)
  { c with resetting := nsErase (pHPT h) c.resetting }

/-- The state that a head goes on to after its reset. -/
def Board.resetEnded (b : Board) (h : Nat) : Board :=
  if b.openCauses (pHPT h) ≠ 0 then b.toState (pHPT h) stCONTAINED
  else if b.on (pHPT h) F.HPT_LINK_STAT.UP ∧ b.on (pHPT h) F.HPT_LINK_STAT.CXL_MEM then b.headServe h
  else b

theorem Board.resetEnded_resetting (b : Board) (h : Nat) : (b.resetEnded h).resetting = b.resetting := by
  unfold Board.resetEnded
  split
  · exact b.toState_resetting _ _
  · split
    · exact b.toState_resetting _ _
    · rfl

theorem State.headResetDone_ends {s : State} {h : Nat} {d : Head} (hd : s.heads[h]? = some d) (hr : d.resetting = true)
    (hf : d.fences.any (fun f => f.running) = false) : s.headResetDone h = (s.onHead h Head.fresh).on (fun b => (b.pageFresh h).resetEnded h) := by
  have hhead : s.head? h = some d := hd
  unfold State.headResetDone
  simp only [hhead]
  rw [if_neg (by simp [hr, hf])]
  rfl

end Sys2Proof.Machine

open Sys2Proof Sys2Proof.Machine

/-- Settles O15 (R44, R71, R85 to R88): an IDE failure opens its cause and re-keying closes it; a reset lets go of reads and windows as it begins, and its end gives the head fresh logs. -/
theorem headResetsAndIde : Obligations.HeadResetsAndIde := by
  intro s h d hd hused
  refine ⟨fun io stream hup => ?fails, fun io hup => ?rekeys, fun c hc hr => ?begins, fun hr hf => ?ends⟩
  case fails => exact ⟨_, Runs.of_run (exec_ideFail h true io stream s) (State.ideFail_fails hused hup io stream.toNat), rfl, s.bd.ideFailed_shows h.val io stream.toNat⟩
  case rekeys =>
    have hpage : pHPT h.val ≠ pMGT := by simp only [pHPT, pMGT]; omega
    obtain ⟨hclosed, hunit⟩ := (s.bd.streams (pHPT h.val) io 1).closeCause_shows (page := pHPT h.val) (f := F.HPT_CAUSE.IDE_FAIL) (by decide) (by decide) hpage
    have honly := (s.bd.streams (pHPT h.val) io 1).closeCause_only (pHPT h.val) (f := F.HPT_CAUSE.IDE_FAIL) (by decide)
    exact ⟨_, Ends.of_quick (exec_ideRekey h true io s) (State.ideRekey_rekeys hused hup io), rfl, hclosed,
      (honly.get _ _ ⟨by decide, by simp⟩).trans (s.bd.streams_mem (pHPT h.val) io (by decide)),
      hunit.trans ((s.bd.streams_only (pHPT h.val) io 1).get _ F.UNIT_STATE.STATE ⟨by decide, by simp⟩)⟩
  case begins =>
    obtain ⟨t, e, ht, hwrites, hruns⟩ := runs_headResetStart hd hused hr hc
    exact ⟨_, _, hruns, State.headResetStart_head ht, rfl, rfl, hwrites, (t.letGo h.val).bd.resetBegun_shows h.isLt⟩
  case ends =>
    refine ⟨_, d.fresh, Runs.of_run (exec_headResetDone h s) (State.headResetDone_ends hd hr hf), State.onHead_get hd _, rfl, rfl, rfl, rfl, rfl, rfl, ?_⟩
    rw [State.on_bd, Board.resetEnded_resetting]
    exact fun hm => (mem_nsErase.1 hm).2 rfl

end

section
/-! Maintenance of the front cache (O23): the state in which an operation has started, and what its abort and its end leave. -/

namespace Sys2Proof.Machine

theorem exec_probe (p : Path) (s : State) : exec (.probe p) s = s.quick (fun s => s.fcmOp p 6 false 0) := rfl
theorem exec_fcmAbort (p : Path) (s : State) : exec (.fcmAbort p) s = s.quick (fun s => s.fcmAbort p) := rfl
theorem exec_opDone (s : State) : exec .opDone s = s.run State.opDone := rfl

/-- The commands of Table 04-4 but for PROBE write FCM_OP with their code. -/
theorem exec_maintenance {p : Path} {mode : Bool} {h : Fin 8} {c : Instr} {n : Nat}
    (hc : (c, n) ∈ [(Instr.clean p mode h, 1), (.cleanInv p mode h, 2), (.cleanSw p, 3), (.cleanInvSw p, 4), (.invAll p, 5)]) (s : State) :
    n ∈ [1, 2, 3, 4, 5] ∧ ∃ m k, exec c s = s.run (fun s => s.fcmOp p n m k) := by
  simp only [List.mem_cons, Prod.mk.injEq, List.not_mem_nil, or_false] at hc
  obtain ⟨rfl, rfl⟩ | ⟨rfl, rfl⟩ | ⟨rfl, rfl⟩ | ⟨rfl, rfl⟩ | ⟨rfl, rfl⟩ := hc <;> exact ⟨by decide, _, _, rfl⟩

/-! ### An operation starts (R119) -/

/-- `u` is `s` with operation `n` under way: its frames are as they were, and of its registers FCM_STAT alone is written. -/
structure State.Started (s : State) (n code : Nat) (u : State) : Prop where
  op : ∃ o, u.cache.op = some o ∧ o.op = n ∧ o.code = code ∧ o.aborted = false
  busy : u.bd.on pFCM F.FCM_STAT.OP_BUSY = true
  frames : u.cache.frames = s.cache.frames
  only : s.bd.Only u.bd [(pFCM, 17)]

theorem State.startOp_started (s : State) (n code total skipped : Nat) (pages : List (Nat × Nat)) (inv : Bool) :
    s.Started n code (s.startOp n code total skipped pages inv) := by
  have hsame := State.foldl_writeBack_same (Prod.snd (α := Nat)) pages s
  refine ⟨⟨_, rfl, rfl, rfl, rfl⟩, (Board.on_put_clear _ _ (by decide) (by decide)).trans (Board.on_put_one _ _ _ (by decide)), ?_, ?_⟩
  · exact (congrArg Cache.frames hsame.cache :)
  · unfold State.startOp
    rw [State.on_bd, hsame.bd]
    exact ((Board.Only.refl _ _).put _ (by decide) (by simp)).put _ (by decide) (by simp)

/-- An operation whose branches both start, each with its code, starts. -/
theorem State.started_ite {P : Prop} [Decidable P] {s t u : State} {n : Nat} (h : ∃ code, s.Started n code t) (k : ∃ code, s.Started n code u) :
    ∃ code, s.Started n code (if P then t else u) := by
  split
  · exact h
  · exact k

theorem State.startOp_starts (s : State) (n code total skipped : Nat) (pages : List (Nat × Nat)) (inv : Bool) :
    ∃ code', s.Started n code' (s.startOp n code total skipped pages inv) := ⟨code, s.startOp_started ..⟩

theorem State.cleanRange_starts (s : State) (mode : Bool) (h : Nat) (inv : Bool) : ∃ code, s.Started (if inv then 2 else 1) code (s.cleanRange mode h inv) :=
  State.started_ite (s.startOp_starts ..) (State.started_ite (s.startOp_starts ..) (State.started_ite (s.startOp_starts ..) (s.startOp_starts ..)))

theorem State.cleanFrames_starts (s : State) (inv : Bool) : ∃ code, s.Started (if inv then 4 else 3) code (s.cleanFrames inv) :=
  State.started_ite (s.startOp_starts ..) (State.started_ite (s.startOp_starts ..) (State.started_ite (s.startOp_starts ..)
    (State.started_ite (s.startOp_starts ..) (s.startOp_starts ..))))

/-- INV_ALL takes an open value first, which is no register. -/
theorem State.invAll_starts (s : State) : ∃ code, s.Started 5 code s.invAll := by
  obtain ⟨hop, hbusy, hframes, honly⟩ := (s.on Board.useOpen).startOp_started 5 Code.ok.num (s.bd.openVal % 2 ^ 24) 0
    (s.cache.frames.map (fun (e : Nat × Frame) => (0, e.2.page))) true
  exact ⟨_, hop, hbusy, hframes, honly⟩

/-- The board with FCM_OP as a write of it leaves it. -/
def Board.opAsked (b : Board) (op : Nat) (mode : Bool) (h : Nat) : Board :=
  ((b.put pFCM F.FCM_OP.OP op).put pFCM F.FCM_OP.MODE (bit mode)).put pFCM F.FCM_OP.HEAD h

theorem Board.opAsked_only (b : Board) (op : Nat) (mode : Bool) (h : Nat) : b.Only (b.opAsked op mode h) [(pFCM, 18)] :=
  (((Board.Only.refl _ _).put _ (by decide) (by simp)).put _ (by decide) (by simp)).put _ (by decide) (by simp)

theorem Board.opAsked_op (b : Board) {op : Nat} (mode : Bool) (h : Nat) (hop : op < 16) : (b.opAsked op mode h).get pFCM F.FCM_OP.OP = op := by
  unfold Board.opAsked
  rw [Board.get_put_clear _ _ (by decide) (by decide), Board.get_put_clear _ _ (by decide) (by decide), Board.get_put_self _ _ _ _ (by decide)]
  exact Nat.mod_eq_of_lt hop

/-- R119: an operation that is written while none runs starts from the state in which FCM_OP shows it. -/
theorem State.fcmOp_starts {s : State} {p : Path} (hg : s.bd.gate p pFCM 0x048 false false = none) (hb : s.bd.on pFCM F.FCM_STAT.OP_BUSY = false) {n : Nat}
    (hn : n ∈ [1, 2, 3, 4, 5]) (mode : Bool) (h : Nat) : ∃ code, (s.on (·.opAsked n mode h)).Started n code (s.fcmOp p n mode h) := by
  unfold State.fcmOp
  rw [State.written_pass hg, if_neg (by simp [hb])]
  simp only [List.mem_cons, List.not_mem_nil, or_false] at hn
  obtain rfl | rfl | rfl | rfl | rfl := hn
  · exact State.cleanRange_starts _ mode h false
  · exact State.cleanRange_starts _ mode h true
  · exact State.cleanFrames_starts _ false
  · exact State.cleanFrames_starts _ true
  · exact State.invAll_starts _

/-! ### PROBE (R119) -/

/-- FCM_PROBE0 and FCM_PROBE1 show the tag of a frame. -/
def Board.ShowsTag (b : Board) (f : Frame) : Prop :=
  b.get pFCM F.FCM_PROBE0.PAGE = f.page % 2 ^ 32 ∧ b.get pFCM F.FCM_PROBE1.KEY = f.key % 2 ^ 12 ∧ b.on pFCM F.FCM_PROBE1.TAG_VALID = true

/-- The board with the registers of PROBE written. -/
def Board.probed (b : Board) (window off page key tag lru v d p : Nat) : Board :=
  let b := b.put pFCM F.FCM_PROBE0.PAGE page
  let b := ((b.put pFCM F.FCM_PROBE1.KEY key).put pFCM F.FCM_PROBE1.TAG_VALID tag).put pFCM F.FCM_PROBE1.WINDOW window
  let b := (b.put pFCM F.FCM_PROBE1.DISABLED off).put pFCM F.FCM_PROBE1.LRU lru
  ((b.put pFCM F.FCM_PROBE2.VALID v).put pFCM F.FCM_PROBE3.DIRTY d).put pFCM F.FCM_PROBE4.PATCHED p

theorem Board.probed_showsTag (b : Board) (f : Frame) (window off lru v d p : Nat) : (b.probed window off f.page f.key 1 lru v d p).ShowsTag f := by
  unfold Board.ShowsTag Board.on Board.probed
  simp (disch := decide) only [Board.get_put_clear, Board.get_put_self, Nat.reducePow, Nat.reduceMod, decide_true, and_self]

/-- R119: of a way that is there, PROBE writes its registers and starts; a frame that is held there is shown. -/
theorem State.probeFrame_shows {s : State} (hw : s.bd.get pFCM F.FCM_SETWAY.WAY < 12) :
    ∃ g : Board → Board, s.probeFrame = (s.on g).startOp 6 Code.ok.num 1 0 [] false
      ∧ ∀ f, smFind (s.bd.get pFCM F.FCM_SETWAY.SET * 16 + s.bd.get pFCM F.FCM_SETWAY.WAY) s.cache.frames = some f → (g s.bd).ShowsTag f := by
  unfold State.probeFrame
  simp only [if_neg (Nat.not_le.2 hw)]
  split
  case h_1 hnone => exact ⟨fun b => b.probed _ _ 0 0 0 0 0 0 0, rfl, fun f hf => by simp [hnone] at hf⟩
  case h_2 f hsome =>
    refine ⟨fun b => b.probed _ _ f.page f.key 1 _ _ _ _, rfl, fun g hg => ?_⟩
    rw [hsome, Option.some.injEq] at hg
    exact hg ▸ Board.probed_showsTag ..

theorem State.fcmOp_probes {s : State} {p : Path} (hg : s.bd.gate p pFCM 0x048 false false = none) (hb : s.bd.on pFCM F.FCM_STAT.OP_BUSY = false)
    (mode : Bool) (h : Nat) : s.fcmOp p 6 mode h = (s.on (·.opAsked 6 mode h)).probeFrame := by
  unfold State.fcmOp
  rw [State.written_pass hg, if_neg (by simp [hb])]
  rfl

theorem Board.ShowsTag.only {b c : Board} {f : Frame} (h : b.ShowsTag f) (k : b.Only c [(pFCM, 17)]) : c.ShowsTag f := by
  obtain ⟨hpage, hkey, htag⟩ := h
  exact ⟨(k.get _ _ (by decide)).trans hpage, (k.get _ _ (by decide)).trans hkey, (k.on _ _ (by decide)).trans htag⟩

/-! ### An operation ends, early (R122) or done (R121) -/

theorem State.abortOp_aborts {s : State} {o : MaintOp} (h : s.cache.op = some o) :
    (∃ o', s.abortOp.cache.op = some o' ∧ o'.aborted = true ∧ o'.inv = []) ∧ s.abortOp.bd.on pFCM F.FCM_STAT.ABORTED = true := by
  unfold State.abortOp
  rw [h]
  exact ⟨⟨_, rfl, rfl, rfl⟩, Board.on_put_one _ _ _ (by decide)⟩

/-- FCM_STAT, FCM_PROGRESS and FCM_RESULT at the end of an operation, which may leave a clean slate. -/
def Board.opClosed (b : Board) (o : MaintOp) (slate : Bool) : Board :=
  let b := (b.put pFCM F.FCM_STAT.OP_BUSY 0).put pFCM F.FCM_PROGRESS.DONE (o.total % 2 ^ 24)
  let b := (b.put pFCM F.FCM_RESULT.CODE o.code).put pFCM F.FCM_RESULT.SKIPPED o.skipped
  if slate then b.put pFCM F.FCM_STAT.CLEAN_SLATE 1 else b

theorem Board.opClosed_shows (b : Board) (o : MaintOp) (slate : Bool) :
    (b.opClosed o slate).on pFCM F.FCM_STAT.OP_BUSY = false ∧ (b.opClosed o slate).get pFCM F.FCM_PROGRESS.DONE = o.total % 2 ^ 24
      ∧ (b.opClosed o slate).get pFCM F.FCM_RESULT.CODE = o.code % 2 ^ 8 := by
  unfold Board.opClosed Board.on
  cases slate <;> simp (disch := decide) [Board.get_put_clear, Board.get_put_self]

/-- The event that tells the end of an operation, on the board that shows it. -/
def MaintOp.doneEvent (o : MaintOp) (b : Board) : Ev := ev E.FCM.OP_DONE (o.op + bit o.aborted * 16) (b.rd pFCM 0x05C).toNat (b.rd pFCM 0x060).toNat 0

/-- R121: an operation with nothing left to wait for and no frame to invalidate ends. -/
theorem State.opDone_ends {s : State} {o : MaintOp} (h : s.cache.op = some o) (hl : s.opLeft o = []) (hi : o.inv = []) :
    ∃ slate, s.opDone = { s with
      bd := (s.bd.opClosed o slate).raise pFCM (o.doneEvent (s.bd.opClosed o slate))
      cache := { s.cache with op := none } } := by
  unfold State.opDone
  simp only [h, hl, hi, ne_eq, not_true_eq_false, if_false, List.foldl_nil]
  exact ⟨_, rfl⟩

end Sys2Proof.Machine

open Sys2Proof Sys2Proof.Machine

/-- Settles O23: every branch of an operation that is written starts it, PROBE with its registers written; an abort keeps it, and its end removes and tells it. -/
theorem maintenanceOperationsStartAndEnd : Obligations.MaintenanceOperationsStartAndEnd := by
  intro s p hg
  refine ⟨fun mode h c n hb hc => ?starts, fun hb hw => ?probes, fun o ho => ?aborts, fun o ho hl hi => ?ends⟩
  case starts =>
    obtain ⟨hn, m, k, hexec⟩ := exec_maintenance hc s
    obtain ⟨code, ⟨o, ho, hop, -, hab⟩, hbusy, hframes, honly⟩ := State.fcmOp_starts hg hb hn m k
    have hlt : ∀ i ∈ [1, 2, 3, 4, 5], i < 16 := by decide
    exact ⟨_, o, Runs.of_run hexec rfl, ho, hop, hab, hbusy, (honly.get _ _ (by decide)).trans (s.bd.opAsked_op m k (hlt n hn)), hframes⟩
  case probes =>
    have hask := s.bd.opAsked_only 6 false 0
    have hway := hask.get pFCM F.FCM_SETWAY.WAY (by decide)
    have hset := hask.get pFCM F.FCM_SETWAY.SET (by decide)
    obtain ⟨g, heq, hshow⟩ := State.probeFrame_shows (s := s.on (·.opAsked 6 false 0)) (hway ▸ hw)
    obtain ⟨⟨o, ho, hop, hcode, -⟩, -, hframes, honly⟩ := State.startOp_started ((s.on (·.opAsked 6 false 0)).on g) 6 Code.ok.num 1 0 [] false
    refine ⟨_, o, Ends.of_quick (exec_probe p s) ((State.fcmOp_probes hg hb _ _).trans heq), ho, hop, hcode, hframes, fun f hf => ?_⟩
    exact (hshow f (by rw [State.on_bd, State.on_cache, hway, hset, hf])).only honly
  case aborts =>
    obtain ⟨⟨o', ho', hab, hinv⟩, hstat⟩ := State.abortOp_aborts ho
    exact ⟨_, o', Ends.of_quick (exec_fcmAbort p s) (State.written_pass hg), ho', hab, hinv, hstat⟩
  case ends =>
    obtain ⟨slate, hdone⟩ := State.opDone_ends ho hl hi
    obtain ⟨hbusy, hprogress, hresult⟩ := s.bd.opClosed_shows o slate
    exact ⟨_, Runs.of_run (exec_opDone s) hdone, rfl, (Board.on_raise _ _ _ (by decide)).trans hbusy, (Board.get_raise _ _ _ (by decide)).trans hprogress,
      (Board.get_raise _ _ _ (by decide)).trans hresult, Board.raise_status _ _ _ (show E.FCM.OP_DONE < 32 by decide)⟩

end

section
/-! The front cache is disabled and enabled (O24). That its frames go as it is disabled is the model's reading (log entry 11). -/

namespace Sys2Proof.Machine

theorem exec_cacheDisable (p : Path) (s : State) : exec (.cacheDisable p) s = s.run (fun s => s.cacheDisable p) := rfl
theorem exec_cacheDisableDone (s : State) : exec .cacheDisableDone s = s.run State.cacheDisableDone := rfl
theorem exec_cacheEnable (p : Path) (s : State) : exec (.cacheEnable p) s = s.run (fun s => s.cacheEnable p) := rfl

/-! ### Disable (R123) -/

/-- The state in which the cache is being disabled, before its dirty lines are written back. -/
def State.disabling (s : State) : State :=
  { s with
    bd := (s.bd.put pFCM F.FCM_CTL.ENABLE 0).put pFCM F.FCM_STAT.DISABLING 1
    cache := { s.cache with disableFrom := s.dirty } }

theorem State.cacheDisable_takes {s : State} {p : Path} (hg : s.bd.gate p pFCM 0x040 false false = none) (he : s.bd.on pFCM F.FCM_STAT.ENABLED = true)
    (hd : s.bd.on pFCM F.FCM_STAT.DISABLING = false) : s.disabling.SameButWrites (s.cacheDisable p) := by
  have hon : ∀ f : Fld, f.off = 0x044 → f.lo + f.width ≤ 32 → (s.bd.put pFCM F.FCM_CTL.ENABLE 0).on pFCM f = s.bd.on pFCM f := fun f ho hl =>
    Board.on_put_clear _ _ ⟨by omega, by decide, hl⟩ (.inr (.inl (by simp [ho])))
  unfold State.cacheDisable
  rw [State.written_pass hg, if_neg (by simp [hon, he, hd])]
  exact State.foldl_writeBack_same id _ s.disabling

theorem State.disabling_shows (s : State) : s.disabling.bd.on pFCM F.FCM_STAT.DISABLING = true
    ∧ s.disabling.bd.on pFCM F.FCM_STAT.ENABLED = s.bd.on pFCM F.FCM_STAT.ENABLED ∧ s.disabling.bd.get pFCM F.FCM_CTL.ENABLE = 0 := by
  refine ⟨Board.on_put_one _ _ _ (by decide), ?_, ?_⟩
  · exact (Board.on_put_clear _ _ (by decide) (by decide)).trans (Board.on_put_clear _ _ (by decide) (by decide))
  · exact (Board.get_put_clear _ _ (by decide) (by decide)).trans (Board.get_put_self _ _ _ _ (by decide))

/-- FCM_STAT of a cache that has been disabled. -/
def Board.cacheDisabled (b : Board) : Board := ((b.put pFCM F.FCM_STAT.ENABLED 0).put pFCM F.FCM_STAT.CLEAN_SLATE 0).put pFCM F.FCM_STAT.DISABLING 0

theorem Board.cacheDisabled_shows (b : Board) : b.cacheDisabled.on pFCM F.FCM_STAT.ENABLED = false ∧ b.cacheDisabled.on pFCM F.FCM_STAT.DISABLING = false
    ∧ b.cacheDisabled.on pFCM F.FCM_STAT.CLEAN_SLATE = false := by
  unfold Board.cacheDisabled
  refine ⟨?_, Board.on_put_zero _ _ _ (by decide), ?_⟩
  · rw [Board.on_put_clear _ _ (by decide) (by decide), Board.on_put_clear _ _ (by decide) (by decide), Board.on_put_zero _ _ _ (by decide)]
  · rw [Board.on_put_clear _ _ (by decide) (by decide), Board.on_put_zero _ _ _ (by decide)]

theorem State.cacheDisableDone_ends {s : State} (hd : s.bd.on pFCM F.FCM_STAT.DISABLING = true) (hn : s.dirty = 0) :
    s.cacheDisableDone = { s with
      bd := s.bd.cacheDisabled.raise pFCM (ev E.FCM.DISABLED 0 s.cache.disableFrom 0 0)
      cache := { s.cache with frames := [] } } := by
  unfold State.cacheDisableDone
  rw [if_neg (by simp [hd, hn])]
  rfl

/-! ### Enable (R124) -/

/-- FCM_CTL and FCM_STAT of a cache that has been enabled. -/
def Board.cacheEnabled (b : Board) : Board := ((b.put pFCM F.FCM_CTL.ENABLE 1).put pFCM F.FCM_STAT.ENABLED 1).put pFCM F.FCM_STAT.CLEAN_SLATE 0

theorem Board.cacheEnabled_shows (b : Board) : b.cacheEnabled.on pFCM F.FCM_STAT.ENABLED = true ∧ b.cacheEnabled.on pFCM F.FCM_STAT.CLEAN_SLATE = false :=
  ⟨(Board.on_put_clear _ _ (by decide) (by decide)).trans (Board.on_put_one _ _ _ (by decide)), Board.on_put_zero _ _ _ (by decide)⟩

theorem Board.cacheEnabled_only (b : Board) : b.Only b.cacheEnabled [(pFCM, 16), (pFCM, 17)] :=
  (((Board.Only.refl _ _).put _ (by decide) (by simp)).put _ (by decide) (by simp)).put _ (by decide) (by simp)

theorem State.cacheEnable_enables {s : State} {p : Path} (hg : s.bd.gate p pFCM 0x040 false false = none) (he : s.bd.on pFCM F.FCM_STAT.ENABLED = false)
    (hc : s.bd.on pFCM F.FCM_STAT.CLEAN_SLATE = true) (hs : s.cache.staged = []) : s.cacheEnable p = s.on Board.cacheEnabled := by
  unfold State.cacheEnable
  rw [State.written_pass hg, if_neg (by simp [he]), if_pos hc]
  unfold State.enableCache
  dsimp only
  rw [State.on_cache, hs]
  rfl

/-- The number by which an event names the path of an access. -/
def pathNumber : Path → Nat
  | .host _ => 0
  | .mgmt => 1

/-- The event that tells a refused enable. -/
def enableRefused (p : Path) : Ev := ev E.FCM.ENABLE_REFUSED (pathNumber p * 2 ^ 9) 0 0 0

theorem State.SameBelow.on {s t : State} (h : s.SameBelow t) (f : Board → Board) : s.SameBelow (t.on f) := h

theorem State.rejects_sameBelow (s : State) (p : Path) (page off : Nat) (c : Code) : s.SameBelow (s.rejects p page off c) := rfl

theorem State.cacheEnable_refuses {s : State} {p : Path} (hg : s.bd.gate p pFCM 0x040 false false = none) (he : s.bd.on pFCM F.FCM_STAT.ENABLED = false)
    (hc : s.bd.on pFCM F.FCM_STAT.CLEAN_SLATE = false) : s.cacheEnable p = (s.rejects p pFCM 0x040 .conflict).on (·.raise pFCM (enableRefused p)) := by
  unfold State.cacheEnable
  rw [State.written_pass hg, if_neg (by simp [he]), if_neg (by simp [hc])]
  cases p <;> rfl

end Sys2Proof.Machine

open Sys2Proof Sys2Proof.Machine

/-- Settles O24: a disable is shown under way, and with nothing dirty left it ends without frames; an enable follows CLEAN_SLATE, and is refused without it. -/
theorem cacheIsDisabledAndEnabled : Obligations.CacheIsDisabledAndEnabled := by
  intro s p
  refine ⟨fun hg he hd => ?disables, fun hd hn => ?disabled, fun hg he hc hs => ?enables, fun hg he hc => ?refuses⟩
  case disables =>
    have hsame := State.cacheDisable_takes hg he hd
    obtain ⟨hdisabling, henabled, hctl⟩ := s.disabling_shows
    refine ⟨_, Runs.of_run (exec_cacheDisable p s) rfl, ?_⟩
    rw [hsame.cache, hsame.bd]
    exact ⟨hdisabling, henabled.trans he, hctl, rfl⟩
  case disabled =>
    obtain ⟨henabled, hdisabling, hslate⟩ := s.bd.cacheDisabled_shows
    exact ⟨_, Runs.of_run (exec_cacheDisableDone s) (State.cacheDisableDone_ends hd hn), rfl, (Board.on_raise _ _ _ (by decide)).trans henabled,
      (Board.on_raise _ _ _ (by decide)).trans hdisabling, (Board.on_raise _ _ _ (by decide)).trans hslate,
      Board.raise_status _ _ _ (show E.FCM.DISABLED < 32 by decide)⟩
  case enables =>
    obtain ⟨henabled, hslate⟩ := s.bd.cacheEnabled_shows
    exact ⟨_, Runs.of_run (exec_cacheEnable p s) (State.cacheEnable_enables hg he hc hs), rfl, henabled, hslate, s.bd.cacheEnabled_only⟩
  case refuses =>
    have hstay := (s.bd.reject_only pFCM p 0x040 .conflict).on pFCM F.FCM_STAT.ENABLED (by decide)
    exact ⟨_, Runs.of_run (exec_cacheEnable p s) (State.cacheEnable_refuses hg he hc), (s.rejects_sameBelow ..).on _,
      ((Board.on_raise _ _ _ (by decide)).trans hstay).trans he, (Board.get_raise _ _ _ (by decide)).trans (Board.reject_code _ _ _ _ _),
      Board.raise_status _ _ _ (show E.FCM.ENABLE_REFUSED < 32 by decide)⟩

end

section
/-! Media channels (O22): identification of the dies, recorded dies, channel faults, re-training, rebuild and the one-shot flip (R156 to R163). -/

namespace Sys2Proof.Machine

theorem exec_mchPorDone (c : Fin 16) (ids : List (BitVec 128)) (calibrated : Bool) (s : State) :
    exec (.mchPorDone c ids calibrated) s = s.run (fun s => s.porDone c.val ids calibrated) := rfl
theorem exec_dieFailRecord (c : Fin 16) (d : Fin 8) (s : State) : exec (.dieFailRecord c d) s = s.run (fun s => s.dieRecord c.val d.val) := rfl
theorem exec_rdyNStuck (c : Fin 16) (s : State) : exec (.rdyNStuck c) s = s.run (fun s => s.channelFault c.val 2) := rfl
theorem exec_chanRetrain (c : Fin 16) (passed : Bool) (s : State) : exec (.chanRetrain c passed) s = s.run (fun s => s.retrained c.val passed) := rfl
theorem exec_rebuildDone (c : Fin 16) (s : State) : exec (.rebuildDone c) s = s.run (fun s => s.rebuilt c.val) := rfl
theorem exec_mchFlipArm (p : Path) (c : Fin 16) (w : Word) (s : State) : exec (.mchFlipArm p c w) s = s.quick (fun s => s.flipArm p c.val w) := rfl

/-! ### The page of a channel -/

theorem pMCH_ne_pMGT (c : Nat) : pMCH c ≠ pMGT := by
  simp only [pMCH, pMGT]
  omega

/-- An event and its fault entry write none of a channel's own registers. -/
theorem Board.told_rd_channel (b : Board) (c : Nat) (e : Ev) (cls stall info : Nat) {o : Nat} (ho : o < 4096 ∧ o / 4 ∉ [4, 8, 9, 10, 11]) :
    (b.told (pMCH c) e cls stall info).rd (pMCH c) o = b.rd (pMCH c) o := by
  have hpages : pMCH c ≠ pEVQ ∧ pMCH c ≠ pFLT ∧ ¬ pMCH c ≤ 23 := by
    simp only [pMCH, pEVQ, pFLT]
    omega
  obtain ⟨hlt, hword⟩ := ho
  simp only [List.mem_cons, List.not_mem_nil, or_false, not_or] at hword
  exact (b.told_beside _ e cls stall info).regs _ o hlt (by simp [eventReg, hword, hpages, pMCH_ne_pMGT c]) (by simp [faultWords, hpages])

/-! ### Identification at power-up (R156) -/

/-- Writes of several keys: each listed key reads as what was written to it. -/
theorem smGet_foldl_smSet (base : Nat) (f : Nat → Nat) {k : Nat} (l : List Nat) :
    ∀ m : SMap Nat, k ∈ l ∨ smGet (fun _ => 0) m (base + k) = f k →
      smGet (fun _ => 0) (l.foldl (fun m j => smSet (fun _ => 0) (base + j) (f j) m) m) (base + k) = f k := by
  induction l with
  | nil =>
    rintro m (hk | hk)
    · cases hk
    · exact hk
  | cons j l ih =>
    intro m hk
    refine ih _ ?_
    by_cases hj : k = j
    · exact .inr (hj ▸ smGet_smSet_self _ _ _ _)
    · rcases hk with hk | hk
      · exact .inl ((List.mem_cons.1 hk).resolve_left hj)
      · exact .inr ((smGet_smSet_ne _ (by omega) _ _).trans hk)

/-- The die table after READ_ID of all dies of a channel. -/
def idsRead (c : Nat) (ids : List (BitVec 128)) (m : SMap Nat) : SMap Nat :=
  (List.range 8).foldl (fun m d => smSet (fun _ => 0) (c * 8 + d) (ids.getD d 0).toNat m) m

/-- A channel on which no die is recorded and every die answers as itself is trained, all its dies ACTIVE. -/
theorem State.porDone_identifies {s : State} {c : Nat} {ids : List (BitVec 128)} (hu : s.bd.unit (pMCH c) = stINIT)
    (hr : ∀ k, c * 8 + k ∉ s.media.recorded) (hid : ∀ k, k < 8 → dieIdOk (ids.getD k 0).toNat k = true) :
    s.porDone c ids true = { s with
      bd := (s.bd.put (pMCH c) F.MCH_DIE_STATE.DIE 0x22222222).put (pMCH c) F.MCH_LINK.TRAINED 1
      media := { s.media with dieIds := idsRead c ids s.media.dieIds } } := by
  have hfailed : (List.range 8).filter (fun d => decide (c * 8 + d ∈ s.media.recorded)) = [] :=
    List.filter_eq_nil_iff.2 fun d _ => by simp [hr d]
  have hfresh : (List.range 8).filter (fun d => decide (c * 8 + d ∉ s.media.recorded) && !dieIdOk (ids.getD d 0).toNat d) = [] :=
    List.filter_eq_nil_iff.2 fun d hd => by simp only [hid d (List.mem_range.1 hd)]; simp
  unfold State.porDone
  simp only [if_neg (not_not.2 hu), hfailed, hfresh]
  rfl

/-! ### A declared die is recorded (R158) -/

theorem State.SameButStore.media {s t : State} (h : s.SameButStore t) : t.media = s.media := (congrArg State.media h :)

theorem State.storeFaults_same (s : State) : s.SameButStore s.storeFaults := ((State.StoreFrame.refl [(pPST, 16)] s).store (by simp) _ _).same

theorem State.dieRecord_media {s : State} {c d : Nat} (h : s.media.dieNew.any (fun e => decide (e.1 = c * 8 + d)) = true) :
    (s.dieRecord c d).media = { s.media with
      dieNew := s.media.dieNew.filter (fun e => decide (e.1 ≠ c * 8 + d))
      recorded := nsInsert (c * 8 + d) s.media.recorded } := by
  unfold State.dieRecord
  rw [if_pos h]
  exact (State.storeFaults_same _).media

/-! ### A channel faults (R159, R160) -/

/-- The registers of a channel whose fault opens: no die answers, it is not trained, and DIE_LOST stays only for recorded dies. -/
def Board.channelLost (b : Board) (c : Nat) (kept : Bool) : Board :=
  let b := (b.put (pMCH c) F.MCH_DIE_STATE.DIE 0x33333333).put (pMCH c) F.MCH_LINK.TRAINED 0
  (b.put (pMCH c) F.MCH_CAUSE.DIE_LOST (bit kept)).openCause (pMCH c) F.MCH_CAUSE.CHAN_FAULT

theorem Board.channelLost_shows (b : Board) (c : Nat) (kept : Bool) :
    (b.channelLost c kept).on (pMCH c) F.MCH_CAUSE.CHAN_FAULT = true ∧ (b.channelLost c kept).on (pMCH c) F.MCH_LINK.TRAINED = false
      ∧ (b.serves (pMCH c) = true → (b.channelLost c kept).unit (pMCH c) = stCONTAINED) := by
  have hput : b.Only (((b.put (pMCH c) F.MCH_DIE_STATE.DIE 0x33333333).put (pMCH c) F.MCH_LINK.TRAINED 0).put (pMCH c) F.MCH_CAUSE.DIE_LOST (bit kept))
      [(pMCH c, 17), (pMCH c, 18), (pMCH c, 22)] :=
    (((Board.Only.refl _ _).put _ (by decide) (by simp)).put _ (by decide) (by simp)).put _ (by decide) (by simp)
  obtain ⟨hon, hunit⟩ := Board.openCause_shows _ (f := F.MCH_CAUSE.CHAN_FAULT) (by decide) (by decide) (pMCH_ne_pMGT c)
  refine ⟨hon, ?_, fun hs => hunit ((Board.serves_congr (hput.get _ F.UNIT_STATE.STATE ⟨by decide, by simp⟩)).trans hs)⟩
  calc (b.channelLost c kept).on (pMCH c) F.MCH_LINK.TRAINED
      = _ := (Board.openCause_only _ _ (by decide)).on _ _ ⟨by decide, by simp [pMCH_ne_pMGT c]⟩
    _ = _ := Board.on_put_clear _ _ (by decide) (.inr (by decide))
    _ = false := Board.on_put_zero _ _ _ (by decide)

/-- The fault is shown and told before the channel's dies are lost. -/
theorem State.channelFault_loses {s : State} {c : Nat} (hc : s.bd.on (pMCH c) F.MCH_CAUSE.CHAN_FAULT = false) (hp : s.bd.powered (pMCH c) = true) (cond : Nat) :
    ∃ (v : State) (b : Board) (kept : Bool) (link ops wait : Nat), s.channelFault c cond = v.loseDies c (fun _ => true)
      ∧ b = (s.bd.channelLost c kept).useOpen ∧ v.bd = b.told (pMCH c) (ev E.MCH.CHAN_FAULT cond link ops wait) 4 wait link := by
  unfold State.channelFault
  rw [if_neg (by simp [hc, hp])]
  exact ⟨_, _, _, _, _, _, rfl, rfl, rfl⟩

/-! ### Re-training and rebuild (R160, R162) -/

/-- The closing of a cause leaves the other bits of its register alone. -/
theorem Board.on_closeCause (b : Board) {page : Nat} {f g : Fld} (ho : f.off < 4096 ∧ g.off < 4096 ∧ g.lo + g.width ≤ 32) (h2 : g.off / 4 ≠ 2) (hp : page ≠ pMGT)
    (hfg : g.off = f.off ∧ (g.lo + g.width ≤ f.lo ∨ f.lo + f.width ≤ g.lo)) : (b.closeCause page f).on page g = b.on page g :=
  ((Board.toState_only _ page _).on page g ⟨ho.2.1, by simp [h2, hp]⟩).trans (Board.on_put_clear b 0 ⟨ho.2.1, ho.1, ho.2.2⟩ (.inr (.inr hfg)))

/-- The registers of a channel whose re-training has passed. -/
def Board.channelRetrained (b : Board) (c dies : Nat) : Board :=
  let b := ((b.count (pMCH c) F.MCH_LINK.RETRAINS 1).put (pMCH c) F.MCH_DIE_STATE.DIE dies).put (pMCH c) F.MCH_LINK.TRAINED 1
  (b.openCause (pMCH c) F.MCH_CAUSE.REBUILD).closeCause (pMCH c) F.MCH_CAUSE.CHAN_FAULT

theorem Board.channelRetrained_shows (b : Board) (c dies : Nat) :
    (b.channelRetrained c dies).on (pMCH c) F.MCH_CAUSE.CHAN_FAULT = false ∧ (b.channelRetrained c dies).on (pMCH c) F.MCH_CAUSE.REBUILD = true
      ∧ (b.channelRetrained c dies).on (pMCH c) F.MCH_LINK.TRAINED = true := by
  have hpage := pMCH_ne_pMGT c
  refine ⟨(Board.closeCause_shows _ (by decide) (by decide) hpage).1, ?_, ?_⟩
  · exact (Board.on_closeCause _ (by decide) (by decide) hpage (by decide)).trans (Board.openCause_shows _ (by decide) (by decide) hpage).1
  · calc (b.channelRetrained c dies).on (pMCH c) F.MCH_LINK.TRAINED
        = _ := (Board.closeCause_only _ _ (by decide)).on _ _ ⟨by decide, by simp [hpage]⟩
      _ = _ := (Board.openCause_only _ _ (by decide)).on _ _ ⟨by decide, by simp [hpage]⟩
      _ = true := Board.on_put_one _ _ _ (by decide)

theorem State.on_on (s : State) (f g : Board → Board) : (s.on f).on g = s.on (fun b => g (f b)) := rfl

theorem State.retrained_passes {s : State} {c : Nat} (hc : s.bd.on (pMCH c) F.MCH_CAUSE.CHAN_FAULT = true) (hp : s.bd.powered (pMCH c) = true) :
    ∃ dies, s.retrained c true = s.on (·.channelRetrained c dies) := by
  unfold State.retrained
  rw [if_neg (by simp [hc, hp])]
  simp only [Bool.not_true, Bool.false_eq_true, if_false]
  exact ⟨_, State.on_on _ _ _⟩

/-- The fields of the bands left out are reset first; then the cause closes and is told. -/
theorem State.rebuilt_ends {s : State} {c : Nat} (hc : s.bd.on (pMCH c) F.MCH_CAUSE.CHAN_FAULT = false) (hr : s.bd.on (pMCH c) F.MCH_CAUSE.REBUILD = true) :
    ∃ (t : State) (n : Nat), s.rebuilt c = t.on (fun b => (b.closeCause (pMCH c) F.MCH_CAUSE.REBUILD).raise (pMCH c) (ev E.MCH.REBUILD_DONE 0 n n 0)) := by
  unfold State.rebuilt
  rw [if_pos (by simp [hc, hr])]
  exact ⟨_, _, rfl⟩

/-! ### The one-shot flip (R163) -/

theorem State.flipArm_writes {s : State} {c : Nat} {w : Word} (hg : s.bd.gate .mgmt (pMCH c) F.MCH_FLIP_CTL.ARM.off false false = none)
    (hm : s.bd.get (pMCH c) (F.MCH_FLIP.MASK.ix 0) ≠ 0) :
    s.flipArm .mgmt c w = s.on (·.wr (pMCH c) F.MCH_FLIP_CTL.ARM.off (BitVec.ofNat 32 (wordBits w 0 11))) := by
  have hmask : (List.range 4).all (fun i => decide (s.bd.get (pMCH c) (F.MCH_FLIP.MASK.ix i) = 0)) = false :=
    List.all_eq_false.2 ⟨0, by decide, by simpa using hm⟩
  unfold State.flipArm
  rw [State.written_pass hg]
  simp [hmask]

end Sys2Proof.Machine

open Sys2Proof Sys2Proof.Machine

/-- Settles O22 (R156, R158 to R160, R162, R163): what each command writes is named once, and the events, fault entries and store writes beside it leave those registers alone. -/
theorem channelsFailAndRecover : Obligations.ChannelsFailAndRecover := by
  intro s c d
  refine ⟨fun ids hu hr hid => ?identifies, fun hnew => ?records, fun hc hp => ?faults, fun hc hp => ?retrains, fun hc hr => ?rebuilds, fun w hg hm => ?flips⟩
  case identifies =>
    refine ⟨_, Runs.of_run (exec_mchPorDone c ids true s) (State.porDone_identifies hu hr hid), ?_, Board.on_put_one _ _ _ (by decide), fun k hk => ?_⟩
    · exact (Board.get_put_clear _ _ (by decide) (.inr (by decide))).trans (Board.get_put_self _ _ _ _ (by decide))
    · exact smGet_foldl_smSet (c.val * 8) (fun k => (ids.getD k 0).toNat) _ _ (.inl (List.mem_range.2 hk))
  case records =>
    have hmedia := State.dieRecord_media hnew
    exact ⟨_, Runs.of_run (exec_dieFailRecord c d s) rfl, by rw [hmedia]; exact mem_nsInsert_self _ _, (congrArg Media.dieNew hmedia :),
      (congrArg Media.pages hmedia :)⟩
  case faults =>
    obtain ⟨v, b, kept, link, ops, wait, hfault, rfl, hv⟩ := State.channelFault_loses hc hp 2
    obtain ⟨hon, htrained, hunit⟩ := s.bd.channelLost_shows c.val kept
    have hkept : ∀ {o : Nat}, o < 4096 ∧ o / 4 ∉ [4, 8, 9, 10, 11] → v.bd.rd (pMCH c.val) o = (s.bd.channelLost c.val kept).rd (pMCH c.val) o := fun ho =>
      hv ▸ Board.told_rd_channel _ _ _ _ _ _ ho
    exact ⟨_, v, Runs.of_run (exec_rdyNStuck c s) hfault, rfl, (Board.on_congr (hkept (by decide))).trans hon, (Board.on_congr (hkept (by decide))).trans htrained,
      hv ▸ Board.told_status _ _ _ _ _ _ (show E.MCH.CHAN_FAULT < 32 by decide),
      fun hs => (Board.get_congr (f := F.UNIT_STATE.STATE) (hkept (by decide))).trans (hunit hs)⟩
  case retrains =>
    obtain ⟨dies, hpass⟩ := State.retrained_passes hc hp
    exact ⟨_, Runs.of_run (exec_chanRetrain c true s) hpass, rfl, s.bd.channelRetrained_shows c.val dies⟩
  case rebuilds =>
    obtain ⟨t, n, hend⟩ := State.rebuilt_ends hc hr
    have hreg : eventReg (pMCH c.val) F.MCH_CAUSE.REBUILD.off = false := by simp [eventReg]
    exact ⟨_, Runs.of_run (exec_rebuildDone c s) hend,
      (Board.on_raise _ _ _ ⟨by decide, hreg⟩).trans (t.bd.closeCause_shows (by decide) (by decide) (pMCH_ne_pMGT c.val)).1,
      Board.raise_status _ _ _ (show E.MCH.REBUILD_DONE < 32 by decide)⟩
  case flips =>
    exact ⟨_, Ends.of_quick (exec_mchFlipArm .mgmt c w s) (State.flipArm_writes hg hm), rfl, Board.rd_wr_self _ _ _ _, (Board.Only.refl _ _).wr _ (by decide) (by simp)⟩

end

section
/-! Map and patch index (O19): lookups of a miss, rebuilds of a segment or block, and inspections (R110, R166, R169, R171, R186, R187). -/

namespace Sys2Proof.Machine

theorem exec_mapLookupDone (i : Nat) (parity0 parity1 : BitVec 64) (s : State) :
    exec (.mapLookupDone i parity0 parity1) s = s.run (fun s => s.mapLookup i parity0.toNat parity1.toNat) := rfl
theorem exec_ptxLookupDone (i : Nat) (parity0 parity1 : BitVec 64) (s : State) :
    exec (.ptxLookupDone i parity0 parity1) s = s.run (fun s => s.ptxLookup i parity0.toNat parity1.toNat) := rfl
theorem exec_segRebuildDone (i : Nat) (s : State) : exec (.segRebuildDone i) s = s.run (fun s => s.segRebuilt i) := rfl
theorem exec_mapAccPage (p : Path) (page : Word) (s : State) : exec (.mapAccPage p page) s = s.quick (fun s => s.mapAccPage p page.toNat) := rfl
theorem exec_ptxAccStart (p : Path) (line : Fin 64) (s : State) : exec (.ptxAccStart p line) s = s.quick (fun s => s.ptxAccStart p line.val) := rfl
theorem exec_inspectDone_map (s : State) : exec (.inspectDone 0) s = s.quick State.mapInspected := rfl

/-! ### Lookups (R166, R169, R171) -/

section
variable {s v : State} {i : Nat} {m : Miss} {bad0 bad1 : Nat}

/-- A copy verifies and the entry is legal: the miss goes on with it. -/
theorem State.mapLookup_legal (hm : s.mapx.misses[i]? = some m) (he : m.entry = none) (hl : s.segLoaded (m.lln / 64 / 2 ^ 17) = true)
    (hr : s.rebuilding (segKey true (m.lln / 64 / 2 ^ 17)) = false) (hb : s.readBlock 0 (m.lln / 64 / 512) (m.lln / 64 % 512 / 8) bad0 bad1 = (true, v))
    (hlegal : (v.mapEntry (m.lln / 64)).legal = true) : s.mapLookup i bad0 bad1 = v.withEntry m (v.mapEntry (m.lln / 64)) := by
  have hgo : ¬ (m.entry.isSome = true ∨ (!s.segLoaded (m.lln / 64 / 2 ^ 17)) = true ∨ s.rebuilding (segKey true (m.lln / 64 / 2 ^ 17)) = true) := by
    rw [he, hl, hr]
    decide
  unfold State.mapLookup
  simp only [hm, if_neg hgo, hb, hlegal, Bool.not_true, Bool.false_eq_true, if_false]

/-- The counters of a patch lookup that has read `n` buckets and found no slot. -/
def Board.lookupMissed (b : Board) (n : Nat) : Board := (b.count pPTX (F.PTX_PROBE_HIST.COUNT.ix (n - 1)) 1).count pPTX F.PTX_LOOKUP_NONE.COUNT 1

/-- The miss that has learnt that its line has no patch. -/
def Miss.unpatched (m : Miss) : Miss := { m with slot := some none, needSlot := false }

/-- With no map entry yet and no base read to keep, a lookup that finds no slot only counts itself and tells the miss. -/
theorem State.ptxLookup_none (hm : s.mapx.misses[i]? = some m) (hs : m.slot = none) (he : m.entry = none) (hbase : m.base = none)
    (hl : s.segLoaded (24576 + ptxBucket m.lln / 2 ^ 14) = true) (hr : s.rebuilding (segKey false (ptxBucket m.lln / 64)) = false)
    (hb : s.readBlock 12 (ptxBucket m.lln / 64) (ptxBucket m.lln % 64) bad0 bad1 = (true, v)) (hp : (v.probe m.lln).2 = none) :
    s.ptxLookup i bad0 bad1 = (v.on (·.lookupMissed (v.probe m.lln).1)).onMiss m.id Miss.unpatched := by
  have hgo : ¬ (m.slot.isSome = true ∨ (!s.segLoaded (24576 + ptxBucket m.lln / 2 ^ 14)) = true ∨ s.rebuilding (segKey false (ptxBucket m.lln / 64)) = true) := by
    rw [hs, hl, hr]
    decide
  unfold State.ptxLookup
  simp only [hm, if_neg hgo, hb, hp, he, hbase, Option.bind_none, Option.isSome_none, Bool.not_true, Bool.false_eq_true, if_false]
  rfl

end

/-- A lookup with `n` more buckets allowed reads no more than those (R169). -/
theorem State.probeFrom_le (s : State) (b rem n : Nat) : ∀ j, (s.probeFrom b rem n j).1 ≤ j + n := by
  induction n with
  | zero => exact fun j => Nat.le_refl j
  | succ n ih =>
    intro j
    unfold State.probeFrom
    dsimp only
    split
    · simp
    · split
      · exact (ih (j + 1)).trans (by omega)
      · simp

theorem State.probe_le (s : State) (lln : Nat) : (s.probe lln).1 ≤ 4 := s.probeFrom_le _ _ 4 0

/-- The bins of PTX_PROBE_HIST for at most four buckets lie below PTX_LOOKUP_NONE. -/
theorem Board.lookupMissed_count (b : Board) {n : Nat} (hn : n ≤ 4) :
    (b.lookupMissed n).get pPTX F.PTX_LOOKUP_NONE.COUNT = min (2 ^ 32 - 1) (b.get pPTX F.PTX_LOOKUP_NONE.COUNT + 1) := by
  have hoff : (F.PTX_PROBE_HIST.COUNT.ix (n - 1)).off < 0x060 := by
    simp only [Fld.ix]
    omega
  have hbin : (b.count pPTX (F.PTX_PROBE_HIST.COUNT.ix (n - 1)) 1).get pPTX F.PTX_LOOKUP_NONE.COUNT = b.get pPTX F.PTX_LOOKUP_NONE.COUNT :=
    ((Board.Only.refl b [(pPTX, (F.PTX_PROBE_HIST.COUNT.ix (n - 1)).off / 4)]).count 1 (by omega) (by simp)).get _ _
      ⟨by decide, by simp only [List.mem_singleton, Prod.mk.injEq]; omega⟩
  exact (Board.get_count_self _ _ _ _ (by decide)).trans (by rw [hbin])

/-! ### Rebuilds (R110) -/

/-- What tells of a rebuild: its event, and a fault entry where both copies had been lost. -/
def Board.rebuildTold (b : Board) (page : Nat) (e : Ev) (lost : Bool) (info : Nat) : Board :=
  if lost then (b.raiseCode page .integrity e).logFault page e.bit 13 0 info false else b.raiseCode page .integrity e

theorem Board.rebuildTold_status (b : Board) (page : Nat) (e : Ev) (lost : Bool) (info : Nat) (h : e.bit < 32) :
    ((b.rebuildTold page e lost info).rd page 0x010).getLsbD e.bit = true := by
  have hraised : ((b.raiseCode page .integrity e).rd page 0x010).toNat.testBit e.bit = true := b.raises_status page _ { e with code := Code.integrity.num } (by simp) h
  unfold Board.rebuildTold
  split
  · exact (Board.logFault_beside _ _ _ _ _ _ _).status page e.bit hraised
  · exact hraised

section
variable {s : State} {i k since : Nat}

theorem State.segRebuilt_mapx (h : s.mapx.rebuild[i]? = some (k, since)) : (s.segRebuilt i).mapx = { s.mapx with rebuild := s.mapx.rebuild.eraseIdx i } := by
  unfold State.segRebuilt
  rw [h]
  rfl

theorem State.segRebuilt_segment (h : s.mapx.rebuild[i]? = some (k, since)) (hk : k / 2 < 2 ^ 20) :
    ∃ detail took lost, (s.segRebuilt i).bd
      = (s.bd.count pMAP F.MAP_SEG_REBUILD.COUNT 1).rebuildTold pMAP (ev E.MAP.SEG_REBUILD detail (k / 2) took 0) lost (k / 2) := by
  unfold State.segRebuilt
  rw [h]
  exact ⟨_, _, _, if_pos (decide_eq_true hk)⟩

theorem State.segRebuilt_block (h : s.mapx.rebuild[i]? = some (k, since)) (hk : 2 ^ 20 ≤ k / 2) :
    ∃ detail took lost, (s.segRebuilt i).bd = s.bd.rebuildTold pPTX (ev E.PTX.BLOCK_REBUILD detail (k / 2 - 2 ^ 20) took 0) lost (k / 2 - 2 ^ 20) := by
  unfold State.segRebuilt
  rw [h]
  exact ⟨_, _, _, if_neg (by simpa using hk)⟩

end

/-! ### Inspections begin (R186, R187) -/

/-- The registers of MAP once an inspection of a page has been asked for. -/
def Board.mapAsked (b : Board) (page : Nat) : Board := (b.put pMAP F.MAP_ACC_PAGE.PAGE page).put pMAP F.MAP_ACC_STAT.BUSY 1

theorem Board.mapAsked_shows (b : Board) (page : Word) : (b.mapAsked page.toNat).on pMAP F.MAP_ACC_STAT.BUSY = true ∧ (b.mapAsked page.toNat).rd pMAP 0x050 = page := by
  refine ⟨Board.on_put_one _ _ _ (by decide), ?_⟩
  calc (b.mapAsked page.toNat).rd pMAP 0x050
      = (b.put pMAP F.MAP_ACC_PAGE.PAGE page.toNat).rd pMAP 0x050 := Board.rd_wr_off (by decide) (by decide) (by decide)
    _ = wordSet (b.rd pMAP 0x050) 0 32 page.toNat := Board.rd_wr_self _ _ _ _
    _ = page := by rw [wordSet_whole, BitVec.ofNat_toNat, BitVec.setWidth_eq]

theorem State.mapAccPage_starts {s : State} {p : Path} (hg : s.bd.gate p pMAP 0x050 false false = none) (hb : s.bd.on pMAP F.MAP_ACC_STAT.BUSY = false) (page : Nat) :
    s.mapAccPage p page = { s with bd := s.bd.mapAsked page, mapx := { s.mapx with inspectMap := some page } } := by
  unfold State.mapAccPage
  rw [State.written_pass hg, if_neg (by simp [hb])]
  rfl

/-- The registers of PTX once an inspection of a line has been asked for. -/
def Board.ptxAsked (b : Board) (line : Nat) : Board :=
  ((b.put pPTX F.PTX_ACC_CMD.LINE line).put pPTX F.PTX_ACC_CMD.START 1).put pPTX F.PTX_ACC_STAT.BUSY 1

theorem Board.ptxAsked_only (b : Board) (line : Nat) : b.Only (b.ptxAsked line) [(pPTX, 26), (pPTX, 30)] :=
  (((Board.Only.refl b _).put _ (by decide) (by decide)).put _ (by decide) (by decide)).put _ (by decide) (by decide)

theorem Board.ptxAsked_shows (b : Board) {line : Nat} (h : line < 64) :
    (b.ptxAsked line).on pPTX F.PTX_ACC_STAT.BUSY = true ∧ (b.ptxAsked line).get pPTX F.PTX_ACC_CMD.LINE = line := by
  refine ⟨Board.on_put_one _ _ _ (by decide), ?_⟩
  calc (b.ptxAsked line).get pPTX F.PTX_ACC_CMD.LINE
      = _ := Board.get_put_clear _ _ (by decide) (by decide)
    _ = _ := Board.get_put_clear _ _ (by decide) (by decide)
    _ = line % 2 ^ 6 := Board.get_put_self _ _ _ _ (by decide)
    _ = line := Nat.mod_eq_of_lt h

theorem State.ptxAccStart_starts {s : State} {p : Path} (hg : s.bd.gate p pPTX 0x068 false false = none) (hb : s.bd.on pPTX F.PTX_ACC_STAT.BUSY = false) (line : Nat) :
    s.ptxAccStart p line
      = { s with bd := s.bd.ptxAsked line, mapx := { s.mapx with inspectPtx := some (s.bd.get pPTX F.PTX_ACC_PAGE.PAGE * 64 + line) } } := by
  have hpage : (s.bd.ptxAsked line).get pPTX F.PTX_ACC_PAGE.PAGE = s.bd.get pPTX F.PTX_ACC_PAGE.PAGE := (s.bd.ptxAsked_only line).get _ _ (by decide)
  unfold State.ptxAccStart
  rw [State.written_pass hg, if_neg (by simp [hb]), ← hpage]
  rfl

/-! ### A map inspection ends (R186) -/

/-- An inspection of MAP that has ended with a code. -/
def Board.mapEnded (b : Board) (code : Nat) : Board := (b.put pMAP F.MAP_ACC_STAT.BUSY 0).put pMAP F.MAP_ACC_STAT.RESULT code

/-- The entry that an inspection has found. -/
def Board.entryShown (b : Board) (w : Nat) : Board := (b.put pMAP F.MAP_ACC_LO.ENTRY_LO w).put pMAP F.MAP_ACC_HI.ENTRY_HI (w / 2 ^ 32)

theorem Board.mapEnded_shows (b : Board) (c : Code) :
    (b.mapEnded c.num).on pMAP F.MAP_ACC_STAT.BUSY = false ∧ (b.mapEnded c.num).get pMAP F.MAP_ACC_STAT.RESULT = c.num :=
  ⟨(Board.on_put_clear _ _ (by decide) (by decide)).trans (Board.on_put_zero _ _ _ (by decide)),
    (Board.get_put_self _ _ _ _ (by decide)).trans (Nat.mod_eq_of_lt (Code.num_lt c))⟩

theorem Board.entryShown_only (b : Board) (w : Nat) : b.Only (b.entryShown w) [(pMAP, 21), (pMAP, 22)] :=
  ((Board.Only.refl b _).put _ (by decide) (by decide)).put _ (by decide) (by decide)

theorem Board.entryShown_entry (b : Board) (w : Nat) : (b.entryShown w).get64 pMAP F.MAP_ACC_LO.ENTRY_LO F.MAP_ACC_HI.ENTRY_HI = w % 2 ^ 64 := by
  have hlo : (b.entryShown w).get pMAP F.MAP_ACC_LO.ENTRY_LO = w % 2 ^ 32 :=
    (Board.get_put_clear _ _ (by decide) (by decide)).trans (Board.get_put_self _ _ _ _ (by decide))
  have hhi : (b.entryShown w).get pMAP F.MAP_ACC_HI.ENTRY_HI = w / 2 ^ 32 % 2 ^ 32 := Board.get_put_self _ _ _ _ (by decide)
  unfold Board.get64
  rw [hlo, hhi]
  omega

section
variable {s : State} {page : Nat}

theorem State.mapInspected_finds (h : s.mapx.inspectMap = some page) (hp : page < localPages) (hl : s.segLoaded (page / 2 ^ 17) = true) :
    s.mapInspected = { s with bd := (s.bd.mapEnded Code.ok.num).entryShown (s.mapEntry page).word, mapx := { s.mapx with inspectMap := none } } := by
  unfold State.mapInspected
  simp only [h, hl, hp, if_true, Bool.not_true, Bool.false_eq_true, and_false, if_false]
  rfl

theorem State.mapInspected_beyond (h : s.mapx.inspectMap = some page) (hp : localPages ≤ page) :
    s.mapInspected = { s with bd := s.bd.mapEnded Code.length.num, mapx := { s.mapx with inspectMap := none } } := by
  have hp' : ¬ page < localPages := Nat.not_lt.2 hp
  unfold State.mapInspected
  simp only [h, hp', false_and, if_false]
  rfl

end

end Sys2Proof.Machine

open Sys2Proof Sys2Proof.Machine

/-- Settles O19 (R110, R166, R169, R171, R186, R187): what a lookup, a rebuild and an inspection leave is named once, and the counters, events and fault entries beside it
leave the registers that it shows alone. -/
theorem mapAndIndexLookups : Obligations.MapAndIndexLookups := by
  intro s p i m
  refine ⟨fun v hm he hl hr hb hlegal => ?entry, fun v hm hs he hbase hl hr hb hp => ?noSlot, fun k since hk => ?rebuilds, fun page hg hb => ?mapAsked,
    fun line hg hb => ?ptxAsked, fun page hq hl => ?inspected⟩
  case entry => exact ⟨_, Runs.of_run (exec_mapLookupDone i 0 0 s) (State.mapLookup_legal hm he hl hr hb hlegal), rfl⟩
  case noSlot =>
    exact ⟨_, Runs.of_run (exec_ptxLookupDone i 0 0 s) (State.ptxLookup_none hm hs he hbase hl hr hb hp), rfl, rfl,
      v.bd.lookupMissed_count (v.probe_le m.lln), rfl⟩
  case rebuilds =>
    have hmapx := State.segRebuilt_mapx hk
    refine ⟨_, Runs.of_run (exec_segRebuildDone i s) rfl, (congrArg Mapx.rebuild hmapx :), (congrArg Mapx.map hmapx :), fun hseg => ?_, fun hblock => ?_⟩
    · obtain ⟨detail, took, lost, hbd⟩ := State.segRebuilt_segment hk hseg
      exact hbd ▸ Board.rebuildTold_status _ _ _ _ _ (show E.MAP.SEG_REBUILD < 32 by decide)
    · obtain ⟨detail, took, lost, hbd⟩ := State.segRebuilt_block hk hblock
      exact hbd ▸ Board.rebuildTold_status _ _ _ _ _ (show E.PTX.BLOCK_REBUILD < 32 by decide)
  case mapAsked =>
    obtain ⟨hbusy, hpage⟩ := s.bd.mapAsked_shows page
    exact ⟨_, Ends.of_quick (exec_mapAccPage p page s) (State.mapAccPage_starts hg hb _), rfl, hbusy, hpage⟩
  case ptxAsked =>
    obtain ⟨hbusy, hline⟩ := s.bd.ptxAsked_shows line.isLt
    exact ⟨_, Ends.of_quick (exec_ptxAccStart p line s) (State.ptxAccStart_starts hg hb _), rfl, hbusy, hline⟩
  case inspected =>
    rcases Nat.lt_or_ge page localPages with hin | hout
    · obtain ⟨hbusy, hcode⟩ := s.bd.mapEnded_shows .ok
      have hkeep := (s.bd.mapEnded Code.ok.num).entryShown_only (s.mapEntry page).word
      exact ⟨_, Ends.of_quick (exec_inspectDone_map s) (State.mapInspected_finds hq hin (hl hin)), rfl, (hkeep.on _ _ (by decide)).trans hbusy,
        fun _ => ⟨(hkeep.get _ _ (by decide)).trans hcode, Board.entryShown_entry _ _⟩, fun hout => absurd hin (Nat.not_lt.2 hout)⟩
    · obtain ⟨hbusy, hcode⟩ := s.bd.mapEnded_shows .length
      exact ⟨_, Ends.of_quick (exec_inspectDone_map s) (State.mapInspected_beyond hq hout), rfl, hbusy, fun hin => absurd hin (Nat.not_lt.2 hout), fun _ => hcode⟩

end

section
/-! Expiries of the write path (O27): hold times, commit spacing and the overdue stripe (R190, R191, R297, R345). That an expiry is a moment of the part's one clock, to which
the clock moves on, is the model's choice (log entry 43). -/

namespace Sys2Proof.Machine

theorem exec_denseHoldExpiry (page : Nat) (s : State) : exec (.denseHoldExpiry page) s = s.run (fun s => s.denseHold page) := rfl
theorem exec_patchHoldExpiry (s : State) : exec .patchHoldExpiry s = s.run (fun s => s.patchHold) := rfl
theorem exec_foldSpacingExpiry (s : State) : exec .foldSpacingExpiry s = s.run (fun s => s.foldSpacing) := rfl
theorem exec_stripeOverdue (s : State) : exec .stripeOverdue s = s.run (fun s => s.stripeOverdue) := rfl

/-- The clock stands on the board, and nothing below the board follows it. -/
theorem State.sameBelow_upTo (s : State) (t : Nat) : s.SameBelow (s.upTo t) := rfl

section
variable {s : State} {t : Nat}

theorem State.denseHold_due {page i : Nat} {f : Frame} (hf : s.frameOf page = some (i, f))
    (ht : leastOf ((f.lines.filter (fun l => l.2.dirty && !l.2.patched)).map (fun l => l.2.since)) = some t) : s.denseHold page = s.upTo (t + s.bd.holdTime) := by
  unfold State.denseHold
  simp only [hf, ht]

theorem State.patchHold_due (ht : leastOf (s.wp.patches.map PatchRef.since) = some t) : s.patchHold = s.upTo (t + s.bd.holdTime) := by
  unfold State.patchHold
  rw [ht]

theorem State.foldSpacing_due
    (ht : leastOf ((s.wp.folds.filter (fun f => f.programmed.isSome)).filterMap (fun f => (smFind f.page s.wp.lastCommit).map (· + 120))) = some t) :
    s.foldSpacing = s.upTo t := by
  unfold State.foldSpacing
  rw [ht]

/-- With no hold-up declared, the stripe of the oldest dirty line is judged, and issued, 100 µs after the line was written (R345). -/
theorem State.stripeOverdue_due {lln : Nat} (ho : s.oldestDirty = some (lln, t)) (hd : s.bd.declared = false) :
    s.stripeOverdue = (s.upTo (t + 100)).judgeOverdue.issueOverdue := by
  unfold State.stripeOverdue
  simp only [ho, hd, Bool.false_eq_true, if_false]

end

end Sys2Proof.Machine

open Sys2Proof Sys2Proof.Machine

/-- Settles O27 (R190, R191, R297, R345): each row, with something that waits, is a move of the clock to the end of the wait. The clock is the model's (log entry 43). -/
theorem expiriesMoveTheClock : Obligations.ExpiriesMoveTheClock := by
  intro s t
  refine ⟨fun page i f hf ht => ?denseHold, fun ht => ?patchHold, fun ht => ?foldSpacing, fun lln ho hd => ?overdue⟩
  case denseHold =>
    exact ⟨_, Runs.of_run (exec_denseHoldExpiry page s) (State.denseHold_due hf ht), s.sameBelow_upTo _, s.upTo_bd _⟩
  case patchHold =>
    exact ⟨_, Runs.of_run (exec_patchHoldExpiry s) (State.patchHold_due ht), s.sameBelow_upTo _, s.upTo_bd _⟩
  case foldSpacing =>
    exact ⟨_, Runs.of_run (exec_foldSpacingExpiry s) (State.foldSpacing_due ht), s.sameBelow_upTo _, s.upTo_bd _⟩
  case overdue =>
    exact ⟨_, s.upTo (t + 100), Runs.of_run (exec_stripeOverdue s) (State.stripeOverdue_due ho hd), s.sameBelow_upTo _, s.upTo_bd _, rfl⟩

end

section
/-! Periodic work of ages, patrol, health and temperature (O29): R213, R217, R218, R222, R228, R238, R242, R246, R247, R462. That a row that comes before its period is over moves
the clock on to the end of it, and one that comes late happens when it comes, is the model's choice (log entries 43 and 149). -/

namespace Sys2Proof.Machine

theorem exec_thermalRound (readings : List (Option (BitVec 16))) (s : State) :
    exec (.thermalRound readings) s = s.run (fun s => s.thermalRound (readings.map (fun x => x.map BitVec.toInt))) := rfl
theorem exec_oldMarkTick (s : State) : exec .oldMarkTick s = s.quick State.oldTick := rfl
theorem exec_ageSave (s : State) : exec .ageSave s = s.quick State.ageSave := rfl
theorem exec_ptlCursorSave (s : State) : exec .ptlCursorSave s = s.quick State.patrolSave := rfl
theorem exec_healthSave (s : State) : exec .healthSave s = s.quick State.healthSave := rfl
theorem exec_healthMetaCopy (s : State) : exec .healthMetaCopy s = s.quick State.healthCopy := rfl
theorem exec_wgvDaily (s : State) : exec .wgvDaily s = s.quick State.wgvDaily := rfl

/-! ### Ticks and saves (R222, R228, R238) -/

theorem State.oldTick_marks {s : State} (h : s.bd.powered pAGE = true) :
    s.oldTick = ((s.on (fun b => b.elapse 0 60000000)).markOld (fun n => decide (32000000 ≤ (s.on (fun b => b.elapse 0 60000000)).age32 n))).2 := if_pos h

theorem State.ageSave_saves {s : State} (h : s.bd.powered pAGE = true) : s.ageSave = (s.on (fun b => b.elapse 1 60000000)).saveAge := if_pos h

theorem State.patrolSave_saves {s : State} (h : s.bd.powered pPTL = true) : s.patrolSave = (s.on (fun b => b.elapse 3 60000000)).savePatrol := if_pos h

/-! ### What health leaves alone (R242 to R245) -/

/-- Two states agree on everything but the board, the block of ages and health, and the heads with their logs. -/
def State.SameButHealth (s t : State) : Prop := { t with bd := s.bd, age := s.age, heads := s.heads } = s

section
variable {s t u : State}

theorem State.SameButHealth.refl (s : State) : s.SameButHealth s := rfl

theorem State.SameButHealth.trans (h : s.SameButHealth t) (k : t.SameButHealth u) : s.SameButHealth u := by
  have e : ({ u with bd := s.bd, age := s.age, heads := s.heads } : State)
      = { ({ u with bd := t.bd, age := t.age, heads := t.heads } : State) with bd := s.bd, age := s.age, heads := s.heads } := rfl
  unfold State.SameButHealth at h k ⊢
  rw [e, k, h]

theorem State.SameButHealth.thm (h : s.SameButHealth t) : t.thm = s.thm := (congrArg State.thm h :)

theorem State.SameButHealth.media (h : s.SameButHealth t) : t.media = s.media := (congrArg State.media h :)

theorem State.SameButHealth.ite {P : Prop} [Decidable P] (h : s.SameButHealth t) (k : s.SameButHealth u) : s.SameButHealth (if P then t else u) := by
  split
  · exact h
  · exact k

theorem State.SameButHealth.on (h : s.SameButHealth t) (f : Board → Board) : s.SameButHealth (t.on f) := h

theorem State.SameButHealth.foldl {α : Type} {f : State → α → State} (hf : ∀ (t : State) (x : α), t.SameButHealth (f t x)) (l : List α) :
    ∀ s : State, s.SameButHealth (l.foldl f s) := by
  induction l with
  | nil => exact .refl
  | cons x l ih => exact fun s => (hf s x).trans (ih _)

end

theorem State.hostRecord_same (s : State) (h log kind addr cause info : Nat) : s.SameButHealth (s.hostRecord h log kind addr cause info) := by
  have hlogged : ∀ f : Head → Head, s.SameButHealth (s.onHead h f) := fun _ => rfl
  unfold State.hostRecord
  cases s.head? h with
  | none => exact .refl s
  | some d =>
    dsimp only
    cases d.logVector log with
    | none => exact .ite ((hlogged _).on _) (hlogged _)
    | some v => exact .ite (.on (.ite ((hlogged _).on _) (hlogged _)) _) (.ite ((hlogged _).on _) (hlogged _))

theorem State.warn_same (s : State) (n : Nat) (now : Bool) (e : Ev) : s.SameButHealth (s.warn n now e) := by
  have hnoted : s.SameButHealth { s with age := { s.age with warned := nsetbit s.age.warned n now } } := rfl
  unfold State.warn
  refine .ite (.refl s) (.trans (.ite (hnoted.on _) hnoted) (.foldl (fun t h => ?_) _ _))
  exact .ite (t.hostRecord_same h _ 1 0 (n + 1) (bit now)) (.refl t)

theorem State.followHealth_same (s : State) : s.SameButHealth s.followHealth := by
  have hnoted : ∀ (t : State) w, t.SameButHealth { t with age := { t.age with warned := w } } := fun _ _ => rfl
  have hwarned : ∀ (f : Board → Board) below above (e e' : Ev), s.SameButHealth (((s.on f).warn 0 below e).warn 1 above e') := fun f _ _ _ _ =>
    (((State.SameButHealth.refl s).on f).trans (State.warn_same _ _ _ _)).trans (State.warn_same _ _ _ _)
  unfold State.followHealth
  refine (State.SameButHealth.refl s).ite (State.SameButHealth.on (.trans ?_ (hnoted _ _)) _)
  exact ((hwarned _ _ _ _ _).on _).ite (hwarned _ _ _ _ _)

theorem State.histRound_same (s : State) (base : Nat) (x : Option (Int × Nat)) : s.SameButHealth (s.histRound base x) := by
  cases x with
  | none => exact .refl s
  | some x => rfl

/-! ### The thermal round (R217, R462) -/

/-- A round whose period began at `last`, as far as the age clocks: the sensors are judged, the throttle follows, and the clocks advance by what has passed. -/
def State.agedRound (v : State) (temps : List (Option Int)) (last : Nat) : State :=
  (((v.mediaTemps temps).2.judgeSensors (v.mediaTemps temps).1).throttle).ageRound (v.bd.now - last)

/-- The state that a round finds at the end of its period. -/
def State.roundDue (s : State) : State := s.on (fun b => b.elapse 4 10000)

/-- The readings of the 52 sensors; one that is not given is none. -/
def sensorReadings (temps : List (Option Int)) : List (Option Int) := (List.range 52).map (fun n => temps.getD n none)

/-- After the age clocks a round does health's work alone, and none where health is unpowered. -/
theorem State.thermalRound_after {s w : State} {temps : List (Option Int)} (hw : w = s.roundDue.agedRound (sensorReadings temps) (smGet (fun _ => 0) s.bd.marks 4)) :
    w.SameButHealth (s.thermalRound temps) ∧ (w.bd.powered pHLT = false → s.thermalRound temps = w) := by
  obtain ⟨⟨taken, v⟩, hm⟩ : ∃ x, s.roundDue.mediaTemps (sensorReadings temps) = x := ⟨_, rfl⟩
  unfold State.agedRound at hw
  simp only [hm] at hw
  unfold State.roundDue at hm hw
  unfold sensorReadings at hm
  unfold State.thermalRound
  simp only [hm, ← hw]
  have hhists : ∀ j m, w.SameButHealth ((w.histRound 0 j).histRound 16 m) := fun _ _ => (w.histRound_same _ _).trans (State.histRound_same _ _ _)
  have hwarned : ∀ (j m) (f : Board → Board) now e, w.SameButHealth ((((w.histRound 0 j).histRound 16 m).on f).warn 2 now e) := fun j m f _ _ =>
    ((hhists j m).on f).trans (State.warn_same _ _ _ _)
  exact ⟨.ite (.refl w) ((hwarned _ _ _ _ _).trans (State.followHealth_same _)), fun h => if_pos h⟩

/-! ### The wear governor's day (R247, R248) -/

theorem Board.elapse_now (b : Board) (k us : Nat) : (b.elapse k us).now = max b.now (smGet (fun _ => 0) b.marks k + us) := rfl

theorem Board.raises_now (b : Board) (page : Nat) (evs : List Ev) : (b.raises page evs).now = b.now := (congrArg Board.now (b.raises_frame page evs).same :)

theorem Board.count_now (b : Board) (page : Nat) (f : Fld) (n : Nat) : (b.count page f n).now = b.now := Board.tally_now _ _ _ _

theorem Board.pinLoop_now (b : Board) (n bound sought : Nat) : (b.pinLoop n bound sought).now = b.now :=
  (Board.raises_now _ _ _).trans (Board.count_now _ _ _ _)

theorem Board.pins_beside (b : Board) (ks : List (Nat × Nat)) (n : Nat) : b.Beside ks { b with pins := n } := ⟨fun _ _ _ _ _ => rfl, fun _ _ h => h⟩

/-- Beside its event a pin of the write-rate loop writes LOOP_PINNED and the loop's LOOP_PIN. -/
theorem Board.pinLoop_beside (b : Board) (bound sought : Nat) : b.Beside [(pLOOP, 21), (pLOOP, 32)] (b.pinLoop 2 bound sought) := by
  have hcounted : b.Only ((b.put pLOOP F.LOOP_PINNED.LATCHED (nsetbit (b.get pLOOP F.LOOP_PINNED.LATCHED) 2 true)).count pLOOP (F.LOOP_PIN.COUNT.ix 2) 1)
      [(pLOOP, 21), (pLOOP, 32)] := ((Board.Only.refl b _).put _ (by decide) (by decide)).count _ (by decide) (by decide)
  exact ((hcounted.beside (by simp)).trans (Board.pins_beside _ _ _)).raise _ _

/-- The hours that have passed are counted, and the mark of the last one moves on. -/
theorem State.countHours_bd (s : State) : ∃ hours marks, s.countHours.bd = { s.bd.count pWGV F.WGV_SERVICE.HOURS hours with marks := marks } := ⟨_, _, rfl⟩

theorem State.countHours_now (s : State) : s.countHours.bd.now = s.bd.now := by
  obtain ⟨hours, marks, hbd⟩ := s.countHours_bd
  rw [hbd]
  exact s.bd.count_now _ _ _

theorem State.countHours_only (s : State) : s.bd.Only s.countHours.bd [(pWGV, 21)] := by
  obtain ⟨hours, marks, hbd⟩ := s.countHours_bd
  have hcounted : s.bd.Only (s.bd.count pWGV F.WGV_SERVICE.HOURS hours) [(pWGV, 21)] := (Board.Only.refl _ _).count _ (by decide) (by decide)
  rw [hbd]
  exact hcounted

/-- The state that the wear governor finds at the end of its day, the hours counted. -/
def State.wearDue (s : State) : State := (s.on (fun b => b.elapse 8 86400000000)).countHours

theorem State.wearDue_powered (s : State) : s.wearDue.bd.powered pWGV = s.bd.powered pWGV := (State.countHours_only _).domainOn (by decide) _

theorem State.wearDue_now (s : State) : s.wearDue.bd.now = max s.bd.now (smGet (fun _ => 0) s.bd.marks 8 + 86400000000) :=
  (State.countHours_now _).trans (s.bd.elapse_now _ _)

/-- The mean wear of the fields that are not retired, over all that the part has (R247). -/
def State.meanWear (s : State) : Nat :=
  ((s.media.fields.filter (fun (e : Nat × Field) => !e.2.retired)).map (fun (e : Nat × Field) => e.2.wear)).sum
    / max 1 (2 ^ 20 - (s.media.fields.length - (s.media.fields.filter (fun (e : Nat × Field) => !e.2.retired)).length))

/-- The registers of WGV once its figures have been reckoned. -/
def Board.wearShown (b : Board) (mean top rate proj life ceil pinned : Nat) : Board :=
  ((((((b.put pWGV F.WGV_MEAN.UNITS mean).put pWGV F.WGV_MAX.UNITS top).put pWGV F.WGV_RATE.UNITS rate).put pWGV F.WGV_PROJ.YEARS proj).put pWGV F.WGV_LIFE.LIFE_USED life).put
    pWGV F.WGV_CEIL.PCT ceil).put pWGV F.WGV_CEIL.PINNED pinned

theorem Board.wearShown_now (b : Board) (mean top rate proj life ceil pinned : Nat) : (b.wearShown mean top rate proj life ceil pinned).now = b.now := rfl

theorem Board.wearShown_mean (b : Board) (mean top rate proj life ceil pinned : Nat) :
    (b.wearShown mean top rate proj life ceil pinned).get pWGV F.WGV_MEAN.UNITS = mean % 2 ^ 25 := by
  have hbeside : (b.put pWGV F.WGV_MEAN.UNITS mean).Only (b.wearShown mean top rate proj life ceil pinned) [(pWGV, 18), (pWGV, 19), (pWGV, 20), (pWGV, 22), (pWGV, 23)] :=
    ((((((Board.Only.refl _ _).put _ (by decide) (by decide)).put _ (by decide) (by decide)).put _ (by decide) (by decide)).put _ (by decide) (by decide)).put _
      (by decide) (by decide)).put _ (by decide) (by decide)
  exact (hbeside.get _ _ (by decide)).trans (Board.get_put_self _ _ _ _ (by decide))

/-- The day's events, and the pin of the write-rate loop where the ceiling would lie below its bound. -/
def Board.wearTold (b : Board) (evs : List Ev) (pinned : Bool) (bound sought : Nat) : Board :=
  if pinned then (b.raises pWGV evs).pinLoop 2 bound sought else b.raises pWGV evs

theorem Board.wearTold_now (b : Board) (evs : List Ev) (pinned : Bool) (bound sought : Nat) : (b.wearTold evs pinned bound sought).now = b.now := by
  unfold Board.wearTold
  split
  · exact (Board.pinLoop_now _ _ _ _).trans (b.raises_now _ _)
  · exact b.raises_now _ _

theorem Board.wearTold_mean (b : Board) (evs : List Ev) (pinned : Bool) (bound sought : Nat) :
    (b.wearTold evs pinned bound sought).get pWGV F.WGV_MEAN.UNITS = b.get pWGV F.WGV_MEAN.UNITS := by
  have hraised := (b.raises_frame pWGV evs).beside [(pLOOP, 21), (pLOOP, 32)]
  unfold Board.wearTold
  split
  · exact (hraised.trans (Board.pinLoop_beside _ _ _)).get _ _ (by decide)
  · exact hraised.get _ _ (by decide)

/-- The day's work: the mean joins the log of 255 days, the figures are shown and told, and health follows. -/
theorem State.wgvDaily_reckons {s : State} (h : s.bd.powered pWGV = true) :
    ∃ v : State, ∃ top rate proj life ceil pinned evs bound sought, s.wgvDaily = v.followHealth ∧ v.media = s.media
      ∧ v.age = { s.age with wearLog := (s.age.wearLog ++ [s.meanWear]).drop (s.age.wearLog.length + 1 - 255) }
      ∧ v.bd = (s.wearDue.bd.wearShown s.meanWear top rate proj life ceil (bit pinned)).wearTold evs pinned bound sought := by
  have hon : ¬ s.wearDue.bd.powered pWGV = false := by simp [s.wearDue_powered, h]
  exact ⟨_, _, _, _, _, _, _, _, _, _, if_neg hon, rfl, rfl, rfl⟩

end Sys2Proof.Machine

open Sys2Proof Sys2Proof.Machine

/-- Settles O29 (R213, R217, R218, R222, R228, R238, R242, R246, R247, R462): each row begins with a move of the clock to the end of its period, and what it then does is
named once. The period's end is the model's choice (log entries 43 and 149). -/
theorem periodicWorkKeepsItsPeriods : Obligations.PeriodicWorkKeepsItsPeriods := by
  intro s
  refine ⟨fun readings => ?thermal, fun h => ?oldMark, fun h => ?ageSave, fun h => ?cursorSave, ?healthSave, ?metaCopy, fun h => ?wear⟩
  case thermal =>
    obtain ⟨hsame, hunpowered⟩ := State.thermalRound_after (s := s) (temps := readings.map (fun x => x.map BitVec.toInt)) rfl
    exact ⟨_, _, _, _, Runs.of_run (exec_thermalRound readings s) rfl, rfl, rfl, rfl, hsame.thm, hsame.media, hunpowered⟩
  case oldMark => exact ⟨_, _, Ends.of_quick (exec_oldMarkTick s) (State.oldTick_marks h), rfl, rfl⟩
  case ageSave => exact ⟨_, _, Ends.of_quick (exec_ageSave s) (State.ageSave_saves h), rfl, rfl⟩
  case cursorSave => exact ⟨_, _, Ends.of_quick (exec_ptlCursorSave s) (State.patrolSave_saves h), rfl, rfl⟩
  case healthSave => exact ⟨_, _, Ends.of_quick (exec_healthSave s) rfl, rfl, rfl⟩
  case metaCopy => exact ⟨_, _, Ends.of_quick (exec_healthMetaCopy s) rfl, rfl, rfl⟩
  case wear =>
    obtain ⟨v, top, rate, proj, life, ceil, pinned, evs, bound, sought, hday, hmedia, hage, hbd⟩ := State.wgvDaily_reckons h
    have hmean : v.bd.get pWGV F.WGV_MEAN.UNITS = s.meanWear % 2 ^ 25 := by rw [hbd, Board.wearTold_mean, Board.wearShown_mean]
    have hlog : v.age.wearLog = (s.age.wearLog ++ [s.meanWear]).drop (s.age.wearLog.length + 1 - 255) := by rw [hage]
    have hnow : v.bd.now = max s.bd.now (smGet (fun _ => 0) s.bd.marks 8 + 86400000000) := by
      rw [hbd, Board.wearTold_now, Board.wearShown_now, State.wearDue_now]
    exact ⟨_, v, s.meanWear, Ends.of_quick (exec_wgvDaily s) hday, rfl, rfl, hmean, hlog, hnow, hmedia⟩

end

section
/-! Patrol and the inspection of a field (O30): R235, R237, R248, R249. That the minute of the patrol rate is a move of the model's clock to its end is the model's choice (log
entries 43 and 149). -/

namespace Sys2Proof.Machine

theorem exec_patrolIssue (s : State) : exec .patrolIssue s = s.run State.patrolIssue := rfl
theorem exec_patrolRatePeriod (s : State) : exec .patrolRatePeriod s = s.quick State.patrolRate := rfl
theorem exec_ageInsp (p : Path) (field : Fin 1048576) (start : Bool) (s : State) : exec (.ageInsp p field start) s = s.quick (fun s => s.ageInsp p field.val start) := rfl

/-! ### Suspects first (R237) -/

/-- Queueing a read for a partition leaves the reads in flight and the queue of suspects alone. -/
theorem State.reach_keeps (s : State) (ppa : Nat) : (s.reach ppa).2.mapx = s.mapx ∧ (s.reach ppa).2.age = s.age := by
  unfold State.reach
  cases s.opAt ppa with
  | none => exact ⟨rfl, rfl⟩
  | some o =>
    dsimp only
    split
    · exact ⟨rfl, rfl⟩
    · split <;> exact ⟨rfl, rfl⟩

/-- A patrol read joins the reads in flight, as a read of the whole page. -/
theorem State.issuePatrol_reads (s : State) (ppa : Nat) :
    ∃ r : MRead, (s.issuePatrol ppa).mapx.reads = s.mapx.reads ++ [r] ∧ r.ppa = ppa ∧ r.whole = true ∧ (s.issuePatrol ppa).age = s.age := by
  obtain ⟨hmapx, hage⟩ := (s.predict ppa).2.reach_keeps ppa
  exact ⟨_, congrArg (fun m : Mapx => m.reads ++ [_]) hmapx, rfl, rfl, hage⟩

/-- The oldest suspect leaves the queue and is read, where its page is there and in use. -/
theorem State.patrolIssue_suspect {s : State} {ppa : Nat} {rest : List Nat} (hruns : s.patrolRuns = true) (hroom : s.bgInFlight < s.bd.get pMAP F.MAP_CFG.BG_MAX)
    (hs : s.age.suspects = ppa :: rest) (hpage : (s.mediaPage ppa).isSome = true) (huse : s.patrols ppa = true) :
    s.patrolIssue = ({ s with age := { s.age with suspects := rest } } : State).issuePatrol ppa := by
  have hgo : ¬ ((!s.patrolRuns) = true ∨ s.bd.get pMAP F.MAP_CFG.BG_MAX ≤ s.bgInFlight) := by simp [hruns, hroom]
  unfold State.patrolIssue
  rw [if_neg hgo, hs]
  exact if_pos ⟨hpage, huse⟩

/-! ### The rate of the lap (R235) -/

section
variable {s : State} {c : Board}

/-- Whether a page can be read at its place does not hang on PTL_ELAPSED. -/
theorem Board.Only.readable {b : Board} (h : b.Only c [(pPTL, 19)]) (ppa : Nat) : c.readable ppa = b.readable ppa := by
  unfold Board.readable Board.dieState Board.channelOut Board.unit
  rw [h.get _ _ ⟨by decide, by simp⟩, h.get _ _ ⟨by decide, by simp⟩, h.on _ _ ⟨by decide, by simp⟩]

/-- What the lap has still to read does not depend on how long it has run. -/
theorem State.lapLeft_elapsed (h : s.bd.Only c [(pPTL, 19)]) : ({ s with bd := c } : State).lapLeft = s.lapLeft := by
  have hcursor : ({ s with bd := c } : State).cursor = s.cursor := by
    unfold State.cursor
    rw [h.get _ _ (by decide), h.get _ _ (by decide)]
  have hpatrols : ∀ ppa, ({ s with bd := c } : State).patrols ppa = s.patrols ppa := fun ppa => congrArg (_ && ·) (h.readable ppa)
  unfold State.lapLeft
  simp only [hcursor, hpatrols]

end

/-- The board at the end of the minute of the patrol rate, the minute counted to the lap. -/
def Board.lapMinute (b : Board) : Board := (b.elapse 2 60000000).count pPTL F.PTL_ELAPSED.MINUTES 1

theorem Board.lapMinute_only (b : Board) : b.Only b.lapMinute [(pPTL, 19)] :=
  (show b.Only (b.elapse 2 60000000) [(pPTL, 19)] from .refl b _).count 1 (by decide) (by decide)

theorem Board.lapMinute_minutes (b : Board) :
    b.lapMinute.get pPTL F.PTL_ELAPSED.MINUTES = min (2 ^ F.PTL_ELAPSED.MINUTES.width - 1) (b.get pPTL F.PTL_ELAPSED.MINUTES + 1) :=
  Board.get_count_self _ _ _ _ (by decide)

theorem Board.lapMinute_now (b : Board) : b.lapMinute.now = max b.now (smGet (fun _ => 0) b.marks 2 + 60000000) := Board.tally_now _ _ _ _

/-- The pages per second that the rest of a lap needs, where it is no priority lap (R235). -/
def State.lapNeeds (s : State) : Nat := s.lapLeft / max 1 ((s.bd.get pPTL F.PTL_CFG.LAP_HOURS * 60 - s.bd.get pPTL F.PTL_ELAPSED.MINUTES) * 60)

/-- A rate that keeps within the bound of LOOP is taken. -/
theorem State.patrolRate_within {s : State} (hu : s.bd.unit pPTL = stSERVICE) (he : s.bd.on pPTL F.PTL_CFG.EN = true) (hp : s.bd.on pPTL F.PTL_LAP.PRIORITY = false)
    (hcap : (s.on Board.lapMinute).lapNeeds ≤ s.bd.get pLOOP F.LOOP_PATROL.MAX_RATE) :
    s.patrolRate = s.on (fun b => b.lapMinute.put pPTL F.PTL_RATE.PAGES (min 0xFFFFFF (s.on Board.lapMinute).lapNeeds)) := by
  have hserves : ¬ ((s.on (fun b => b.elapse 2 60000000)).bd.unit pPTL ≠ stSERVICE ∨ (!(s.on (fun b => b.elapse 2 60000000)).bd.on pPTL F.PTL_CFG.EN) = true) :=
    not_or.2 ⟨not_not.2 hu, (by simp [he] : ¬ (!s.bd.on pPTL F.PTL_CFG.EN) = true)⟩
  have hlap : ¬ (s.on Board.lapMinute).bd.on pPTL F.PTL_LAP.PRIORITY = true := by
    rw [State.on_bd, s.bd.lapMinute_only.on _ _ (by decide), hp]
    decide
  have hbound : (s.on Board.lapMinute).bd.get pLOOP F.LOOP_PATROL.MAX_RATE = s.bd.get pLOOP F.LOOP_PATROL.MAX_RATE := s.bd.lapMinute_only.get _ _ (by decide)
  have hminute : (s.on (fun b => b.elapse 2 60000000)).on (fun b => b.count pPTL F.PTL_ELAPSED.MINUTES 1) = s.on Board.lapMinute := rfl
  unfold State.patrolRate
  simp only [if_neg hserves, hminute, if_neg hlap]
  rw [hbound]
  exact if_pos hcap

/-- The rest of the lap over the rest of its time, a minute on. -/
theorem State.lapNeeds_minute (s : State) :
    (s.on Board.lapMinute).lapNeeds
      = s.lapLeft / max 1 ((s.bd.get pPTL F.PTL_CFG.LAP_HOURS * 60 - min (2 ^ F.PTL_ELAPSED.MINUTES.width - 1) (s.bd.get pPTL F.PTL_ELAPSED.MINUTES + 1)) * 60) := by
  have hleft : (s.on Board.lapMinute).lapLeft = s.lapLeft := State.lapLeft_elapsed s.bd.lapMinute_only
  unfold State.lapNeeds
  rw [hleft, State.on_bd, s.bd.lapMinute_minutes, s.bd.lapMinute_only.get _ _ (by decide)]

/-- A rate fits its field. -/
theorem Board.rate_shows (b : Board) (want : Nat) : (b.put pPTL F.PTL_RATE.PAGES (min 0xFFFFFF want)).get pPTL F.PTL_RATE.PAGES = min 0xFFFFFF want := by
  rw [Board.get_put_self _ _ _ _ (by decide)]
  exact Nat.mod_eq_of_lt (show min 0xFFFFFF want < 2 ^ 24 by omega)

/-! ### Inspections of a field (R249) -/

/-- The registers of AGE once an inspection of a field has been asked for. -/
def Board.fieldAsked (b : Board) (field : Nat) : Board := ((b.put pAGE F.AGE_INSP.FIELD field).put pAGE F.AGE_INSP.START 1).put pAGE F.AGE_INSP_RES.BUSY 1

theorem Board.fieldAsked_shows (b : Board) {field : Nat} (h : field < 2 ^ 20) :
    (b.fieldAsked field).on pAGE F.AGE_INSP_RES.BUSY = true ∧ (b.fieldAsked field).get pAGE F.AGE_INSP.FIELD = field := by
  refine ⟨Board.on_put_one _ _ _ (by decide), ?_⟩
  unfold Board.fieldAsked
  rw [Board.get_put_clear _ _ (by decide) (by decide), Board.get_put_clear _ _ (by decide) (by decide), Board.get_put_self _ _ _ _ (by decide)]
  exact Nat.mod_eq_of_lt h

theorem State.ageInsp_starts {s : State} {p : Path} (hg : s.bd.gate p pAGE F.AGE_INSP.FIELD.off false false = none) (hb : s.bd.on pAGE F.AGE_INSP_RES.BUSY = false)
    (field : Nat) : s.ageInsp p field true = { s with bd := s.bd.fieldAsked field, mapx := { s.mapx with inspectAge := some field } } := by
  unfold State.ageInsp
  rw [State.written_pass hg, if_neg (by simp [hb])]
  rfl

end Sys2Proof.Machine

open Sys2Proof Sys2Proof.Machine

/-- Settles O30 (R235, R237, R248, R249): a suspect page goes before the lap, the rate is what the rest of the lap needs in the time that is left, and an inspection only asks. The
minute's end is the model's choice (log entries 43 and 149). -/
theorem patrolAndInspection : Obligations.PatrolAndInspection := by
  intro s p
  refine ⟨fun ppa rest hruns hroom hs hpage huse => ?suspect, fun want hu he hp hwant hcap => ?rate, fun field hg hb => ?inspection⟩
  case suspect =>
    obtain ⟨r, hreads, hppa, hwhole, hage⟩ := ({ s with age := { s.age with suspects := rest } } : State).issuePatrol_reads ppa
    exact ⟨_, r, Runs.of_run (exec_patrolIssue s) (State.patrolIssue_suspect hruns hroom hs hpage huse), by rw [hage], hreads, hppa, hwhole⟩
  case rate =>
    rw [← s.lapNeeds_minute] at hwant
    subst hwant
    exact ⟨_, Ends.of_quick (exec_patrolRatePeriod s) (State.patrolRate_within hu he hp hcap), Board.rate_shows _ _, s.bd.lapMinute_now, rfl⟩
  case inspection =>
    obtain ⟨hbusy, hfield⟩ := s.bd.fieldAsked_shows field.isLt
    exact ⟨_, Ends.of_quick (exec_ageInsp p field true s) (State.ageInsp_starts hg hb _), rfl, hbusy, hfield⟩

end

section
/-! Fences and the loss log (O31): R260 to R264 and R269. That a fence's deadline is a moment of the part's one clock, to which the row moves it on, is the model's choice
(log entry 43). -/

namespace Sys2Proof.Machine

theorem exec_fenceStart (p : Path) (h slot : Fin 8) (w : Word) (s : State) :
    exec (.fenceStart p h slot w) s = s.run (fun s => s.fenceStart p h.val slot.val w) := rfl
theorem exec_fenceComplete (h : Fin 8) (slot : Fin 9) (s : State) : exec (.fenceComplete h slot) s = s.quick (fun s => s.fenceComplete h.val slot.val) := rfl
theorem exec_fenceDeadline (h : Fin 8) (slot : Fin 9) (s : State) : exec (.fenceDeadline h slot) s = s.run (fun s => s.fenceDeadline h.val slot.val) := rfl
theorem exec_fenceDurable (h : Fin 8) (slot : Fin 9) (s : State) : exec (.fenceDurable h slot) s = s.quick (fun s => s.fenceDurable h.val slot.val) := rfl
theorem exec_hptLossPop (p : Path) (h : Fin 8) (s : State) : exec (.hptLossPop p h) s = s.quick (fun s => s.lossPop p h.val) := rfl

/-! ### Fields of one copy of a repeated register -/

/-- Setting a field leaves the other bits of its copy of a repeated register alone. -/
theorem Board.get_put_ix (b : Board) (p v : Nat) {n : Nat} (hn : n < 8) {f g : Fld}
    (h : f.off = g.off ∧ f.step = g.step ∧ f.off + 8 * f.step ≤ 4096 ∧ 0 < f.step ∧ f.lo + f.width ≤ 32 ∧ (f.lo + f.width ≤ g.lo ∨ g.lo + g.width ≤ f.lo)) :
    (b.put p (g.ix n) v).get p (f.ix n) = b.get p (f.ix n) := by
  obtain ⟨hoff, hstep, hend, hpos, hw, hsep⟩ := h
  have hcopy : (f.ix n).off < 4096 := by
    have := Nat.mul_le_mul_right f.step (Nat.le_of_lt_succ hn)
    simp only [Fld.ix]
    omega
  have hsame : (f.ix n).off = (g.ix n).off := by simp only [Fld.ix, hoff, hstep]
  exact Board.get_put_clear b v ⟨hcopy, hsame ▸ hcopy, hw⟩ (.inr (.inr ⟨hsame, hsep⟩))

theorem Board.get_put_ix_self (b : Board) (p n v : Nat) {f : Fld} (h : f.lo + f.width ≤ 32) : (b.put p (f.ix n) v).get p (f.ix n) = v % 2 ^ f.width :=
  Board.get_put_self b p (f.ix n) v h

theorem Board.on_put_ix_one (b : Board) (p n : Nat) {f : Fld} (h : f.lo + f.width ≤ 32 ∧ f.width = 1) : (b.put p (f.ix n) 1).on p (f.ix n) = true :=
  Board.on_put_one b p (f.ix n) ⟨h.1, by simp only [Fld.ix, h.2]; decide⟩

/-! ### A fence starts (R260) -/

/-- The fence that covers what a head has accepted. -/
def Head.fenceOver (d : Head) (slot scope now : Nat) : Fence :=
  { slot := slot, scope := scope, writes := (d.writes.filter (fun w => decide (w.req.ask = .write))).map (fun w => w.req.id),
    reads := d.reads.map (fun r => r.req.id), start := now, losses := 0, lost := false, degraded := false, running := true }

/-- The head with a fence over what it has accepted; an earlier fence of the slot goes. -/
def Head.fenced (d : Head) (slot scope now : Nat) : Head :=
  { d with fences := d.fences.filter (fun x => decide (x.slot ≠ slot)) ++ [d.fenceOver slot scope now] }

theorem State.startFence_eq (s : State) (h slot scope : Nat) : s.startFence h slot scope = s.onHead h (fun d => d.fenced slot scope s.bd.now) := rfl

/-- The registers of a fence slot once GO has started its fence. -/
def Board.fenceGone (b : Board) (h slot : Nat) (w : Word) : Board :=
  let b := ((b.put (pHPT h) (F.HPT_FNC_CTL.SCOPE.ix slot) (wordBits w 0 2)).put (pHPT h) (F.HPT_FNC_CTL.NOTIFY.ix slot) (wordBits w 3 1)).put (pHPT h)
    (F.HPT_FNC_CTL.VECTOR.ix slot) (wordBits w 8 8)
  (b.wr (pHPT h) (F.HPT_FNC_STAT.BUSY.ix slot).off 0).put (pHPT h) (F.HPT_FNC_STAT.BUSY.ix slot) 1

theorem State.fenceStart_covers {s : State} {p : Path} {h slot : Nat} {w : Word} (hg : s.bd.gate p (pHPT h) (F.HPT_FNC_CTL.SCOPE.ix slot).off false true = none)
    (hb : s.bd.on (pHPT h) (F.HPT_FNC_STAT.BUSY.ix slot) = false) (hgo : wordBits w 2 1 = 1) (hscope : wordBits w 0 2 ≠ 3) :
    s.fenceStart p h slot w = (s.on (·.fenceGone h slot w)).onHead h (fun d => d.fenced slot (wordBits w 0 2) s.bd.now) := by
  unfold State.fenceStart
  dsimp only
  rw [State.written_pass hg, if_neg (by simp [hb]), if_neg (by simp [hgo]), if_neg hscope]
  rfl

/-! ### A fence completes (R261, R262) -/

/-- The head once a fence has completed: one of PERSIST stays for DURABLE (R263). -/
def Head.fenceEnded (d : Head) (slot st : Nat) : Head :=
  { d with
    fences := (d.fences.map (fun x => if x.slot = slot then { x with running := false, degraded := decide (st = 1) } else x)).filter
      (fun x => x.running || decide (x.scope = 3)) }

/-- The status register of a fence slot once its fence has completed. -/
def Board.fenceShown (b : Board) (h slot st losses start : Nat) : Board :=
  (((b.put (pHPT h) (F.HPT_FNC_STAT.BUSY.ix slot) 0).put (pHPT h) (F.HPT_FNC_STAT.STATUS.ix slot) st).put (pHPT h) (F.HPT_FNC_STAT.LOSSES.ix slot) losses).put (pHPT h)
    (F.HPT_FNC_STAT.TIME.ix slot) (min 0xFFFF (b.now - start))

/-- The counter of completed fences with a status. -/
def fenceCounter (st : Nat) : Fld := if st = 0 then F.HPT_FNC_DONE.COUNT else if st = 1 then F.HPT_FNC_DEG.COUNT else F.HPT_FNC_LOST.COUNT

theorem fenceCounter_off (st : Nat) : 0x240 ≤ (fenceCounter st).off ∧ (fenceCounter st).off < 4096 := by
  unfold fenceCounter
  split_ifs <;> decide

/-- A completed fence is counted, and its head is notified where the fence asks for it. -/
def Board.fenceTold (b : Board) (h slot st : Nat) : Board :=
  let c := b.count (pHPT h) (fenceCounter st) 1
  if c.on (pHPT h) (F.HPT_FNC_CTL.NOTIFY.ix slot) then Board.run 256 [.msix h (c.get (pHPT h) (F.HPT_FNC_CTL.VECTOR.ix slot)) (pHPT h)] c else c

theorem State.fenceComplete_ends {s : State} {h slot : Nat} {d : Head} {f : Fence} (hd : s.heads[h]? = some d)
    (hf : d.fences.find? (fun f => decide (f.slot = slot) && f.running) = some f) (hdone : s.fenceDone d f = true) (hs : slot < 8) :
    s.fenceComplete h slot = (s.onHead h (fun d' => d'.fenceEnded slot (d.fenceStatus f))).on
      (fun b => (b.fenceShown h slot (d.fenceStatus f) f.losses f.start).fenceTold h slot (d.fenceStatus f)) := by
  unfold State.fenceComplete State.head?
  simp only [hd, hf]
  rw [if_neg (by simp [hdone]), if_neg (by omega)]
  rfl

/-- Counting and telling leave the status registers of the fences alone. -/
theorem Board.fenceTold_get (b : Board) {h : Nat} (hh : h < 8) (slot st : Nat) {f : Fld} (ho : 0x200 ≤ f.off ∧ f.off < 0x240) :
    (b.fenceTold h slot st).get (pHPT h) f = b.get (pHPT h) f := by
  have hcounted : (b.count (pHPT h) (fenceCounter st) 1).rd (pHPT h) f.off = b.rd (pHPT h) f.off := by
    obtain ⟨hlo, hhi⟩ := fenceCounter_off st
    exact Board.rd_count_key fun e => by have := ((regKey_eq_iff hhi (by omega)).1 e).2; omega
  have hevent : eventReg (pHPT h) f.off = false := by
    have hw : 128 ≤ f.off / 4 := by omega
    simp [eventReg]
    omega
  refine Board.get_congr ?_
  unfold Board.fenceTold
  dsimp only
  split
  · exact ((Board.run_frame 256 _ _ (Act.ok_one (a := .msix h _ _) hh)).regs _ _ (by omega) hevent).trans hcounted
  · exact hcounted

theorem Board.fenceShown_shows (b : Board) (h : Nat) {slot : Nat} (hs : slot < 8) (st losses start : Nat) :
    (b.fenceShown h slot st losses start).get (pHPT h) (F.HPT_FNC_STAT.BUSY.ix slot) = 0
      ∧ (b.fenceShown h slot st losses start).get (pHPT h) (F.HPT_FNC_STAT.STATUS.ix slot) = st % 2 ^ F.HPT_FNC_STAT.STATUS.width
      ∧ (b.fenceShown h slot st losses start).get (pHPT h) (F.HPT_FNC_STAT.LOSSES.ix slot) = losses % 2 ^ F.HPT_FNC_STAT.LOSSES.width := by
  unfold Board.fenceShown
  refine ⟨?_, ?_, ?_⟩
  · rw [Board.get_put_ix _ _ _ hs (by decide), Board.get_put_ix _ _ _ hs (by decide), Board.get_put_ix _ _ _ hs (by decide), Board.get_put_ix_self _ _ _ _ (by decide)]
    rfl
  · rw [Board.get_put_ix _ _ _ hs (by decide), Board.get_put_ix _ _ _ hs (by decide), Board.get_put_ix_self _ _ _ _ (by decide)]
  · rw [Board.get_put_ix _ _ _ hs (by decide), Board.get_put_ix_self _ _ _ _ (by decide)]

/-! ### Deadline and durability (R263, R264, R268) -/

theorem State.fenceDeadline_idle {s : State} {h slot : Nat} {d : Head} {f : Fence} (hd : s.heads[h]? = some d)
    (hf : d.fences.find? (fun f => decide (f.slot = slot) && f.running) = some f) (hw : d.writes = []) :
    s.fenceDeadline h slot = s.upTo (f.start + 45) := by
  unfold State.fenceDeadline State.head?
  simp only [hd, hf, hw, Option.bind_some, State.on_heads, Option.map_some, Option.getD_some, List.filter_nil, List.foldl_nil, if_true]
  rfl

theorem State.fenceDurable_shown {s : State} {h slot : Nat} {d : Head} {f : Fence} (hd : s.heads[h]? = some d)
    (hf : d.fences.find? (fun f => decide (f.slot = slot) && decide (f.scope = 3)) = some f) (hl : f.lost = false) (ha : d.allDurable f = true) (hr : f.running = true)
    (hs : slot < 8) : s.fenceDurable h slot = s.on (fun b => b.put (pHPT h) (F.HPT_FNC_STAT.DURABLE.ix slot) 1) := by
  unfold State.fenceDurable State.head?
  simp only [hd, hf, hl]
  rw [if_neg (by simp [ha]), if_pos hr, if_neg (by omega)]
  rfl

/-! ### The oldest loss record is popped (R269) -/

theorem State.lossPop_pops {s : State} {p : Path} {h : Nat} {d : Head} {l : Loss} {rest : List Loss} (hg : s.bd.gate p (pHPT h) 0x268 false false = none)
    (hd : s.heads[h]? = some d) (hl : d.losses = l :: rest) :
    s.lossPop p h = (s.onHead h (fun d => { d with losses := d.losses.drop 1 })).on (fun b => b.put (pHPT h) F.HPT_LOSS_STAT.RECORDS rest.length) := by
  unfold State.lossPop State.head?
  rw [State.written_pass hg]
  simp only [hd, hl]
  rfl

end Sys2Proof.Machine

open Sys2Proof Sys2Proof.Machine

/-- Settles O31 (R260 to R264, R269): each row is cut down to its one effect on the fences of the head and the status register of the slot. The deadline's moment is the model's
clock (log entry 43). -/
theorem fencesRunAndComplete : Obligations.FencesRunAndComplete := by
  intro s h slot d hd
  refine ⟨fun p w hg hb hgo hscope => ?start, fun f hf hdone => ?complete, fun f hf hw => ?deadline, fun f hf hl ha hr => ?durable, fun p l rest hg hl => ?pop⟩
  case start =>
    exact ⟨_, _, d.fenceOver slot.val (wordBits w 0 2) s.bd.now, Runs.of_run (exec_fenceStart p h slot w s) (State.fenceStart_covers hg hb hgo hscope),
      State.onHead_get (s := s.on _) hd _, rfl, rfl, rfl, rfl, rfl, rfl, rfl, rfl, Board.on_put_ix_one _ _ _ (by decide)⟩
  case complete =>
    obtain ⟨hbusy, hst, hloss⟩ := s.bd.fenceShown_shows h.val slot.isLt (d.fenceStatus f) f.losses f.start
    have htold : ∀ g : Fld, g.off = 0x204 → g.step = 8 →
        ((s.bd.fenceShown h.val slot.val (d.fenceStatus f) f.losses f.start).fenceTold h.val slot.val (d.fenceStatus f)).get (pHPT h.val) (g.ix slot.val)
          = (s.bd.fenceShown h.val slot.val (d.fenceStatus f) f.losses f.start).get (pHPT h.val) (g.ix slot.val) := fun g ho hstep =>
      Board.fenceTold_get _ h.isLt _ _ (by simp only [Fld.ix, ho, hstep]; omega)
    refine ⟨_, _, Ends.of_quick (exec_fenceComplete h ⟨slot.val, by omega⟩ s) (State.fenceComplete_ends hd hf hdone slot.isLt),
      State.onHead_get hd _, rfl, rfl, ?_, (htold _ rfl rfl).trans hst, (htold _ rfl rfl).trans hloss⟩
    exact decide_eq_false (by rw [State.on_bd, State.onHead_bd, htold _ rfl rfl, hbusy]; decide)
  case deadline => exact ⟨_, Runs.of_run (exec_fenceDeadline h ⟨slot.val, by omega⟩ s) (State.fenceDeadline_idle hd hf hw), rfl, rfl⟩
  case durable =>
    have hoff : (F.HPT_FNC_STAT.DURABLE.ix slot.val).off < 4096 := by simp only [Fld.ix]; omega
    exact ⟨_, Ends.of_quick (exec_fenceDurable h ⟨slot.val, by omega⟩ s) (State.fenceDurable_shown hd hf hl ha hr slot.isLt), rfl,
      Board.on_put_ix_one _ _ _ (by decide), (Board.Only.refl _ _).put _ hoff (by simp)⟩
  case pop =>
    exact ⟨_, _, Ends.of_quick (exec_hptLossPop p h s) (State.lossPop_pops hg hd hl), State.onHead_get hd _, by rw [hl]; rfl,
      Board.get_put_self _ _ _ _ (by decide), (Board.Only.refl _ _).put _ (by decide) (by simp)⟩

end

section
/-! Reservation operations and the GPF phase 2 (O32): R264 and R271 to R274. That a reservation's end is a moment of the part's one clock, to which the row moves it on, is the
model's choice (log entry 43). -/

namespace Sys2Proof.Machine

theorem exec_reserveWord (p : Path) (h : Fin 8) (k : Fin 4) (s : State) : exec (.reserveWord p h k) s = s.run (fun s => s.rsvCommand p h.val k.val 1) := rfl
theorem exec_condWrite (p : Path) (h : Fin 8) (k : Fin 4) (s : State) : exec (.condWrite p h k) s = s.run (fun s => s.rsvCommand p h.val k.val 2) := rfl
theorem exec_releaseWord (p : Path) (h : Fin 8) (k : Fin 4) (s : State) : exec (.releaseWord p h k) s = s.run (fun s => s.rsvCommand p h.val k.val 3) := rfl
theorem exec_rsvComplete (h : Fin 8) (k : Fin 4) (s : State) : exec (.rsvComplete h k) s = s.quick (fun s => s.rsvComplete h.val k.val) := rfl
theorem exec_rsvTimeout (part slot : Fin 32) (s : State) : exec (.rsvTimeout part slot) s = s.quick (fun s => s.rsvTimeout part.val slot.val) := rfl
theorem exec_gpfPhase2 (h : Fin 8) (s : State) : exec (.gpfPhase2 h) s = s.run (fun s => s.gpfPhase2 h.val) := rfl

/-! ### A command takes its place (R271) -/

/-- What an operation code of HPT_RSV_CMD asks of the home. -/
def rsvCmdAsk (op : Nat) : Ask := if op = 1 then .reserve else if op = 2 then .cond else .release

/-- The request of a reservation command: the word that the slot's registers name, and for a COND_WRITE the data to write. -/
def State.rsvReq (s : State) (h k op : Nat) : Req :=
  let hpa := s.bd.get (pHPT h) (F.HPT_RSV_ADDR_LO.HPA.ix k) * 16 + s.bd.get (pHPT h) (F.HPT_RSV_ADDR_HI.HPA.ix k) * 2 ^ 32
  let x := wordWrite (hpa / 16 % 4) (s.bd.rsvNew h k)
  { s.hostReq h (rsvCmdAsk op) hpa (if op = 2 then x.1 else 0) (if op = 2 then x.2 else 0) false with rsv := h * 4 + k }

theorem State.rsvReq_id (s : State) (h k op : Nat) : (s.rsvReq h k op).id = s.home.nextId := rfl

/-- The record of a reservation operation in its head's path. -/
def Req.waiting (r : Req) : Wr := ⟨r, 0, false, false, false, false, false, 0, false, false⟩

/-- The head with an operation behind every write accepted before it. -/
def Head.rsvAsked (d : Head) (k op : Nat) (r : Req) : Head :=
  { d with writes := d.writes ++ [r.waiting], rsv := d.rsv.modify k (fun v => { v with op := op, req := r.id, ans := none }) }

theorem State.rsvCommand_waits {s : State} {p : Path} {h k : Nat} (op : Nat) (hg : s.bd.gate p (pHPT h) (F.HPT_RSV_CMD.OP.ix k).off false true = none)
    (hb : s.bd.on (pHPT h) (F.HPT_RSV_STAT.BUSY.ix k) = false) :
    s.rsvCommand p h k op = (s.bump.on (fun b => (b.put (pHPT h) (F.HPT_RSV_CMD.OP.ix k) op).put (pHPT h) (F.HPT_RSV_STAT.BUSY.ix k) 1)).onHead h
      (fun d => d.rsvAsked k op (s.rsvReq h k op)) := by
  unfold State.rsvCommand
  dsimp only
  rw [State.written_pass hg, if_neg (by simp [hb])]
  rfl

/-! ### The answer is shown (R272, R273) -/

/-- The head whose slot `k` has been answered. -/
def Head.rsvAnswered (d : Head) (k : Nat) (held : Option Nat) : Head :=
  { d with rsv := d.rsv.modify k (fun v => { v with held := held, op := 0, ans := none }) }

/-- The status register of a slot once its answer is shown. -/
def Board.rsvShown (b : Board) (h k held result loss : Nat) : Board :=
  (((b.put (pHPT h) (F.HPT_RSV_STAT.BUSY.ix k) 0).put (pHPT h) (F.HPT_RSV_STAT.HELD.ix k) held).put (pHPT h) (F.HPT_RSV_STAT.RESULT.ix k) result).put (pHPT h)
    (F.HPT_RSV_STAT.LOSS_CAUSE.ix k) loss

/-- The word that a RESERVE read. -/
def Board.rsvData (b : Board) (h k word : Nat) : Board :=
  (((b.put (pHPT h) (F.HPT_RSV_DATA0.DATA.ix k) (word % 2 ^ 32)).put (pHPT h) (F.HPT_RSV_DATA1.DATA.ix k) (word / 2 ^ 32 % 2 ^ 32)).put (pHPT h)
    (F.HPT_RSV_DATA2.DATA.ix k) (word / 2 ^ 64 % 2 ^ 32)).put (pHPT h) (F.HPT_RSV_DATA3.DATA.ix k) (word / 2 ^ 96 % 2 ^ 32)

theorem State.rsvComplete_shows {s : State} {h k : Nat} {d : Head} {v : Rsv} {result word loss : Nat} (hd : s.heads[h]? = some d) (hv : d.rsv[k]? = some v)
    (ha : v.ans = some (result, word, loss)) :
    ∃ held : Option Nat, held.isSome = decide (v.op = 1 ∧ result = 0) ∧
      s.rsvComplete h k = (s.onHead h (fun d => d.rsvAnswered k held)).on (fun b =>
        if v.op = 1 ∧ result = 0 then (b.rsvShown h k (bit held.isSome) result loss).rsvData h k word else b.rsvShown h k (bit held.isSome) result loss) := by
  unfold State.rsvComplete State.head?
  simp only [hd, Option.bind_some, hv, ha]
  exact ⟨_, by split_ifs with hop <;> simp [hop], rfl⟩

/-- The word of a RESERVE lies beside the status register. -/
theorem Board.rsvData_get (b : Board) (h : Nat) {k : Nat} (hk : k < 4) (word : Nat) {f : Fld} (hf : f.off = 0x30C ∧ f.step = 64 ∧ f.lo + f.width ≤ 32) :
    (b.rsvData h k word).get (pHPT h) (f.ix k) = b.get (pHPT h) (f.ix k) := by
  have hput : ∀ (c : Board) (g : Fld) (v : Nat), 0x310 ≤ g.off ∧ g.off < 0x320 ∧ g.step = 64 → (c.put (pHPT h) (g.ix k) v).get (pHPT h) (f.ix k) = c.get (pHPT h) (f.ix k) :=
    fun c g v hg => Board.get_put_clear c v ⟨by simp only [Fld.ix, hf.1, hf.2.1]; omega, by simp only [Fld.ix, hg.2.2]; omega, hf.2.2⟩
      (.inr (.inl (by simp only [Fld.ix, hf.1, hf.2.1, hg.2.2]; omega)))
  unfold Board.rsvData
  rw [hput _ _ _ (by decide), hput _ _ _ (by decide), hput _ _ _ (by decide), hput _ _ _ (by decide)]

theorem Board.rsvShown_shows (b : Board) (h : Nat) {k : Nat} (hk : k < 4) (held result loss : Nat) :
    (b.rsvShown h k held result loss).get (pHPT h) (F.HPT_RSV_STAT.BUSY.ix k) = 0
      ∧ (b.rsvShown h k held result loss).get (pHPT h) (F.HPT_RSV_STAT.RESULT.ix k) = result % 2 ^ F.HPT_RSV_STAT.RESULT.width
      ∧ (b.rsvShown h k held result loss).get (pHPT h) (F.HPT_RSV_STAT.HELD.ix k) = held % 2 := by
  have hk8 : k < 8 := by omega
  unfold Board.rsvShown
  refine ⟨?_, ?_, ?_⟩
  · rw [Board.get_put_ix _ _ _ hk8 (by decide), Board.get_put_ix _ _ _ hk8 (by decide), Board.get_put_ix _ _ _ hk8 (by decide), Board.get_put_ix_self _ _ _ _ (by decide)]
    rfl
  · rw [Board.get_put_ix _ _ _ hk8 (by decide), Board.get_put_ix_self _ _ _ _ (by decide)]
  · rw [Board.get_put_ix _ _ _ hk8 (by decide), Board.get_put_ix _ _ _ hk8 (by decide), Board.get_put_ix_self _ _ _ _ (by decide)]
    rfl

/-! ### A reservation ends by itself (R272) -/

theorem State.rsvTimeout_ends {s : State} {part slot : Nat} {v : HomeRsv} (hv : smFind (part * 32 + slot) s.home.rsv = some v) (hl : v.lost = 0) :
    s.rsvTimeout part slot = { s.upTo (v.since + 1000) with home := { s.home with rsv := smPut (part * 32 + slot) { v with lost := 2 } s.home.rsv } } := by
  unfold State.rsvTimeout
  simp only [hv]
  rw [if_neg (by simp [hl])]
  rfl

/-! ### The global persistent flush (R264) -/

/-- The pages of the frames whose lines wait to be folded. -/
def State.densePages (s : State) : List Nat := (s.cache.frames.filter (fun (e : Nat × Frame) => e.2.hasDense)).map (fun (e : Nat × Frame) => e.2.page)

theorem State.flushWrites_same (s : State) : s.SameButWrites s.flushWrites ∧ s.flushWrites.wp.flushPatch = true :=
  ⟨(State.foldl_writeBack_same id s.densePages s).trans rfl, rfl⟩

/-- What fences over several heads leave of one head: its fence where it is among them, and nothing else of it changes. -/
theorem State.foldl_startFence {h : Nat} (slot scope : Nat) (l : List Nat) (hl : l.Nodup) : ∀ {s : State} {d : Head}, s.heads[h]? = some d →
    (l.foldl (fun s k => s.startFence k slot scope) s).bd = s.bd ∧
      (l.foldl (fun s k => s.startFence k slot scope) s).heads[h]? = some (if h ∈ l then d.fenced slot scope s.bd.now else d) := by
  induction l with
  | nil => exact fun hd => ⟨rfl, hd⟩
  | cons k l ih =>
    intro s d hd
    obtain ⟨hk, hl'⟩ := List.nodup_cons.1 hl
    by_cases hkh : k = h
    · subst hkh
      obtain ⟨hbd, hhead⟩ := ih hl' (s := s.startFence k slot scope) (State.onHead_get hd _)
      exact ⟨hbd, by rw [if_neg hk] at hhead; rw [if_pos List.mem_cons_self]; exact hhead⟩
    · have hother : (s.startFence k slot scope).heads[h]? = some d := by
        rw [State.startFence_eq, State.onHead_heads, List.getElem?_modify_ne _ _ hkh]
        exact hd
      obtain ⟨hbd, hhead⟩ := ih hl' hother
      exact ⟨hbd, by rw [List.foldl_cons, hhead]; simp [Ne.symm hkh, State.startFence_eq]⟩

theorem State.gpfPhase2_up {s : State} {h : Nat} (hup : s.bd.on (pHPT h) F.HPT_LINK_STAT.UP = true) :
    s.gpfPhase2 h = ((List.range 8).foldl (fun s k => s.startFence k 8 3) s).flushWrites := by
  unfold State.gpfPhase2
  rw [if_neg (by simp [hup])]

end Sys2Proof.Machine

open Sys2Proof Sys2Proof.Machine

/-- Settles O32 (R264, R271 to R274): each row is cut down to its one effect on the head's path and the slot's registers, or on the home's reservation; the fences of a GPF
phase 2 are those of all heads, and its flush changes the write path alone. The time-out's moment is the model's clock (log entry 43). -/
theorem reservationsAndFlush : Obligations.ReservationsAndFlush := by
  intro s h k d hd
  refine ⟨fun p c ask n hc hg hb => ?command, fun v result word loss hv ha => ?answer, fun part slot v hv hl => ?timeout, fun hup => ?gpf⟩
  case command =>
    have hrun : exec c s = s.run (fun s => s.rsvCommand p h.val k.val n) ∧ ask = rsvCmdAsk n := by
      simp only [List.mem_cons, List.not_mem_nil, or_false, Prod.mk.injEq] at hc
      obtain ⟨rfl, rfl, rfl⟩ | ⟨rfl, rfl, rfl⟩ | ⟨rfl, rfl, rfl⟩ := hc
      · exact ⟨exec_reserveWord p h k s, rfl⟩
      · exact ⟨exec_condWrite p h k s, rfl⟩
      · exact ⟨exec_releaseWord p h k s, rfl⟩
    obtain ⟨hrun, rfl⟩ := hrun
    refine ⟨_, _, (s.rsvReq h.val k.val n).waiting, Runs.of_run hrun (State.rsvCommand_waits n hg hb), State.onHead_get (s := s.bump.on _) hd _, rfl, rfl, rfl, rfl, rfl, rfl,
      Board.on_put_ix_one _ _ _ (by decide), fun v hv => ?_⟩
    simp [Head.rsvAsked, hv, State.rsvReq_id]
  case answer =>
    obtain ⟨held, hheld, heq⟩ := State.rsvComplete_shows hd hv ha
    obtain ⟨hbusy, hresult, hshown⟩ := s.bd.rsvShown_shows h.val k.isLt (bit held.isSome) result loss
    have hget : ∀ f : Fld, f.off = 0x30C ∧ f.step = 64 ∧ f.lo + f.width ≤ 32 →
        (if v.op = 1 ∧ result = 0 then (s.bd.rsvShown h.val k.val (bit held.isSome) result loss).rsvData h.val k.val word
          else s.bd.rsvShown h.val k.val (bit held.isSome) result loss).get (pHPT h.val) (f.ix k.val)
        = (s.bd.rsvShown h.val k.val (bit held.isSome) result loss).get (pHPT h.val) (f.ix k.val) := fun f hf => by
      split
      · exact Board.rsvData_get _ _ k.isLt _ hf
      · rfl
    refine ⟨_, _, Ends.of_quick (exec_rsvComplete h k s) heq, State.onHead_get hd _, rfl, ?_, (hget _ (by decide)).trans hresult, (hget _ (by decide)).trans ?_⟩
    · exact decide_eq_false (by rw [State.on_bd, State.onHead_bd, hget _ (by decide), hbusy]; decide)
    · rw [hshown, hheld]
      split_ifs with hop <;> simp [hop, bit]
  case timeout =>
    exact ⟨_, _, Ends.of_quick (exec_rsvTimeout part slot s) (State.rsvTimeout_ends hv hl), smFind_smPut_self _ _ _, rfl, rfl, rfl⟩
  case gpf =>
    obtain ⟨hbd, hhead⟩ := State.foldl_startFence 8 3 (List.range 8) List.nodup_range hd
    rw [if_pos (List.mem_range.2 h.isLt)] at hhead
    obtain ⟨hsame, hflush⟩ := ((List.range 8).foldl (fun s k => s.startFence k 8 3) s).flushWrites_same
    have hheads := (congrArg State.heads hsame :)
    refine ⟨_, d.fenced 8 3 s.bd.now, Runs.of_run (exec_gpfPhase2 h s) (State.gpfPhase2_up hup), hflush, ?_, ⟨d.fenceOver 8 3 s.bd.now, ?_, rfl, rfl, rfl, rfl⟩, rfl, hsame.bd.trans hbd⟩
    · exact (congrArg (·[h.val]?) hheads).trans hhead
    · exact List.mem_append_right _ (List.mem_singleton.2 rfl)

end

section
/-! Answers of other parts at the part that sent the request (O43): read data, tickets, the report and the call of a held write, persistence, and results of reservation
operations (R257, R261, R263, R273, R322, R323). -/

namespace Sys2Proof.Machine

theorem exec_mrsp (oid tag : BitVec 16) (status : Fin 8) (data : Line) (s : State) :
    exec (.mrsp oid tag status data) s = s.run (fun s => s.mrsp oid.toNat tag.toNat status.val data) := rfl
theorem exec_ticket (oid tag : BitVec 16) (copy : Fin 2) (status : Fin 8) (s : State) :
    exec (.ticket oid tag copy status) s = s.run (fun s => s.ticketPacket oid.toNat tag.toNat copy.val status.val) := rfl
theorem exec_hold (oid tag : BitVec 16) (s : State) : exec (.hold oid tag) s = s.run (fun s => s.holdPacket oid.toNat tag.toNat) := rfl
theorem exec_pull (source : Fin 32) (oid tag : BitVec 16) (s : State) :
    exec (.pull source oid tag) s = s.run (fun s => s.pullPacket source.val oid.toNat tag.toNat) := rfl
theorem exec_mwrData (oid tag : BitVec 16) (data : Line) (mask : BitVec 64) (poison : Bool) (s : State) :
    exec (.mwrData oid tag data mask poison) s = s.run (fun s => s.mwrData oid.toNat tag.toNat data mask.toNat poison) := rfl
theorem exec_persisted (oid tag : BitVec 16) (copy : Fin 2) (s : State) :
    exec (.persisted oid tag copy) s = s.run (fun s => s.persistedPacket oid.toNat tag.toNat copy.val) := rfl
theorem exec_rsvRsp (oid tag : BitVec 16) (result : Fin 8) (loss : Fin 4) (word : BitVec 128) (s : State) :
    exec (.rsvRsp oid tag result loss word) s = s.run (fun s => s.rsvRsp oid.toNat tag.toNat result.val loss.val word.toNat) := rfl

/-! ### Read data (R322) -/

theorem State.mrsp_inside {s : State} {oid tag : Nat} {r : Req} {p : Nat} {b : Bool} (hr : s.inFlightOf oid tag = some (r, p, b)) (ho : oidClass oid ≠ 0) (status : Nat)
    (data : Line) : s.mrsp oid tag status data = { s with home := { s.home with answers := s.home.answers ++ [⟨oid, r.id, status, data⟩] } } := by
  unfold State.mrsp
  simp only [hr]
  exact if_neg ho

/-- R256: data that returns well is answered under the buffered bytes of the head. -/
theorem State.hostAnswer_good {s : State} {h id : Nat} {d : Head} {x : Rd} (hd : s.heads[h]? = some d) (hx : d.reads.find? (fun y => decide (y.req.id = id)) = some x)
    (line : Line) (c : MediaCause) :
    s.hostAnswer h id line false c = (s.say (.host h id (some (mergeLine line x.ovr x.overMask)) false (s.devLoad h))).onHead h
      (fun d => { d with reads := d.reads.filter (fun y => decide (y.req.id ≠ id)) }) := by
  unfold State.hostAnswer State.head?
  simp only [hd, Option.bind_some, hx]
  rfl

theorem State.mrsp_head {s : State} {oid tag : Nat} {r : Req} {p : Nat} {b : Bool} (hr : s.inFlightOf oid tag = some (r, p, b)) (ho : oidClass oid = 0) (data : Line) :
    s.mrsp oid tag 0 data = s.hostAnswer r.head r.id data false .poison := by
  unfold State.mrsp
  simp only [hr]
  exact if_pos ho

/-! ### Tickets, holds and calls (R257, R261, R323) -/

section
variable {s : State} {oid tag : Nat} {w : Wr} (ho : oidClass oid = 0) (hw : s.writeOf oid tag = some w)
include ho hw

theorem State.ticketPacket_write (copy status : Nat) : s.ticketPacket oid tag copy status = s.ticket { w.req with role := copy } status := by
  unfold State.ticketPacket
  rw [if_pos ho, hw]

theorem State.holdPacket_write : s.holdPacket oid tag = s.onWrite (oidInst oid) w.req.id (fun x => { x with held := true, inBuf := true }) := by
  unfold State.holdPacket
  rw [if_neg (not_not_intro ho), hw]

theorem State.pullPacket_write (src : Nat) :
    s.pullPacket src oid tag = (s.send 0x14 src [w.req.oid, w.req.id % 2 ^ 16, w.req.mask, bit w.req.poison] (some w.req.data)).onWrite (oidInst oid) w.req.id
      (fun x => { x with held := false, inBuf := !x.ticketed }) := by
  unfold State.pullPacket
  dsimp only
  rw [if_pos ho, hw]

end

theorem State.mwrData_called {s : State} {oid tag : Nat} {r : Req} (hr : s.home.called.find? (fun r => decide (r.oid = oid) && decide (r.id = tag)) = some r)
    (hm : r.mask ≠ allBytes) (data : Line) (mask : Nat) (poison : Bool) :
    s.mwrData oid tag data mask poison = s.applyCalled { r with data := data, mask := mask, poison := poison } := by
  unfold State.mwrData
  simp only [hr]
  rw [if_neg hm]

/-! ### Persistence (R263) -/

theorem State.persistedPacket_write {s : State} {oid tag : Nat} {d : Head} {w : Wr} (ho : oidClass oid = 0) (hd : s.heads[oidInst oid]? = some d)
    (hw : d.writes.find? (fun w => decide (w.req.id % 2 ^ 16 = tag)) = some w) (copy : Nat) :
    s.persistedPacket oid tag copy
      = s.onWrite (oidInst oid) w.req.id (fun x => if copy = 0 then { x with durable1 := true } else { x with durable2 := true }) := by
  unfold State.persistedPacket State.head?
  simp only [hd, Option.bind_some, hw]
  exact if_neg (not_not_intro ho)

/-! ### Results of reservation operations (R273) -/

/-- The writes of the head once COND_WRITE `id` has ended: a record of it is that of a write, or gone. -/
def Head.condOver (d : Head) (id result : Nat) : List Wr :=
  if result ≤ 1 then
    (d.writes.map (fun w => if w.req.id = id then
      (if w.req.ask = .cond then { w with req := { w.req with ask := .write }, tick1 := true, tick2 := true, inBuf := false, held := false, res := result } else w)
      else w)).filter (fun w => w.inBuf || !(w.res = 2 || w.persistent))
  else d.writes.filter (fun w => !(decide (w.req.id = id) && decide (w.req.ask = .cond)))

theorem State.condEnded_eq (s : State) (h id result : Nat) : s.condEnded h id result = s.onHead h (fun d => { d with writes := d.condOver id result }) := by
  unfold State.condEnded Head.condOver
  split <;> rfl

theorem Head.condOver_ask (d : Head) (id result : Nat) : ∀ x ∈ d.condOver id result, x.req.id = id → x.req.ask ≠ .cond := by
  intro x hx hid
  unfold Head.condOver at hx
  split at hx
  · obtain ⟨w, -, rfl⟩ := List.mem_map.1 (List.mem_filter.1 hx).1
    split_ifs with hw hask
    · simp
    · exact hask
    · exact absurd (by simp [hw] at hid) hw
  · have := (List.mem_filter.1 hx).2
    simpa [hid] using this

/-- What a result does before it reaches its slot: a COND_WRITE of the head ends with it. -/
def State.condSettled (s : State) (oid tag result : Nat) : State :=
  match s.writeOf oid tag with
  | some w => if w.req.ask = Ask.cond then s.condEnded (oidInst oid) w.req.id result else s
  | none => s

/-- A result changes no more of its head than the record of its COND_WRITE, which is none any more. -/
theorem State.condSettled_head {s : State} {oid tag : Nat} {d : Head} (hd : s.heads[oidInst oid]? = some d) (result : Nat) :
    ∃ ws, (s.condSettled oid tag result).heads[oidInst oid]? = some { d with writes := ws } ∧ (s.condSettled oid tag result).bd = s.bd
      ∧ (s.writeOf oid tag = none → ws = d.writes)
      ∧ (∀ w, s.writeOf oid tag = some w → w.req.ask = .cond → ∀ x ∈ ws, x.req.id = w.req.id → x.req.ask ≠ .cond) := by
  unfold State.condSettled
  cases hw : s.writeOf oid tag with
  | none => exact ⟨d.writes, hd, rfl, fun _ => rfl, fun _ h => nomatch h⟩
  | some w =>
    by_cases hask : w.req.ask = .cond
    · refine ⟨d.condOver w.req.id result, ?_, ?_, nofun, ?_⟩
      · simp only [if_pos hask, State.condEnded_eq]
        exact State.onHead_get hd _
      · simp only [if_pos hask, State.condEnded_eq]
        rfl
      · rintro _ ⟨⟩ - x hx
        exact d.condOver_ask _ _ x hx
    · refine ⟨d.writes, ?_, ?_, nofun, ?_⟩
      · simp only [if_neg hask]
        exact hd
      · simp only [if_neg hask]
      · rintro _ ⟨⟩ h
        exact absurd h hask

/-- Does slot `k` of the head wait for the answer to a request with a TAG? -/
def Head.rsvAwaits (d : Head) (tag k : Nat) : Bool :=
  match d.rsv[k]? with
  | some v => decide (v.op ≠ 0) && v.ans.isNone && decide (v.req % 2 ^ 16 = tag)
  | none => false

theorem State.rsvRsp_slot {s : State} {oid tag : Nat} {d : Head} {k result : Nat} (hd : (s.condSettled oid tag result).heads[oidInst oid]? = some d)
    (hk : (List.range 4).find? (d.rsvAwaits tag) = some k) (loss word : Nat) :
    s.rsvRsp oid tag result loss word = (s.condSettled oid tag result).onHead (oidInst oid)
      (fun d => { d with rsv := d.rsv.modify k (fun v => { v with ans := some (result, word, loss) }) }) := by
  have hd' : (s.condSettled oid tag result).head? (oidInst oid) = some d := hd
  unfold State.rsvRsp
  change (match (s.condSettled oid tag result).head? (oidInst oid) with | none => _ | some d => _) = _
  rw [hd']
  change (match (List.range 4).find? (d.rsvAwaits tag) with | none => _ | some k => _) = _
  rw [hk]
  rfl

/-- The first slot takes the result where its operation waits for an answer to a request with the TAG. -/
theorem Head.rsvAwaits_first {d : Head} {v : Rsv} {tag : Nat} (hv : d.rsv[0]? = some v) (hop : v.op ≠ 0) (ha : v.ans = none) (ht : v.req % 2 ^ 16 = tag) :
    (List.range 4).find? (d.rsvAwaits tag) = some 0 := by
  have hfirst : d.rsvAwaits tag 0 = true := by
    unfold Head.rsvAwaits
    rw [hv]
    simpa [hop, ha] using ht
  rw [show List.range 4 = 0 :: [1, 2, 3] from rfl]
  exact List.find?_cons_of_pos hfirst

end Sys2Proof.Machine

open Sys2Proof Sys2Proof.Machine

/-- Settles O43 (R257, R261, R263, R273, R322, R323): each packet is cut down to its one effect on the request that its OID and TAG name. -/
theorem ringAnswersReachTheSender : Obligations.RingAnswersReachTheSender := by
  intro s oid tag
  refine ⟨fun r p b status data hr ho => ?inside, fun r p b data d x hr ho hd hx => ?read, fun w copy status ho hw => ?ticket, fun w ho hw => ?hold,
    fun w source ho hw => ?pull, fun r data mask poison hr hm => ?called, fun copy d w ho hd hw => ?persisted, fun d v result loss word hd hv hop ha ht => ?rsv⟩
  case inside => exact ⟨_, Runs.of_run (exec_mrsp oid tag status data s) (State.mrsp_inside hr ho _ _), rfl⟩
  case read =>
    have hanswer := (State.mrsp_head hr ho data).trans (State.hostAnswer_good hd hx data .poison)
    exact ⟨_, _, Runs.of_run (exec_mrsp oid tag 0 data s) hanswer, rfl, State.onHead_get (s := s.say _) hd _, rfl⟩
  case ticket => exact ⟨_, Runs.of_run (exec_ticket oid tag copy status s) (State.ticketPacket_write ho hw _ _), rfl⟩
  case hold => exact ⟨_, Runs.of_run (exec_hold oid tag s) (State.holdPacket_write ho hw), rfl⟩
  case pull => exact ⟨_, Runs.of_run (exec_pull source oid tag s) (State.pullPacket_write ho hw _), rfl, rfl⟩
  case called => exact ⟨_, Runs.of_run (exec_mwrData oid tag data mask poison s) (State.mwrData_called hr hm _ _ _), rfl⟩
  case persisted => exact ⟨_, Runs.of_run (exec_persisted oid tag copy s) (State.persistedPacket_write ho hd hw _), rfl, rfl, rfl⟩
  case rsv =>
    obtain ⟨ws, hhead, hbd, hnone, hcond⟩ := State.condSettled_head (tag := tag.toNat) hd result.val
    exact ⟨_, _, Runs.of_run (exec_rsvRsp oid tag result loss word s) (State.rsvRsp_slot hhead (Head.rsvAwaits_first hv hop ha ht) _ _), State.onHead_get hhead _, rfl, rfl, rfl, rfl,
      hnone, hcond, hbd⟩

end

section
/-! Joins, table accesses, key blobs, loss records and changes of the manager's state (O47): R270, R281, R313, R315, R319 and R321. That the end of a join exchange is a moment of
the part's one clock, to which the row moves it on, is the model's choice (log entry 43). -/

namespace Sys2Proof.Machine

theorem exec_join (k : Fin 2) (peer : Fin 32) (msg : Fin 16) (frag last : Fin 4096) (total : Word) (bytes : List Byte) (valid cabled : Bool) (s : State) :
    exec (.join k peer msg frag last total bytes valid cabled) s
      = s.run (fun s => s.joinPacket k.val peer.val msg.val frag.val last.val total.toNat bytes valid cabled) := rfl
theorem exec_joinTimeout (peer : Fin 32) (s : State) : exec (.joinTimeout peer) s = s.run (fun s => s.joinTimeout peer.val) := rfl
theorem exec_lossRec (words : List Word) (s : State) : exec (.lossRec words) s = s.run (fun s => s.lossRec (words.map BitVec.toNat)) := rfl
theorem exec_tblWrite (src : Fin 32) (term : Word) (t : Fin 4) (i : Fin 65536) (write : Bool) (a b d e : Word) (s : State) :
    exec (.tblWrite src term t i write a b d e) s
      = s.run (fun s => s.tblWrite src.val term.toNat t.val i.val write a.toNat b.toNat d.toNat e.toNat) := rfl
theorem exec_tblRsp (src : Fin 32) (result : BitVec 8) (s : State) : exec (.tblRsp src result) s = s.run (fun s => s.tblRsp src.val result.toNat) := rfl
theorem exec_mgrSync (src : Fin 32) (term : Word) (c : Sync) (s : State) : exec (.mgrSync src term c) s = s.run (fun s => s.mgrSync src.val term.toNat c) := rfl
theorem exec_syncAck (s : State) : exec .syncAck s = s.run State.syncAck := rfl
theorem exec_keyBlob (src : Fin 32) (term : Word) (slot : Fin 4096) (seed : Option Line) (s : State) :
    exec (.keyBlob src term slot seed) s = s.run (fun s => s.keyBlob src.val term.toNat slot.val (seed.map BitVec.toNat)) := rfl

/-! ### Fragments of a join message (R315) -/

/-- The state in which the exchange with a peer is as given. -/
def State.joinAt (s : State) (peer : Nat) (x : JoinX) : State :=
  { s with shelf := { s.shelf with joins := s.shelf.joins.filter (fun z => decide (z.peer ≠ peer)) ++ [x] } }

/-- The state without an exchange with a peer. -/
def State.joinOver (s : State) (peer : Nat) : State := { s with shelf := { s.shelf with joins := s.shelf.joins.filter (fun z => decide (z.peer ≠ peer)) } }

section
variable {s : State} {peer : Nat} {x : JoinX} (hx : s.shelf.joins.find? (fun x => decide (x.peer = peer)) = some x) (hp : x.part = none)
include hx hp

/-- A full first fragment with more to come is kept. -/
theorem State.joinPacket_first {msg last total : Nat} {bytes : List Byte} (h0 : 0 < msg) (h6 : msg ≤ 6) (hl : 0 < last) (hb : bytes.length = 4080)
    (hlo : last * 4080 ≤ total) (hhi : total ≤ 65536) (k : Nat) (valid cabled : Bool) :
    s.joinPacket k peer msg 0 last total bytes valid cabled = s.joinAt peer { x with part := some ⟨msg, last, total, 1, bytes⟩ } := by
  have hne : bytes ≠ [] := by rintro rfl; simp at hb
  unfold State.joinPacket
  simp only [hx, hp]
  rw [if_neg, if_pos hl]
  · rfl
  · simp [hne, hb, hl.ne]
    omega

/-- A first fragment that is the last one makes a message. -/
theorem State.joinPacket_single {msg : Nat} {bytes : List Byte} (h0 : 0 < msg) (h6 : msg ≤ 6) (hne : bytes ≠ []) (hb : bytes.length ≤ 4080) (k : Nat)
    (valid cabled : Bool) : s.joinPacket k peer msg 0 0 bytes.length bytes valid cabled
      = (s.joinAt peer { x with part := none }).joinMessage { x with part := none } msg bytes valid cabled := by
  unfold State.joinPacket
  simp only [hx, hp]
  rw [if_neg, if_neg (by omega)]
  · rfl
  · simp [hne]
    omega

end

/-- R315: ACCEPT ends the exchange at the joining part. -/
theorem State.joinMessage_accept (s : State) {x : JoinX} (hs : x.step = 3) (bytes : List Byte) (valid cabled : Bool) :
    s.joinMessage x 5 bytes valid cabled = (s.joinOver x.peer).on (·.shmCloses 3) := by
  obtain ⟨peer, step, since, part⟩ := x
  subst hs
  unfold State.joinMessage State.joinOver
  simp

theorem State.joinAt_over (s : State) {peer : Nat} {x : JoinX} (hx : x.peer = peer) : (s.joinAt peer x).joinOver x.peer = s.joinOver peer := by
  subst hx
  simp [State.joinAt, State.joinOver, List.filter_append]

theorem State.joinTimeout_manager {s : State} {peer : Nat} {x : JoinX} (hx : s.shelf.joins.find? (fun x => decide (x.peer = peer)) = some x) (hs : 10 ≤ x.step) :
    s.joinTimeout peer = (s.upTo (x.since + 100000)).joinOver peer := by
  unfold State.joinTimeout
  simp only [hx]
  rw [if_neg (by omega)]
  rfl

/-! ### Loss records (R270) -/

theorem State.lossRec_own {s : State} {ws : List Nat} (ho : ws.getD 2 0 / 2 ^ 24 % 32 = s.bd.selfId) :
    s.lossRec ws = s.poisonLoss (ws.getD 4 0) (ws.getD 2 0 % 512) (ws.getD 2 0 / 2 ^ 12 % 4096) := by
  unfold State.lossRec State.deliverLoss
  dsimp only
  rw [if_pos (.inl ho), if_pos ho]

/-! ### Imports (R281) -/

/-- The registers of KEY while an import of slot `k` is under way (R281). -/
def Board.importBusy (b : Board) (k : Nat) : Board := ((b.put pKEY F.KEY_CMD.OP 1).put pKEY F.KEY_CMD.SLOT k).put pKEY F.KEY_STAT.BUSY 1

theorem Board.importBusy_only (b : Board) (k : Nat) : b.Only (b.importBusy k) [(pKEY, 16), (pKEY, 17)] :=
  (((Board.Only.refl _ _).put _ (by decide) (by decide)).put _ (by decide) (by decide)).put _ (by decide) (by decide)

theorem Board.importBusy_slot (b : Board) {k : Nat} (hk : k < 4096) : (b.importBusy k).get pKEY F.KEY_CMD.SLOT = k := by
  unfold Board.importBusy
  rw [Board.get_put_clear _ _ (by decide) (by decide), Board.get_put_self _ _ _ _ (by decide)]
  exact Nat.mod_eq_of_lt hk

/-- R281: an import into an empty slot fills it with the seed. -/
theorem State.importSeed_fills {s : State} {k : Nat} (hc : s.bd.unit pKEY ≠ stCONTAINED) (ht : s.bd.unit pKEY ≠ stTEST) (hr : s.keys.rbgBad = false)
    (he : (s.keySlot k).st = 0) (seed : Nat) : s.importSeed k (some seed) = (s.setKeySlot k ⟨1, 0, seed, false, false, 1⟩).seal k := by
  unfold State.importSeed
  rw [if_neg (not_or.2 ⟨hc, ht⟩), if_neg (by simp [hr]), if_neg (not_not_intro he)]

theorem State.keySlot_setKeySlot (s : State) (k : Nat) (v : KeySlot) : (s.setKeySlot k v).keySlot k = v := smGet_smSet_self _ _ _ _

/-! ### Packets of the manager under its TERM (R313, R319, R321) -/

/-- No TERM is newer than itself. -/
theorem serialNewer_self (w x : Nat) : serialNewer w x x = false := by
  have hpos := Nat.two_pow_pos w
  have hdiff : (x + 2 ^ w - x % 2 ^ w) % 2 ^ w = 0 := by
    have hdiv := Nat.div_add_mod x (2 ^ w)
    have hlt := Nat.mod_lt x hpos
    have hsum : x + 2 ^ w - x % 2 ^ w = 2 ^ w * (x / 2 ^ w + 1) := by rw [Nat.mul_add, Nat.mul_one]; omega
    rw [hsum, Nat.mul_mod_right]
  unfold serialNewer
  simp [hdiff]

section
variable {s : State} {term : Nat} (hv : s.bd.on pSHM F.SHM_MGR.MGR_VALID = true) (ht : s.bd.get pSHM F.SHM_MGR.TERM = term)
include hv ht

theorem State.fromManager_current (src : Nat) (f : State → State) : s.fromManager src term f = f s := by
  unfold State.fromManager
  dsimp only
  rw [if_neg (by simp [ht, serialNewer_self]), if_pos ⟨hv, ht⟩]

theorem State.tblWrite_writes (src table index a b d e : Nat) :
    s.tblWrite src term table index true a b d e
      = (s.tableWrite table index a b d e).2.send 0x39 src [(s.tableWrite table index a b d e).1.num] none := by
  unfold State.tblWrite
  rw [State.fromManager_current hv ht]
  rfl

theorem State.tblWrite_reads (src table index a b d e : Nat) :
    s.tblWrite src term table index false a b d e = s.send 0x39 src [(s.tableRead table index).1.num] none := by
  unfold State.tblWrite
  rw [State.fromManager_current hv ht]
  rfl

theorem State.mgrSync_member (src part st : Nat) :
    s.mgrSync src term (.member part st) = (s.applySync (.member part st)).send 0x3B src [term] none := by
  unfold State.mgrSync
  rw [State.fromManager_current hv ht]
  rfl

theorem State.keyBlob_imports (hb : s.bd.on pKEY F.KEY_STAT.BUSY = false) (src k : Nat) (seed : Option Nat) :
    s.keyBlob src term k seed = (s.on (·.importBusy k)).importSeed k seed := by
  unfold State.keyBlob
  rw [State.fromManager_current hv ht, if_neg (by simp [hb])]
  rfl

end

/-! ### Answers to the manager (R319, R321) -/

theorem State.tblRsp_ok {s : State} {src : Nat} (h : s.shelf.tables = [(src, 0x100)]) : s.tblRsp src 0 = { s with shelf := { s.shelf with tables := [] } } := by
  unfold State.tblRsp
  simp [h]

theorem State.syncAck_next {s : State} {x : Nat} {rest : List Sync} (h : s.shelf.syncs = .nextSxn x :: rest) :
    s.syncAck = { s with shelf := { s.shelf with syncs := rest, nextSxn := x } } := by
  unfold State.syncAck
  rw [h]
  rfl

end Sys2Proof.Machine

open Sys2Proof Sys2Proof.Machine

/-- Settles O47 (R270, R281, R315, R319, R321): each packet is cut down to its one effect; those of the manager come under its TERM (R313). The time-out's moment is the model's
clock (log entry 43). -/
theorem joinsTablesAndSyncs : Obligations.JoinsTablesAndSyncs := by
  intro s src term
  refine ⟨fun k x msg last total bytes valid cabled hx hp h0 h6 hl hb hlo hhi => ?fragment, fun k x bytes valid cabled hx hp hpeer hs hne hb => ?accept,
    fun x hx hs => ?timeout, fun words ho => ?loss, fun hv ht => ⟨fun t i a b d e => ⟨?write, ?read⟩, fun part st => ?member, fun slot seed hb hc htest hr he => ?blob⟩,
    fun h => ?response, fun x rest h => ?sync⟩
  case fragment => exact ⟨_, Runs.of_run (exec_join k src msg 0 last total bytes valid cabled s) (State.joinPacket_first hx hp h0 h6 hl hb hlo hhi _ _ _), rfl, rfl, rfl⟩
  case accept =>
    have hlen : (BitVec.ofNat 32 bytes.length).toNat = bytes.length := by simp; omega
    have haccept := (State.joinPacket_single hx hp (msg := 5) (by decide) (by decide) hne hb k.val valid cabled).trans
      (State.joinMessage_accept _ (x := { x with part := none }) hs bytes valid cabled)
    rw [s.joinAt_over (x := { x with part := none }) hpeer] at haccept
    refine ⟨(s.joinOver src.val).on (·.shmCloses 3), Runs.of_run (exec_join k src 5 0 0 (BitVec.ofNat 32 bytes.length) bytes valid cabled s) ?_, rfl, rfl⟩
    rw [hlen]
    exact haccept
  case timeout => exact ⟨_, Runs.of_run (exec_joinTimeout src s) (State.joinTimeout_manager hx hs), rfl, rfl⟩
  case loss => exact ⟨_, Runs.of_run (exec_lossRec words s) (State.lossRec_own ho), rfl⟩
  case write => exact ⟨_, _, _, Runs.of_run (exec_tblWrite src term t i true a b d e s) (State.tblWrite_writes hv ht _ _ _ _ _ _ _), rfl, rfl⟩
  case read => exact ⟨_, Runs.of_run (exec_tblWrite src term t i false a b d e s) (State.tblWrite_reads hv ht _ _ _ _ _ _ _), rfl⟩
  case member => exact ⟨_, Runs.of_run (exec_mgrSync src term _ s) (State.mgrSync_member hv ht _ _ _), rfl, rfl⟩
  case blob =>
    have hunit : (s.bd.importBusy slot.val).unit pKEY = s.bd.unit pKEY := (s.bd.importBusy_only slot.val).get _ _ (by decide)
    have himport := (State.keyBlob_imports hv ht hb src.val slot.val (some seed.toNat)).trans
      (State.importSeed_fills (s := s.on (·.importBusy slot.val)) (by rw [State.on_bd, hunit]; exact hc) (by rw [State.on_bd, hunit]; exact htest) hr he seed.toNat)
    exact ⟨_, Runs.of_run (exec_keyBlob src term slot (some seed) s) himport, State.keySlot_setKeySlot _ _ _, s.bd.importBusy_slot slot.isLt⟩
  case response => exact ⟨_, Runs.of_run (exec_tblRsp src 0 s) (State.tblRsp_ok h), rfl, rfl⟩
  case sync => exact ⟨_, Runs.of_run (exec_syncAck s) (State.syncAck_next h), rfl, rfl⟩

end

section
/-! Key slots (O33): imports, clears and inspections by KEY_CMD (R275, R279, R281, R282, R284). -/

namespace Sys2Proof.Machine

theorem exec_importKey (p : Path) (k : Fin 4096) (seed : Option Line) (s : State) :
    exec (.importKey p k seed) s = s.run (fun s => s.keyCommand p 1 k.val (fun s => s.importSeed k.val (seed.map BitVec.toNat))) := rfl
theorem exec_clearKey (p : Path) (k : Fin 4096) (s : State) :
    exec (.clearKey p k) s = s.run (fun s => s.keyCommand p 2 k.val (fun s => s.clearSlot k.val)) := rfl
theorem exec_inspectKey (p : Path) (k : Fin 4096) (s : State) :
    exec (.inspectKey p k) s = s.quick (fun s => s.keyCommand p 3 k.val (fun s => s.inspect k.val)) := rfl

/-! ### A command is written and ends (R284) -/

/-- The registers of KEY while operation `op` of slot `k` is under way (R284). -/
def Board.keyAsked (b : Board) (op k : Nat) : Board := ((b.put pKEY F.KEY_CMD.OP op).put pKEY F.KEY_CMD.SLOT k).put pKEY F.KEY_STAT.BUSY 1

theorem Board.keyAsked_slot_of_import (b : Board) {k : Nat} (hk : k < 4096) : (b.keyAsked 1 k).get pKEY F.KEY_CMD.SLOT = k := b.importBusy_slot hk

theorem Board.keyAsked_only (b : Board) (op k : Nat) : b.Only (b.keyAsked op k) [(pKEY, 16), (pKEY, 17)] :=
  (((Board.Only.refl _ _).put _ (by decide) (by decide)).put _ (by decide) (by decide)).put _ (by decide) (by decide)

theorem Board.keyAsked_busy (b : Board) (op k : Nat) : (b.keyAsked op k).on pKEY F.KEY_STAT.BUSY = true := Board.on_put_one _ _ _ (by decide)

theorem Board.keyAsked_unit (b : Board) (op k : Nat) : (b.keyAsked op k).unit pKEY = b.unit pKEY := (b.keyAsked_only op k).get _ _ (by decide)

/-- R284: a command that is written while none runs is started with its registers set. -/
theorem State.keyCommand_takes {s : State} {p : Path} (hg : s.bd.gate p pKEY 0x040 true false = none) (hb : s.bd.on pKEY F.KEY_STAT.BUSY = false)
    (op k : Nat) (f : State → State) : s.keyCommand p op k f = f (s.on (·.keyAsked op k)) := by
  unfold State.keyCommand
  rw [State.written_pass hg, if_neg (by simp [hb])]
  rfl

theorem Board.keyDone_only (b : Board) (c : Code) : b.Only (b.keyDone c) [(pKEY, 17)] :=
  ((Board.Only.refl _ _).put _ (by decide) (by decide)).put _ (by decide) (by decide)

theorem Board.keyDone_idle (b : Board) (c : Code) : (b.keyDone c).on pKEY F.KEY_STAT.BUSY = false :=
  (Board.on_put_clear _ _ (by decide) (by decide)).trans (Board.on_put_zero _ _ _ (by decide))

theorem Board.keyDone_result (b : Board) (c : Code) : (b.keyDone c).get pKEY F.KEY_STAT.RESULT = c.num :=
  (Board.get_put_self _ _ _ _ (by decide)).trans (Nat.mod_eq_of_lt (Code.num_lt c))

theorem State.keySlot_setKeySlot_ne (s : State) {j k : Nat} (h : j ≠ k) (v : KeySlot) : (s.setKeySlot k v).keySlot j = s.keySlot j := smGet_smSet_ne _ h _ _

/-! ### Imports without a seed (R281) -/

theorem State.importSeed_withoutSeed {s : State} {k : Nat} (hc : s.bd.unit pKEY ≠ stCONTAINED) (ht : s.bd.unit pKEY ≠ stTEST) (hr : s.keys.rbgBad = false)
    (he : (s.keySlot k).st = 0) : s.importSeed k none = s.importFailed k .integrity := by
  unfold State.importSeed
  rw [if_neg (not_or.2 ⟨hc, ht⟩), if_neg (by simp [hr]), if_neg (not_not_intro he)]

/-- The state with words of KEY_BLOB cleared. -/
def State.clearWords (s : State) (l : List Nat) : State := l.foldl (fun s j => s.on (fun b => b.put pKEY (F.KEY_BLOB.DATA.ix j) 0)) s

theorem State.clearBlob_eq (s : State) : s.clearBlob = (s.clearWords (List.range 407)).drawNonce := rfl

/-- KEY_BLOB and KEY_NONCE lie from 0x048 up. -/
theorem Board.rd_put_above (b : Board) (p v : Nat) {o : Nat} {f : Fld} (ho : o < 0x048) (hf : 0x048 ≤ f.off ∧ f.off < 4096) :
    (b.put pKEY f v).rd p o = b.rd p o := Board.rd_wr_off hf.2 (by omega) (by omega)

theorem State.clearWords_rd (s : State) (p : Nat) {o : Nat} (ho : o < 0x048) {l : List Nat} (hl : ∀ j ∈ l, j < 407) : (s.clearWords l).bd.rd p o = s.bd.rd p o :=
  List.foldlRecOn (motive := fun t : State => t.bd.rd p o = s.bd.rd p o) l _ rfl fun t ht j hj =>
    (t.bd.rd_put_above p 0 ho (by have := hl j hj; simp only [Fld.ix]; omega)).trans ht

theorem State.clearWords_keys (s : State) (l : List Nat) : (s.clearWords l).keys = s.keys :=
  List.foldlRecOn (motive := fun t : State => t.keys = s.keys) l _ rfl fun _ ht _ _ => ht

theorem State.drawNonce_rd (s : State) (p : Nat) {o : Nat} (ho : o < 0x048) : s.drawNonce.bd.rd p o = s.bd.rd p o :=
  (Board.rd_put_above _ p _ ho (by decide)).trans (Board.rd_put_above _ p _ ho (by decide))

theorem State.drawNonce_slots (s : State) : s.drawNonce.keys.slots = s.keys.slots := rfl

theorem State.clearBlob_rd (s : State) (p : Nat) {o : Nat} (ho : o < 0x048) : s.clearBlob.bd.rd p o = s.bd.rd p o := by
  rw [State.clearBlob_eq, State.drawNonce_rd _ p ho, State.clearWords_rd s p ho fun _ => List.mem_range.1]

theorem State.clearBlob_slots (s : State) : s.clearBlob.keys.slots = s.keys.slots := by
  rw [State.clearBlob_eq, State.drawNonce_slots, State.clearWords_keys]

/-- R281: an import that ends without a seed leaves the slots alone and tells its result. -/
theorem State.importFailed_tells (s : State) (k : Nat) (c : Code) :
    (s.importFailed k c).keys.slots = s.keys.slots ∧ (s.importFailed k c).bd.get pKEY F.KEY_STAT.RESULT = c.num
      ∧ (s.importFailed k c).bd.on pKEY F.KEY_STAT.BUSY = false ∧ ((s.importFailed k c).bd.rd pKEY 0x010).getLsbD E.KEY.IMPORT_FAILED = true := by
  unfold State.importFailed
  refine ⟨State.clearBlob_slots _, (Board.get_congr (State.clearBlob_rd _ _ (by decide))).trans (Board.keyDone_result _ _),
    (Board.on_congr (State.clearBlob_rd _ _ (by decide))).trans (Board.keyDone_idle _ _), ?_⟩
  rw [State.clearBlob_rd _ _ (by decide), State.on_bd, Board.keyDone_only _ _ _ _ (by decide) (by decide)]
  exact Board.raises_status _ pKEY _ { ev E.KEY.IMPORT_FAILED k c.num 0 0 with code := c.num } (by simp) (show E.KEY.IMPORT_FAILED < 32 by decide)

/-! ### Clears (R282) -/

/-- The state in which the clear of slot `k` has begun, before the slot's dirty lines are written back. -/
def State.clearing (s : State) (k : Nat) : State :=
  let t := s.setKeySlot k { s.keySlot k with st := 5, op := 2 }
  { t with keys := { t.keys with busy := some (k, (s.dirtyUnder k).length, 0) } }

theorem State.clearing_keySlot (s : State) (k : Nat) : (s.clearing k).keySlot k = { s.keySlot k with st := 5, op := 2 } :=
  s.keySlot_setKeySlot k { s.keySlot k with st := 5, op := 2 }

/-- R282: a LOADED slot that no extent and no committed window names is cleared; what follows are write-backs. -/
theorem State.clearSlot_begins {s : State} {k : Nat} (hc : s.bd.unit pKEY ≠ stCONTAINED) (ht : s.bd.unit pKEY ≠ stTEST) (hl : (s.keySlot k).st = 1)
    (hx : s.xtn.lxt = []) (hw : ∀ hw, hw < 64 → s.bd.committed hw = false) : (s.clearing k).SameButWrites (s.clearSlot k) := by
  have hwindows : ∀ g : Nat → Bool, (List.range 64).any (fun hw => s.bd.committed hw && g hw) = false := fun g =>
    List.any_eq_false.2 fun x hx => by simp [hw x (List.mem_range.1 hx)]
  unfold State.clearSlot
  dsimp only
  rw [if_neg (not_or.2 ⟨hc, ht⟩), if_neg (by omega), if_neg (by omega), if_neg (by simp [hx, Bool.and_assoc, hwindows]), if_neg (not_not_intro hl)]
  exact State.foldl_writeBack_same id _ (s.clearing k)

theorem State.SameButWrites.keys {s t : State} (h : s.SameButWrites t) : t.keys = s.keys := (congrArg State.keys h :)

theorem State.SameButWrites.keySlot {s t : State} (h : s.SameButWrites t) (k : Nat) : t.keySlot k = s.keySlot k := by
  unfold State.keySlot
  rw [h.keys]

/-! ### Inspections (R284) -/

theorem State.inspect_below (s : State) (f : Board → Board) (k : Nat) : s.SameBelow ((s.on f).inspect k) := rfl

/-- R284: an inspection shows the version of the slot and ends. -/
theorem State.inspect_shows (s : State) (k : Nat) :
    (s.inspect k).bd.get pKEY F.KEY_INFO1.VERSION = (s.keySlot k).ver % 2 ^ 32 ∧ (s.inspect k).bd.on pKEY F.KEY_STAT.BUSY = false
      ∧ (s.inspect k).bd.get pKEY F.KEY_STAT.RESULT = Code.ok.num := by
  unfold State.inspect
  refine ⟨?_, Board.keyDone_idle _ _, Board.keyDone_result _ _⟩
  rw [State.on_bd, (Board.keyDone_only _ _).get _ _ (by decide), Board.get_congr (Board.rd_wr_off (by decide) (by decide) (by decide))]
  exact Board.get_put_self _ _ _ _ (by decide)

end Sys2Proof.Machine

open Sys2Proof Sys2Proof.Machine

/-- Settles O33 (R275, R279, R281, R282, R284): a command that the gate admits while none runs is started with its registers set, and each is cut down to its one effect on the
slot. -/
theorem keySlotsAreFilledAndCleared : Obligations.KeySlotsAreFilledAndCleared := by
  intro s p k hg hb
  have htake := State.keyCommand_takes hg hb
  have hcont : ∀ {op st}, s.bd.unit pKEY ≠ st → (s.on (·.keyAsked op k.val)).bd.unit pKEY ≠ st := fun h => by rwa [State.on_bd, Board.keyAsked_unit]
  refine ⟨fun seed hc ht hr he => ?fill, fun hc ht hr he => ?fail, fun hc ht hl hx hw => ?clear, ?inspect⟩
  case fill =>
    refine ⟨_, Runs.of_run (exec_importKey p k (some seed) s) ((htake 1 k.val _).trans (State.importSeed_fills (hcont hc) (hcont ht) hr he _)),
      State.keySlot_setKeySlot _ _ _, s.bd.keyAsked_busy 1 k.val, s.bd.keyAsked_slot_of_import k.isLt, fun j hj => State.keySlot_setKeySlot_ne _ hj _⟩
  case fail =>
    exact ⟨_, Runs.of_run (exec_importKey p k none s) ((htake 1 k.val _).trans (State.importSeed_withoutSeed (hcont hc) (hcont ht) hr he)),
      State.importFailed_tells _ _ _⟩
  case clear =>
    have hwindows : ∀ hw, hw < 64 → (s.on (·.keyAsked 2 k.val)).bd.committed hw = false := fun x hx =>
      ((s.bd.keyAsked_only 2 k.val).on _ _ ⟨by simp only [Fld.ix]; omega, by simp⟩).trans (hw x hx)
    have hsame := State.clearSlot_begins (s := s.on (·.keyAsked 2 k.val)) (hcont hc) (hcont ht) hl hx hwindows
    refine ⟨_, Runs.of_run (exec_clearKey p k s) (htake 2 k.val _), (hsame.keySlot _).trans (State.clearing_keySlot _ _), ?_, ?_⟩
    · rw [hsame.bd]
      exact s.bd.keyAsked_busy 2 k.val
    · rw [hsame.keys]
      rfl
  case inspect =>
    obtain ⟨hversion, hidle, hresult⟩ := (s.on (·.keyAsked 3 k.val)).inspect_shows k.val
    exact ⟨_, Ends.of_quick (exec_inspectKey p k s) (htake 3 k.val _), s.inspect_below _ k.val, hversion, hidle, hresult⟩

end

section
/-! Re-key sweeps and crypto erases (O34): R295 and R298 to R302. The moments of a sweep's rows are the model's clock (log entries 43 and 149), and that a sweep asks for the
folds of a second at once is its choice too (log entry 45). -/

namespace Sys2Proof.Machine

theorem exec_rkyStart (p : Path) (k : Fin 4096) (s : State) : exec (.rkyStart p k) s = s.run (fun s => s.rkyStart p k.val) := rfl
theorem exec_sweepRatePeriod (s : State) : exec .sweepRatePeriod s = s.quick State.sweepRate := rfl
theorem exec_sweepCursorSave (s : State) : exec .sweepCursorSave s = s.quick State.sweepSave := rfl
theorem exec_sweepLate (k : Fin 4096) (s : State) : exec (.sweepLate k) s = s.run (fun s => s.sweepLate k.val) := rfl
theorem exec_eraseDone (s : State) : exec .eraseDone s = s.run State.eraseDone := rfl

/-! ### RKY_CMD (R302) -/

theorem State.rkyStart_triggers {s : State} {p : Path} {k : Nat} (hg : s.bd.gate p pRKY 0x044 true false = none) (hempty : (s.keySlot k).st ≠ 0)
    (hclearing : (s.keySlot k).st ≠ 5) (hv : (s.keySlot k).ver ≠ 2 ^ 32 - 1) :
    s.rkyStart p k = ((s.on (·.put pRKY F.RKY_CMD.KEY k)).trigger k none).on (·.put pRKY F.RKY_CMD.RESULT 0) := by
  unfold State.rkyStart
  rw [State.written_pass hg]
  exact (if_neg (not_or.2 ⟨hempty, hclearing⟩)).trans (if_neg hv)

/-! ### The sweep of a slot -/

/-- With one sweep under way, a change of its slot's sweep changes it. -/
theorem State.onSweep_single {s : State} {w : Sweep} (h : s.keys.sweeps = [w]) (f : Sweep → Sweep) : (s.onSweep w.slot f).keys.sweeps = [f w] := by
  simp [State.onSweep, h]

theorem State.sweepOf_slot {s : State} {k : Nat} {w : Sweep} (h : s.sweepOf k = some w) : w.slot = k := by
  simpa using List.find?_some h

/-- A change of a slot's sweep that keeps the slots of sweeps shows in it. -/
theorem State.sweepOf_onSweep {s : State} {k : Nat} {w : Sweep} (h : s.sweepOf k = some w) {f : Sweep → Sweep} (hf : ∀ x, (f x).slot = x.slot) :
    (s.onSweep k f).sweepOf k = some (f w) := by
  have hkeep : ((fun x : Sweep => decide (x.slot = k)) ∘ fun x => if x.slot = k then f x else x) = fun x => decide (x.slot = k) := by
    funext x
    by_cases hx : x.slot = k <;> simp [hx, hf]
  unfold State.sweepOf at h ⊢
  unfold State.onSweep
  rw [List.find?_map, hkeep, h, Option.map_some, if_pos (State.sweepOf_slot h)]

/-! ### The rate of a sweep (R299) -/

theorem State.foldl_wantFold_same (s : State) (cause : Nat) (l : List Nat) : s.SameButWrites (l.foldl (fun s p => s.wantFold p cause) s) :=
  List.foldlRecOn (motive := s.SameButWrites) l _ (.refl s) fun t ht p _ => ht.trans (t.wantFold_same p cause)

/-- The state with the period of the sweeps' rate over. -/
def State.rateDue (s : State) : State := s.on (fun b => b.elapse 16 1000000)

/-- The rate of a sweep for the next second. -/
def State.rateOf (s : State) (w : Sweep) : Nat := ceilDiv w.left.length (max 1 (s.bd.get pRKY F.RKY_CFG.TARGET_S - s.sweepSeconds w))

/-- The pages that a sweep asks for at a rate: the first of those for which no fold has been asked. -/
def Sweep.asks (w : Sweep) (rate : Nat) : List Nat := ((w.left.filter (fun e => decide (e.2 = 0))).take rate).map Prod.fst

/-- A sweep that has taken a rate, `ask` being the pages for which it has asked. -/
def Sweep.rated (w : Sweep) (rate : Nat) (ask : List Nat) : Sweep := { w with rate := rate, left := w.left.map (fun e => if e.1 ∈ ask then (e.1, 1) else e) }

theorem Sweep.rated_pages (w : Sweep) (rate : Nat) (ask : List Nat) : (w.rated rate ask).left.map Prod.fst = w.left.map Prod.fst := by
  unfold Sweep.rated
  rw [List.map_map]
  refine List.map_congr_left fun e _ => ?_
  by_cases h : e.1 ∈ ask <;> simp [h]

/-- With one sweep under way and no drain, a period asks for its folds and gives it its rate. -/
theorem State.sweepRate_single {s : State} {w : Sweep} (hw : s.keys.sweeps = [w]) (hst : (s.keySlot w.slot).st = 3) (hphase : s.bd.get pPDR F.PDR_STAT.PHASE = 0) :
    s.sweepRate = ((w.asks (s.rateDue.rateOf w)).foldl (fun s p => s.wantFold p 6) s.rateDue).onSweep w.slot
      (·.rated (s.rateDue.rateOf w) (w.asks (s.rateDue.rateOf w))) := by
  have hdue : s.rateDue.keys.sweeps.filter (fun w => decide ((s.rateDue.keySlot w.slot).st = 3)) = [w] := by
    have hsweeps : s.rateDue.keys.sweeps = [w] := hw
    have hst' : (s.rateDue.keySlot w.slot).st = 3 := hst
    rw [hsweeps, List.filter_singleton, hst']
    rfl
  have hphase' : s.rateDue.bd.get pPDR F.PDR_STAT.PHASE = 0 := hphase
  unfold State.sweepRate
  rw [← State.rateDue, if_neg (by omega), hdue]
  rfl

theorem State.sweepRate_rates {s : State} {w : Sweep} (hw : s.keys.sweeps = [w]) (hst : (s.keySlot w.slot).st = 3) (hphase : s.bd.get pPDR F.PDR_STAT.PHASE = 0) :
    s.sweepRate.keys.sweeps = [w.rated (s.rateDue.rateOf w) (w.asks (s.rateDue.rateOf w))] := by
  rw [State.sweepRate_single hw hst hphase]
  exact State.onSweep_single ((congrArg Keys.sweeps (s.rateDue.foldl_wantFold_same 6 _).keys).trans hw) _

/-! ### The saved cursors (R301) -/

theorem State.SameButStore.keys {s t : State} (h : s.SameButStore t) : t.keys = s.keys := (congrArg State.keys h :)

theorem State.store_keys (s : State) (id : Nat) (body : List Byte) : (s.store id body).keys = s.keys :=
  ((State.StoreFrame.refl [(pPST, 16)] s).store (by simp) id body).same.keys

/-- The state with the period of the cursors over. -/
def State.cursorsDue (s : State) : State := s.on (fun b => b.elapse 9 60000000)

/-- The state in which every sweep has its cursor. -/
def State.withCursors (s : State) : State := { s with keys := { s.keys with sweeps := s.keys.sweeps.map (fun w => { w with cursor := s.sweepCursor w }) } }

theorem State.sweepSave_stores {s : State} (h : s.keys.sweeps ≠ []) : ∃ body, s.sweepSave = s.cursorsDue.withCursors.store 11 body := ⟨_, if_neg h⟩

/-! ### A late sweep (R300) -/

/-- The state in which a sweep of slot `k` has passed its 900 s and is late. -/
def State.passed (s : State) (k : Nat) (w : Sweep) : State := (s.upTo (w.start + 900000000)).onSweep k (fun w => { w with late := true })

theorem State.sweepLate_tells {s : State} {k : Nat} {w : Sweep} (hw : s.sweepOf k = some w) (hl : w.late = false) (hst : (s.keySlot k).st = 3) :
    ∃ e : Ev, e.bit = E.RKY.SWEEP_LATE ∧ s.sweepLate k = (s.passed k w).on (fun b => (b.count pRKY F.RKY_LATE.COUNT 1).raise pRKY e) := by
  unfold State.sweepLate
  rw [hw]
  exact ⟨_, rfl, if_neg (by simp [hl, hst])⟩

/-! ### The oldest erase is done (R295) -/

/-- What the erase at the head of the queue leaves, whatever it drops: the queue without it, its event, and no patch or fold of the extent. -/
theorem State.eraseDone_erases {s : State} {x since : Nat} {rest : List (Nat × Nat)} (h : s.keys.erases = (x, since) :: rest) :
    ∃ v : State, s.eraseDone = (v.dirtySegment (4288 + x / 512)).followLimit ∧ v.keys.erases = rest ∧ (v.bd.rd pCRY 0x010).getLsbD E.CRY.ERASE_DONE = true
      ∧ (∀ q ∈ v.wp.patches, inExtent x q.lln = false) ∧ ∀ f ∈ v.wp.folds, f.page / 2 ^ 16 ≠ x := by
  unfold State.eraseDone
  rw [h]
  refine ⟨_, rfl, rfl, Board.raise_status _ pCRY _ (show E.CRY.ERASE_DONE < 32 by decide), fun q hq => ?_, fun f hf => ?_⟩
  · simpa using (List.mem_filter.1 hq).2
  · simpa using (List.mem_filter.1 hf).2

end Sys2Proof.Machine

open Sys2Proof Sys2Proof.Machine

/-- Settles O34 (R295, R298 to R302): each row is cut down to its one change of the key vault. The ends of a second, of 60 s and of 900 s are moments of the model's clock (log
entries 43 and 149), and a sweep asks for the folds of its rate at the period's end (log entry 45). -/
theorem sweepsAndErasesRun : Obligations.SweepsAndErasesRun := by
  intro s
  refine ⟨fun p k hg hempty hclearing hv => ?trigger, fun w hw hst hphase => ?rate, fun hs => ?save, fun k w hw hl hst => ?late, fun x since rest h => ?erase⟩
  case trigger =>
    exact ⟨_, s.on (·.put pRKY F.RKY_CMD.KEY k.val), Runs.of_run (exec_rkyStart p k s) (State.rkyStart_triggers hg hempty hclearing hv), rfl, rfl, rfl,
      Board.get_put_self _ pRKY F.RKY_CMD.RESULT 0 (by decide)⟩
  case rate =>
    exact ⟨_, _, Ends.of_quick (exec_sweepRatePeriod s) rfl, State.sweepRate_rates hw hst hphase, rfl, w.rated_pages _ _, rfl, rfl⟩
  case save =>
    obtain ⟨body, hsave⟩ := State.sweepSave_stores hs
    refine ⟨_, s.cursorsDue, Ends.of_quick (exec_sweepCursorSave s) hsave, rfl, ?_, ?_⟩
    · rw [State.store_keys]
      rfl
    · rw [State.store_keys]
      rfl
  case late =>
    obtain ⟨e, hbit, hlate⟩ := State.sweepLate_tells hw hl hst
    refine ⟨_, _, Runs.of_run (exec_sweepLate k s) hlate, State.sweepOf_onSweep (s := s.upTo _) hw fun _ => rfl, rfl, ?_, ?_⟩
    · rw [State.on_bd, Board.get_raise _ _ _ (by decide)]
      exact Board.get_count_self _ _ _ _ (by decide)
    · rw [← hbit]
      exact Board.raise_status _ pRKY e (hbit ▸ by decide)
  case erase =>
    obtain ⟨v, hdone, hleft⟩ := State.eraseDone_erases h
    exact ⟨_, v, Runs.of_run (exec_eraseDone s) rfl, hdone, hleft⟩

end

section
/-! What the work of the shelf leaves alone (O40, O41, O44, O45, O46, O48): registers but for those named and those of events, status bits, the clock, and all but the board. -/

namespace Sys2Proof.Machine

/-! ### The frame of a board -/

/-- From `b` to `c` the registers stay, but for the words `ks` and those that events write, no status bit clears, and the clock stands. -/
structure Board.Still (ks : List (Nat × Nat)) (b c : Board) : Prop where
  beside : Board.Beside ks b c
  now : c.now = b.now

section
variable {ks : List (Nat × Nat)} {b c d : Board}

theorem Board.Still.refl (ks : List (Nat × Nat)) (b : Board) : b.Still ks b := ⟨.refl ks b, rfl⟩

theorem Board.Still.trans (h : Board.Still ks b c) (k : Board.Still ks c d) : Board.Still ks b d := ⟨h.beside.trans k.beside, k.now.trans h.now⟩

theorem Board.Still.mono {ls : List (Nat × Nat)} (h : Board.Still ks b c) (hk : ks ⊆ ls) : Board.Still ls b c :=
  ⟨⟨fun p o ho he hn => h.beside.regs p o ho he (mt (@hk _) hn), h.beside.status⟩, h.now⟩

theorem Board.Still.ite {P : Prop} [Decidable P] (h : Board.Still ks b c) (k : Board.Still ks b d) : Board.Still ks b (if P then c else d) := by
  split
  · exact h
  · exact k

theorem Board.Still.get (h : Board.Still ks b c) (p : Nat) (f : Fld) (hk : f.off < 4096 ∧ eventReg p f.off = false ∧ (p, f.off / 4) ∉ ks) : c.get p f = b.get p f :=
  h.beside.get p f hk

theorem Board.Still.on (h : Board.Still ks b c) (p : Nat) (f : Fld) (hk : f.off < 4096 ∧ eventReg p f.off = false ∧ (p, f.off / 4) ∉ ks) : c.on p f = b.on p f :=
  h.beside.on p f hk

/-- A status bit that is set stays set. -/
theorem Board.Still.status (h : Board.Still ks b c) {p n : Nat} (hn : (b.rd p 0x010).getLsbD n = true) : (c.rd p 0x010).getLsbD n = true := h.beside.status p n hn

/-- A change beside registers and clock. -/
theorem Board.Still.same (h : Board.Still ks b c) (hr : d.regs = c.regs) (hn : d.now = c.now) : Board.Still ks b d :=
  h.trans ⟨⟨fun _ _ _ _ _ => by simp only [Board.rd, hr], fun _ _ hi => by simpa only [Board.rd, hr] using hi⟩, hn⟩

theorem Board.Still.only {ls : List (Nat × Nat)} (h : Board.Still ks b c) (k : c.Only d ls) (hn : d.now = c.now) (hs : ∀ p, (p, 4) ∉ ls) (hk : ls ⊆ ks) :
    Board.Still ks b d := h.trans (Board.Still.mono ⟨k.beside hs, hn⟩ hk)

theorem Board.Still.put (h : Board.Still ks b c) (p : Nat) (f : Fld) (v : Nat) (hk : f.off < 4096 ∧ f.off / 4 ≠ 4 ∧ (p, f.off / 4) ∈ ks) :
    Board.Still ks b (c.put p f v) :=
  h.only ((Board.Only.refl c [(p, f.off / 4)]).put v hk.1 (by simp)) rfl (by simp [Ne.symm hk.2.1]) (by simpa using hk.2.2)

theorem Board.Still.tally (h : Board.Still ks b c) (p k n : Nat) : Board.Still ks b (c.tally p k n) := h.same (Board.tally_regs _ _ _ _) (Board.tally_now _ _ _ _)

theorem Board.Still.count (h : Board.Still ks b c) (p : Nat) (f : Fld) (n : Nat) (hk : f.off < 4096 ∧ f.off / 4 ≠ 4 ∧ (p, f.off / 4) ∈ ks) :
    Board.Still ks b (c.count p f n) := (h.put p f _ hk).tally _ _ _

theorem Board.Still.emit (h : Board.Still ks b c) (o : Output) : Board.Still ks b (c.emit o) := h.same rfl rfl

theorem Board.Still.raise (h : Board.Still ks b c) (p : Nat) (e : Ev) : Board.Still ks b (c.raise p e) := ⟨h.beside.raise p e, (Board.raises_now _ _ _).trans h.now⟩

theorem Board.Still.raiseCode (h : Board.Still ks b c) (p : Nat) (k : Code) (e : Ev) : Board.Still ks b (c.raiseCode p k e) :=
  ⟨h.beside.trans ((c.raises_frame p _).beside ks), (Board.raises_now _ _ _).trans h.now⟩

theorem Board.Still.toState (h : Board.Still ks b c) (page st : Nat) (hk : (page, 2) ∈ ks ∧ (pMGT, 23) ∈ ks) : Board.Still ks b (c.toState page st) :=
  h.only (c.toState_only page st) (congrArg Board.now (c.move_same page st _) :) (by simp) (by simp [hk])

theorem Board.Still.serviceLevel (h : Board.Still ks b c) (page : Nat) (reduced : Bool) (hk : (page, 2) ∈ ks ∧ (pMGT, 23) ∈ ks) :
    Board.Still ks b (c.serviceLevel page reduced) := (h.toState page _ hk).ite h

theorem Board.Still.logFault (h : Board.Still ks b c) (hk : faultWords ⊆ ks) (page event cls stall info : Nat) (fatal : Bool) :
    Board.Still ks b (c.logFault page event cls stall info fatal) :=
  have hnow := ((Board.Calm.refl faultWords c).logFault (List.Subset.refl _) page event cls stall info fatal).now
  h.trans (Board.Still.mono ⟨c.logFault_beside page event cls stall info fatal, hnow⟩ hk)

end

/-! ### SHM (R317) -/

section
variable {ks : List (Nat × Nat)} {b c : Board} (h : Board.Still ks b c)
include h

theorem Board.Still.openHidden (hk : (pSHM, 2) ∈ ks ∧ (pMGT, 23) ∈ ks) (n : Nat) : Board.Still ks b (c.openHidden pSHM n) := (h.same (by rfl) (by rfl)).toState _ _ hk

theorem Board.Still.shmCloses (hk : (pSHM, 2) ∈ ks ∧ (pMGT, 23) ∈ ks) (n : Nat) : Board.Still ks b (c.shmCloses n) := by
  have hclosed : Board.Still ks b (c.closeHidden pSHM n) := (h.same (by rfl) (by rfl)).toState _ _ hk
  exact (hclosed.toState _ _ hk).ite hclosed

theorem Board.Still.logPartition (hk : faultWords ⊆ ks) (was : Bool) (event info : Nat) : Board.Still ks b (c.logPartition was event info) :=
  h.ite (h.logFault hk _ _ _ _ _ _)

end

/-- The words that the state of SHM, SHM_SELF and the fault log are kept in. -/
def shelfWords : List (Nat × Nat) := (pSHM, 2) :: (pMGT, 23) :: (pSHM, 16) :: faultWords

section
variable {b c : Board} (h : Board.Still shelfWords b c)
include h

theorem Board.Still.followShm : Board.Still shelfWords b c.followShm := (h.serviceLevel _ _ (by decide)).put _ _ _ (by decide)

theorem Board.Still.unisolate : Board.Still shelfWords b c.unisolate := (Board.Still.shmCloses (h.put _ _ _ (by decide)) (by decide) _).ite h

end

/-! ### The frame of a state -/

theorem State.SameBelow.refl (s : State) : s.SameBelow s := rfl

theorem State.SameBelow.trans {s t u : State} (h : s.SameBelow t) (k : t.SameBelow u) : s.SameBelow u := by
  have e : ({ u with bd := s.bd } : State) = { ({ u with bd := t.bd } : State) with bd := s.bd } := rfl
  unfold State.SameBelow at h k ⊢
  rw [e, k, h]

theorem State.SameBelow.shelf {s t : State} (h : s.SameBelow t) : t.shelf = s.shelf := (congrArg State.shelf h :)

theorem State.SameBelow.ite {P : Prop} [Decidable P] {s t u : State} (h : s.SameBelow t) (k : s.SameBelow u) : s.SameBelow (if P then t else u) := by
  split
  · exact h
  · exact k

/-- Nothing changes but the board, and the board keeps all but the words `ks` and what events write. -/
structure State.Still (ks : List (Nat × Nat)) (s t : State) : Prop where
  below : s.SameBelow t
  board : Board.Still ks s.bd t.bd

section
variable {ks : List (Nat × Nat)} {s t u : State}

theorem State.Still.refl (ks : List (Nat × Nat)) (s : State) : s.Still ks s := ⟨rfl, .refl _ _⟩

theorem State.Still.trans (h : State.Still ks s t) (k : State.Still ks t u) : State.Still ks s u := ⟨h.below.trans k.below, h.board.trans k.board⟩

theorem State.Still.mono {ls : List (Nat × Nat)} (h : State.Still ks s t) (hk : ks ⊆ ls) : State.Still ls s t := ⟨h.below, h.board.mono hk⟩

theorem State.Still.ite {P : Prop} [Decidable P] (h : State.Still ks s t) (k : State.Still ks s u) : State.Still ks s (if P then t else u) := by
  split
  · exact h
  · exact k

theorem State.Still.withBoard (h : State.Still ks s t) {f : Board → Board} (k : Board.Still ks t.bd (f t.bd)) : State.Still ks s (t.on f) :=
  ⟨h.below.on f, h.board.trans k⟩

theorem State.Still.say (h : State.Still ks s t) (o : Output) : State.Still ks s (t.say o) := ⟨h.below.on (·.emit o), h.board.emit o⟩

end

/-- R317: a part with both links DOWN writes SHM_SELF, opens a cause of SHM and tells it. -/
theorem State.followIsolated_still (s : State) : s.Still shelfWords s.followIsolated := by
  have hshown := fun b : Board => Board.Still.put (.put (.refl shelfWords b) pSHM F.SHM_SELF.ISOLATED 1 (by decide)) pSHM F.SHM_SELF.MANAGER 0 (by decide)
  unfold State.followIsolated
  exact .ite (.refl _ s) (.ite (.withBoard (.refl _ s) (.logPartition (((hshown _).openHidden (by decide) 2).raise _ _) (by decide) _ _ _)) (.refl _ s))

end Sys2Proof.Machine
end

section
/-! The shelf links (O40): what a phase, a link that goes DOWN and HELLO leave of the link's registers and of its record (R304 to R306, R310, R316). -/

namespace Sys2Proof.Machine

/-! ### One link -/

theorem State.link_of {s : State} {k : Nat} {l : Link} (hl : s.shelf.links[k]? = some l) : s.link k = l := by simp [State.link, hl]

theorem State.onLink_get {s : State} {k : Nat} {l : Link} (hl : s.shelf.links[k]? = some l) (f : Link → Link) : (s.onLink k f).shelf.links[k]? = some (f l) := by
  simp [hl]

/-- The words that the unit of a link and the work of SHM are kept in. -/
def linkWords (k : Nat) : List (Nat × Nat) := (pSHL k, 2) :: shelfWords

theorem shelfWords_sub (k : Nat) : shelfWords ⊆ linkWords k := List.subset_cons_self _ _

/-- The registers of a link that neither events nor the work of SHM and of its unit write. -/
theorem linkReg_kept (k : Fin 2) {o : Nat} (ho : o < 4096 ∧ o / 4 ∉ [2, 4, 8, 9, 10, 11]) :
    o < 4096 ∧ eventReg (pSHL k.val) o = false ∧ (pSHL k.val, o / 4) ∉ linkWords k.val := by
  have hpages : pSHL k.val ≠ pSHM ∧ pSHL k.val ≠ pMGT ∧ pSHL k.val ≠ pFLT ∧ pSHL k.val ≠ pEVQ ∧ ¬ pSHL k.val ≤ 23 := by
    simp only [pSHL, pSHM, pMGT, pFLT, pEVQ]
    omega
  obtain ⟨hlt, hword⟩ := ho
  simp only [List.mem_cons, List.not_mem_nil, or_false, not_or] at hword
  exact ⟨hlt, by simp [eventReg, hword, hpages], by simp [linkWords, shelfWords, faultWords, hword, hpages]⟩

section
variable {k : Fin 2} {b c : Board} (h : Board.Still (linkWords k.val) b c)
include h

theorem Board.Still.link_get {f : Fld} (ho : f.off < 4096 ∧ f.off / 4 ∉ [2, 4, 8, 9, 10, 11]) : c.get (pSHL k.val) f = b.get (pSHL k.val) f :=
  h.get _ f (linkReg_kept k ho)

theorem Board.Still.link_on {f : Fld} (ho : f.off < 4096 ∧ f.off / 4 ∉ [2, 4, 8, 9, 10, 11]) : c.on (pSHL k.val) f = b.on (pSHL k.val) f :=
  h.on _ f (linkReg_kept k ho)

end

/-! ### A link enters a phase (R304) -/

/-- SHL_STAT and SHL_CAUSE of a link that enters a phase. -/
def Board.phased (b : Board) (k ph : Nat) : Board :=
  let c := b.put (pSHL k) F.SHL_STAT.PHASE ph
  if ph = 0 then c else c.put (pSHL k) F.SHL_CAUSE.DOWN 0

/-- The record of a link that enters a phase. -/
def Link.entered (l : Link) (ph now : Nat) : Link :=
  { l with phaseAt := max 1 now, everUp := l.everUp || decide (ph = 4), goodAt := if ph = 4 then now else l.goodAt }

theorem Board.phased_now (b : Board) (k ph : Nat) : (b.phased k ph).now = b.now := by
  unfold Board.phased
  dsimp only
  split <;> rfl

theorem Board.phased_phase (b : Board) (k : Nat) {ph : Nat} (hp : ph < 8) : (b.phased k ph).phase k = ph := by
  have hput : (b.put (pSHL k) F.SHL_STAT.PHASE ph).get (pSHL k) F.SHL_STAT.PHASE = ph := (Board.get_put_self _ _ _ _ (by decide)).trans (Nat.mod_eq_of_lt hp)
  unfold Board.phased Board.phase
  dsimp only
  split
  · exact hput
  · exact (Board.get_put_clear _ _ (by decide) (.inr (by decide))).trans hput

/-- The fields of a link that its phase leaves alone: those beside UNIT_STATE, the event registers, PHASE and DOWN. -/
abbrev BesidePhase (f : Fld) : Prop :=
  (f.off < 4096 ∧ f.lo + f.width ≤ 32 ∧ f.off / 4 ∉ [2, 4, 8, 9, 10, 11]) ∧ (f.off / 4 ≠ 17 ∨ f.off = 0x044 ∧ 3 ≤ f.lo) ∧ (f.off / 4 ≠ 18 ∨ f.off = 0x048 ∧ 1 ≤ f.lo)

theorem Board.phased_get (b : Board) (k ph : Nat) {f : Fld} (hf : BesidePhase f) : (b.phased k ph).get (pSHL k) f = b.get (pSHL k) f := by
  obtain ⟨⟨ho, hw, -⟩, hphase, hdown⟩ := hf
  have hput : (b.put (pSHL k) F.SHL_STAT.PHASE ph).get (pSHL k) f = b.get (pSHL k) f :=
    Board.get_put_clear b ph ⟨ho, by decide, hw⟩ (.inr (hphase.imp_right fun e => ⟨e.1, .inr e.2⟩))
  unfold Board.phased
  dsimp only
  split
  · exact hput
  · exact (Board.get_put_clear (g := F.SHL_CAUSE.DOWN) _ _ ⟨ho, by decide, hw⟩ (.inr (hdown.imp_right fun e => ⟨e.1, .inr e.2⟩))).trans hput

theorem Board.phased_rd (b : Board) (k ph p : Nat) {o : Nat} (ho : o < 4096 ∧ o / 4 ≠ 17 ∧ o / 4 ≠ 18) : (b.phased k ph).rd p o = b.rd p o := by
  have honly : b.Only (b.phased k ph) [(pSHL k, 17), (pSHL k, 18)] := by
    have hput := (Board.Only.refl b [(pSHL k, 17), (pSHL k, 18)]).put (p := pSHL k) (f := F.SHL_STAT.PHASE) ph (by decide) (by simp)
    unfold Board.phased
    dsimp only
    split
    · exact hput
    · exact hput.put 0 (by decide) (by simp)
  exact honly p o ho.1 (by simp [ho.2])

theorem Board.phased_up (b : Board) (k : Nat) {ph : Nat} (hp : ph ≠ 0) : (b.phased k ph).on (pSHL k) F.SHL_CAUSE.DOWN = false := by
  unfold Board.phased
  dsimp only
  rw [if_neg hp]
  exact Board.on_put_zero _ _ _ (by decide)

/-- The unit of a link is all that follows its phase and its causes (R304). -/
theorem Board.linkUnit_still (b : Board) (k : Nat) (everUp held : Bool) : b.Still (linkWords k) (b.linkUnit k everUp held) := by
  have hto := fun st => (Board.Still.refl (linkWords k) b).toState (pSHL k) st ⟨by simp [linkWords], by simp [linkWords, shelfWords]⟩
  unfold Board.linkUnit
  dsimp only
  split
  · exact hto _
  · split
    · exact hto _
    · split <;> exact hto _

section
variable (s : State) (k : Fin 2) (ph : Nat)

theorem State.toPhase_still : (s.bd.phased k.val ph).Still (linkWords k.val) (s.toPhase k.val ph).bd := Board.linkUnit_still _ _ _ _

theorem State.toPhase_link {l : Link} (hl : s.shelf.links[k.val]? = some l) : (s.toPhase k.val ph).shelf.links[k.val]? = some (l.entered ph s.bd.now) := by
  have hnow : (s.bd.phased k.val ph).now = s.bd.now := s.bd.phased_now _ _
  rw [← hnow]
  exact State.onLink_get (s := s.on (·.phased k.val ph)) hl _

theorem State.toPhase_now : (s.toPhase k.val ph).bd.now = s.bd.now := (s.toPhase_still k ph).now.trans (s.bd.phased_now _ _)

variable {ph} in
theorem State.toPhase_phase (hp : ph < 8) : (s.toPhase k.val ph).bd.phase k.val = ph :=
  ((s.toPhase_still k ph).link_get (f := F.SHL_STAT.PHASE) (by decide)).trans (s.bd.phased_phase k.val hp)

theorem State.toPhase_get {f : Fld} (hf : BesidePhase f) : (s.toPhase k.val ph).bd.get (pSHL k.val) f = s.bd.get (pSHL k.val) f :=
  ((s.toPhase_still k ph).link_get ⟨hf.1.1, hf.1.2.2⟩).trans (s.bd.phased_get k.val ph hf)

theorem State.toPhase_on {f : Fld} (hf : BesidePhase f) : (s.toPhase k.val ph).bd.on (pSHL k.val) f = s.bd.on (pSHL k.val) f := by
  unfold Board.on
  rw [s.toPhase_get k ph hf]

variable {ph} in
theorem State.toPhase_up (hp : ph ≠ 0) : (s.toPhase k.val ph).bd.on (pSHL k.val) F.SHL_CAUSE.DOWN = false :=
  ((s.toPhase_still k ph).link_on (by decide)).trans (s.bd.phased_up k.val hp)

end

/-! ### A link goes DOWN (R304, R316) -/

/-- SHL of a link that goes DOWN, with the packets it discards told. -/
def Board.linkFallen (b : Board) (k : Nat) (everUp recover : Bool) (discarded acked : Nat) : Board :=
  let p := pSHL k
  let c := ((b.put p F.SHL_STAT.WIDTH 0).put p F.SHL_STAT.PEER_VALID 0).put p F.SHL_STAT.PHASE 0
  let c := (c.count p F.SHL_DOWN.COUNT 1).count p F.SHL_DISCARD.COUNT discarded
  (if everUp then c.put p F.SHL_CAUSE.DOWN 1 else c).raise p (ev E.SHL.LINK_DOWN (bit recover) discarded acked 0)

/-- The state in which link `k` is DOWN, and no other part has been told. -/
def State.linkDropped (s : State) (k : Nat) (recover : Bool) (discarded : Nat) : State :=
  ((s.on (fun b => b.linkFallen k (s.link k).everUp recover discarded (s.link k).acked)).onLink k (fun l => { l with keys := 0, macFails := [] })).toPhase k 0

/-- The manager and the deputy are told on the other link that link `k` to `peer` is DOWN (R316). -/
def State.tellDown (s : State) (k peer : Nat) : State :=
  let tell := fun (s : State) (p : Nat) => s.say (.ring (1 - k) 0x31 s.bd.selfId p [s.bd.selfId, k, peer] none)
  let s := if s.bd.on pSHM F.SHM_MGR.MGR_VALID ∧ s.bd.get pSHM F.SHM_MGR.MGR_ID ≠ s.bd.selfId then tell s (s.bd.get pSHM F.SHM_MGR.MGR_ID) else s
  match s.bd.deputyId with
  | some d => if d = s.bd.selfId then s else tell s d
  | none => s

theorem State.tellDown_still (ks : List (Nat × Nat)) (s : State) (k peer : Nat) : s.Still ks (s.tellDown k peer) := by
  have hmanager : ∀ o, s.Still ks (if s.bd.on pSHM F.SHM_MGR.MGR_VALID ∧ s.bd.get pSHM F.SHM_MGR.MGR_ID ≠ s.bd.selfId then s.say o else s) := fun o =>
    .ite (.say (.refl _ s) _) (.refl _ s)
  unfold State.tellDown
  dsimp only
  split
  · exact .ite (hmanager _) ((hmanager _).say _)
  · exact hmanager _

/-- The loss of a link is logged where the link was UP, and SHM follows it (R317, R472). -/
def State.dropFollowed (s : State) (k discarded : Nat) (up : Bool) : State :=
  (if up then s.on (fun b => b.logFault (pSHL k) E.SHL.LINK_DOWN 7 0 discarded false) else s).followIsolated.on (fun b => b.followShm)

theorem State.dropFollowed_still (s : State) (k discarded : Nat) (up : Bool) : s.Still shelfWords (s.dropFollowed k discarded up) := by
  have hlogged : State.Still shelfWords s (s.on (fun b => b.logFault (pSHL k) E.SHL.LINK_DOWN 7 0 discarded false)) :=
    .withBoard (.refl _ s) (.logFault (.refl _ _) (by decide) _ _ _ _ _ _)
  exact ((hlogged.ite (.refl _ s)).trans (State.followIsolated_still _)).withBoard (.followShm (.refl _ _))

theorem State.linkGone_eq (s : State) (k : Nat) (recover : Bool) (discarded : Nat) :
    s.linkGone k recover discarded =
      if !s.bd.linkUp k then (s.linkDropped k recover discarded).dropFollowed k discarded (s.bd.linkUp k)
      else ((s.linkDropped k recover discarded).dropFollowed k discarded (s.bd.linkUp k)).tellDown k (s.bd.get (pSHL k) F.SHL_STAT.PEER_ID) := rfl

/-- What follows the loss of a link lies on the board: the fault log, the state of SHM, and the reports (R316, R317, R472). -/
theorem State.linkGone_still (s : State) (k : Nat) (recover : Bool) (discarded : Nat) :
    State.Still shelfWords (s.linkDropped k recover discarded) (s.linkGone k recover discarded) := by
  rw [State.linkGone_eq]
  exact .ite (State.dropFollowed_still _ _ _ _) ((State.dropFollowed_still _ _ _ _).trans (State.tellDown_still _ _ _ _))

/-- Advancing a counter leaves a field of another word alone. -/
theorem Board.get_count_clear (b : Board) {p q : Nat} {f g : Fld} (n : Nat) (ho : f.off < 4096 ∧ g.off < 4096 ∧ f.lo + f.width ≤ 32)
    (h : p ≠ q ∨ f.off / 4 ≠ g.off / 4 ∨ f.off = g.off ∧ (f.lo + f.width ≤ g.lo ∨ g.lo + g.width ≤ f.lo)) : (b.count q g n).get p f = b.get p f :=
  (Board.get_tally _ _ _ _ _ _).trans (Board.get_put_clear b _ ho h)

section
variable (b : Board) (k : Fin 2) (everUp recover : Bool) (discarded acked : Nat)

/-- SHL of a link that goes DOWN, before its cause and its event. -/
def Board.linkCleared (b : Board) (k discarded : Nat) : Board :=
  let p := pSHL k
  ((((b.put p F.SHL_STAT.WIDTH 0).put p F.SHL_STAT.PEER_VALID 0).put p F.SHL_STAT.PHASE 0).count p F.SHL_DOWN.COUNT 1).count p F.SHL_DISCARD.COUNT discarded

theorem Board.linkFallen_get {f : Fld} (ho : f.off < 4096 ∧ f.lo + f.width ≤ 32 ∧ f.off / 4 ∉ [2, 4, 8, 9, 10, 11]) (hs : f.off / 4 ≠ 18 ∨ f.off = 0x048 ∧ 1 ≤ f.lo) :
    (b.linkFallen k.val everUp recover discarded acked).get (pSHL k.val) f = (b.linkCleared k.val discarded).get (pSHL k.val) f := by
  have hput := Board.get_put_clear (p := pSHL k.val) (q := pSHL k.val) (g := F.SHL_CAUSE.DOWN) (b.linkCleared k.val discarded) 1 ⟨ho.1, by decide, ho.2.1⟩
    (.inr (hs.imp_right fun e => ⟨e.1, .inr e.2⟩))
  refine (Board.get_raise _ _ _ ⟨ho.1, (linkReg_kept k ⟨ho.1, ho.2.2⟩).2.1⟩).trans ?_
  split
  · exact hput
  · rfl

theorem Board.linkFallen_peer : (b.linkFallen k.val everUp recover discarded acked).get (pSHL k.val) F.SHL_STAT.PEER_VALID = 0 := by
  rw [Board.linkFallen_get _ _ _ _ _ _ (by decide) (by decide)]
  unfold Board.linkCleared
  dsimp only
  rw [Board.get_count_clear _ _ (by decide) (.inr (by decide)), Board.get_count_clear _ _ (by decide) (.inr (by decide)),
    Board.get_put_clear _ _ (by decide) (.inr (by decide)), Board.get_put_self _ _ _ _ (by decide)]
  rfl

theorem Board.linkFallen_discards : (b.linkFallen k.val everUp recover discarded acked).get (pSHL k.val) F.SHL_DISCARD.COUNT
    = min (2 ^ F.SHL_DISCARD.COUNT.width - 1) (b.get (pSHL k.val) F.SHL_DISCARD.COUNT + discarded) := by
  rw [Board.linkFallen_get _ _ _ _ _ _ (by decide) (by decide)]
  unfold Board.linkCleared
  dsimp only
  rw [Board.get_count_self _ _ _ _ (by decide), Board.get_count_clear _ _ (by decide) (.inr (by decide)), Board.get_put_clear _ _ (by decide) (.inr (by decide)),
    Board.get_put_clear _ _ (by decide) (.inr (by decide)), Board.get_put_clear _ _ (by decide) (.inr (by decide))]

theorem Board.linkFallen_miscable : (b.linkFallen k.val everUp recover discarded acked).get (pSHL k.val) F.SHL_CAUSE.MISCABLE = b.get (pSHL k.val) F.SHL_CAUSE.MISCABLE := by
  rw [Board.linkFallen_get _ _ _ _ _ _ (by decide) (by decide)]
  unfold Board.linkCleared
  dsimp only
  rw [Board.get_count_clear _ _ (by decide) (.inr (by decide)), Board.get_count_clear _ _ (by decide) (.inr (by decide)), Board.get_put_clear _ _ (by decide) (.inr (by decide)),
    Board.get_put_clear _ _ (by decide) (.inr (by decide)), Board.get_put_clear _ _ (by decide) (.inr (by decide))]

/-- A link that has been UP opens DOWN as it goes. -/
theorem Board.linkFallen_down : (b.linkFallen k.val true recover discarded acked).on (pSHL k.val) F.SHL_CAUSE.DOWN = true :=
  (Board.on_raise _ _ _ ⟨by decide, (linkReg_kept k (by decide)).2.1⟩).trans (Board.on_put_one _ _ _ (by decide))

/-- The words that a link that goes DOWN writes: SHL_STAT, SHL_CAUSE and two counters. -/
def downWords (k : Nat) : List (Nat × Nat) := [(pSHL k, 17), (pSHL k, 18), (pSHL k, 24), (pSHL k, 25)]

theorem Board.linkFallen_still : b.Still (downWords k.val) (b.linkFallen k.val everUp recover discarded acked) := by
  have hword : ∀ {o : Nat}, o < 4096 ∧ o / 4 ∈ [17, 18, 24, 25] → o < 4096 ∧ o / 4 ≠ 4 ∧ (pSHL k.val, o / 4) ∈ downWords k.val := fun ⟨hlt, ho⟩ =>
    ⟨hlt, by rintro e; simp [e] at ho, by simpa [downWords] using ho⟩
  have hcleared : b.Still (downWords k.val) (b.linkCleared k.val discarded) :=
    .count (.count (.put (.put (.put (.refl _ b) _ _ _ (hword (by decide))) _ _ _ (hword (by decide))) _ _ _ (hword (by decide))) _ _ _ (hword (by decide))) _ _ _
      (hword (by decide))
  exact ((hcleared.put _ F.SHL_CAUSE.DOWN 1 (hword (by decide))).ite hcleared).raise _ _

end

/-! ### What a link that has gone DOWN shows -/

section
variable (s : State) (k : Fin 2) (recover : Bool) (discarded : Nat)

theorem State.linkGone_kept : Board.Still (linkWords k.val) (s.linkDropped k.val recover discarded).bd (s.linkGone k.val recover discarded).bd :=
  (s.linkGone_still k.val recover discarded).board.mono (shelfWords_sub _)

theorem State.linkGone_phase : (s.linkGone k.val recover discarded).bd.phase k.val = 0 :=
  ((s.linkGone_kept k recover discarded).link_get (f := F.SHL_STAT.PHASE) (by decide)).trans (State.toPhase_phase _ k (by decide))

theorem State.linkGone_now : (s.linkGone k.val recover discarded).bd.now = s.bd.now :=
  (s.linkGone_kept k recover discarded).now.trans ((State.toPhase_now _ k 0).trans (s.bd.linkFallen_still k _ _ _ _).now)

theorem State.linkGone_get {f : Fld} (hf : BesidePhase f) :
    (s.linkGone k.val recover discarded).bd.get (pSHL k.val) f = (s.bd.linkFallen k.val (s.link k.val).everUp recover discarded (s.link k.val).acked).get (pSHL k.val) f :=
  ((s.linkGone_kept k recover discarded).link_get ⟨hf.1.1, hf.1.2.2⟩).trans (State.toPhase_get _ k 0 hf)

theorem State.linkGone_peer : (s.linkGone k.val recover discarded).bd.on (pSHL k.val) F.SHL_STAT.PEER_VALID = false := by
  have hget := (s.linkGone_get k recover discarded (f := F.SHL_STAT.PEER_VALID) (by decide)).trans (Board.linkFallen_peer _ _ _ _ _ _)
  simp [Board.on, hget]

theorem State.linkGone_down (hup : (s.link k.val).everUp = true) : (s.linkGone k.val recover discarded).bd.on (pSHL k.val) F.SHL_CAUSE.DOWN = true := by
  refine ((s.linkGone_kept k recover discarded).link_on (by decide)).trans (((State.toPhase_still _ k 0).link_on (by decide)).trans ?_)
  refine (Board.on_put_clear _ _ (by decide) (.inr (by decide))).trans ?_
  rw [State.onLink_bd, State.on_bd, hup]
  exact s.bd.linkFallen_down k _ _ _

theorem State.linkGone_status {n : Nat} (hn : ((s.bd.linkFallen k.val (s.link k.val).everUp recover discarded (s.link k.val).acked).rd (pSHL k.val) 0x010).getLsbD n = true) :
    ((s.linkGone k.val recover discarded).bd.rd (pSHL k.val) 0x010).getLsbD n = true :=
  (s.linkGone_kept k recover discarded).status ((State.toPhase_still _ k 0).status ((congrArg (BitVec.getLsbD · n) (Board.phased_rd _ _ _ _ (by decide))).trans hn))

theorem State.linkGone_tells : ((s.linkGone k.val recover discarded).bd.rd (pSHL k.val) 0x010).getLsbD E.SHL.LINK_DOWN = true :=
  s.linkGone_status k recover discarded (Board.raise_status _ _ _ (show E.SHL.LINK_DOWN < 32 by decide))

theorem State.linkGone_link {l : Link} (hl : s.shelf.links[k.val]? = some l) :
    (s.linkGone k.val recover discarded).shelf.links[k.val]? = some ({ l with keys := 0, macFails := [] }.entered 0 s.bd.now) := by
  have hnow : (s.bd.linkFallen k.val (s.link k.val).everUp recover discarded (s.link k.val).acked).now = s.bd.now := (s.bd.linkFallen_still k _ _ _ _).now
  rw [(s.linkGone_still k.val recover discarded).below.shelf, ← hnow]
  exact State.toPhase_link _ k 0 (State.onLink_get (s := s.on (fun b => b.linkFallen k.val (s.link k.val).everUp recover discarded (s.link k.val).acked)) hl _)

end

end Sys2Proof.Machine
end

section
/-! The rows of the shelf links (O40): training, HELLO, expiries and failed lanes (R303 to R306, R310, R316). That an expiry is a moment of the part's one clock, to which the row
moves it on (log entry 43), that every entry into DOWN is told and counted (71), and that a HELLO that times out opens no cause (116) are the model's choices. -/

namespace Sys2Proof.Machine

theorem exec_shlTrainStart (k : Fin 2) (s : State) : exec (.shlTrainStart k) s = s.run (fun s => s.trainStart k.val) := rfl
theorem exec_shlTrained (k : Fin 2) (wide fast : Bool) (s : State) : exec (.shlTrained k wide fast) s = s.run (fun s => s.trained k.val wide fast) := rfl
theorem exec_shlPhaseTimeout (k : Fin 2) (s : State) : exec (.shlPhaseTimeout k) s = s.run (fun s => s.phaseTimeout k.val) := rfl
theorem exec_hello (k : Fin 2) (peer : Fin 32) (side : Fin 2) (chain signature decapsulated : Bool) (s : State) :
    exec (.hello k peer side chain signature decapsulated) s = s.run (fun s => s.hello k.val peer.val side.val chain signature decapsulated) := rfl
theorem exec_shlIdleTimeout (k : Fin 2) (s : State) : exec (.shlIdleTimeout k) s = s.run (fun s => s.idleTimeout k.val) := rfl
theorem exec_shlRecoverTimeout (k : Fin 2) (discarded : BitVec 16) (s : State) :
    exec (.shlRecoverTimeout k discarded) s = s.run (fun s => s.recoverTimeout k.val discarded.toNat) := rfl
theorem exec_shlRecovered (k : Fin 2) (s : State) : exec (.shlRecovered k) s = s.run (fun s => s.recovered k.val) := rfl
theorem exec_shlLaneFault (k : Fin 2) (lane : Fin 8) (stall : Word) (s : State) :
    exec (.shlLaneFault k lane stall) s = s.run (fun s => s.shlLaneFault k.val lane.val stall.toNat) := rfl

/-! ### Training (R303, R304) -/

section
variable {s : State} {k : Nat} {l : Link}

theorem State.trainStart_trains (hl : s.shelf.links[k]? = some l) (hd : s.bd.phase k = 0) (hp : s.bd.powered (pSHL k) = true) :
    s.trainStart k = (s.upTo (if l.phaseAt = 0 then 0 else l.phaseAt + (if l.helloFailed then 1000000 else 10000))).toPhase k 1 := by
  unfold State.trainStart
  rw [if_neg (by simp [hd, hp]), State.link_of hl]
  rfl

/-- SHL of a link whose PHY has trained (R303). -/
def Board.linkTrained (b : Board) (k : Nat) (wide fast : Bool) : Board :=
  let p := pSHL k
  let speed := fast && b.on p F.SHL_CFG.MAX_SPEED
  let b := (b.put p F.SHL_STAT.WIDTH (if wide then 8 else 4)).put p F.SHL_STAT.SPEED (bit speed)
  (b.put p F.SHL_CAUSE.NARROW (bit (!wide))).put p F.SHL_CAUSE.SLOW (bit (b.on p F.SHL_CFG.MAX_SPEED && !speed))

theorem State.trained_greets (h : s.bd.phase k = 1) (wide fast : Bool) : s.trained k wide fast = (s.on (·.linkTrained k wide fast)).toPhase k 2 := by
  unfold State.trained
  rw [if_neg (not_not_intro h)]
  rfl

/-- A field of one bit that has been set to a truth value shows it. -/
theorem Board.on_put_bit (b : Board) (p : Nat) (f : Fld) (v : Bool) (h : f.lo + f.width ≤ 32 ∧ f.width = 1) : (b.put p f (bit v)).on p f = v := by
  have hget : (b.put p f (bit v)).get p f = bit v % 2 ^ 1 := h.2 ▸ Board.get_put_self b p f (bit v) h.1
  unfold Board.on
  rw [hget]
  cases v <;> rfl

theorem Board.linkTrained_shows (b : Board) (k : Nat) (wide fast : Bool) :
    (b.linkTrained k wide fast).get (pSHL k) F.SHL_STAT.WIDTH = (if wide then 8 else 4)
      ∧ (b.linkTrained k wide fast).on (pSHL k) F.SHL_STAT.SPEED = (fast && b.on (pSHL k) F.SHL_CFG.MAX_SPEED)
      ∧ (b.linkTrained k wide fast).on (pSHL k) F.SHL_CAUSE.NARROW = !wide := by
  unfold Board.linkTrained
  dsimp only
  refine ⟨?_, ?_, ?_⟩
  · rw [Board.get_put_clear _ _ (by decide) (.inr (by decide)), Board.get_put_clear _ _ (by decide) (.inr (by decide)), Board.get_put_clear _ _ (by decide) (.inr (by decide)),
      Board.get_put_self _ _ _ _ (by decide)]
    cases wide <;> rfl
  · rw [Board.on_put_clear _ _ (by decide) (.inr (by decide)), Board.on_put_clear _ _ (by decide) (.inr (by decide)), Board.on_put_bit _ _ _ _ (by decide)]
  · rw [Board.on_put_clear _ _ (by decide) (.inr (by decide)), Board.on_put_bit _ _ _ _ (by decide)]

end

/-! ### Expiries (R304, Table 11-1) -/

section
variable {s : State} {k : Nat} {l : Link} (hl : s.shelf.links[k]? = some l)
include hl

theorem State.phaseTimeout_drops (h : s.bd.phase k = 1 ∨ s.bd.phase k = 2) :
    s.phaseTimeout k = ((s.upTo (l.phaseAt + (if s.bd.phase k = 1 then 30000 else 50000))).onLink k
      (fun l => { l with helloFailed := decide (s.bd.phase k = 2) })).linkGone k false 0 := by
  unfold State.phaseTimeout
  rw [if_neg (by omega), State.link_of hl]
  rfl

theorem State.idleTimeout_recovers (h : s.bd.phase k = 4) :
    s.idleTimeout k = (s.upTo (l.goodAt + s.bd.get (pSHL k) F.SHL_CFG.IDLE_US)).toPhase k 5 := by
  unfold State.idleTimeout
  rw [if_neg (not_not_intro h), State.link_of hl]
  rfl

theorem State.recoverTimeout_drops (h : s.bd.phase k = 5) (discarded : Nat) :
    s.recoverTimeout k discarded = (s.upTo (l.phaseAt + s.bd.get (pSHL k) F.SHL_CFG.RECOVER_US)).linkGone k true discarded := by
  unfold State.recoverTimeout
  rw [if_neg (not_not_intro h), State.link_of hl]
  rfl

end

theorem State.recovered_up {s : State} {k : Nat} (h : s.bd.phase k = 5) : s.recovered k = s.toPhase k 4 := if_neg (not_not_intro h)

/-! ### HELLO (R305, R306) -/

/-- SHL of a link whose peer is known and authentic. -/
def Board.linkGreeted (b : Board) (k peer : Nat) : Board :=
  let p := pSHL k
  (((b.put p F.SHL_STAT.PEER_ID peer).put p F.SHL_CAUSE.MISCABLE 0).put p F.SHL_CAUSE.AUTH_FAIL 0).put p F.SHL_STAT.PEER_VALID 1

/-- A link that has passed HELLO is KEYED. -/
def State.greeted (s : State) (k peer : Nat) : State :=
  ((s.draw.2.on (·.linkGreeted k peer)).onLink k (fun l => { l with helloFailed := false, keys := 0 })).toPhase k 3

/-- A draw leaves the board alone. -/
theorem State.draw_on (s : State) (f : Board → Board) : (s.on f).draw.2 = s.draw.2.on f := rfl

theorem State.hello_passes {s : State} {k peer side : Nat} (h : s.bd.phase k = 2) (hm : miscabled s.bd.selfId k peer side = 0) :
    s.hello k peer side true true true = ((s.greeted k peer).on (fun b => b.unisolate.followShm)).sendJoin := by
  unfold State.hello
  dsimp only
  rw [if_neg (not_not_intro h), if_neg (not_not_intro hm), if_neg (by decide), State.draw_on, State.on_on]
  rfl

/-- A join that starts changes no link and no register. -/
theorem State.sendJoin_keeps (ks : List (Nat × Nat)) (s : State) : Board.Still ks s.bd s.sendJoin.bd ∧ s.sendJoin.shelf.links = s.shelf.links := by
  unfold State.sendJoin
  dsimp only
  split
  · exact ⟨.refl _ _, rfl⟩
  · exact ⟨((Board.Still.refl _ _).emit _).emit _, rfl⟩

theorem State.hello_passed_kept (s : State) (k : Nat) :
    Board.Still (linkWords k) s.bd (s.on (fun b => b.unisolate.followShm)).sendJoin.bd ∧ (s.on (fun b => b.unisolate.followShm)).sendJoin.shelf.links = s.shelf.links := by
  obtain ⟨hbd, hlinks⟩ := State.sendJoin_keeps (linkWords k) (s.on (fun b => b.unisolate.followShm))
  have hshelf := (Board.Still.refl shelfWords s.bd).unisolate.followShm
  exact ⟨(hshelf.mono (shelfWords_sub k)).trans hbd, hlinks⟩

theorem Board.linkGreeted_shows (b : Board) (k : Nat) {peer : Nat} (hp : peer < 32) :
    (b.linkGreeted k peer).get (pSHL k) F.SHL_STAT.PEER_ID = peer ∧ (b.linkGreeted k peer).on (pSHL k) F.SHL_STAT.PEER_VALID = true := by
  unfold Board.linkGreeted
  dsimp only
  refine ⟨?_, Board.on_put_one _ _ _ (by decide)⟩
  rw [Board.get_put_clear _ _ (by decide) (.inr (by decide)), Board.get_put_clear _ _ (by decide) (.inr (by decide)), Board.get_put_clear _ _ (by decide) (.inr (by decide)),
    Board.get_put_self _ _ _ _ (by decide)]
  exact Nat.mod_eq_of_lt hp

/-- SHL of a link whose cabling breaks R305. -/
def Board.linkMiscabled (b : Board) (k peer side bad : Nat) : Board :=
  let c := b.put (pSHL k) F.SHL_STAT.PEER_ID peer
  ((c.openCause (pSHL k) F.SHL_CAUSE.MISCABLE).raise (pSHL k) (ev E.SHL.MISCABLE bad peer side 0)).logContained (c.on (pSHL k) F.SHL_CAUSE.MISCABLE) (pSHL k) E.SHL.MISCABLE peer

theorem State.hello_miscabled {s : State} {k peer side : Nat} (h : s.bd.phase k = 2) (hm : miscabled s.bd.selfId k peer side ≠ 0) (chain sig decap : Bool) :
    s.hello k peer side chain sig decap = ((s.on (·.linkMiscabled k peer side (miscabled s.bd.selfId k peer side))).onLink k
      (fun l => { l with helloFailed := true })).linkGone k false 0 := by
  unfold State.hello
  dsimp only
  rw [if_neg (not_not_intro h), if_pos hm, State.on_on]
  rfl

theorem Board.linkMiscabled_shows (b : Board) (k : Fin 2) (peer side bad : Nat) :
    (b.linkMiscabled k.val peer side bad).get (pSHL k.val) F.SHL_CAUSE.MISCABLE = 1
      ∧ ((b.linkMiscabled k.val peer side bad).rd (pSHL k.val) 0x010).getLsbD E.SHL.MISCABLE = true := by
  have hpage : pSHL k.val ≠ pMGT := by simp only [pSHL, pMGT]; omega
  have hopen := (Board.openCause_shows (b.put (pSHL k.val) F.SHL_STAT.PEER_ID peer) (page := pSHL k.val) (f := F.SHL_CAUSE.MISCABLE) (by decide) (by decide) hpage).1
  have hlogged : ∀ (c : Board) (was : Bool), c.Still (linkWords k.val) (c.logContained was (pSHL k.val) E.SHL.MISCABLE peer) := fun c was =>
    .mono (.ite (.refl shelfWords c) (.logFault (.refl _ c) (by decide) _ _ _ _ _ _)) (shelfWords_sub _)
  refine ⟨((hlogged _ _).link_get (by decide)).trans (((Board.Still.refl (linkWords k.val) _).raise _ _).link_get (by decide) |>.trans (Board.on_iff.1 hopen)), ?_⟩
  exact (hlogged _ _).status (Board.raise_status _ _ _ (show E.SHL.MISCABLE < 32 by decide))

/-! ### A lane fails (R310) -/

theorem nsetbit_zero_true (n : Nat) : nsetbit 0 n true = 2 ^ n := by simp [nsetbit, nbit]

/-- A single lane leaves the other half of the link whole. -/
theorem oneLane_halves {n : Nat} (hn : n < 8) : 2 ^ n % 16 = 0 ∨ 2 ^ n / 16 = 0 := by
  interval_cases n <;> decide

/-- SHL_LANE_ERR of a link whose first lane has failed. -/
def Board.laneDropped (b : Board) (k lane : Nat) : Board := b.put (pSHL k) F.SHL_LANE_ERR.LANE_FAULT (2 ^ lane)

theorem Board.laneDropped_lane (b : Board) (k : Nat) {lane : Nat} (hl : lane < 8) : (b.laneDropped k lane).get (pSHL k) F.SHL_LANE_ERR.LANE_FAULT = 2 ^ lane :=
  (Board.get_put_self _ _ _ _ (by decide)).trans (Nat.mod_eq_of_lt (Nat.pow_lt_pow_right (by decide) hl))

/-- The link runs on its other half: SHL_STAT, NARROW, the event and the entry of the fault log. -/
def Board.halved (b : Board) (k lane stall : Nat) : Board :=
  let p := pSHL k
  let c := ((b.put p F.SHL_STAT.WIDTH 4).put p F.SHL_CAUSE.NARROW 1).linkUnit k true (decide (b.unit p = stCONTAINED) && decide (b.openCauses p = 0))
  (c.raise p (ev E.SHL.LANE_DROP lane (2 ^ lane) stall 0)).logFault p E.SHL.LANE_DROP 7 stall (2 ^ lane) false

section
variable {s : State} {k lane : Nat} (h : s.bd.phase k = 4) (h0 : s.bd.get (pSHL k) F.SHL_LANE_ERR.LANE_FAULT = 0)
include h h0

theorem State.shlLaneFault_narrows (hl : lane < 8) (he : s.bd.on (pSHL k) F.SHL_CFG.LANE_DROP_EN = true) (stall : Nat) :
    s.shlLaneFault k lane stall = (s.on (·.laneDropped k lane)).on (·.halved k lane stall) := by
  have hen : (s.bd.laneDropped k lane).on (pSHL k) F.SHL_CFG.LANE_DROP_EN = true := (Board.on_put_clear _ _ (by decide) (.inr (by decide))).trans he
  unfold State.shlLaneFault
  dsimp only
  rw [if_neg (not_not_intro h), h0, nsetbit_zero_true, if_pos ⟨hen, oneLane_halves hl⟩, State.on_on (State.on _ _)]
  rfl

theorem State.shlLaneFault_recovers (he : s.bd.on (pSHL k) F.SHL_CFG.LANE_DROP_EN = false) (stall : Nat) :
    s.shlLaneFault k lane stall = (s.on (·.laneDropped k lane)).toPhase k 5 := by
  have hen : (s.bd.laneDropped k lane).on (pSHL k) F.SHL_CFG.LANE_DROP_EN = false := (Board.on_put_clear _ _ (by decide) (.inr (by decide))).trans he
  unfold State.shlLaneFault
  dsimp only
  rw [if_neg (not_not_intro h), h0, nsetbit_zero_true, if_neg]
  · rfl
  · exact fun e => Bool.false_ne_true (hen.symm.trans e.1)

end

/-- What a narrowed link shows beside its new width: the phase and the lane stay. -/
theorem Board.halved_shows (b : Board) (k : Fin 2) (lane stall : Nat) :
    (b.halved k.val lane stall).get (pSHL k.val) F.SHL_STAT.WIDTH = 4 ∧ (b.halved k.val lane stall).on (pSHL k.val) F.SHL_CAUSE.NARROW = true
      ∧ (b.halved k.val lane stall).phase k.val = b.phase k.val
      ∧ (b.halved k.val lane stall).get (pSHL k.val) F.SHL_LANE_ERR.LANE_FAULT = b.get (pSHL k.val) F.SHL_LANE_ERR.LANE_FAULT
      ∧ ((b.halved k.val lane stall).rd (pSHL k.val) 0x010).getLsbD E.SHL.LANE_DROP = true := by
  have hlogged : ∀ c : Board, c.Still (linkWords k.val) (c.logFault (pSHL k.val) E.SHL.LANE_DROP 7 stall (2 ^ lane) false) := fun c =>
    .mono (.logFault (.refl shelfWords c) (by decide) _ _ _ _ _ _) (shelfWords_sub _)
  have hunit := fun c : Board => c.linkUnit_still k.val true (decide (b.unit (pSHL k.val) = stCONTAINED) && decide (b.openCauses (pSHL k.val) = 0))
  have hstill := fun c : Board => ((hunit c).raise (pSHL k.val) (ev E.SHL.LANE_DROP lane (2 ^ lane) stall 0)).trans (hlogged _)
  unfold Board.halved Board.phase
  dsimp only
  refine ⟨?_, ?_, ?_, ?_, (hlogged _).status (Board.raise_status _ _ _ (show E.SHL.LANE_DROP < 32 by decide))⟩
  · rw [(hstill _).link_get (by decide), Board.get_put_clear _ _ (by decide) (.inr (by decide)), Board.get_put_self _ _ _ _ (by decide)]
    rfl
  · rw [(hstill _).link_on (by decide), Board.on_put_one _ _ _ (by decide)]
  · rw [(hstill _).link_get (by decide), Board.get_put_clear _ _ (by decide) (.inr (by decide)), Board.get_put_clear _ _ (by decide) (.inr (by decide))]
  · rw [(hstill _).link_get (by decide), Board.get_put_clear _ _ (by decide) (.inr (by decide)), Board.get_put_clear _ _ (by decide) (.inr (by decide))]

end Sys2Proof.Machine

open Sys2Proof Sys2Proof.Machine

/-- Settles O40 (R303 to R306, R310, R316): each row is a change of the link's registers and its entry into a phase, or the loss of the link; what SHM, the fault log and the link's
unit make of it lies beside the registers shown. The moments of the expiries are the model's clock (log entry 43), and what DOWN and HELLO tell and open is its reading
(entries 71 and 116). -/
theorem linksTrainAndRecover : Obligations.LinksTrainAndRecover := by
  intro s k l hl
  have hlink := State.link_of hl
  refine ⟨fun hd hp => ?train, fun wide fast h => ?trained, fun h => ?timeout, fun peer side h hm => ?hello, fun peer side chain sig decap h hm => ?miscabled, fun h => ?idle,
    fun discarded h => ?drop, fun h => ?recovered, fun lane stall h h0 => ?lane⟩
  case train =>
    refine ⟨_, _, Runs.of_run (exec_shlTrainStart k s) (State.trainStart_trains hl hd hp), State.toPhase_phase _ k (by decide), State.toPhase_link _ k 1 hl, ?_,
      State.toPhase_now _ k 1, State.toPhase_up _ k (by decide)⟩
    rw [State.toPhase_now]
    simp [Link.entered]
  case trained =>
    obtain ⟨hwidth, hspeed, hnarrow⟩ := s.bd.linkTrained_shows k.val wide fast
    exact ⟨_, Runs.of_run (exec_shlTrained k wide fast s) (State.trained_greets h wide fast), State.toPhase_phase _ k (by decide),
      (State.toPhase_get _ k 2 (by decide)).trans hwidth, (State.toPhase_on _ k 2 (by decide)).trans hspeed, (State.toPhase_on _ k 2 (by decide)).trans hnarrow⟩
  case timeout =>
    exact ⟨_, _, Runs.of_run (exec_shlPhaseTimeout k s) (State.phaseTimeout_drops hl h), State.linkGone_phase _ k _ _, State.linkGone_peer _ k _ _,
      State.linkGone_link _ k _ _ (State.onLink_get hl _), rfl, rfl, Bool.or_false _, State.linkGone_now _ k _ _, State.linkGone_tells _ k _ _⟩
  case hello =>
    obtain ⟨hkept, hlinks⟩ := (s.greeted k.val peer.val).hello_passed_kept k.val
    obtain ⟨hpeer, hvalid⟩ := s.bd.linkGreeted_shows k.val peer.isLt
    exact ⟨_, _, Runs.of_run (exec_hello k peer side true true true s) (State.hello_passes h hm), (hkept.link_get (f := F.SHL_STAT.PHASE) (by decide)).trans
      (State.toPhase_phase _ k (by decide)), (hkept.link_get (by decide)).trans ((State.toPhase_get _ k 3 (by decide)).trans hpeer),
      (hkept.link_on (by decide)).trans ((State.toPhase_on _ k 3 (by decide)).trans hvalid),
      (congrArg (·[k.val]?) hlinks).trans (State.toPhase_link _ k 3 (State.onLink_get hl _)), rfl, rfl⟩
  case miscabled =>
    obtain ⟨hcause, hevent⟩ := s.bd.linkMiscabled_shows k peer.val side.val (miscabled s.bd.selfId k.val peer.val side.val)
    refine ⟨_, Runs.of_run (exec_hello k peer side chain sig decap s) (State.hello_miscabled h hm _ _ _), State.linkGone_phase _ k _ _, Board.on_iff.2 ?_,
      State.linkGone_peer _ k _ _, State.linkGone_status _ k _ _ ((Board.linkFallen_still _ k _ _ _ _).status hevent)⟩
    exact (State.linkGone_get _ k _ _ (by decide)).trans ((Board.linkFallen_miscable _ k _ _ _ _).trans hcause)
  case idle =>
    refine ⟨_, _, Runs.of_run (exec_shlIdleTimeout k s) (State.idleTimeout_recovers hl h), State.toPhase_phase _ k (by decide), State.toPhase_now _ k 5,
      State.toPhase_link _ k 5 hl, ?_⟩
    rw [State.toPhase_now]
    simp [Link.entered]
  case drop =>
    exact ⟨_, Runs.of_run (exec_shlRecoverTimeout k discarded s) (State.recoverTimeout_drops hl h _), State.linkGone_phase _ k _ _, State.linkGone_now _ k _ _,
      (State.linkGone_get _ k _ _ (by decide)).trans (Board.linkFallen_discards _ k _ _ _ _), fun hup => State.linkGone_down _ k _ _ (hlink ▸ hup),
      State.linkGone_tells _ k _ _⟩
  case recovered =>
    refine ⟨_, _, Runs.of_run (exec_shlRecovered k s) (State.recovered_up h), State.toPhase_phase _ k (by decide), State.toPhase_now _ k 4, State.toPhase_link _ k 4 hl, ?_⟩
    simp [Link.entered]
  case lane =>
    have hlane := s.bd.laneDropped_lane k.val lane.isLt
    cases he : s.bd.on (pSHL k.val) F.SHL_CFG.LANE_DROP_EN with
    | true =>
      obtain ⟨hwidth, hnarrow, hphase, hkept, hevent⟩ := (s.bd.laneDropped k.val lane.val).halved_shows k lane.val stall.toNat
      have hfour : (s.bd.laneDropped k.val lane.val).phase k.val = 4 := (Board.get_put_clear _ _ (by decide) (.inr (by decide))).trans h
      exact ⟨_, Runs.of_run (exec_shlLaneFault k lane stall s) (State.shlLaneFault_narrows h h0 lane.isLt he _), hkept.trans hlane,
        fun _ => ⟨hphase.trans hfour, hwidth, hnarrow, hevent⟩, fun e => absurd e (by decide)⟩
    | false =>
      exact ⟨_, Runs.of_run (exec_shlLaneFault k lane stall s) (State.shlLaneFault_recovers h h0 he _), (State.toPhase_get _ k 5 (by decide)).trans hlane,
        fun e => absurd e (by decide), fun _ => State.toPhase_phase _ k (by decide)⟩

end

section
/-! Flits, link keys and packets that pass through (O41): R307 to R309. That the times of link keys are moments of the part's one clock is the model's choice (log entries 43 and
149). -/

namespace Sys2Proof.Machine

theorem exec_flitRx (k : Fin 2) (seq ack : Fin 1024) (fec : Fin 5) (crc nak groupMac : Bool) (s : State) :
    exec (.flitRx k seq ack fec crc nak groupMac) s = s.run (fun s => s.flitRx k.val seq.val ack.val fec.val crc nak groupMac) := rfl
theorem exec_linkKeyTick (s : State) : exec .linkKeyTick s = s.run State.linkKeyTick := rfl
theorem exec_linkKeySelfDerive (k : Fin 2) (s : State) : exec (.linkKeySelfDerive k) s = s.run (fun s => s.selfDerive k.val) := rfl
theorem exec_packetPassThrough (k : Fin 2) (op : BitVec 8) (src dst : Fin 32) (units : Fin 512) (args : List Nat) (data : Option Line) (s : State) :
    exec (.packetPassThrough k op src dst units args data) s = s.quick (fun s => s.passThrough k.val op.toNat src.val dst.val units.val args data) := rfl

/-! ### Flits (R307) -/

/-- The state in which the bytes that the FEC of a flit corrected are counted. -/
def State.fecCounted (s : State) (k fec : Nat) : State := if fec = 0 then s else s.on (fun b => b.count (pSHL k) F.SHL_FEC_CORR.COUNT fec)

theorem State.fecCounted_below (s : State) (k fec : Nat) : s.SameBelow (s.fecCounted k fec) := .ite (.refl s) ((State.SameBelow.refl s).on _)

theorem State.fecCounted_out (s : State) (k fec : Nat) : (s.fecCounted k fec).bd.out = s.bd.out := State.out_ite rfl (s.bd.count_out _ _ _)

section
variable {s : State} {k : Nat} (h : 2 ≤ s.bd.phase k)
include h

/-- A flit that no check fails is acknowledged and remembered. -/
theorem State.flitRx_good (seq ack : Nat) :
    s.flitRx k seq ack 0 true false true = (s.onLink k (fun l => { l with acked := ack })).onLink k (fun l => { l with goodAt := s.bd.now, goodSeq := seq }) := by
  unfold State.flitRx
  rw [if_neg (by omega)]
  simp only [Bool.not_true, Bool.false_eq_true, and_false, if_false, if_true]
  rfl

/-- A flit whose CRC fails is asked for again, from the last good one. -/
theorem State.flitRx_bad (seq ack fec : Nat) (nak groupMac : Bool) :
    s.flitRx k seq ack fec false nak groupMac = (s.fecCounted k fec).say (.flit k (s.link k).goodSeq true) := by
  have hlink : (s.fecCounted k fec).link k = s.link k := by
    unfold State.link
    rw [(s.fecCounted_below k fec).shelf]
  unfold State.flitRx
  dsimp only
  rw [if_neg (by omega), if_pos Bool.not_false, ← hlink]
  rfl

end

/-! ### Link keys (R308) -/

/-- SHL of a link that takes its next key. -/
def Board.keyRotated (b : Board) (k : Nat) : Board :=
  let p := pSHL k
  (b.put p F.SHL_STAT.KEY_PHASE (1 - b.get p F.SHL_STAT.KEY_PHASE)).count p F.SHL_KEYS.ROTATIONS 1

theorem Board.keyRotated_now (b : Board) (k : Nat) : (b.keyRotated k).now = b.now := Board.count_now _ _ _ _

theorem Board.keyRotated_phase (b : Board) (k : Nat) : (b.keyRotated k).get (pSHL k) F.SHL_STAT.KEY_PHASE = 1 - b.get (pSHL k) F.SHL_STAT.KEY_PHASE := by
  unfold Board.keyRotated
  dsimp only
  rw [Board.get_count_clear _ _ (by decide) (.inr (by decide)), Board.get_put_self _ _ _ _ (by decide)]
  exact Nat.mod_eq_of_lt (show _ < 2 by omega)

theorem Board.keyRotated_rotations (b : Board) (k : Nat) : (b.keyRotated k).get (pSHL k) F.SHL_KEYS.ROTATIONS
    = min (2 ^ F.SHL_KEYS.ROTATIONS.width - 1) (b.get (pSHL k) F.SHL_KEYS.ROTATIONS + 1) := by
  unfold Board.keyRotated
  dsimp only
  rw [Board.get_count_self _ _ _ _ (by decide), Board.get_put_clear _ _ (by decide) (.inr (by decide))]

theorem State.rotate_link {s : State} {k : Nat} {l : Link} (hl : s.shelf.links[k]? = some l) :
    (s.rotate k).shelf.links[k]? = some { l with keyAt := (s.rotate k).bd.now } := State.onLink_get (s := s.on (·.keyRotated k)) hl _

theorem State.selfDerive_rotates {s : State} {k : Nat} {l : Link} (hl : s.shelf.links[k]? = some l) (h : s.bd.linkUp k = true) :
    s.selfDerive k = (s.upTo (l.keyAt + 120000000)).rotate k := by
  unfold State.selfDerive
  rw [if_neg (by simp [h]), State.link_of hl]
  rfl

theorem State.linkKeyTick_issues {s : State} (h : s.bd.manages = true) :
    s.linkKeyTick = s.keyed.foldl (fun (t : State) p => t.issueKeys p) (s.on (·.elapse 10 60000000)) := by
  unfold State.linkKeyTick
  rw [if_neg (by simp [h])]
  rfl

/-! ### Packets for other parts (R309, R312) -/

section
variable {s : State} {k op dst : Nat} (hd : dst ≠ s.bd.selfId)
include hd

theorem State.passThrough_carried (h : s.bd.carries (1 - k) op = true) (src units : Nat) (args : List Nat) (data : Option Line) :
    s.passThrough k op src dst units args data = s.say (.ring (1 - k) op src dst args data) := by
  unfold State.passThrough
  dsimp only
  rw [if_neg hd, if_neg (by simp [h])]

theorem State.passThrough_discarded (h : s.bd.carries (1 - k) op = false) (src units : Nat) (args : List Nat) (data : Option Line) :
    s.passThrough k op src dst units args data = s.on (fun b => b.count (pSHL (1 - k)) F.SHL_DISCARD.COUNT 1) := by
  unfold State.passThrough
  dsimp only
  rw [if_neg hd, if_pos (by simp [h])]

end

end Sys2Proof.Machine

open Sys2Proof Sys2Proof.Machine

/-- Settles O41 (R307 to R309): each row comes to one change of the link's record or of one counter, or to one output. The times of the link keys are the model's clock (log entries
43 and 149). -/
theorem flitsKeysAndPackets : Obligations.FlitsKeysAndPackets := by
  intro s k l hl
  refine ⟨fun seq ack h => ?good, fun seq ack fec nak groupMac h => ?bad, fun h => ?derive, fun h => ?tick, fun op src dst units args data hd => ⟨fun h => ?carried, fun h => ?discarded⟩⟩
  case good =>
    exact ⟨_, _, Runs.of_run (exec_flitRx k seq ack 0 true false true s) (State.flitRx_good h _ _), rfl, State.onLink_get (State.onLink_get hl _) _, rfl⟩
  case bad =>
    refine ⟨_, Runs.of_run (exec_flitRx k seq ack fec false nak groupMac s) (State.flitRx_bad h _ _ _ _ _), (s.fecCounted_below k.val fec.val).on (·.emit _), ?_⟩
    rw [State.say_bd, Board.emit_out, s.fecCounted_out, State.link_of hl]
  case derive =>
    exact ⟨_, _, Runs.of_run (exec_linkKeySelfDerive k s) (State.selfDerive_rotates hl h), Board.keyRotated_now _ _, State.rotate_link hl, rfl, Board.keyRotated_phase _ _,
      Board.keyRotated_rotations _ _⟩
  case tick => exact ⟨_, s.on (·.elapse 10 60000000), Runs.of_run (exec_linkKeyTick s) (State.linkKeyTick_issues h), rfl, rfl, rfl⟩
  case carried => exact ⟨_, Ends.of_quick (exec_packetPassThrough k op src dst units args data s) (State.passThrough_carried hd h _ _ _ _), rfl, rfl⟩
  case discarded =>
    exact ⟨_, Ends.of_quick (exec_packetPassThrough k op src dst units args data s) (State.passThrough_discarded hd h _ _ _ _), rfl, Board.count_out _ _ _ _,
      Board.get_count_self _ _ _ _ (by decide)⟩

end

section
/-! Packets under an older TERM (O44): R313. LOSS_REC and JOIN carry no TERM among the operands of their rows, so nothing is said of them here. -/

namespace Sys2Proof.Machine

theorem exec_beacon (src : Fin 32) (term : Word) (s : State) : exec (.beacon src term) s = s.quick (fun s => s.beacon src.val term.toNat) := rfl
theorem exec_keyIssue (src : Fin 32) (term : Word) (k : Fin 2) (send unwraps : Bool) (s : State) :
    exec (.keyIssue src term k send unwraps) s = s.quick (fun s => s.keyIssue src.val term.toNat k.val send unwraps) := rfl
theorem exec_rtime (src : Fin 32) (term : Word) (v : BitVec 64) (s : State) : exec (.rtime src term v) s = s.quick (fun s => s.rtime src.val term.toNat v.toNat) := rfl

/-- The rows of a manager's packets whose effect makes nothing due. -/
theorem exec_managerQuick {src : Fin 32} {term : Word} {k : Fin 2} {send unwraps : Bool} {v : BitVec 64} {c : Instr}
    (hc : c ∈ [Instr.beacon src term, Instr.keyIssue src term k send unwraps, Instr.rtime src term v]) (s : State) :
    ∃ f, exec c s = s.quick (fun s => s.fromManager src.val term.toNat f) := by
  simp only [List.mem_cons, List.not_mem_nil, or_false] at hc
  rcases hc with rfl | rfl | rfl <;> exact ⟨_, rfl⟩

/-- The rows of a manager's packets whose effect can make work due. -/
theorem exec_managerRun {src part : Fin 32} {term : Word} {k : Fin 2} {st : Fin 16} {a b d e : Word} {lag : BitVec 16} {solo write : Bool} {xs : List (Fin 49152)} {t : Fin 4}
    {i : Fin 65536} {x : Sync} {slot : Fin 4096} {seed : Option Line} {c : Instr}
    (hc : c ∈ [Instr.shelfProbe k src term, Instr.member src term part st a b d e lag solo xs, Instr.tblWrite src term t i write a b d e, Instr.mgrSync src term x,
      Instr.keyBlob src term slot seed]) (s : State) : ∃ f, exec c s = s.run (fun s => s.fromManager src.val term.toNat f) := by
  simp only [List.mem_cons, List.not_mem_nil, or_false] at hc
  rcases hc with rfl | rfl | rfl | rfl | rfl <;> exact ⟨_, rfl⟩

/-- The state in which a discarded packet is counted (R313). -/
def State.staleCounted (s : State) : State := s.on (fun b => b.count pSHM F.SHM_STALE_TERM.COUNT 1)

theorem State.fromManager_stale {s : State} {term : Nat} (hv : s.bd.on pSHM F.SHM_MGR.MGR_VALID = true)
    (hn : serialNewer 16 (s.bd.get pSHM F.SHM_MGR.TERM) term = true) (src : Nat) (f : State → State) : s.fromManager src term f = s.staleCounted := if_pos ⟨hv, hn⟩

theorem State.staleCounted_shows (s : State) :
    s.SameBelow s.staleCounted
      ∧ s.staleCounted.bd.get pSHM F.SHM_STALE_TERM.COUNT = min (2 ^ F.SHM_STALE_TERM.COUNT.width - 1) (s.bd.get pSHM F.SHM_STALE_TERM.COUNT + 1)
      ∧ s.bd.Only s.staleCounted.bd [(pSHM, F.SHM_STALE_TERM.COUNT.off / 4)] :=
  ⟨rfl, Board.get_count_self _ _ _ _ (by decide), (Board.Only.refl _ _).count 1 (by decide) (by decide)⟩

end Sys2Proof.Machine

open Sys2Proof Sys2Proof.Machine

/-- Settles O44 (R313): every row of a manager's packet hands its effect to one check of the TERM, which discards and counts. -/
theorem olderTermsAreDiscarded : Obligations.OlderTermsAreDiscarded := by
  intro s src term hv hn
  refine ⟨fun k send unwraps v c hc => ?quick, fun k part st a b d e lag solo write xs t i x slot seed c hc => ?run⟩
  case quick =>
    obtain ⟨f, hf⟩ := exec_managerQuick hc s
    exact ⟨_, Ends.of_quick hf (State.fromManager_stale hv hn _ f), s.staleCounted_shows⟩
  case run =>
    obtain ⟨f, hf⟩ := exec_managerRun hc s
    exact ⟨_, Runs.of_run hf (State.fromManager_stale hv hn _ f), s.staleCounted_shows⟩

end

section
/-! Beacons, health, link keys and rack time (O45): R308, R317, R328, R339. The periods and time-outs are moments of the part's one clock (log entries 43 and 149), and a
part that hears the manager again is CUT no more (log entry 70): the model's choices. -/

namespace Sys2Proof.Machine

theorem exec_beaconTick (s : State) : exec .beaconTick s = s.quick State.beaconTick := rfl
theorem exec_beaconTimeout (s : State) : exec .beaconTimeout s = s.run State.beaconTimeout := rfl
theorem exec_health (src : Fin 32) (words : List Word) (s : State) : exec (.health src words) s = s.quick (fun s => s.healthPacket src.val (words.map BitVec.toNat)) := rfl
theorem exec_healthTick (s : State) : exec .healthTick s = s.quick State.healthTick := rfl
theorem exec_healthStale (src : Fin 32) (s : State) : exec (.healthStale src) s = s.quick (fun s => s.healthStale src.val) := rfl

/-! ### Beacons (R317) -/

/-- A change of the board under a condition. -/
theorem State.ite_on (P : Prop) [Decidable P] (s : State) (f : Board → Board) : (if P then s.on f else s) = s.on (fun b => if P then f b else b) := by
  by_cases h : P
  · simp only [if_pos h]
  · simp only [if_neg h]
    rfl

/-- The state in which a beacon has just been heard. -/
def State.beaconHeard (s : State) : State := { s with shelf := { s.shelf with beaconAt := s.bd.now } }

/-- A part that was CUT is so no more. -/
def Board.uncut (b : Board) : Board := if b.on pSHM F.SHM_SELF.CUT then (b.put pSHM F.SHM_SELF.CUT 0).shmCloses 1 else b

theorem Board.uncut_shows (b : Board) : b.uncut.on pSHM F.SHM_SELF.CUT = false := by
  unfold Board.uncut
  split
  · exact ((Board.Still.refl [(pSHM, 2), (pMGT, 23)] _).shmCloses (by decide) 1).on _ _ (by decide) |>.trans (Board.on_put_zero _ _ _ (by decide))
  · next h => simpa using h

/-- A unit that serves is CONTAINED (R24). -/
theorem Board.contain_contains {b : Board} {page : Nat} (h : b.serves page = true) : (b.contain page).unit page = stCONTAINED := by
  unfold Board.contain
  rw [if_pos h]
  exact Board.toState_unit _ _ (by decide)

/-- The state in which the silence of the manager shows: SHM_SELF, a cause of SHM, and its event. -/
def Board.cutShown (b : Board) (until' : Nat) : Board :=
  let c := { b with now := max b.now until' }
  ((c.put pSHM F.SHM_SELF.CUT 1).openHidden pSHM 1).raise pSHM (ev E.SHM.CUT 0 (c.get pSHM F.SHM_MEMBERS.PARTS) 0 0)

theorem State.beaconTimeout_cuts {s : State} (hm : s.bd.manages = false) (hv : s.bd.on pSHM F.SHM_MGR.MGR_VALID = true) (hc : s.bd.on pSHM F.SHM_SELF.CUT = false)
    (hf : nbit (s.bd.get pSHM F.SHM_FAILED.PARTS) (s.bd.get pSHM F.SHM_MGR.MGR_ID) = false) :
    s.beaconTimeout = s.on (fun b => (b.cutShown (s.shelf.beaconAt + 16)).logPartition b.partitioned E.SHM.CUT (b.get pSHM F.SHM_MEMBERS.PARTS)) := by
  unfold State.beaconTimeout
  rw [if_neg (by simp [hm, hv, hc, hf])]
  rfl

theorem Board.cutShown_shows (b : Board) (t : Nat) :
    (b.cutShown t).now = max b.now t ∧ (b.cutShown t).on pSHM F.SHM_SELF.CUT = true ∧ ((b.cutShown t).rd pSHM 0x010).getLsbD E.SHM.CUT = true
      ∧ (b.serves pSHM = true → (b.cutShown t).unit pSHM = stCONTAINED) := by
  have hopen := fun c : Board => (Board.Still.refl [(pSHM, 2), (pMGT, 23)] c).openHidden (by decide) 1
  refine ⟨(((hopen _).raise _ _).now :), ?_, Board.raise_status _ _ _ (show E.SHM.CUT < 32 by decide), fun hs => ?_⟩
  · exact (((hopen _).raise _ _).on _ _ (by decide)).trans (Board.on_put_one _ _ _ (by decide))
  · have hserves : ({ b with now := max b.now t }.put pSHM F.SHM_SELF.CUT 1).serves pSHM = b.serves pSHM :=
      Board.serves_congr (Board.get_put_clear _ _ (by decide) (by decide))
    exact (Board.get_raise _ _ _ (f := F.UNIT_STATE.STATE) (by decide)).trans (Board.contain_contains (hserves.trans hs :))

/-! ### Packets of the manager under its TERM (R308, R317, R339) -/

section
variable {s : State} {term : Nat} (hv : s.bd.on pSHM F.SHM_MGR.MGR_VALID = true) (ht : s.bd.get pSHM F.SHM_MGR.TERM = term)
include hv ht

theorem State.beacon_hears (src : Nat) : s.beacon src term = s.beaconHeard.on Board.uncut := by
  unfold State.beacon
  rw [State.fromManager_current hv ht]
  exact State.ite_on _ s.beaconHeard _

theorem State.keyIssue_installs (src k : Nat) (send : Bool) : s.keyIssue src term k send true = s.installKey k send := State.fromManager_current hv ht _ _

theorem State.keyIssue_unwrapped (src k : Nat) (send : Bool) : s.keyIssue src term k send false = s := State.fromManager_current hv ht _ _

/-- A value of the ring that comes in time, and where the ring is the source, is armed for the next boundary. -/
theorem State.rtime_arms (hd : s.bd.now ≤ s.bd.rtAt + 900) (hr : s.bd.ringTime = true) {v : Nat} (hw : v < 2 ^ 64) (hb : v % 1000 = 0) (src : Nat) :
    s.rtime src term v = { s with rtm := { s.rtm with armed := some (v, true) }, bd := s.bd.put pRTM F.RTM_STAT.ARMED 1 } := by
  unfold State.rtime State.deliver
  rw [State.fromManager_current hv ht, if_neg (by omega), Nat.mod_eq_of_lt hw, if_neg (not_not_intro hr), if_neg (not_not_intro hb)]

theorem State.rtime_late (hd : s.bd.rtAt + 900 < s.bd.now) (src v : Nat) : s.rtime src term v = s.on (fun b => b.count pRTM F.RTM_IGNORED.COUNT 1) := by
  unfold State.rtime
  rw [State.fromManager_current hv ht, if_pos (by omega)]

end

/-! ### A KEYED link that has both keys comes UP (R308) -/

/-- Link `k` has taken the key to send, beside the one to receive. -/
def State.bothKeys (s : State) (k : Nat) : State := (s.rotate k).onLink k (fun l => { l with keys := Nat.lor l.keys 1 })

/-- The event of a link that comes UP. -/
def Board.linkUpEvent (b : Board) (k : Nat) : Ev :=
  ev E.SHL.LINK_UP (b.get (pSHL k) F.SHL_STAT.WIDTH + 16 * b.get (pSHL k) F.SHL_STAT.SPEED) (b.get (pSHL k) F.SHL_STAT.PEER_ID) 0 0

theorem State.bothKeys_link {s : State} {k : Nat} {l : Link} (hl : s.shelf.links[k]? = some l) :
    (s.bothKeys k).shelf.links[k]? = some { l with keyAt := (s.rotate k).bd.now, keys := Nat.lor l.keys 1 } := State.onLink_get (State.rotate_link hl) _

theorem State.installKey_up {s : State} {k : Nat} {l : Link} (hl : s.shelf.links[k]? = some l) (h : s.bd.phase k = 3) (hk : l.keys = 2) :
    s.installKey k true = (((s.bothKeys k).toPhase k 4).on (fun b => b.followShm)).on (fun b => b.raise (pSHL k) (b.linkUpEvent k)) := by
  have hphase : (s.bothKeys k).bd.phase k = 3 :=
    (Board.get_count_clear _ _ (by decide) (.inr (by decide))).trans ((Board.get_put_clear _ _ (by decide) (.inr (by decide))).trans h)
  have hkeys : ((s.bothKeys k).link k).keys = 3 := by
    rw [State.link_of (State.bothKeys_link hl), hk]
    rfl
  unfold State.installKey
  dsimp only
  rw [if_neg (by omega), if_pos rfl, if_pos ⟨hphase, hkeys⟩]
  rfl

/-- What follows the phase of a link that comes UP lies beside its registers. -/
theorem State.linkUp_kept (s : State) (k : Nat) :
    State.Still (linkWords k) s ((s.on (fun b => b.followShm)).on (fun b => b.raise (pSHL k) (b.linkUpEvent k))) :=
  State.Still.mono (((State.Still.refl shelfWords s).withBoard (.followShm (.refl _ _))).withBoard (.raise (.refl _ _) _ _)) (shelfWords_sub k)

/-! ### What the manager and the members do by the clock (R317, R328) -/

section
variable {s : State}

theorem State.beaconTick_sends (h : s.bd.manages = true) :
    s.beaconTick = (s.on (fun b => b.elapse 11 2)).sendBoth 0x30 [s.bd.get pSHM F.SHM_MGR.TERM, s.bd.get pSHM F.SHM_MEMBERS.PARTS] none := by
  unfold State.beaconTick
  rw [if_neg (by simp [h])]
  rfl

theorem State.healthPacket_enters (h : s.bd.manages = true) (src : Nat) (ws : List Nat) :
    s.healthPacket src ws = { s with shelf := { s.shelf with health := smPut src ⟨ws, s.bd.now, false⟩ s.shelf.health } } := by
  unfold State.healthPacket
  rw [if_neg (by simp [h])]

/-- Routes rest on registers, which the clock leaves alone. -/
theorem Board.elapse_linkTo (b : Board) (k us p : Nat) : (b.elapse k us).linkTo p = b.linkTo p := rfl

/-- A member reports to the manager once a second. -/
theorem State.healthTick_reports (hj : s.bd.joined = true) (hm : s.bd.manages = false) (hv : s.bd.on pSHM F.SHM_MGR.MGR_VALID = true) :
    s.healthTick = (s.on (fun b => b.elapse 12 1000000)).say (.ring (s.bd.linkTo (s.bd.get pSHM F.SHM_MGR.MGR_ID)) 0x3E s.bd.selfId (s.bd.get pSHM F.SHM_MGR.MGR_ID)
      (s.on (fun b => b.elapse 12 1000000)).healthWords none) := by
  have hm' : (s.on (fun b => b.elapse 12 1000000)).bd.manages = false := hm
  have hv' : (s.on (fun b => b.elapse 12 1000000)).bd.on pSHM F.SHM_MGR.MGR_VALID = true := hv
  rw [← s.bd.elapse_linkTo 12 1000000]
  unfold State.healthTick
  dsimp only
  rw [if_neg (by simp [hj]), if_neg (Bool.eq_false_iff.1 hm'), if_pos hv']
  rfl

/-- The manager's table with a member's summary found stale. -/
def State.staleTold (s : State) (p : Nat) (h : MemberHealth) : State := { s with shelf := { s.shelf with health := smPut p { h with told := true } s.shelf.health } }

theorem State.healthStale_tells {p : Nat} {h : MemberHealth} (hp : smFind p s.shelf.health = some h) (hm : s.bd.manages = true) (ht : h.told = false) :
    s.healthStale p = ((s.upTo (h.since + 3000000)).staleTold p h).on
      (fun b => b.raise pSHM (ev E.SHM.HEALTH_STALE p (min 0xFFFF ((b.now - h.since) / 1000)) 0 0)) := by
  unfold State.healthStale
  simp only [hp]
  rw [if_neg (by simp [hm, ht])]
  rfl

end

end Sys2Proof.Machine

open Sys2Proof Sys2Proof.Machine

/-- Settles O45 (R308, R317, R328, R339): each packet that comes under the TERM in force, and each row of the clock, comes to one change. The clock and the end of CUT are the
model's (log entries 43, 70 and 149). -/
theorem beaconsHealthAndKeysArrive : Obligations.BeaconsHealthAndKeysArrive := by
  intro s src term
  refine ⟨fun hv ht => ⟨?beacon, fun k l hl h hk => ?key, fun k send => ?unwrapped, fun v hd hr hb => ?rtime, fun v hd => ?late⟩, fun hm => ?beaconTick,
    fun hm hv hc hf => ?beaconTimeout, fun words hm => ?health, fun hj hm hv => ?healthTick, fun h hp hm ht => ?stale⟩
  case beacon => exact ⟨_, Ends.of_quick (exec_beacon src term s) (State.beacon_hears hv ht _), rfl, Board.uncut_shows _, rfl⟩
  case key =>
    have hkept := ((s.bothKeys k.val).toPhase k.val 4).linkUp_kept k.val
    exact ⟨_, _, Ends.of_quick (exec_keyIssue src term k true true s) ((State.keyIssue_installs hv ht _ _ _).trans (State.installKey_up hl h hk)),
      (hkept.board.link_get (f := F.SHL_STAT.PHASE) (by decide)).trans (State.toPhase_phase _ k (by decide)),
      (congrArg (·.links[k.val]?) hkept.below.shelf).trans (State.toPhase_link _ k 4 (State.bothKeys_link hl)),
      by rw [hk]; rfl, Bool.or_true _, Board.raise_status _ _ _ (show E.SHL.LINK_UP < 32 by decide),
      (hkept.board.link_get (by decide)).trans ((State.toPhase_get _ k 4 (by decide)).trans (Board.keyRotated_phase _ _))⟩
  case unwrapped => exact Ends.of_quick (exec_keyIssue src term k send false s) (State.keyIssue_unwrapped hv ht _ _ _)
  case rtime =>
    exact ⟨_, Ends.of_quick (exec_rtime src term v s) (State.rtime_arms hv ht hd hr v.isLt hb _), rfl, Board.get_put_self _ _ _ _ (by decide), rfl⟩
  case late =>
    exact ⟨_, Ends.of_quick (exec_rtime src term v s) (State.rtime_late hv ht hd _ _), rfl, Board.get_count_self _ _ _ _ (by decide)⟩
  case beaconTick =>
    exact ⟨_, Ends.of_quick (exec_beaconTick s) (State.beaconTick_sends hm), (((State.SameBelow.refl s).on _).on (·.emit _)).on (·.emit _), rfl, rfl, List.append_assoc _ _ _⟩
  case beaconTimeout =>
    obtain ⟨hnow, hcut, hevent, hunit⟩ := s.bd.cutShown_shows (s.shelf.beaconAt + 16)
    have hlog := (Board.Still.refl faultWords (s.bd.cutShown (s.shelf.beaconAt + 16))).logPartition (List.Subset.refl _) s.bd.partitioned E.SHM.CUT
      (s.bd.get pSHM F.SHM_MEMBERS.PARTS)
    exact ⟨_, Runs.of_run (exec_beaconTimeout s) (State.beaconTimeout_cuts hm hv hc hf), rfl, hlog.now.trans hnow, (hlog.on _ _ (by decide)).trans hcut, hlog.status hevent,
      fun hs => (hlog.get _ F.UNIT_STATE.STATE (by decide)).trans (hunit hs)⟩
  case health =>
    exact ⟨_, Ends.of_quick (exec_health src words s) (State.healthPacket_enters hm _ _), rfl, smFind_smPut_self _ _ _⟩
  case healthTick =>
    exact ⟨_, s.on (fun b => b.elapse 12 1000000), Ends.of_quick (exec_healthTick s) (State.healthTick_reports hj hm hv), (State.SameBelow.refl s).on _, rfl, ((State.SameBelow.refl s).on _).on (·.emit _), rfl⟩
  case stale =>
    exact ⟨_, _, Ends.of_quick (exec_healthStale src s) (State.healthStale_tells hp hm ht), smFind_smPut_self _ _ _, rfl, Board.raises_now _ _ _,
      Board.raise_status _ _ _ (show E.SHM.HEALTH_STALE < 32 by decide)⟩

end

section
/-! Reports of a lost link, probes and declarations (O46): R316, R318. That a window and a probe end at a moment of the part's one clock is the model's choice (log entry 43). -/

namespace Sys2Proof.Machine

theorem exec_downReport (part : Fin 32) (side : Fin 2) (peer : Fin 32) (s : State) :
    exec (.downReport part side peer) s = s.run (fun s => s.downReport part.val side.val peer.val) := rfl
theorem exec_downReportWindow (link : Fin 32) (s : State) : exec (.downReportWindow link) s = s.run (fun s => s.downWindow link.val) := rfl
theorem exec_probeRsp (part : Fin 32) (s : State) : exec (.probeRsp part) s = s.run (fun s => s.probeRsp part.val) := rfl
theorem exec_probeTimeout (part : Fin 32) (s : State) : exec (.probeTimeout part) s = s.run (fun s => s.probeTimeout part.val) := rfl
theorem exec_shelfProbe (side : Fin 2) (src : Fin 32) (term : Word) (s : State) :
    exec (.shelfProbe side src term) s = s.run (fun s => s.shelfProbe side.val src.val term.toNat) := rfl
theorem exec_member (src : Fin 32) (term : Word) (part : Fin 32) (st : Fin 16) (topology members failed unreachable : Word) (lag : BitVec 16) (solo : Bool)
    (extents : List (Fin 49152)) (s : State) :
    exec (.member src term part st topology members failed unreachable lag solo extents) s =
      s.run (fun s => s.memberPacket src.val term.toNat part.val st.val topology.toNat members.toNat failed.toNat unreachable.toNat lag.toNat solo (extents.map Fin.val)) := rfl

/-! ### Reports and probes (R316) -/

/-- A single report names one end of its link, and so shows no link and no part lost from both sides. -/
theorem not_reported_twice (part side now p q : Nat) :
    ¬ ([(part, side, now)].any (fun d => decide (d.1 = p) && decide (d.2.1 = 0)) = true ∧ [(part, side, now)].any (fun d => decide (d.1 = q) && decide (d.2.1 = 1)) = true) := by
  simp only [List.any_cons, List.any_nil, Bool.or_false, Bool.and_eq_true, decide_eq_true_eq]
  omega

/-- A first report where nothing is broken is kept, and nothing is declared. -/
theorem State.downReport_first {s : State} {part side peer : Nat} (hd : s.bd.decides peer = true) (hs : s.shelf.downs = []) (hb : s.bd.breaks = []) :
    s.downReport part side peer = { s with shelf := { s.shelf with downs := [(part, side, s.bd.now)] } } := by
  have hsides := not_reported_twice part side s.bd.now
  unfold State.downReport
  rw [if_neg (by simp [hd])]
  dsimp only
  rw [hs]
  exact (if_neg fun h => hsides _ _ ⟨h.1, h.2.1⟩).trans ((if_neg (hsides _ _)).trans (if_neg (by simp [hb])))

/-- The silent end of a link that one report names. -/
def Board.silentEnd (b : Board) (part side : Nat) : Nat := if side = 0 then (part + 1) % b.shelfSize else (part + b.shelfSize - 1) % b.shelfSize

/-- A part is probed for a link from the moment of now on. -/
def State.probed (s : State) (part link : Nat) : State := { s with shelf := { s.shelf with probes := s.shelf.probes ++ [(part, link, s.bd.now)] } }

theorem State.downWindow_probes {s : State} {link p sd t : Nat} (hf : s.shelf.downs.find? (fun d => decide (reportLink s.bd.shelfSize d.1 d.2.1 = link)) = some (p, sd, t))
    (hd : s.bd.decides (s.bd.silentEnd p sd) = true) (hp : ∀ x ∈ s.shelf.probes, x.1 ≠ s.bd.silentEnd p sd) :
    ∃ k, s.downWindow link = ((s.upTo (t + 1)).probed (s.bd.silentEnd p sd) link).say
      (.ring k 0x32 s.bd.selfId (s.bd.silentEnd p sd) [s.bd.get pSHM F.SHM_MGR.TERM, s.bd.silentEnd p sd] none) := by
  have hnone : ¬ ((!s.bd.decides (s.bd.silentEnd p sd)) = true ∨ s.shelf.probes.any (fun x => decide (x.1 = s.bd.silentEnd p sd)) = true) := by
    simp only [hd, Bool.not_true, Bool.false_eq_true, false_or, List.any_eq_true, decide_eq_true_eq, not_exists, not_and]
    exact hp
  unfold State.downWindow
  simp only [hf]
  exact ⟨_, if_neg hnone⟩

section
variable {s : State} {part x link t : Nat} (hf : s.shelf.probes.find? (fun p => decide (p.1 = part)) = some (x, link, t))
include hf

theorem State.probeRsp_declares : s.probeRsp part = (s.declare none [link]).endProbe part link := by
  unfold State.probeRsp
  simp only [hf]

/-- The moment by which the answer to a probe of `part` sent at `t` is due. -/
def Board.probeDue (b : Board) (part t : Nat) : Nat := t + ceilDiv (2 * max (b.hopsEast part) (b.shelfSize - b.hopsEast part) * 180 + 1000) 1000

theorem State.probeTimeout_declares : s.probeTimeout part = ((s.upTo (s.bd.probeDue part t)).declare (some part) [link]).endProbe part link := by
  unfold State.probeTimeout
  simp only [hf]
  rfl

end

/-! ### A declaration (R318) -/

/-- The words that a declaration writes: SHM_SELF, the three bitmaps, SHM_TOPO and SHM_DECLARE. -/
def memberWords : List (Nat × Nat) := [(pSHM, 16), (pSHM, 18), (pSHM, 19), (pSHM, 20), (pSHM, 21), (pSHM, 30)]

/-- The membership view that a declaration brings. -/
def Board.viewSet (b : Board) (topo members failed unreach : Nat) : Board :=
  let c := ((b.put pSHM F.SHM_MEMBERS.PARTS members).put pSHM F.SHM_FAILED.PARTS failed).put pSHM F.SHM_UNREACH.PARTS unreach
  (c.put pSHM F.SHM_SELF.COUNT (popcount members 32)).wr pSHM 0x054 (BitVec.ofNat 32 topo)

/-- The view of a declaration, counted where it names a lost part or another topology. -/
def Board.viewShown (b : Board) (lost : Bool) (topo members failed unreach : Nat) : Board :=
  if lost ∨ topo ≠ (b.rd pSHM 0x054).toNat then (b.viewSet topo members failed unreach).count pSHM F.SHM_DECLARE.COUNT 1 else b.viewSet topo members failed unreach

/-- The events of a declaration: a part that joins, one that is lost, and another topology. -/
def Board.declarationEvents (b : Board) (part st old : Nat) (lost : Bool) (topo topo0 members failed lag : Nat) : List Ev :=
  (if st = 2 ∧ old ≠ 2 then [ev E.SHM.MEMBER_JOINED part members (b.get pSHM F.SHM_MGR.TERM) 0] else [])
    ++ (if lost then [ev E.SHM.MEMBER_FAILED (part + 32 * bit (decide (st = 5))) failed lag 0] else [])
    ++ (if topo ≠ topo0 then [ev E.SHM.TOPOLOGY (topo % 4) topo 0 0] else [])

/-- A declaration is told, and logged where a pair or the ring is lost with it. -/
def Board.declarationTold (b : Board) (evs : List Ev) (pairLost : Prop) [Decidable pairLost] (apart : Bool) (failed topo : Nat) : Board :=
  let b := evs.foldl (fun b e => b.raise pSHM e) b
  let b := if pairLost then b.logFault pSHM E.SHM.MEMBER_FAILED 13 0 failed false else b
  if b.partitioned then b.logPartition apart E.SHM.TOPOLOGY topo else b

section
variable {ks : List (Nat × Nat)} {b c : Board}

theorem Board.Still.raiseAll (h : Board.Still ks b c) (p : Nat) (evs : List Ev) : Board.Still ks b (evs.foldl (fun b e => b.raise p e) c) := by
  induction evs generalizing c with
  | nil => exact h
  | cons e evs ih => exact ih (h.raise p e)

theorem Board.Still.declarationTold (h : Board.Still ks b c) (hk : faultWords ⊆ ks) (evs : List Ev) (pairLost : Prop) [Decidable pairLost] (apart : Bool) (failed topo : Nat) :
    Board.Still ks b (c.declarationTold evs pairLost apart failed topo) := by
  have hlogged := ((h.raiseAll pSHM evs).logFault hk pSHM E.SHM.MEMBER_FAILED 13 0 failed false).ite (P := pairLost) (h.raiseAll pSHM evs)
  exact (hlogged.logPartition hk _ _ _).ite hlogged

/-- The first event of a list shows in the page's status. -/
theorem Board.declarationTold_status (e : Ev) (evs : List Ev) (he : e.bit < 32) (pairLost : Prop) [Decidable pairLost] (apart : Bool) (failed topo : Nat) :
    ((b.declarationTold (e :: evs) pairLost apart failed topo).rd pSHM 0x010).getLsbD e.bit = true :=
  ((Board.Still.refl faultWords (b.raise pSHM e)).declarationTold (List.Subset.refl _) evs pairLost apart failed topo).status (Board.raise_status _ _ _ he)

end

section
variable (b : Board) (lost : Bool) (topo members failed unreach : Nat)

theorem Board.viewShown_only : b.Only (b.viewShown lost topo members failed unreach) memberWords := by
  have hset : b.Only (b.viewSet topo members failed unreach) memberWords :=
    (((((Board.Only.refl b memberWords).put _ (by decide) (by decide)).put _ (by decide) (by decide)).put _ (by decide) (by decide)).put _ (by decide) (by decide)).wr _
      (by decide) (by decide)
  unfold Board.viewShown
  split
  · exact hset.count 1 (by decide) (by decide)
  · exact hset

/-- The count of declarations is kept beside the view. -/
theorem Board.viewShown_get (f : Fld) (hf : (f.off < 4096 ∧ f.lo + f.width ≤ 32) ∧ f.off / 4 ≠ 30) :
    (b.viewShown lost topo members failed unreach).get pSHM f = (b.viewSet topo members failed unreach).get pSHM f := by
  unfold Board.viewShown
  split
  · exact Board.get_count_clear _ _ ⟨hf.1.1, by decide, hf.1.2⟩ (.inr (.inl hf.2))
  · rfl

theorem Board.viewSet_get (f : Fld) (hf : f.off < 4096 ∧ f.off / 4 ≠ 16 ∧ f.off / 4 ≠ 21) : (b.viewSet topo members failed unreach).get pSHM f =
    (((b.put pSHM F.SHM_MEMBERS.PARTS members).put pSHM F.SHM_FAILED.PARTS failed).put pSHM F.SHM_UNREACH.PARTS unreach).get pSHM f :=
  (((Board.Only.refl _ [(pSHM, 16), (pSHM, 21)]).put _ (by decide) (by decide)).wr _ (by decide) (by decide)).get pSHM f ⟨hf.1, by simp [hf.2]⟩

variable {members failed unreach} in
theorem Board.viewShown_bitmaps (hm : members < 2 ^ 32) (hf : failed < 2 ^ 32) (hu : unreach < 2 ^ 32) :
    (b.viewShown lost topo members failed unreach).get pSHM F.SHM_MEMBERS.PARTS = members
      ∧ (b.viewShown lost topo members failed unreach).get pSHM F.SHM_FAILED.PARTS = failed
      ∧ (b.viewShown lost topo members failed unreach).get pSHM F.SHM_UNREACH.PARTS = unreach := by
  refine ⟨?_, ?_, ?_⟩ <;> rw [Board.viewShown_get _ _ _ _ _ _ _ (by decide), Board.viewSet_get _ _ _ _ _ _ (by decide)]
  · rw [Board.get_put_clear _ _ (by decide) (by decide), Board.get_put_clear _ _ (by decide) (by decide), Board.get_put_self _ _ _ _ (by decide)]
    exact Nat.mod_eq_of_lt hm
  · rw [Board.get_put_clear _ _ (by decide) (by decide), Board.get_put_self _ _ _ _ (by decide)]
    exact Nat.mod_eq_of_lt hf
  · rw [Board.get_put_self _ _ _ _ (by decide)]
    exact Nat.mod_eq_of_lt hu

end

/-- A part's state in the shelf's record. -/
def State.memberSet (s : State) (part st : Nat) : State := { s with shelf := { s.shelf with members := smSet (fun _ => 0) part st s.shelf.members } }

/-- A pair of which a declaration names neither part keeps its state. -/
theorem State.followPair_other {s : State} {part : Nat} (hp : part ≠ s.bd.partner) (hs : part ≠ s.bd.selfId) (st : Nat) (solo : Bool) (xs : List Nat) :
    s.followPair part st solo xs = s := by
  unfold State.followPair
  dsimp only
  rw [if_neg hp, if_neg hs]

/-- Where nothing is in flight, nothing is sent again. -/
theorem State.resend_idle {s : State} (h : s.traffic.flight = []) (before : Nat → Nat) : s.resend before = s := by
  simp only [State.resend, h, List.filter_nil, List.foldl_nil, List.map_nil, List.any_nil, Bool.not_false, List.filter_true, List.append_nil]
  rw [← h]

/-- A part that has become a MEMBER has done with its own joins. -/
def State.joinEnded (s : State) (part st : Nat) : State :=
  if part = s.bd.selfId ∧ st = 2 then { s with shelf := { s.shelf with joins := s.shelf.joins.filter (fun x => decide (4 ≤ x.step)) } } else s

/-- A declaration by parts: the view, the pair, what is told, the requests of a lost part, and those that go again. -/
theorem State.applyMember_eq (s : State) (part st topo members failed unreach lag : Nat) (solo : Bool) (xs : List Nat) :
    s.applyMember part st topo members failed unreach lag solo xs =
      let lost := decide (st = 4 ∨ st = 5) && decide (s.member part ≠ st)
      let v := (((s.memberSet part st).on (fun b => b.viewShown lost topo members failed unreach)).followPair part st solo xs).on (fun b => b.followShm)
      let w := v.on (fun b => b.declarationTold (b.declarationEvents part st (s.member part) lost topo (s.bd.rd pSHM 0x054).toNat members failed lag)
        (lost ∧ st = 4 ∧ nbit failed (Nat.xor part 1)) s.bd.partitioned failed topo)
      ((if lost ∧ part ≠ w.bd.selfId then (w.dropWrites part).dropFlight part else w).resend (fun p => s.bd.linkTo p)).joinEnded part st := rfl

/-- The view that a declaration of a MEMBER brings, and the state of SHM under it. -/
def State.joinedView (s : State) (part topo members failed unreach : Nat) : State :=
  ((s.memberSet part 2).on (fun b => b.viewShown false topo members failed unreach)).on (fun b => b.followShm)

/-- The events of a part that becomes a MEMBER. -/
def State.joinedEvents (s : State) (part topo members failed unreach lag : Nat) : List Ev :=
  (s.joinedView part topo members failed unreach).bd.declarationEvents part 2 (s.member part) false topo (s.bd.rd pSHM 0x054).toNat members failed lag

/-- What a declaration leaves of a part that becomes a MEMBER. -/
def State.joinedShown (s : State) (part topo members failed unreach lag : Nat) : State :=
  (s.joinedView part topo members failed unreach).on (fun b =>
    b.declarationTold (s.joinedEvents part topo members failed unreach lag) (false ∧ 2 = 4 ∧ nbit failed (Nat.xor part 1)) s.bd.partitioned failed topo)

section
variable (s : State) (part topo : Nat) {members failed unreach : Nat} (lag : Nat)

/-- What follows the view of a declaration lies beside it. -/
theorem State.joinedShown_kept :
    Board.Still shelfWords (s.bd.viewShown false topo members failed unreach) (s.joinedShown part topo members failed unreach lag).bd :=
  ((Board.Still.refl shelfWords _).followShm).declarationTold (by decide) _ _ _ _ _

theorem State.joinedShown_member : smGet (fun _ => 0) (s.joinedShown part topo members failed unreach lag).shelf.members part = 2 :=
  smGet_smSet_self (fun _ => 0) part 2 s.shelf.members

theorem State.joinedShown_selfId : (s.joinedShown part topo members failed unreach lag).bd.selfId = s.bd.selfId :=
  ((s.joinedShown_kept part topo lag).get pXTN F.XTN_SELF.SHELF_ID (by decide)).trans
    ((s.bd.viewShown_only false topo members failed unreach).get pXTN F.XTN_SELF.SHELF_ID (by decide))

theorem State.joinedShown_bitmaps (hm : members < 2 ^ 32) (hf : failed < 2 ^ 32) (hu : unreach < 2 ^ 32) :
    (s.joinedShown part topo members failed unreach lag).bd.get pSHM F.SHM_MEMBERS.PARTS = members
      ∧ (s.joinedShown part topo members failed unreach lag).bd.get pSHM F.SHM_FAILED.PARTS = failed
      ∧ (s.joinedShown part topo members failed unreach lag).bd.get pSHM F.SHM_UNREACH.PARTS = unreach := by
  obtain ⟨hmembers, hfailed, hunreach⟩ := s.bd.viewShown_bitmaps false topo hm hf hu
  have hkept := s.joinedShown_kept part topo (members := members) (failed := failed) (unreach := unreach) lag
  exact ⟨(hkept.get _ _ (by decide)).trans hmembers, (hkept.get _ _ (by decide)).trans hfailed, (hkept.get _ _ (by decide)).trans hunreach⟩

variable {part} in
theorem State.joinedShown_tells (hn : s.member part ≠ 2) :
    ((s.joinedShown part topo members failed unreach lag).bd.rd pSHM 0x010).getLsbD E.SHM.MEMBER_JOINED = true := by
  have hevents : ∃ e evs, s.joinedEvents part topo members failed unreach lag = e :: evs ∧ e.bit = E.SHM.MEMBER_JOINED := by
    unfold State.joinedEvents Board.declarationEvents
    rw [if_pos ⟨rfl, hn⟩]
    exact ⟨_, _, rfl, rfl⟩
  obtain ⟨e, evs, hlist, hbit⟩ := hevents
  unfold State.joinedShown
  rw [hlist, ← hbit]
  exact Board.declarationTold_status e evs (by rw [hbit]; decide) _ _ _ _

end

/-- A MEMBER that is neither this part nor its partner joins the view, where nothing is in flight. -/
theorem State.applyMember_joined {s : State} {part : Nat} (hf : s.traffic.flight = []) (hs : part ≠ s.bd.selfId) (hp : part ≠ s.bd.partner)
    (topo members failed unreach lag : Nat) (solo : Bool) (xs : List Nat) :
    s.applyMember part 2 topo members failed unreach lag solo xs = s.joinedShown part topo members failed unreach lag := by
  have hself : ((s.memberSet part 2).on (fun b => b.viewShown false topo members failed unreach)).bd.selfId = s.bd.selfId :=
    (s.bd.viewShown_only false topo members failed unreach).get pXTN F.XTN_SELF.SHELF_ID (by decide)
  have hlost : (decide (2 = 4 ∨ 2 = 5) && decide (s.member part ≠ 2)) = false := rfl
  rw [State.applyMember_eq]
  dsimp only
  rw [hlost, State.followPair_other (by rwa [Board.partner, hself]) (by rwa [hself]), if_neg (by simp), State.resend_idle]
  · exact if_neg fun h => hs (h.1.trans (s.joinedShown_selfId part topo lag))
  · exact hf

end Sys2Proof.Machine

open Sys2Proof Sys2Proof.Machine

/-- Settles O46 (R316, R318): reports and probes are judged one by one, and a declaration is the view that it brings with what follows it. The moments are the model's (log entry
43); of the declarations it speaks of a MEMBER's. -/
theorem lostLinksAreJudged : Obligations.LostLinksAreJudged := by
  intro s part src side term
  refine ⟨fun peer hd hs hb => ?report, fun link p sd t silent hf hsilent hd hp => ?window, fun x link t hf => ⟨?answer, ?silence⟩, fun hv ht =>
    ⟨?probe, fun topology members failed unreachable lag solo extents hflight hself hpartner => ?member⟩⟩
  case report => exact ⟨_, Runs.of_run (exec_downReport part side peer s) (State.downReport_first hd hs hb), rfl, rfl, rfl⟩
  case window =>
    subst hsilent
    obtain ⟨k, hk⟩ := State.downWindow_probes hf hd hp
    exact ⟨_, k, Runs.of_run (exec_downReportWindow link s) hk, rfl, rfl, rfl, rfl⟩
  case answer => exact ⟨_, Runs.of_run (exec_probeRsp part s) (State.probeRsp_declares hf), rfl⟩
  case silence =>
    exact ⟨_, s.upTo (s.bd.probeDue part.val t), Runs.of_run (exec_probeTimeout part s) (State.probeTimeout_declares hf), rfl, rfl, rfl, rfl⟩
  case probe => exact ⟨_, Runs.of_run (exec_shelfProbe side src term s) (State.fromManager_current hv ht _ _), rfl, rfl⟩
  case member =>
    obtain ⟨hmembers, hfailed, hunreach⟩ := s.joinedShown_bitmaps part.val topology.toNat lag.toNat members.isLt failed.isLt unreachable.isLt
    exact ⟨_, Runs.of_run (exec_member src term part 2 topology members failed unreachable lag solo extents s)
      ((State.fromManager_current hv ht _ _).trans (State.applyMember_joined hflight hself hpartner _ _ _ _ _ _ _)), s.joinedShown_member _ _ _, hmembers, hfailed, hunreach,
      s.joinedShown_tells topology.toNat lag.toNat⟩

end

section
/-! The manager's duties and a pair's return to NORMAL (O48): R319 to R321, R326, R327, R387. That TERM is stored and the duties are taken in one step is the model's choice (log
entry 115). -/

namespace Sys2Proof.Machine

theorem exec_managerTakeover (s : State) : exec .managerTakeover s = s.run State.takeover := rfl
theorem exec_managerClaim (s : State) : exec .managerClaim s = s.run State.claimDuties := rfl
theorem exec_leave (p : Path) (plain : Bool) (s : State) : exec (.leave p plain) s = s.run (fun s => s.leave p plain) := rfl
theorem exec_handback (p : Path) (s : State) : exec (.handback p) s = s.run (fun s => s.handback p) := rfl
theorem exec_resyncDone (s : State) : exec .resyncDone s = s.run State.resyncDone := rfl

/-! ### The manager that SHM_MGR names (R313, R319) -/

/-- SHM_MGR with another manager and TERM. -/
def Board.managerNamed (b : Board) (m term : Nat) : Board := ((b.put pSHM F.SHM_MGR.MGR_ID m).put pSHM F.SHM_MGR.MGR_VALID 1).put pSHM F.SHM_MGR.TERM term

section
variable (b : Board) (m term : Nat)

theorem Board.managerNamed_only : b.Only (b.managerNamed m term) [(pSHM, 17)] :=
  (((Board.Only.refl b _).put _ (by decide) (by decide)).put _ (by decide) (by decide)).put _ (by decide) (by decide)

theorem Board.managerNamed_selfId : (b.managerNamed m term).selfId = b.selfId := (b.managerNamed_only m term).get pXTN F.XTN_SELF.SHELF_ID (by decide)

/-- A part that is told of another manager lays down its own duties. -/
theorem Board.setManager_eq : b.setManager m term =
    let c := if m = b.selfId then b.managerNamed m term else (b.managerNamed m term).put pSHM F.SHM_SELF.MANAGER 0
    if b.on pSHM F.SHM_MGR.MGR_VALID ∧ b.get pSHM F.SHM_MGR.MGR_ID ≠ m then c.raise pSHM (ev E.SHM.MANAGER_CHANGE m term (b.get pSHM F.SHM_MGR.MGR_ID) 0) else c := by
  rw [← b.managerNamed_selfId m term]
  rfl

/-- The registers of SHM beside SHM_SELF and those of events. -/
theorem Board.setManager_get {f : Fld} (hf : f.off < 4096 ∧ eventReg pSHM f.off = false ∧ f.off / 4 ≠ 16) :
    (b.setManager m term).get pSHM f = (b.managerNamed m term).get pSHM f := by
  have hself : ((b.managerNamed m term).put pSHM F.SHM_SELF.MANAGER 0).get pSHM f = (b.managerNamed m term).get pSHM f :=
    ((Board.Only.refl _ [(pSHM, 16)]).put _ (by decide) (by decide)).get pSHM f ⟨hf.1, by simp [hf.2.2]⟩
  rw [Board.setManager_eq]
  dsimp only
  split <;> split <;> simp only [Board.get_raise _ _ _ ⟨hf.1, hf.2.1⟩, hself]

theorem Board.setManager_term : (b.setManager m term).get pSHM F.SHM_MGR.TERM = term % 2 ^ 16 := (b.setManager_get m term (by decide)).trans (Board.get_put_self _ _ _ _ (by decide))

theorem Board.setManager_id : (b.setManager m term).get pSHM F.SHM_MGR.MGR_ID = m % 2 ^ 5 := by
  rw [Board.setManager_get _ _ _ (by decide)]
  unfold Board.managerNamed
  rw [Board.get_put_clear _ _ (by decide) (by decide), Board.get_put_clear _ _ (by decide) (by decide), Board.get_put_self _ _ _ _ (by decide)]

theorem Board.setManager_lays {m : Nat} (hm : m ≠ b.selfId) : (b.setManager m term).manages = false := by
  have hself := Board.on_put_zero (b.managerNamed m term) pSHM F.SHM_SELF.MANAGER (by decide)
  rw [Board.setManager_eq, if_neg hm]
  dsimp only
  split
  · exact (Board.on_raise _ _ _ (by decide)).trans hself
  · exact hself

end

/-- What SHM follows does not bear on who manages. -/
theorem Board.followShm_manages (b : Board) : b.followShm.manages = b.manages :=
  (Board.on_put_clear _ _ (by decide) (by decide)).trans (((Board.Still.refl [(pSHM, 2), (pMGT, 23)] b).serviceLevel pSHM _ (by decide)).on _ _ (by decide))

/-! ### Duties are taken (R319, R320, R387) -/

/-- The TERM under which a part would take the duties. -/
def Board.nextTerm (b : Board) : Nat := (b.get pSHM F.SHM_MGR.TERM + 1) % 2 ^ 16

theorem State.takeDuties_bd (s : State) : s.takeDuties.bd =
    (((s.storeWords 8 [s.bd.nextTerm]).bd.setManager (s.storeWords 8 [s.bd.nextTerm]).bd.selfId s.bd.nextTerm).put pSHM F.SHM_SELF.MANAGER 1).put pSHM F.SHM_SELF.DEPUTY 0 := rfl

theorem State.takeDuties_term (s : State) : s.takeDuties.bd.get pSHM F.SHM_MGR.TERM = (s.bd.get pSHM F.SHM_MGR.TERM + 1) % 2 ^ 16 := by
  rw [State.takeDuties_bd, Board.get_put_clear _ _ (by decide) (by decide), Board.get_put_clear _ _ (by decide) (by decide), Board.setManager_term]
  exact Nat.mod_mod _ _

theorem State.takeDuties_manages (s : State) : s.takeDuties.bd.manages = true := by
  rw [State.takeDuties_bd]
  exact (Board.on_put_clear _ _ (by decide) (by decide)).trans (Board.on_put_one _ _ _ (by decide))

/-- MEMBER of this part itself with the view as it stands. -/
def State.announceSelf (s : State) : State :=
  s.announce s.bd.selfId 2 (s.bd.rd pSHM 0x054).toNat (s.bd.get pSHM F.SHM_MEMBERS.PARTS) (s.bd.get pSHM F.SHM_FAILED.PARTS) (s.bd.get pSHM F.SHM_UNREACH.PARTS)

/-- BEACON in both directions. -/
def State.sendBeacon (s : State) : State := s.sendBoth 0x30 [s.bd.get pSHM F.SHM_MGR.TERM, s.bd.get pSHM F.SHM_MEMBERS.PARTS] none

theorem State.takeover_takes {s : State} (hd : s.bd.on pSHM F.SHM_SELF.DEPUTY = true)
    (hf : nbit (s.bd.get pSHM F.SHM_FAILED.PARTS) (s.bd.get pSHM F.SHM_MGR.MGR_ID) = true) :
    s.takeover = ((s.takeDuties.announceSelf.sendBeacon.keyed.foldl (fun (t : State) p => t.issueKeys p) s.takeDuties.announceSelf.sendBeacon).sendOwed).on Board.followShm := by
  unfold State.takeover
  rw [if_neg (by simp [hd, hf])]
  rfl

/-- A claim with no JOIN of its own under way takes no time. -/
theorem State.claim_begins {s : State} (hj : s.shelf.joins = []) :
    ({ s.on (fun b => { b with now := max b.now (((s.shelf.joins[0]?).map (fun x => x.since + 50000)).getD 0) }) with shelf := { s.shelf with joins := [] } } : State) = s := by
  simp only [hj, List.getElem?_nil, Option.map_none, Option.getD_none, Nat.max_zero]
  rw [← hj]
  rfl

theorem State.claimDuties_claims {s : State} (hr : s.bd.on pSHM F.SHM_SELF.ROLE = true) (hi : s.bd.selfId = 0) (hn : s.bd.joined = false) (hs : s.bd.serves pSHM = true)
    (hj : s.shelf.joins = []) :
    s.claimDuties = (s.takeDuties.announce 0 2 (s.takeDuties.bd.rd pSHM 0x054).toNat (nsetbit (s.takeDuties.bd.get pSHM F.SHM_MEMBERS.PARTS) 0 true)
      (nsetbit (s.takeDuties.bd.get pSHM F.SHM_FAILED.PARTS) 0 false) (s.takeDuties.bd.get pSHM F.SHM_UNREACH.PARTS)).issueKeys 0 := by
  unfold State.claimDuties
  rw [if_neg (by simp [hr, hi, hn, hs])]
  dsimp only
  rw [State.on_shelf, State.claim_begins hj]

/-! ### SHM_CMD (R321, R327) -/

section
variable (b : Board) (op : Nat) (c : Code)

theorem Board.shmResult_only : b.Only (b.shmResult op c) [(pSHM, 24)] := ((Board.Only.refl b _).put _ (by decide) (by decide)).put _ (by decide) (by decide)

theorem Board.shmResult_op : (b.shmResult op c).get pSHM F.SHM_CMD.OP = op % 4 :=
  (Board.get_put_clear _ _ (by decide) (by decide)).trans (Board.get_put_self _ _ _ _ (by decide))

theorem Board.shmResult_result : (b.shmResult op c).get pSHM F.SHM_CMD.RESULT = c.num := by
  refine (Board.get_put_self _ _ _ _ (by decide)).trans ?_
  cases c <;> rfl

end

/-- A manager may not leave. -/
theorem State.leave_conflicts {s : State} {p : Path} (hg : s.bd.gate p pSHM 0x060 true false = none) (hm : s.bd.manages = true) (plain : Bool) :
    s.leave p plain = s.on (fun b => b.shmResult 1 .conflict) := (State.written_pass hg).trans (if_pos (.inl hm))

/-- This part tells that it is ABSENT, in HANDBACK of its pair, and shows it. -/
def State.absent (s : State) : State :=
  let mem := nsetbit (s.bd.get pSHM F.SHM_MEMBERS.PARTS) s.bd.selfId false
  let t := s.on (fun b => b.put pSHM F.SHM_PAIR.STATE 3)
  let u := t.sendBoth 0x34 [t.bd.get pSHM F.SHM_MGR.TERM, s.bd.selfId, 0, (t.bd.rd pSHM 0x054).toNat, mem, t.bd.get pSHM F.SHM_FAILED.PARTS, t.bd.get pSHM F.SHM_UNREACH.PARTS] none
  (u.memberSet s.bd.selfId 0).on (fun b => (b.put pSHM F.SHM_MEMBERS.PARTS mem).put pSHM F.SHM_SELF.COUNT (popcount mem 32))

/-- Link `k` without its keys, where it was UP. -/
def State.unkey (s : State) (k : Nat) : State := if s.bd.linkUp k then (s.onLink k (fun l => { l with keys := 0 })).toPhase k 3 else s

theorem State.leave_leaves {s : State} {p : Path} (hg : s.bd.gate p pSHM 0x060 true false = none) (hm : s.bd.manages = false) (hp : s.member s.bd.partner = 2)
    (hb : nbit (s.bd.get pSHM F.SHM_MEMBERS.PARTS) s.bd.partner = true) (hx : s.xtn.lxt = []) (plain : Bool) :
    s.leave p plain = ((s.absent.unkey 0).unkey 1).on (fun b => (b.shmResult 1 .ok).followShm) := by
  refine (State.written_pass hg).trans ((if_neg ?_).trans rfl)
  simp [hm, hp, hb, hx]

/-- The words that a link's phase is kept in, with those that follow it. -/
def phaseWords (k : Nat) : List (Nat × Nat) := (pSHL k, 17) :: (pSHL k, 18) :: linkWords k

theorem Board.phased_still (b : Board) (k ph : Nat) : b.Still (phaseWords k) (b.phased k ph) := by
  have hput : b.Still (phaseWords k) (b.put (pSHL k) F.SHL_STAT.PHASE ph) := .put (.refl _ b) _ _ _ ⟨by decide, by decide, by simp [phaseWords]⟩
  exact hput.ite (hput.put _ F.SHL_CAUSE.DOWN 0 ⟨by decide, by decide, by simp [phaseWords]⟩)

theorem State.unkey_still (s : State) (k : Fin 2) : s.bd.Still (phaseWords k.val) (s.unkey k.val).bd := by
  unfold State.unkey
  split
  · exact (s.bd.phased_still k.val 3).trans ((State.toPhase_still (s.onLink k.val (fun l => { l with keys := 0 })) k 3).mono fun _ h => .tail _ (.tail _ h))
  · exact .refl _ _

theorem State.unkey_members (s : State) (k : Nat) : (s.unkey k).shelf.members = s.shelf.members := by
  unfold State.unkey
  split <;> rfl

/-- The words that LEAVE writes beside the pair, the view and SHM_CMD. -/
def leaveWords : List (Nat × Nat) := phaseWords 0 ++ phaseWords 1

theorem State.unkeyed_still (s : State) : s.bd.Still leaveWords ((s.unkey 0).unkey 1).bd :=
  ((s.unkey_still 0).mono (List.subset_append_left _ _)).trans (((s.unkey 0).unkey_still 1).mono (List.subset_append_right _ _))

section
variable (s : State)

/-- SHM_PAIR and SHM_MEMBERS of a part that has left, as they were shown with the news. -/
theorem State.left_get {f : Fld} (hf : f.off < 4096 ∧ eventReg pSHM f.off = false ∧ (pSHM, f.off / 4) ∉ (pSHM, 24) :: (leaveWords ++ shelfWords)) :
    (((s.absent.unkey 0).unkey 1).on (fun b => (b.shmResult 1 .ok).followShm)).bd.get pSHM f = s.absent.bd.get pSHM f := by
  obtain ⟨ho, he, hn⟩ := hf
  simp only [List.mem_cons, List.mem_append, not_or] at hn
  obtain ⟨hcmd, hlinks, hshelf⟩ := hn
  exact ((Board.Still.refl shelfWords _).followShm.get _ _ ⟨ho, he, hshelf⟩).trans
    (((Board.shmResult_only _ 1 .ok).get _ _ ⟨ho, by simpa using hcmd⟩).trans (s.absent.unkeyed_still.get _ _ ⟨ho, he, hlinks⟩))

theorem State.absent_pair : s.absent.bd.get pSHM F.SHM_PAIR.STATE = 3 :=
  (Board.get_put_clear _ _ (by decide) (by decide)).trans ((Board.get_put_clear _ _ (by decide) (by decide)).trans (Board.get_put_self s.bd _ _ 3 (by decide)))

theorem State.absent_members : s.absent.bd.get pSHM F.SHM_MEMBERS.PARTS = nsetbit (s.bd.get pSHM F.SHM_MEMBERS.PARTS) s.bd.selfId false :=
  (Board.get_put_clear _ _ (by decide) (by decide)).trans
    ((Board.get_put_self _ _ _ _ (by decide)).trans (Nat.mod_eq_of_lt (lt_of_le_of_lt (nsetbit_false_le _ _) (Board.get_lt s.bd pSHM F.SHM_MEMBERS.PARTS))))

theorem State.left_member : smGet (fun _ => 0) ((s.absent.unkey 0).unkey 1).shelf.members s.bd.selfId = 0 := by
  rw [State.unkey_members, State.unkey_members]
  exact smGet_smSet_self (fun _ => 0) s.bd.selfId 0 s.shelf.members

end

/-- The duties pass to the part of shelf ID 0. -/
theorem State.handback_passes {s : State} {p : Path} (hg : s.bd.gate p pSHM 0x060 true false = none) (hm : s.bd.manages = true)
    (h0 : nbit (s.bd.get pSHM F.SHM_MEMBERS.PARTS) 0 = true) (hs : s.bd.selfId ≠ 0) :
    s.handback p = (s.say (.ring (s.bd.linkTo 0) 0x3A s.bd.selfId 0 [s.bd.get pSHM F.SHM_MGR.TERM, 1] none)).on
      (fun b => ((b.shmResult 2 .ok).setManager 0 (b.get pSHM F.SHM_MGR.TERM)).followShm) :=
  (State.written_pass hg).trans ((if_neg (by simp [hm, h0])).trans (if_neg hs))

/-- A part other than shelf ID 0 has laid its duties down with HANDBACK, under the TERM as it was. -/
theorem Board.handedBack {b : Board} (hs : b.selfId ≠ 0) :
    ((b.shmResult 2 .ok).setManager 0 (b.get pSHM F.SHM_MGR.TERM)).followShm.get pSHM F.SHM_CMD.RESULT = Code.ok.num
      ∧ ((b.shmResult 2 .ok).setManager 0 (b.get pSHM F.SHM_MGR.TERM)).followShm.manages = false
      ∧ ((b.shmResult 2 .ok).setManager 0 (b.get pSHM F.SHM_MGR.TERM)).followShm.get pSHM F.SHM_MGR.MGR_ID = 0
      ∧ ((b.shmResult 2 .ok).setManager 0 (b.get pSHM F.SHM_MGR.TERM)).followShm.get pSHM F.SHM_MGR.TERM = b.get pSHM F.SHM_MGR.TERM := by
  have hself : (b.shmResult 2 .ok).selfId = b.selfId := (b.shmResult_only 2 .ok).get pXTN F.XTN_SELF.SHELF_ID (by decide)
  have hkept := fun c : Board => (Board.Still.refl shelfWords c).followShm
  refine ⟨?_, ?_, ?_, ?_⟩
  · exact ((hkept _).get _ _ (by decide)).trans ((Board.setManager_get _ _ _ (by decide)).trans
      (((Board.managerNamed_only _ _ _).get _ _ (by decide)).trans (b.shmResult_result 2 .ok)))
  · exact (Board.followShm_manages _).trans (Board.setManager_lays _ _ (by rw [hself]; exact hs.symm))
  · exact ((hkept _).get _ _ (by decide)).trans (Board.setManager_id _ _ _)
  · exact ((hkept _).get _ _ (by decide)).trans ((Board.setManager_term _ _ _).trans (Nat.mod_eq_of_lt (Board.get_lt b pSHM F.SHM_MGR.TERM)))

/-! ### The pair is NORMAL again (R326) -/

/-- The pair is NORMAL, SHM follows it, and RESYNC_DONE tells it. -/
def Board.pairNormal (b : Board) (since : Nat) : Board :=
  let c := (b.put pSHM F.SHM_PAIR.STATE 1).followShm
  c.raise pSHM (ev E.SHM.RESYNC_DONE c.partner (c.get pSHM F.SHM_RESYNC.DONE) ((c.now - since) / 1000000) 0)

theorem State.resyncDone_normal {s : State} (h : s.bd.pairState = 6) (hw : s.home.mirror.waits = []) : s.resyncDone = s.on (fun b => b.pairNormal s.shelf.resyncAt) := by
  unfold State.resyncDone
  simp only [h]
  rw [if_neg (by simp [hw])]
  rfl

theorem Board.pairNormal_state (b : Board) (since : Nat) : (b.pairNormal since).get pSHM F.SHM_PAIR.STATE = 1 :=
  (((Board.Still.refl shelfWords _).followShm.raise _ _).get _ _ (by decide)).trans (Board.get_put_self b _ _ 1 (by decide))

theorem State.resyncDone_handback {s : State} (h : s.bd.pairState = 4) (hr : s.shelf.resync = []) : s.resyncDone = s.on (fun b => b.put pSHM F.SHM_PAIR.STATE 6) := by
  unfold State.resyncDone
  simp only [h, hr]

end Sys2Proof.Machine

open Sys2Proof Sys2Proof.Machine

/-- Settles O48 (R319 to R321, R326, R327, R387): each way that the duties change hands comes to one change of SHM_MGR and SHM_SELF, and the end of resync to one of SHM_PAIR. -/
theorem dutiesChangeHands : Obligations.DutiesChangeHands := by
  intro s p
  refine ⟨fun hd hf => ?takeover, fun hr hi hn hs hj => ?claim, fun hg => ⟨fun plain hm => ?conflict, fun plain hm hp hb hx => ?leaves, fun hm h0 hs => ?handback⟩,
    fun h hw => ?normal, fun h hr => ?lastOrders⟩
  case takeover =>
    exact ⟨_, _, _, Runs.of_run (exec_managerTakeover s) (State.takeover_takes hd hf), rfl, s.takeDuties_term, s.takeDuties_manages, rfl, _, rfl, rfl⟩
  case claim =>
    exact ⟨_, _, Runs.of_run (exec_managerClaim s) (State.claimDuties_claims hr hi hn hs hj), rfl, s.takeDuties_term, s.takeDuties_manages, rfl⟩
  case conflict =>
    exact ⟨_, Runs.of_run (exec_leave p plain s) (State.leave_conflicts hg hm plain), (State.SameBelow.refl s).on _, s.bd.shmResult_op 1 .conflict,
      s.bd.shmResult_result 1 .conflict, s.bd.shmResult_only 1 .conflict⟩
  case leaves =>
    exact ⟨_, Runs.of_run (exec_leave p plain s) (State.leave_leaves hg hm hp hb hx plain),
      ((Board.Still.refl shelfWords _).followShm.get _ _ (by decide)).trans (Board.shmResult_result _ 1 .ok), (s.left_get (by decide)).trans s.absent_pair,
      (s.left_get (by decide)).trans s.absent_members, s.left_member⟩
  case handback =>
    obtain ⟨hresult, hlaid, hid, hterm⟩ := Board.handedBack (b := s.bd.emit (.ring (s.bd.linkTo 0) 0x3A s.bd.selfId 0 [s.bd.get pSHM F.SHM_MGR.TERM, 1] none)) hs
    exact ⟨_, Runs.of_run (exec_handback p s) (State.handback_passes hg hm h0 hs), ((State.SameBelow.refl s).on (fun b => b.emit _)).on _, hresult, hlaid, hid, hterm⟩
  case normal =>
    exact ⟨_, Runs.of_run (exec_resyncDone s) (State.resyncDone_normal h hw), (State.SameBelow.refl s).on _, s.bd.pairNormal_state _,
      Board.raise_status _ _ _ (show E.SHM.RESYNC_DONE < 32 by decide)⟩
  case lastOrders =>
    exact ⟨_, Runs.of_run (exec_resyncDone s) (State.resyncDone_handback h hr), (State.SameBelow.refl s).on _, Board.get_put_self _ _ _ _ (by decide),
      (Board.Only.refl s.bd _).put _ (by decide) (by decide)⟩

end

section
/-! An idle step (O2), and faults of a head's own logic (O11): R331, R476. That a step on an empty queue lets 1 µs pass is the model's choice (log entry 113). -/

namespace Sys2Proof.Machine

theorem exec_containment (page : Fin 512) (code : Fin 256) (i1 i2 : Word) (s : State) :
    exec (.containment page code i1 i2) s = s.run (fun s => s.containment page.val code.val i1.toNat i2.toNat) := rfl

theorem exec_internalClear (p : Path) (page : Fin 512) (s : State) : exec (.internalClear p page) s = s.quick (fun s => s.internalRow p page.val) := rfl

/-! ### Containment (R472, R476) -/

theorem Board.raise_faultLog (b : Board) (p : Nat) (e : Ev) : (b.raise p e).faultLog = b.faultLog := (congrArg Board.faultLog (b.raise_frame p e).same :)

theorem Board.count_faultLog (b : Board) (p : Nat) (f : Fld) (n : Nat) : (b.count p f n).faultLog = b.faultLog := by
  unfold Board.count Board.tally
  split <;> rfl

theorem Board.openCause_faultLog (b : Board) (page : Nat) (f : Fld) : (b.openCause page f).faultLog = b.faultLog :=
  (congrArg Board.faultLog ((b.put page f 1).move_same page _ _) :)

/-- A log with room takes the fault as one more entry (R472). -/
theorem Board.logFault_length (b : Board) (page event cls stall info : Nat) (fatal : Bool) (h : b.faultLog.length < 256) :
    (b.logFault page event cls stall info fatal).faultLog.length = b.faultLog.length + 1 := by
  have hroom : decide (256 ≤ b.faultLog.length) = false := by simpa using h
  unfold Board.logFault
  simp only [hroom, apply_ite Board.faultLog, Board.raise_faultLog, Board.count_faultLog, Board.raiseTo, Board.put_faultLog, ite_self, Bool.false_eq_true, if_false,
    List.length_append, List.length_singleton]

/-- The board of a head whose own checkers have found a fault (R476). -/
def Board.faulted (b : Board) (h code i1 i2 : Nat) : Board := (b.openCause (pHPT h) F.HPT_CAUSE.INTERNAL).told (pHPT h) (ev E.HPT.INTERNAL code i1 i2 0) 6 0 i1

theorem blockOf_head (h : Fin 8) : blockOf (pHPT h.val) = some (.hpt, h.val) := by
  revert h
  decide

theorem implemented_head (h : Fin 8) : implemented (pHPT h.val) = true := by simp [implemented, blockOf_head h]

theorem State.containment_head {s : State} (h : Fin 8) (hp : s.bd.powered (pHPT h.val) = true) (hs : s.bd.serves (pHPT h.val) = true) (code i1 i2 : Nat) :
    s.containment (pHPT h.val) code i1 i2 = s.on (·.faulted h.val code i1 i2) := by
  have hstate : s.bd.unit (pHPT h.val) = stSERVICE ∨ s.bd.unit (pHPT h.val) = stDEGRADED := by simpa [Board.serves] using hs
  have hon : ¬ (s.bd.unit (pHPT h.val) = stOFF ∨ s.bd.unit (pHPT h.val) = stRETIRED) := by
    rcases hstate with e | e <;> rw [e] <;> decide
  unfold State.containment
  rw [if_neg (by simpa [implemented_head h, hp] using hon), blockOf_head h]
  rfl

theorem Board.faulted_shows (b : Board) (h code i1 i2 : Nat) (hs : b.serves (pHPT h) = true) :
    (b.faulted h code i1 i2).unit (pHPT h) = stCONTAINED ∧ (b.faulted h code i1 i2).on (pHPT h) F.HPT_CAUSE.INTERNAL = true
      ∧ ((b.faulted h code i1 i2).rd (pHPT h) 0x010).getLsbD E.HPT.INTERNAL = true
      ∧ (256 ≤ b.faultLog.length ∨ (b.faulted h code i1 i2).faultLog.length = b.faultLog.length + 1) := by
  have hpage : pHPT h ≠ pMGT := by simp only [pHPT, pMGT]; omega
  obtain ⟨hopen, hunit⟩ := b.openCause_shows (page := pHPT h) (f := F.HPT_CAUSE.INTERNAL) (by decide) (by decide) hpage
  refine ⟨(Board.get_congr (f := F.UNIT_STATE.STATE) (Board.told_rd _ h _ _ _ _ (by decide))).trans (hunit hs),
    (Board.on_congr (Board.told_rd _ h _ _ _ _ (by decide))).trans hopen, Board.told_status _ _ _ _ _ _ (show E.HPT.INTERNAL < 32 by decide), ?_⟩
  refine or_iff_not_imp_left.2 fun hroom => ?_
  have hsame : ((b.openCause (pHPT h) F.HPT_CAUSE.INTERNAL).raise (pHPT h) (ev E.HPT.INTERNAL code i1 i2 0)).faultLog = b.faultLog :=
    (Board.raise_faultLog _ _ _).trans (b.openCause_faultLog _ _)
  unfold Board.faulted Board.told
  rw [Board.logFault_length _ _ _ _ _ _ _ (by rw [hsame]; omega), hsame]

/-! ### The cause closes (R476) -/

/-- HPT_CAUSE as a write of 1 to INTERNAL leaves it: the bit is W1C (R11). -/
theorem Board.written_internal (b : Board) (h : Fin 8) : wordBits (b.written (pHPT h.val) 0x04C 4) F.HPT_CAUSE.INTERNAL.lo F.HPT_CAUSE.INTERNAL.width = 0 := by
  have hrows : rowsAt (pHPT h.val) 0x04C = [⟨F.HPT_CAUSE.LINK_DOWN, 1, .ro, 0, .page, .any⟩, ⟨F.HPT_CAUSE.IDE_FAIL, 1, .ro, 0, .page, .any⟩,
      ⟨F.HPT_CAUSE.INTERNAL, 1, .w1c, 0, .warm, .any⟩, ⟨F.HPT_CAUSE.NARROW, 1, .ro, 0, .page, .any⟩, ⟨F.HPT_CAUSE.SLOW, 1, .ro, 0, .page, .any⟩] := by
    revert h
    decide +kernel
  have hclear : ∀ o : Nat, Nat.land o (2 ^ 1 - 1 - wordBits (4 : Word) 2 1) = 0 := fun o => Nat.and_zero o
  unfold Board.written
  rw [hrows]
  show wordBits (wordSet (b.rd (pHPT h.val) 0x04C) 2 1 (Nat.land _ (2 ^ 1 - 1 - wordBits (4 : Word) 2 1))) 2 1 = 0
  rw [hclear, wordBits_wordSet_self _ _ _ _ (by decide)]
  rfl

/-- The board after the write. -/
def Board.internalClosed (b : Board) (h : Nat) : Board := (b.wr (pHPT h) 0x04C (b.written (pHPT h) 0x04C 4)).followCauses (pHPT h)

theorem State.internalRow_head {s : State} (h : Fin 8) (ht : s.bd.Takes .mgmt (pHPT h.val) 0x04C 4) :
    s.internalRow .mgmt (pHPT h.val) = s.on (·.internalClosed h.val) := by
  have hint : internalOf (pHPT h.val) = some (0x04C, 2) := by unfold internalOf; rw [blockOf_head h]; rfl
  have hrows : (rowsAt (pHPT h.val) 0x04C).isEmpty = false := by
    clear ht hint
    revert h
    decide +kernel
  unfold State.internalRow State.wordRow
  rw [hint]
  show s.writeWord .mgmt false (pHPT h.val) 0x04C 4 = _
  rw [State.writeWord_reaches ht.1, if_neg (by decide), hrows, if_neg (by decide), ht.2]
  unfold State.writeEffect
  rw [hint]
  rfl

theorem Board.internalClosed_shows (b : Board) (h : Fin 8) :
    (b.internalClosed h.val).on (pHPT h.val) F.HPT_CAUSE.INTERNAL = false ∧ (b.internalClosed h.val).unit (pHPT h.val) = b.unit (pHPT h.val) := by
  have hpage : pHPT h.val ≠ pMGT := by simp only [pHPT, pMGT]; omega
  have hframe := (b.wr (pHPT h.val) 0x04C (b.written (pHPT h.val) 0x04C 4)).followCauses_frame (pHPT h.val)
  refine ⟨?_, (hframe.unit _).trans (Board.get_congr (Board.rd_wr_off (by decide) (by decide) (by decide)))⟩
  have hget : (b.internalClosed h.val).get (pHPT h.val) F.HPT_CAUSE.INTERNAL = 0 := by
    unfold Board.get Board.internalClosed
    rw [hframe.regs _ _ (by decide) (by simp [stateReg]), Board.rd_wr_self]
    exact b.written_internal h
  simp [Board.on, hget]

end Sys2Proof.Machine

open Sys2Proof Sys2Proof.Machine

/-- Settles O2: the tick moves the clock alone. -/
theorem emptyQueueTicks : Obligations.EmptyQueueTicks := by
  intro s h
  refine ⟨s.tick, ?_, ?_, rfl⟩
  · rw [step_empty h, State.run_eq, h]
  · show ({ s.bd with now := max s.bd.now (s.bd.now + 1) } : Board) = _
    rw [Nat.max_eq_right (Nat.le_succ _)]

/-- Settles O11: the cause opens and contains the unit, and its W1C bit closes it. -/
theorem internalFaultContains : Obligations.InternalFaultContains := by
  intro s h code i1 i2
  refine ⟨fun hp hs => ?_, fun ht => ?_⟩
  · obtain ⟨hunit, hcause, hevent, hlog⟩ := s.bd.faulted_shows h.val code.val i1.toNat i2.toNat hs
    exact ⟨_, Runs.of_run (exec_containment _ _ _ _ s) (State.containment_head h hp hs _ _ _), rfl, hunit, hcause, hevent, hlog⟩
  · obtain ⟨hcause, hunit⟩ := s.bd.internalClosed_shows h
    exact ⟨_, Ends.of_quick (exec_internalClear _ _ s) (State.internalRow_head h ht), rfl, hcause, hunit⟩

end

section
/-! Rack time, RTICK and the slot mask (O49): R331, R332, R335, R336, R341. That a boundary and a missed tick move the model's clock is log entry 43. -/

namespace Sys2Proof.Machine

theorem exec_rtmTimeLoRead (p : Path) (wide : Bool) (s : State) : exec (.rtmTimeLoRead p wide) s = s.quick (fun s => s.readTime p wide) := rfl
theorem exec_rtickEdge (offset : Int) (spacing : Nat) (s : State) : exec (.rtickEdge offset spacing) s = s.quick (fun s => s.rtickEdge offset spacing) := rfl
theorem exec_rtickMissed (s : State) : exec .rtickMissed s = s.quick State.rtickMissed := rfl
theorem exec_frameBoundary (s : State) : exec .frameBoundary s = s.quick State.frameBoundary := rfl
theorem exec_rtmSet (p : Path) (hi : Word) (s : State) : exec (.rtmSet p hi) s = s.quick (fun s => s.rtmSet p hi.toNat) := rfl
theorem exec_rtmSlotMaskLo (p : Path) (v : Word) (s : State) : exec (.rtmSlotMaskLo p v) s = s.quick (fun s => s.maskLo p v.toNat) := rfl
theorem exec_rtmSlotMaskHi (p : Path) (v : Word) (s : State) : exec (.rtmSlotMaskHi p v) s = s.quick (fun s => s.maskHi p v.toNat) := rfl

/-! ### Reads of rack time (R335) -/

/-- The board after a read of RTM_TIME_LO. -/
def Board.timeLatched (b : Board) : Board := (b.put pRTM F.RTM_TIME_LO.TIME b.rackTime).put pRTM F.RTM_TIME_HI.TIME (b.rackTime / 2 ^ 32)

theorem State.readTime_eq (s : State) (p : Path) (wide : Bool) :
    s.readTime p wide = (s.on Board.timeLatched).say (.regRead p (pRTM * 4096 + F.RTM_TIME_LO.TIME.off) (if wide then 8 else 4) (if wide then s.bd.rackTime else s.bd.rackTime % 2 ^ 32)) :=
  rfl

theorem Board.timeLatched_lo (b : Board) : b.timeLatched.get pRTM F.RTM_TIME_LO.TIME = b.rackTime % 2 ^ 32 :=
  (Board.get_put_clear _ _ (by decide) (by decide)).trans (Board.get_put_self _ _ _ _ (by decide))

theorem Board.timeLatched_hi (b : Board) : b.timeLatched.get pRTM F.RTM_TIME_HI.TIME = b.rackTime / 2 ^ 32 % 2 ^ 32 := Board.get_put_self _ _ _ _ (by decide)

theorem Board.timeLatched_only (b : Board) : b.Only b.timeLatched [(pRTM, 18), (pRTM, 19)] :=
  ((Board.Only.refl b _).put _ (by decide) (by decide)).put _ (by decide) (by decide)

/-! ### The unpowered interval at a boundary (R229, R236) -/

/-- `markOld` leaves all but the media. -/
theorem State.markOld_media (s : State) (p : Nat → Bool) : ∃ m, (s.markOld p).2 = { s with media := m } := by
  suffices h : ∀ (l : List Nat) (m : Media), ∃ m', l.foldl (fun s n => s.setField n { s.field n with old := true }) { s with media := m } = { s with media := m' } from h _ s.media
  intro l
  induction l with
  | nil => exact fun m => ⟨m, rfl⟩
  | cons n l ih => exact fun m => ih _

/-- From `b` to `c` registers stay but for `ks` and the event words, and so do the clock and rack time at the last boundary. -/
structure Board.TimeFrame (ks : List (Nat × Nat)) (b c : Board) : Prop where
  still : b.Still ks c
  base : c.rtBase = b.rtBase
  since : c.rtAt = b.rtAt

section
variable {ks : List (Nat × Nat)} {b c d : Board}

theorem Board.TimeFrame.refl (ks : List (Nat × Nat)) (b : Board) : b.TimeFrame ks b := ⟨.refl ks b, rfl, rfl⟩

theorem Board.TimeFrame.put (h : b.TimeFrame ks c) (p : Nat) (f : Fld) (v : Nat) (hk : f.off < 4096 ∧ f.off / 4 ≠ 4 ∧ (p, f.off / 4) ∈ ks) : b.TimeFrame ks (c.put p f v) :=
  ⟨h.still.put p f v hk, h.base, h.since⟩

theorem Board.TimeFrame.raises (h : b.TimeFrame ks c) (p : Nat) (evs : List Ev) : b.TimeFrame ks (c.raises p evs) :=
  have hsame := (c.raises_frame p evs).same
  ⟨h.still.trans ⟨(c.raises_frame p evs).beside ks, Board.raises_now _ _ _⟩, (congrArg Board.rtBase hsame :).trans h.base, (congrArg Board.rtAt hsame :).trans h.since⟩

theorem Board.TimeFrame.toState (h : b.TimeFrame ks c) (page st : Nat) (hk : (page, 2) ∈ ks ∧ (pMGT, 23) ∈ ks) : b.TimeFrame ks (c.toState page st) :=
  have hsame := c.move_same page st (if c.openCauses page = 0 then 0 else 1)
  ⟨h.still.toState page st hk, (congrArg Board.rtBase hsame :).trans h.base, (congrArg Board.rtAt hsame :).trans h.since⟩

theorem Board.TimeFrame.endInit (h : b.TimeFrame ks c) (page : Nat) (reduced : Bool) (hk : (page, 2) ∈ ks ∧ (pMGT, 23) ∈ ks) : b.TimeFrame ks (c.endInit page reduced) := by
  unfold Board.endInit
  split
  · exact h
  · exact h.toState _ _ hk

theorem Board.TimeFrame.trans (h : b.TimeFrame ks c) (k : c.TimeFrame ks d) : b.TimeFrame ks d := ⟨h.still.trans k.still, k.base.trans h.base, k.since.trans h.since⟩

end

/-- The registers that the unpowered interval is shown in, and those of the priority lap it starts. -/
def intervalWords : List (Nat × Nat) := [(pAGE, 17), (pAGE, 18), (pAGE, 2), (pMGT, 23), (pPTL, 17), (pPTL, 18), (pPTL, 19), (pPTL, 23)]

theorem State.priorityLap_frame (s : State) (unknown : Bool) : s.bd.TimeFrame intervalWords (s.priorityLap unknown).bd :=
  ((((((Board.TimeFrame.refl _ s.bd).put _ _ _ (by decide)).put _ _ _ (by decide)).put _ _ _ (by decide)).put _ _ _ (by decide)).put _ _ _ (by decide)).raises _ _

/-- The board of AGE once the interval is applied (R229). -/
def Board.intervalShown (b : Board) (secs unknown back : Nat) (evs : List Ev) (reduced : Bool) : Board :=
  ((((((b.put pAGE F.AGE_OFF.SECONDS secs).put pAGE F.AGE_STAT.RT_APPLIED 1).put pAGE F.AGE_STAT.OFF_UNKNOWN unknown).put pAGE F.AGE_STAT.TIME_BACKWARD back).raises pAGE evs).endInit pAGE
    reduced)

theorem Board.intervalShown_frame (b : Board) (secs unknown back : Nat) (evs : List Ev) (reduced : Bool) :
    b.TimeFrame intervalWords (b.intervalShown secs unknown back evs reduced) :=
  (((((Board.TimeFrame.refl _ b).put _ _ _ (by decide)).put _ _ _ (by decide)).put _ _ _ (by decide)).put _ _ _ (by decide)).raises _ _ |>.endInit _ _ (by decide)

theorem State.applyInterval_frame (s : State) : s.bd.TimeFrame intervalWords s.applyInterval.bd ∧ s.applyInterval.rtm = s.rtm := by
  unfold State.applyInterval
  split
  · exact ⟨.refl _ _, rfl⟩
  · extract_lets now saved unknown backward u e
    obtain ⟨m, hm⟩ := s.markOld_media (fun n => unknown || decide (32000000 * 2 ^ 20 ≤ s.age32 n * 2 ^ 20 + e * 32))
    dsimp only
    rw [hm]
    split
    · refine ⟨Board.TimeFrame.trans ?_ (State.priorityLap_frame _ _), rfl⟩
      exact s.bd.intervalShown_frame _ _ _ _ _
    · exact ⟨s.bd.intervalShown_frame _ _ _ _ _, rfl⟩


/-! ### An armed value and a boundary (R336, R341, R342) -/

/-- The registers that a boundary writes. -/
def boundaryWords : List (Nat × Nat) := [(pRTM, 17), (pRTM, 25), (pRTM, 28), (pRTM, 29), (pLOOP, 21)] ++ intervalWords

/-- From `b` to `c` registers stay but for those of a boundary and the event words, and so do the clock, the tick state and the time of the last boundary. -/
structure Board.TickFrame (b c : Board) : Prop where
  still : b.Still boundaryWords c
  tick : c.get pRTM F.RTM_STAT.TICK = b.get pRTM F.RTM_STAT.TICK
  since : c.rtAt = b.rtAt

section
variable {b c d : Board}

theorem Board.TickFrame.refl (b : Board) : b.TickFrame b := ⟨.refl _ b, rfl, rfl⟩

theorem Board.TickFrame.trans (h : b.TickFrame c) (k : c.TickFrame d) : b.TickFrame d := ⟨h.still.trans k.still, k.tick.trans h.tick, k.since.trans h.since⟩

theorem Board.TickFrame.same (h : b.TickFrame c) (hr : d.regs = c.regs) (hn : d.now = c.now) (ht : d.rtAt = c.rtAt) : b.TickFrame d :=
  ⟨h.still.same hr hn, (Board.get_congr (by simp only [Board.rd, hr])).trans h.tick, ht.trans h.since⟩

theorem Board.TickFrame.put (h : b.TickFrame c) (p : Nat) (f : Fld) (v : Nat) (hk : f.off < 4096 ∧ f.off / 4 ≠ 4 ∧ (p, f.off / 4) ∈ boundaryWords)
    (ht : p ≠ pRTM ∨ f.off / 4 ≠ 17 ∨ f.off = 0x44 ∧ 2 ≤ f.lo) : b.TickFrame (c.put p f v) := by
  refine ⟨h.still.put p f v hk, (Board.get_put_clear _ _ ⟨by decide, hk.1, by decide⟩ ?_).trans h.tick, h.since⟩
  rcases ht with h | h | ⟨h, hlo⟩
  · exact .inl h.symm
  · exact .inr (.inl fun e => h e.symm)
  · exact .inr (.inr ⟨h.symm, .inl hlo⟩)

theorem Board.TickFrame.count (h : b.TickFrame c) (p : Nat) (f : Fld) (n : Nat) (hk : f.off < 4096 ∧ f.off / 4 ≠ 4 ∧ (p, f.off / 4) ∈ boundaryWords)
    (ht : p ≠ pRTM ∨ f.off / 4 ≠ 17 ∨ f.off = 0x44 ∧ 2 ≤ f.lo) : b.TickFrame (c.count p f n) :=
  (h.put p f _ hk ht).same (Board.tally_regs _ _ _ _) (Board.tally_now _ _ _ _) (by unfold Board.count Board.tally; split <;> rfl)

theorem Board.TickFrame.raise (h : b.TickFrame c) (p : Nat) (e : Ev) : b.TickFrame (c.raise p e) :=
  ⟨h.still.raise p e, (Board.get_raise _ _ _ (by simp [eventReg])).trans h.tick, (congrArg Board.rtAt (c.raise_frame p e).same :).trans h.since⟩

end

theorem State.applyArmed_frame (s : State) (base : Nat) : s.bd.TickFrame (s.applyArmed base).bd ∧ (s.applyArmed base).rtm.qual = s.rtm.qual := by
  have hoff : s.bd.TickFrame (s.bd.put pRTM F.RTM_STAT.ARMED 0) := (Board.TickFrame.refl s.bd).put _ _ _ (by decide) (by decide)
  have hbase : ∀ v, s.bd.TickFrame { s.bd.put pRTM F.RTM_STAT.ARMED 0 with rtBase := v } := fun v => hoff.same rfl rfl rfl
  unfold State.applyArmed
  split
  · exact ⟨.refl _, rfl⟩
  · dsimp only
    split
    · exact ⟨(((hbase _).put _ _ _ (by decide) (by decide)).put _ _ _ (by decide) (by decide)).raise _ _, rfl⟩
    · split
      · exact ⟨hoff.count _ _ _ (by decide) (by decide), rfl⟩
      · have hset := fun v => (hbase v).put pRTM F.RTM_STAT.UNCERTAIN 0 (by decide) (by decide)
        split
        · exact ⟨hset _, rfl⟩
        · exact ⟨((hset _).count _ _ _ (by decide) (by decide)).raise _ _, rfl⟩

theorem State.applyArmed_none {s : State} (h : s.rtm.armed = none) (base : Nat) : s.applyArmed base = s := by
  unfold State.applyArmed
  rw [h]

theorem Board.TimeFrame.tick {b c : Board} (h : b.TimeFrame intervalWords c) : b.TickFrame c :=
  ⟨h.still.mono (by decide), h.still.get _ _ (by decide), h.since⟩

/-- The board at a boundary: rack time by the part's own count. -/
def Board.anchored (b : Board) (base : Nat) : Board := { b with rtBase := if b.on pRTM F.RTM_STAT.VALID then base else 0, rtAt := b.now }

/-- The state at a boundary once the armed value and the unpowered interval are applied. -/
def State.met (s : State) (base : Nat) : State := ((s.on (·.anchored base)).applyArmed base).applyInterval

/-- The board with no loop pinned yet. -/
def Board.unpinned (b : Board) : Board := { b with pins := 0 }

theorem Board.TickFrame.unpinned {b c : Board} (h : b.TickFrame c) : b.TickFrame c.unpinned := h.same rfl rfl rfl

theorem Board.unpinned_get (b : Board) (p : Nat) (f : Fld) : b.unpinned.get p f = b.get p f := rfl

/-- The board of a new frame. -/
def Board.framed (b : Board) : Board := ((b.budgets.put pRTM F.RTM_STAT.SLOT 0).put pLOOP F.LOOP_PINNED.NOW b.pins).unpinned

/-- The state of a new frame, but for what the manager sends. -/
def State.framed (s : State) : State := { s with slot := { s.slot with mask := s.bd.acceptedMask, isOpen := false } }.on Board.framed

theorem State.boundary_eq (s : State) (base : Nat) :
    s.boundary base = (s.met base).framed ∨ s.boundary base = (s.met base).framed.sendBoth 0x3D [(s.met base).framed.bd.rtBase + 1000] none := by
  have h : s.boundary base = if (s.met base).framed.bd.manages ∧ (s.met base).framed.bd.on pRTM F.RTM_STAT.VALID ∧ (s.met base).framed.bd.get pRTM F.RTM_STAT.TICK = 1
      ∧ (s.met base).framed.bd.rtBase % 1000000 = 0 then (s.met base).framed.sendBoth 0x3D [(s.met base).framed.bd.rtBase + 1000] none else (s.met base).framed := rfl
  rw [h]
  exact (ite_eq_or_eq _ _ _).symm

theorem Board.budgets_frame (b : Board) : b.TickFrame b.budgets :=
  ((((Board.TickFrame.refl b).put _ _ _ (by decide) (by decide)).put _ _ _ (by decide) (by decide)).put _ _ _ (by decide) (by decide)).put _ _ _ (by decide) (by decide)

theorem Board.framed_frame (b : Board) : b.TickFrame b.framed :=
  ((b.budgets_frame.put pRTM F.RTM_STAT.SLOT 0 (by decide) (by decide)).put pLOOP F.LOOP_PINNED.NOW b.pins (by decide) (by decide)).unpinned

/-- What a boundary leaves and what it sets (R330, R336, R341, R342). -/
structure State.NewFrame (s t : State) : Prop where
  still : s.bd.Still boundaryWords t.bd
  tick : t.bd.get pRTM F.RTM_STAT.TICK = s.bd.get pRTM F.RTM_STAT.TICK
  since : t.bd.rtAt = s.bd.now
  qual : t.rtm.qual = s.rtm.qual
  mask : t.slot.mask = s.bd.acceptedMask
  slot : t.bd.get pRTM F.RTM_STAT.SLOT = 0

theorem Board.acceptedMask_still {b c : Board} {ks : List (Nat × Nat)} (h : b.Still ks c) (hk : (pRTM, 22) ∉ ks ∧ (pRTM, 23) ∉ ks) : c.acceptedMask = b.acceptedMask := by
  unfold Board.acceptedMask Board.get64
  rw [h.get pRTM F.RTM_SLOT_MASK_LO.MASK ⟨by decide, by decide, hk.1⟩, h.get pRTM F.RTM_SLOT_MASK_HI.MASK ⟨by decide, by decide, hk.2⟩]

theorem Board.framed_slot (b : Board) : b.framed.get pRTM F.RTM_STAT.SLOT = 0 :=
  (Board.unpinned_get _ _ _).trans ((Board.get_put_clear _ _ (by decide) (by decide)).trans (Board.get_put_self _ _ _ _ (by decide)))

theorem Board.anchored_frame (b : Board) (base : Nat) : b.Still boundaryWords (b.anchored base) := (Board.Still.refl _ b).same rfl rfl

theorem State.framed_newFrame (s : State) (base : Nat) : s.NewFrame (s.met base).framed := by
  obtain ⟨harmed, hqual⟩ := (s.on (·.anchored base)).applyArmed_frame base
  obtain ⟨hint, hrtm⟩ := ((s.on (·.anchored base)).applyArmed base).applyInterval_frame
  have hmet : (s.bd.anchored base).TickFrame (s.met base).bd := harmed.trans hint.tick
  have hstill := (s.bd.anchored_frame base).trans hmet.still
  have hframed := hmet.trans (s.met base).bd.framed_frame
  exact ⟨(s.bd.anchored_frame base).trans hframed.still, hframed.tick, hframed.since, (congrArg Rtm.qual hrtm).trans hqual, Board.acceptedMask_still hstill (by decide),
    (s.met base).bd.framed_slot⟩

theorem State.NewFrame.sendBoth {s t : State} (h : s.NewFrame t) (op : Nat) (args : List Nat) (data : Option Line) : s.NewFrame (t.sendBoth op args data) :=
  ⟨(h.still.emit _).emit _, h.tick, h.since, h.qual, h.mask, h.slot⟩

theorem State.boundary_newFrame (s : State) (base : Nat) : s.NewFrame (s.boundary base) := by
  have h := s.framed_newFrame base
  rcases s.boundary_eq base with e | e <;> rw [e]
  · exact h
  · exact h.sendBoth _ _ _

/-- With nothing armed rack time is that of the boundary. -/
theorem State.boundary_rtBase {s : State} (h : s.rtm.armed = none) (base : Nat) : (s.boundary base).bd.rtBase = if s.bd.on pRTM F.RTM_STAT.VALID then base else 0 := by
  have hmet : (s.met base).bd.rtBase = if s.bd.on pRTM F.RTM_STAT.VALID then base else 0 := by
    unfold State.met
    rw [State.applyArmed_none (s := s.on (·.anchored base)) h]
    exact (State.applyInterval_frame _).1.base
  rcases s.boundary_eq base with e | e <;> rw [e] <;> exact hmet

/-! ### RTICK (R331, R332) -/

theorem State.rtickEdge_good {s : State} {offset : Int} (h : s.bd.get pRTM F.RTM_STAT.TICK = 1) (ho : -2000 ≤ offset ∧ offset ≤ 2000) (spacing : Nat) :
    s.rtickEdge offset spacing = s.on (fun b => b.put pRTM F.RTM_STAT.MISSED 0) := (if_pos h).trans (if_pos ho)

/-- The board after a glitch. -/
def Board.glitched (b : Board) (offset : Int) : Board := (b.count pRTM F.RTM_GLITCH.COUNT 1).raise pRTM (ev E.RTM.RTICK_GLITCH 0 (ofSigned 32 offset) 0 0)

theorem State.rtickEdge_glitch {s : State} {offset : Int} (h : s.bd.get pRTM F.RTM_STAT.TICK = 1) (ho : offset < -2000 ∨ 2000 < offset) (spacing : Nat) :
    s.rtickEdge offset spacing = s.on (·.glitched offset) := (if_pos h).trans (if_neg (by omega))

theorem Board.glitched_shows (b : Board) (offset : Int) : ((b.glitched offset).rd pRTM 0x010).getLsbD E.RTM.RTICK_GLITCH = true
    ∧ (b.glitched offset).get pRTM F.RTM_STAT.TICK = b.get pRTM F.RTM_STAT.TICK
    ∧ (b.glitched offset).get pRTM F.RTM_GLITCH.COUNT = min (2 ^ F.RTM_GLITCH.COUNT.width - 1) (b.get pRTM F.RTM_GLITCH.COUNT + 1) :=
  ⟨Board.raise_status _ _ _ (show E.RTM.RTICK_GLITCH < 32 by decide), (Board.get_raise _ _ _ (by decide)).trans (Board.get_count_clear _ _ (by decide) (by decide)),
    (Board.get_raise _ _ _ (by decide)).trans (Board.get_count_self _ _ _ _ (by decide))⟩

/-- An edge outside LOCKED counts towards the fourth (R332). -/
def qualNext (qual spacing : Nat) : Nat := if 999850 ≤ spacing ∧ spacing ≤ 1000150 then qual + 1 else 1

/-- The state with its count of qualifying edges. -/
def State.qualified (s : State) (qual : Nat) : State := { s with rtm := { s.rtm with qual := qual } }

theorem State.rtickEdge_counts {s : State} (h : s.bd.get pRTM F.RTM_STAT.TICK ≠ 1) {spacing : Nat} (hq : qualNext s.rtm.qual spacing < 4) (offset : Int) :
    s.rtickEdge offset spacing = s.qualified (qualNext s.rtm.qual spacing) := (if_neg h).trans (if_neg (Nat.not_le.2 hq))

theorem State.rtickEdge_snaps {s : State} (h : s.bd.get pRTM F.RTM_STAT.TICK ≠ 1) {spacing : Nat} (hq : 4 ≤ qualNext s.rtm.qual spacing) (offset : Int) :
    s.rtickEdge offset spacing = (s.qualified (qualNext s.rtm.qual spacing)).snapFrame := (if_neg h).trans (if_pos hq)

theorem qualNext_lt {qual : Nat} (h : qual < 3) (spacing : Nat) : qualNext qual spacing < 4 := by
  unfold qualNext
  split <;> omega

/-- The board that a snap takes to its boundary. -/
def Board.locked (b : Board) (unsure : Bool) : Board :=
  (if unsure then ((b.put pRTM F.RTM_STAT.TICK 1).put pRTM F.RTM_STAT.MISSED 0).put pRTM F.RTM_STAT.UNCERTAIN 1 else (b.put pRTM F.RTM_STAT.TICK 1).put pRTM F.RTM_STAT.MISSED 0).followTick

theorem Board.locked_tick (b : Board) (unsure : Bool) : (b.locked unsure).get pRTM F.RTM_STAT.TICK = 1 := by
  have hput : ((b.put pRTM F.RTM_STAT.TICK 1).put pRTM F.RTM_STAT.MISSED 0).get pRTM F.RTM_STAT.TICK = 1 :=
    (Board.get_put_clear _ _ (by decide) (by decide)).trans (Board.get_put_self _ _ _ _ (by decide))
  refine ((Board.serviceLevel_only _ _ _).get _ _ (by decide)).trans ?_
  split
  · exact (Board.get_put_clear _ _ (by decide) (by decide)).trans hput
  · exact hput

theorem Board.locked_still (b : Board) (unsure : Bool) : b.Still [(pRTM, 17), (pRTM, 2), (pMGT, 23)] (b.locked unsure) := by
  have hput := ((Board.Still.refl [(pRTM, 17), (pRTM, 2), (pMGT, 23)] b).put pRTM F.RTM_STAT.TICK 1 (by decide)).put pRTM F.RTM_STAT.MISSED 0 (by decide)
  exact ((hput.put pRTM F.RTM_STAT.UNCERTAIN 1 (by decide)).ite hput).serviceLevel _ _ (by decide)

/-- The state that a snap takes to its boundary. -/
def State.locking (s : State) : State :=
  { s with rtm := { s.rtm with qual := 0, since := s.bd.now } }.on (·.locked (s.bd.on pRTM F.RTM_STAT.VALID && decide (25000000 < s.bd.now - s.rtm.since)))

theorem State.snapFrame_eq (s : State) : s.snapFrame = (s.locking.boundary ((s.bd.rackTime + 500) / 1000 * 1000)).on (fun b => b.raise pRTM
    (ev E.RTM.LOCKED (bit (s.bd.on pRTM F.RTM_STAT.VALID && decide (25000000 < s.bd.now - s.rtm.since))) (min 0xFFFFFFFF ((s.bd.now - s.rtm.since) / 1000)) (b.rackTime % 2 ^ 32) 0)) := rfl

theorem State.snapFrame_shows (s : State) : s.snapFrame.bd.get pRTM F.RTM_STAT.TICK = 1 ∧ s.snapFrame.rtm.qual = 0 ∧ (s.snapFrame.bd.rd pRTM 0x010).getLsbD E.RTM.LOCKED = true
    ∧ s.snapFrame.slot.mask = s.bd.acceptedMask := by
  have h := s.locking.boundary_newFrame ((s.bd.rackTime + 500) / 1000 * 1000)
  rw [s.snapFrame_eq]
  exact ⟨(Board.get_raise _ _ _ (by decide)).trans (h.tick.trans (s.bd.locked_tick _)), h.qual, Board.raise_status _ _ _ (show E.RTM.LOCKED < 32 by decide),
    h.mask.trans (Board.acceptedMask_still (s.bd.locked_still _) (by decide))⟩

/-- The board after a missed tick. -/
def Board.tickMissed (b : Board) : Board := (b.count pRTM F.RTM_STAT.MISSED 1).count pRTM F.RTM_MISSED.COUNT 1

theorem Board.tickMissed_missed (b : Board) : b.tickMissed.get pRTM F.RTM_STAT.MISSED = min 7 (b.get pRTM F.RTM_STAT.MISSED + 1) :=
  (Board.get_count_clear _ _ (by decide) (by decide)).trans (Board.get_count_self _ _ _ _ (by decide))

theorem Board.tickMissed_tick (b : Board) : b.tickMissed.get pRTM F.RTM_STAT.TICK = b.get pRTM F.RTM_STAT.TICK :=
  (Board.get_count_clear _ _ (by decide) (by decide)).trans (Board.get_count_clear _ _ (by decide) (by decide))

/-- The board as HOLDOVER begins. -/
def Board.heldOver (b : Board) : Board :=
  (((b.put pRTM F.RTM_STAT.TICK 2).count pRTM F.RTM_HOLDOVERS.COUNT 1).followTick).raise pRTM
    (ev E.RTM.HOLDOVER 0 ((((b.put pRTM F.RTM_STAT.TICK 2).count pRTM F.RTM_HOLDOVERS.COUNT 1).followTick).rackTime % 2 ^ 32)
      ((((b.put pRTM F.RTM_STAT.TICK 2).count pRTM F.RTM_HOLDOVERS.COUNT 1).followTick).rackTime / 2 ^ 32) 0)

theorem Board.heldOver_shows (b : Board) : b.heldOver.get pRTM F.RTM_STAT.TICK = 2 ∧ (b.heldOver.rd pRTM 0x010).getLsbD E.RTM.HOLDOVER = true := by
  refine ⟨?_, Board.raise_status _ _ _ (show E.RTM.HOLDOVER < 32 by decide)⟩
  calc b.heldOver.get pRTM F.RTM_STAT.TICK
      = (((b.put pRTM F.RTM_STAT.TICK 2).count pRTM F.RTM_HOLDOVERS.COUNT 1).followTick).get pRTM F.RTM_STAT.TICK := Board.get_raise _ _ _ (by decide)
    _ = ((b.put pRTM F.RTM_STAT.TICK 2).count pRTM F.RTM_HOLDOVERS.COUNT 1).get pRTM F.RTM_STAT.TICK := (Board.serviceLevel_only _ _ _).get _ _ (by decide)
    _ = (b.put pRTM F.RTM_STAT.TICK 2).get pRTM F.RTM_STAT.TICK := Board.get_count_clear _ _ (by decide) (by decide)
    _ = 2 := Board.get_put_self _ _ _ _ (by decide)

/-- The state as HOLDOVER begins. -/
def State.heldOver (s : State) : State := { s with rtm := { s.rtm with qual := 0, since := s.bd.now } }.on Board.heldOver

theorem State.rtickMissed_counts {s : State} (h : s.bd.get pRTM F.RTM_STAT.TICK = 1) (hm : s.bd.get pRTM F.RTM_STAT.MISSED < 2) : s.rtickMissed = s.on Board.tickMissed :=
  (if_neg (not_not_intro h)).trans (if_pos (show s.bd.tickMissed.get pRTM F.RTM_STAT.MISSED < 3 by rw [Board.tickMissed_missed]; omega))

theorem State.rtickMissed_holds {s : State} (h : s.bd.get pRTM F.RTM_STAT.TICK = 1) (hm : s.bd.get pRTM F.RTM_STAT.MISSED = 2) :
    s.rtickMissed = (s.on Board.tickMissed).heldOver :=
  (if_neg (not_not_intro h)).trans (if_neg (show ¬ s.bd.tickMissed.get pRTM F.RTM_STAT.MISSED < 3 by rw [Board.tickMissed_missed]; omega))

theorem Board.tickMissed_now (b : Board) : b.tickMissed.now = b.now := (Board.count_now _ _ _ _).trans (Board.count_now _ _ _ _)

/-! ### A value of the management path (R336) -/

theorem Board.ringTime_congr {b c : Board} (h : b.Only c [(pRTM, 21)]) : c.ringTime = b.ringTime := by
  unfold Board.ringTime Board.manages
  rw [h.get pRTM F.RTM_CFG.SOURCE (by decide), h.on pSHM F.SHM_SELF.MANAGER (by decide)]

/-- The board once RTM_SET_HI is written. -/
def Board.setHi (b : Board) (hi : Nat) : Board := b.put pRTM F.RTM_SET_HI.VALUE hi

theorem Board.setHi_only (b : Board) (hi : Nat) : b.Only (b.setHi hi) [(pRTM, 21)] := (Board.Only.refl b _).put _ (by decide) (by decide)

theorem Board.setHi_value (b : Board) (hi : Word) :
    (b.setHi hi.toNat).get64 pRTM F.RTM_SET_LO.VALUE F.RTM_SET_HI.VALUE = b.get pRTM F.RTM_SET_LO.VALUE + 2 ^ 32 * hi.toNat := by
  unfold Board.get64
  rw [(b.setHi_only _).get pRTM F.RTM_SET_LO.VALUE (by decide)]
  exact congrArg (fun n => b.get pRTM F.RTM_SET_LO.VALUE + 2 ^ 32 * n) ((Board.get_put_self _ _ _ _ (by decide)).trans (Nat.mod_eq_of_lt hi.isLt))

section
variable {s : State} {p : Path} (hg : s.bd.gate p pRTM F.RTM_SET_HI.VALUE.off true false = none) (hi : Word)
include hg

theorem State.rtmSet_arms (hr : s.bd.ringTime = false) (hb : (s.bd.get pRTM F.RTM_SET_LO.VALUE + 2 ^ 32 * hi.toNat) % 1000 = 0) :
    s.rtmSet p hi.toNat = { s with
      rtm := { s.rtm with armed := some (s.bd.get pRTM F.RTM_SET_LO.VALUE + 2 ^ 32 * hi.toNat, false) }
      bd := (s.bd.setHi hi.toNat).put pRTM F.RTM_STAT.ARMED 1 } := by
  have hring : (s.bd.setHi hi.toNat).ringTime = false := (Board.ringTime_congr (s.bd.setHi_only _)).trans hr
  unfold State.rtmSet
  rw [State.written_pass hg]
  show (match State.deliver (s.on (·.setHi hi.toNat)) ((s.bd.setHi hi.toNat).get64 pRTM F.RTM_SET_LO.VALUE F.RTM_SET_HI.VALUE) false with
    | (.ok, s) => s
    | (c, s) => s.rejects p pRTM F.RTM_SET_HI.VALUE.off c) = _
  rw [Board.setHi_value]
  unfold State.deliver
  rw [if_neg (by exact not_not_intro hring), if_neg (not_not_intro hb)]
  rfl

theorem State.rtmSet_conflicts (hr : s.bd.ringTime = false) (hb : (s.bd.get pRTM F.RTM_SET_LO.VALUE + 2 ^ 32 * hi.toNat) % 1000 ≠ 0) :
    s.rtmSet p hi.toNat = (s.on (·.setHi hi.toNat)).rejects p pRTM F.RTM_SET_HI.VALUE.off .conflict := by
  have hring : (s.bd.setHi hi.toNat).ringTime = false := (Board.ringTime_congr (s.bd.setHi_only _)).trans hr
  unfold State.rtmSet
  rw [State.written_pass hg]
  show (match State.deliver (s.on (·.setHi hi.toNat)) ((s.bd.setHi hi.toNat).get64 pRTM F.RTM_SET_LO.VALUE F.RTM_SET_HI.VALUE) false with
    | (.ok, s) => s
    | (c, s) => s.rejects p pRTM F.RTM_SET_HI.VALUE.off c) = _
  rw [Board.setHi_value]
  unfold State.deliver
  rw [if_neg (by exact not_not_intro hring), if_pos hb]

theorem State.rtmSet_denied (hr : s.bd.ringTime = true) :
    s.rtmSet p hi.toNat = (s.on (fun b => (b.setHi hi.toNat).count pRTM F.RTM_IGNORED.COUNT 1)).rejects p pRTM F.RTM_SET_HI.VALUE.off .denied := by
  have hring : (s.bd.setHi hi.toNat).ringTime ≠ false := by simp [Board.ringTime_congr (s.bd.setHi_only hi.toNat), hr]
  unfold State.rtmSet
  rw [State.written_pass hg]
  show (match State.deliver (s.on (·.setHi hi.toNat)) ((s.bd.setHi hi.toNat).get64 pRTM F.RTM_SET_LO.VALUE F.RTM_SET_HI.VALUE) false with
    | (.ok, s) => s
    | (c, s) => s.rejects p pRTM F.RTM_SET_HI.VALUE.off c) = _
  unfold State.deliver
  rw [if_pos (by exact hring)]
  rfl

end

/-! ### The slot mask (R341) -/

/-- The board that has accepted a mask. -/
def Board.masked (b : Board) (lo hi : Nat) : Board := (b.put pRTM F.RTM_SLOT_MASK_LO.MASK lo).put pRTM F.RTM_SLOT_MASK_HI.MASK hi

theorem Board.masked_mask (b : Board) {lo hi : Nat} (hlo : lo < 2 ^ 32) (hhi : hi < 2 ^ 32) : (b.masked lo hi).acceptedMask = lo + 2 ^ 32 * hi := by
  have hl : (b.masked lo hi).get pRTM F.RTM_SLOT_MASK_LO.MASK = lo :=
    (Board.get_put_clear _ _ (by decide) (by decide)).trans ((Board.get_put_self _ _ _ _ (by decide)).trans (Nat.mod_eq_of_lt hlo))
  have hh : (b.masked lo hi).get pRTM F.RTM_SLOT_MASK_HI.MASK = hi := (Board.get_put_self _ _ _ _ (by decide)).trans (Nat.mod_eq_of_lt hhi)
  unfold Board.acceptedMask Board.get64
  rw [hl, hh]

theorem Board.Only.acceptedMask {b c : Board} {ks : List (Nat × Nat)} (h : b.Only c ks) (hk : (pRTM, 22) ∉ ks ∧ (pRTM, 23) ∉ ks) : c.acceptedMask = b.acceptedMask := by
  unfold Board.acceptedMask Board.get64
  rw [h.get pRTM F.RTM_SLOT_MASK_LO.MASK ⟨by decide, hk.1⟩, h.get pRTM F.RTM_SLOT_MASK_HI.MASK ⟨by decide, hk.2⟩]

/-- The state with no half of a mask held. -/
def State.unheld (s : State) : State := { s with slot := { s.slot with heldLo := none } }

theorem State.storeConfig_slot (s : State) : s.storeConfig.slot = s.slot := (congrArg State.slot s.storeConfig_same :)

section
variable {s : State} {p : Path} (hg : s.bd.gate p pRTM F.RTM_SLOT_MASK_HI.MASK.off true false = none) (v : Nat)
include hg

theorem State.maskHi_accepts (hm : maskOk (s.slot.heldLo.getD (s.bd.get pRTM F.RTM_SLOT_MASK_LO.MASK) + 2 ^ 32 * v) = true) :
    s.maskHi p v = (s.unheld.on (·.masked (s.slot.heldLo.getD (s.bd.get pRTM F.RTM_SLOT_MASK_LO.MASK)) v)).storeConfig := (State.written_pass hg).trans (if_pos hm)

theorem State.maskHi_refuses (hm : maskOk (s.slot.heldLo.getD (s.bd.get pRTM F.RTM_SLOT_MASK_LO.MASK) + 2 ^ 32 * v) = false) :
    s.maskHi p v = s.unheld.rejects p pRTM F.RTM_SLOT_MASK_HI.MASK.off .conflict := (State.written_pass hg).trans (if_neg (by rw [hm]; decide))

end

end Sys2Proof.Machine

open Sys2Proof Sys2Proof.Machine

/-- Settles O49: each register, tick and boundary by the rule of its own above. That an edge outside LOCKED has to qualify is R332; that a boundary and a missed tick carry their own time is the
model's choice (log entry 43). -/
theorem rackTimeFollowsItsTicks : Obligations.RackTimeFollowsItsTicks := by
  intro s p
  refine ⟨fun wide => ?_, fun offset spacing ht => ?_, fun offset spacing ht hq => ?_, fun offset spacing ht hq hlo hhi => ?_, fun ht => ⟨fun hm => ?_, fun hm => ?_⟩, fun ha => ?_,
    fun hi hg => ⟨fun hr hb => ?_, fun hr hb => ?_, fun hr => ?_⟩, fun v hg => ?_, fun v lo hg hlo hlt => ⟨fun hm => ?_, fun hm => ?_⟩⟩
  · exact ⟨_, Ends.of_quick (exec_rtmTimeLoRead _ _ s) (s.readTime_eq p wide), rfl, s.bd.timeLatched_lo, s.bd.timeLatched_hi, rfl, s.bd.timeLatched_only⟩
  · by_cases ho : -2000 ≤ offset ∧ offset ≤ 2000
    · exact ⟨_, Ends.of_quick (exec_rtickEdge _ _ s) (State.rtickEdge_good ht ho _), rfl,
        fun _ _ => ⟨Board.get_put_self _ _ _ _ (by decide), (Board.Only.refl s.bd _).put _ (by decide) (by decide)⟩, fun h => by omega⟩
    · obtain ⟨hev, htick, hcount⟩ := s.bd.glitched_shows offset
      exact ⟨_, Ends.of_quick (exec_rtickEdge _ _ s) (State.rtickEdge_glitch ht (by omega) _), rfl, fun h h' => absurd ⟨h, h'⟩ ho, fun _ => ⟨hev, htick.trans ht, hcount⟩⟩
  · exact ⟨_, Ends.of_quick (exec_rtickEdge _ _ s) (State.rtickEdge_counts ht (qualNext_lt hq spacing) _), rfl, rfl⟩
  · have hnext : qualNext s.rtm.qual spacing = 4 := by unfold qualNext; rw [if_pos ⟨hlo, hhi⟩, hq]
    exact ⟨_, Ends.of_quick (exec_rtickEdge _ _ s) (State.rtickEdge_snaps ht hnext.ge _), (s.qualified _).snapFrame_shows⟩
  · exact ⟨_, Ends.of_quick (exec_rtickMissed s) (State.rtickMissed_counts ht hm), rfl, s.bd.tickMissed_missed.trans (by omega), s.bd.tickMissed_tick.trans ht⟩
  · obtain ⟨htick, hev⟩ := s.bd.tickMissed.heldOver_shows
    exact ⟨_, Ends.of_quick (exec_rtickMissed s) (State.rtickMissed_holds ht hm), htick, congrArg (fun t => { s.rtm with qual := 0, since := t }) s.bd.tickMissed_now, hev⟩
  · have h := (s.upTo (s.bd.rtAt + 1000)).boundary_newFrame (s.bd.rtBase + 1000)
    exact ⟨_, Ends.of_quick (exec_frameBoundary s) rfl, h.still.now, h.since.trans h.still.now.symm, h.mask, State.boundary_rtBase (s := s.upTo _) ha _, h.slot⟩
  · exact ⟨_, Ends.of_quick (exec_rtmSet _ _ s) (State.rtmSet_arms hg hi hr hb), rfl, Board.get_put_self _ _ _ _ (by decide)⟩
  · obtain ⟨hsame, hcode, _⟩ := (s.on (·.setHi hi.toNat)).rejects_shows p pRTM F.RTM_SET_HI.VALUE.off .conflict
    exact ⟨_, Ends.of_quick (exec_rtmSet _ _ s) (State.rtmSet_conflicts hg hi hr hb), ((State.SameBelow.refl s).on _).trans hsame, hcode⟩
  · obtain ⟨hsame, hcode, honly⟩ := (s.on (fun b => (b.setHi hi.toNat).count pRTM F.RTM_IGNORED.COUNT 1)).rejects_shows p pRTM F.RTM_SET_HI.VALUE.off .denied
    refine ⟨_, Ends.of_quick (exec_rtmSet _ _ s) (State.rtmSet_denied hg hi hr), ((State.SameBelow.refl s).on _).trans hsame, hcode, (honly.get _ _ (by decide)).trans ((Board.get_count_self _ _ _ _ (by decide)).trans ?_)⟩
    rw [(s.bd.setHi_only _).get pRTM F.RTM_IGNORED.COUNT (by decide)]
  · exact ⟨_, Ends.of_quick (exec_rtmSlotMaskLo _ _ s) (State.written_pass hg), rfl, rfl⟩
  · subst hlo
    exact ⟨_, Ends.of_quick (exec_rtmSlotMaskHi _ _ s) (State.maskHi_accepts hg _ hm), State.storeConfig_slot _,
      ((State.storeConfig_only _).acceptedMask (by decide)).trans (s.bd.masked_mask hlt v.isLt)⟩
  · subst hlo
    obtain ⟨_, hcode, honly⟩ := s.unheld.rejects_shows p pRTM F.RTM_SLOT_MASK_HI.MASK.off .conflict
    exact ⟨_, Ends.of_quick (exec_rtmSlotMaskHi _ _ s) (State.maskHi_refuses hg _ hm), rfl, honly.acceptedMask (by decide), hcode⟩

end

section
/-! Commands and lines of the copy channels (O58): R440 to R447. What a channel keeps of its lines is the model's (log entries 128, 129); a line is issued again on the model's clock (log entry 43). -/

namespace Sys2Proof.Machine

theorem exec_cpdArm (p : Path) (c : Fin 32) (s : State) : exec (.cpdArm p c) s = s.run (fun s => s.cpdArm p c.val) := rfl
theorem exec_copyAbort (p : Path) (c : Fin 32) (s : State) : exec (.copyAbort p c) s = s.run (fun s => s.abortCopy p c.val) := rfl
theorem exec_cpsAbort (p : Path) (n : Fin 8) (s : State) : exec (.cpsAbort p n) s = s.run (fun s => s.abortCopy p (32 + n.val)) := rfl
theorem exec_retry (p : Path) (c : Fin 32) (s : State) : exec (.retry p c) s = s.run (fun s => s.resumeCopy p c.val false) := rfl
theorem exec_skip (p : Path) (c : Fin 32) (s : State) : exec (.skip p c) s = s.run (fun s => s.resumeCopy p c.val true) := rfl
theorem exec_copyGo (p : Path) (n : Fin 8) (s : State) : exec (.copyGo p n) s = s.run (fun s => s.cpsGo p n.val) := rfl
theorem exec_copyLineDone (c : Fin 40) (s : State) : exec (.copyLineDone c) s = s.run (fun s => s.copyLineDone c.val) := rfl
theorem exec_copyLineRetry (c : Fin 40) (s : State) : exec (.copyLineRetry c) s = s.run (fun s => s.copyLineRetry c.val) := rfl

@[simp] theorem State.chan_setChan (s : State) (c : Nat) (x : CopyChan) : (s.setChan c x).chan c = x := smGet_smSet_self _ _ _ _

/-! ### The registers of a channel (Table 18-3) -/

theorem chanCtl_bounds {c : Nat} (hc : c < 40) : chanCtl c + 0x20 ≤ 0x800 ∧ chanCtl c % 4 = 0 ∧ chanCtl c + 0x14 ≤ chanSet c ∧ chanSet c ≤ 0x800 := by
  unfold chanSet chanCtl
  split <;> omega

theorem chanPage_ne_cpe (c : Nat) : chanPage c ≠ pCPE := by
  unfold chanPage pCPD pCPS pCPE
  split <;> omega

section
variable {b d : Board} {c : Nat} (hc : c < 40)
include hc

/-- Two fields of a channel's STAT register. -/
theorem Board.get_put_chanStat {f g : Fld} (v : Nat) (hf : f.lo + f.width ≤ 32) (h : f.lo + f.width ≤ g.lo ∨ g.lo + g.width ≤ f.lo) :
    (b.put (chanPage c) (chanStat c g) v).get (chanPage c) (chanStat c f) = b.get (chanPage c) (chanStat c f) := by
  have hb := chanCtl_bounds hc
  exact Board.get_put_clear _ _ (by simp only [chanStat]; omega) (.inr (.inr ⟨rfl, h⟩))

theorem Board.chanState_put {g : Fld} (v : Nat) (h : 3 ≤ g.lo) : (b.put (chanPage c) (chanStat c g) v).chanState c = b.chanState c :=
  Board.get_put_chanStat hc v (by decide) (.inl h)

/-- The words of STAT, DONE and ERR_ADDR of a channel. -/
def chanWords (c : Nat) : List (Nat × Nat) :=
  [(chanPage c, (chanCtl c + 4) / 4), (chanPage c, (chanCtl c + 8) / 4), (chanPage c, (chanCtl c + 0xC) / 4), (chanPage c, (chanCtl c + 0x10) / 4)]

theorem Board.Only.desc {ks : List (Nat × Nat)} (h : b.Only d ks) (hk : ∀ k < 6, (chanPage c, (chanSet c + 4 * k) / 4) ∉ ks) : d.desc c = b.desc c := by
  have hb := chanCtl_bounds hc
  have hw : ∀ k < 6, d.rd (chanPage c) (chanSet c + 4 * k) = b.rd (chanPage c) (chanSet c + 4 * k) := fun k hk6 => h _ _ (by omega) (hk k hk6)
  unfold Board.desc
  dsimp only
  rw [hw 0 (by decide), hw 1 (by decide), hw 2 (by decide), hw 3 (by decide), hw 4 (by decide), hw 5 (by decide)]

theorem Board.Only.desc_chanWords (h : b.Only d (chanWords c)) : d.desc c = b.desc c := by
  have hb := chanCtl_bounds hc
  refine h.desc hc fun k _ hmem => ?_
  simp only [chanWords, List.mem_cons, Prod.mk.injEq, true_and, List.not_mem_nil, or_false] at hmem
  omega

end

/-! ### Arming (R441) -/

/-- The board with the shadow set of a channel armed. -/
def Board.arm (b : Board) (c : Nat) : Board := b.put (chanPage c) (chanStat c F.CPD_STAT.SHADOW_ARMED) 1

theorem Board.armed_arm (b : Board) (c : Nat) : (b.arm c).armed c = true := Board.on_put_one _ _ _ ⟨by simp [chanStat], by simp [chanStat]⟩

theorem Board.chanState_arm {b : Board} {c : Nat} (hc : c < 40) : (b.arm c).chanState c = b.chanState c := Board.chanState_put hc 1 (by decide)

theorem Board.only_arm {b : Board} {c : Nat} (hc : c < 40) : b.Only (b.arm c) [(chanPage c, (chanCtl c + 4) / 4)] := by
  have hb := chanCtl_bounds hc
  exact (Board.Only.refl b _).put _ (by simp only [chanStat]; omega) (by simp [chanStat])

section
variable {s : State} {p : Path} {c : Nat} (hg : s.bd.gate p (chanPage c) (chanCtl c) false false = none)
include hg

theorem State.cpdArm_busy (ha : s.bd.armed c = true) : s.cpdArm p c = s.rejects p (chanPage c) (chanCtl c) .busy := (State.written_pass hg).trans (if_pos ha)

theorem State.cpdArm_waits (hc : c < 40) (ha : s.bd.armed c = false) (hst : s.bd.chanState c = 1 ∨ s.bd.chanState c = 2) : s.cpdArm p c = s.on (·.arm c) := by
  have h : ¬ ((s.bd.arm c).chanState c = 0 ∨ (s.bd.arm c).chanState c = 3) := by rw [Board.chanState_arm hc]; omega
  exact (State.written_pass hg).trans ((if_neg (by simp [ha])).trans (if_neg h))

theorem State.cpdArm_starts (hc : c < 40) (ha : s.bd.armed c = false) (hst : s.bd.chanState c = 0 ∨ s.bd.chanState c = 3) : s.cpdArm p c = (s.on (·.arm c)).passShadow c := by
  have h : (s.bd.arm c).chanState c = 0 ∨ (s.bd.arm c).chanState c = 3 := by rwa [Board.chanState_arm hc]
  exact (State.written_pass hg).trans ((if_neg (by simp [ha])).trans (if_pos h))

/-! ### RETRY and SKIP (R445) -/

theorem State.resumeCopy_conflict (hst : s.bd.chanState c ≠ 2) (skip : Bool) : s.resumeCopy p c skip = s.rejects p (chanPage c) (chanCtl c) .conflict :=
  (State.written_pass hg).trans (if_pos hst)

/-- A channel that goes on from an offset. -/
def State.goesOn (s : State) (c pos : Nat) : State :=
  (s.setChan c { s.chan c with pos := pos, lines := [], stop := none, failed := [] }).on (fun b => ((b.put (chanPage c) (chanStat c F.CPD_STAT.STATE) 1).put (chanPage c)
    (chanStat c F.CPD_STAT.CAUSE) 0).put (chanPage c) (chanStat c F.CPD_STAT.RESULT) 0)

theorem State.resumeCopy_goesOn (hc : c < 40) (hst : s.bd.chanState c = 2) (hca : s.bd.get (chanPage c) (chanStat c F.CPD_STAT.CAUSE) ≠ 5) (skip : Bool) :
    s.resumeCopy p c skip = (if skip then s.on (fun b => b.count pCPE F.CPE_SKIPPED.COUNT 1) else s).goesOn c (min (s.bd.desc c).len ((s.chan c).done + (if skip then 64 else 0))) := by
  have hskip : (s.bd.count pCPE F.CPE_SKIPPED.COUNT 1).desc c = s.bd.desc c :=
    ((Board.Only.refl s.bd [(pCPE, 22)]).count 1 (by decide) (by decide)).desc hc (by simp [chanPage_ne_cpe])
  refine (State.written_pass hg).trans ((if_neg (not_not_intro hst)).trans ?_)
  rw [decide_eq_false hca]
  cases skip
  · rfl
  · refine (if_neg (by decide)).trans ?_
    show (s.on (fun b => b.count pCPE F.CPE_SKIPPED.COUNT 1)).goesOn c (min ((s.bd.count pCPE F.CPE_SKIPPED.COUNT 1).desc c).len ((s.chan c).done + 64)) = _
    rw [hskip]
    rfl

end

theorem State.goesOn_shows (s : State) {c : Nat} (hc : c < 40) (pos : Nat) : (s.goesOn c pos).bd.chanState c = 1 ∧ ((s.goesOn c pos).chan c).stop = none
    ∧ ((s.goesOn c pos).chan c).lines = [] ∧ ((s.goesOn c pos).chan c).pos = pos ∧ (s.goesOn c pos).bd.get (chanPage c) (chanStat c F.CPD_STAT.CAUSE) = 0
    ∧ (s.goesOn c pos).home = s.home := by
  have hchan : (s.goesOn c pos).chan c = { s.chan c with pos := pos, lines := [], stop := none, failed := [] } := State.chan_setChan _ _ _
  rw [hchan]
  refine ⟨?_, rfl, rfl, rfl, ?_, rfl⟩
  · exact (Board.chanState_put hc _ (by decide)).trans ((Board.chanState_put hc _ (by decide)).trans (Board.get_put_self _ _ _ _ (by simp [chanStat])))
  · exact (Board.get_put_chanStat hc _ (by decide) (.inl (by decide))).trans (Board.get_put_self _ _ _ _ (by simp [chanStat]))

/-! ### ABORT (R445) -/

/-- The board of a channel that has ended, but for the counts, the event and the record. -/
def State.ended (s : State) (c st cause result addr : Nat) : Board :=
  (((((s.showChan c).bd.put (chanPage c) (chanStat c F.CPD_STAT.STATE) st).put (chanPage c) (chanStat c F.CPD_STAT.CAUSE) cause).put (chanPage c) (chanStat c F.CPD_STAT.RESULT) result).wr
    (chanPage c) (chanCtl c + 0xC) (BitVec.ofNat 32 addr)).wr (chanPage c) (chanCtl c + 0x10) (BitVec.ofNat 32 (addr / 2 ^ 32))

theorem State.ended_only {s : State} {c : Nat} (hc : c < 40) (st cause result addr : Nat) : s.bd.Only (s.ended c st cause result addr) (chanWords c) := by
  have hb := chanCtl_bounds hc
  have hstat : ∀ f, (chanStat c f).off < 4096 := fun f => by simp only [chanStat]; omega
  have hmem : ∀ f, (chanPage c, (chanStat c f).off / 4) ∈ chanWords c := fun f => by simp [chanStat, chanWords]
  have hshown : s.bd.Only (s.showChan c).bd (chanWords c) := ((Board.Only.refl _ _).put _ (by simp only; omega) (by simp [chanWords])).put _ (hstat _) (hmem _)
  exact ((((hshown.put _ (hstat _) (hmem _)).put _ (hstat _) (hmem _)).put _ (hstat _) (hmem _)).wr _ (by omega) (by simp [chanWords])).wr _ (by omega) (by simp [chanWords])

theorem State.endDesc_silent {s : State} {c : Nat} (hc : c < 40) (hr : (s.bd.desc c).record = false) {st : Nat} (hst : st ≠ 2) (cause result addr : Nat) :
    s.endDesc c st cause result addr none = s.on (fun _ => s.ended c st cause result addr) := by
  have hdesc : ((s.ended c st cause result addr).desc c).record = false := by rw [(State.ended_only hc _ _ _ _).desc_chanWords hc, hr]
  unfold State.endDesc
  simp only [if_neg hst]
  show (s.showChan c).on _ = _
  refine congrArg (fun d => { s with bd := d }) ?_
  exact if_neg (by exact Bool.not_eq_true _ ▸ hdesc)

theorem State.ended_shows {s : State} {c : Nat} (hc : c < 40) (st cause result addr : Nat) : (s.ended c st cause result addr).chanState c = st % 8
    ∧ (s.ended c st cause result addr).get (chanPage c) (chanStat c F.CPD_STAT.CAUSE) = cause % 16 := by
  have hb := chanCtl_bounds hc
  have hwr : ∀ (b : Board) (o : Nat) (w : Word) (f : Fld), o / 4 ≠ (chanCtl c + 4) / 4 → o < 4096 → (b.wr (chanPage c) o w).get (chanPage c) (chanStat c f) = b.get (chanPage c) (chanStat c f) :=
    fun b o w f h ho => Board.get_congr (Board.rd_wr_off ho (by simp only [chanStat]; omega) (by simpa [chanStat] using Ne.symm h))
  unfold State.ended Board.chanState
  rw [hwr _ _ _ _ (by omega) (by omega), hwr _ _ _ _ (by omega) (by omega), hwr _ _ _ _ (by omega) (by omega), hwr _ _ _ _ (by omega) (by omega)]
  constructor
  · exact (Board.chanState_put hc _ (by decide)).trans ((Board.chanState_put hc _ (by decide)).trans (Board.get_put_self _ _ _ _ (by simp [chanStat])))
  · exact (Board.get_put_chanStat hc _ (by decide) (.inl (by decide))).trans (Board.get_put_self _ _ _ _ (by simp [chanStat]))

/-- ERR_ADDR of a channel. -/
def Board.errAddr (b : Board) (c : Nat) : Nat := (b.rd (chanPage c) (chanCtl c + 0xC)).toNat + (b.rd (chanPage c) (chanCtl c + 0x10)).toNat * 2 ^ 32

/-- A halted channel that ABORT ends. -/
def State.aborted (s : State) (c : Nat) : State :=
  if c < 32 then (s.endDesc c 3 6 0 (s.bd.errAddr c) none).on (fun b => b.put (chanPage c) (chanStat c F.CPD_STAT.SHADOW_ARMED) 0) else s.endDesc c 3 6 0 (s.bd.errAddr c) none

theorem State.aborted_shows {s : State} {c : Nat} (hc : c < 40) (hr : (s.bd.desc c).record = false) :
    s.SameBelow (s.aborted c) ∧ (s.aborted c).bd.chanState c = 3 ∧ (s.aborted c).bd.get (chanPage c) (chanStat c F.CPD_STAT.CAUSE) = 6 := by
  obtain ⟨hst, hca⟩ := State.ended_shows (s := s) hc 3 6 0 (s.bd.errAddr c)
  have hended := (State.SameBelow.refl s).on (fun _ => s.ended c 3 6 0 (s.bd.errAddr c))
  unfold State.aborted
  rw [State.endDesc_silent hc hr (by decide)]
  split
  · exact ⟨hended.on _, (Board.chanState_put hc _ (by decide)).trans hst, (Board.get_put_chanStat hc _ (by decide) (.inr (by decide))).trans hca⟩
  · exact ⟨hended, hst, hca⟩

section
variable {s : State} {p : Path} {c : Nat} (hg : s.bd.gate p (chanPage c) (chanCtl c) false false = none)
include hg

theorem State.abortCopy_busy (hst : s.bd.chanState c = 1) : s.abortCopy p c = s.stopChan c 6 0 0 := by
  refine (State.written_pass hg).trans ?_
  unfold State.abortChan
  rw [hst]
  rfl

theorem State.abortCopy_halted (hst : s.bd.chanState c = 2) : s.abortCopy p c = s.aborted c := by
  refine (State.written_pass hg).trans ?_
  unfold State.abortChan
  rw [hst]
  rfl

theorem State.abortCopy_idle (hst : s.bd.chanState c = 0) : s.abortCopy p c = s := by
  refine (State.written_pass hg).trans ?_
  unfold State.abortChan
  rw [hst]
  rfl

end

theorem State.stopChan_stops (s : State) (c cause result addr : Nat) : ((s.stopChan c cause result addr).chan c).stop.isSome = true := by
  unfold State.stopChan
  rw [State.chan_setChan]
  dsimp only
  split <;> rfl

/-! ### GO (R447) and lines (R440, R443) -/

theorem State.copyLineDone_takes {s : State} {c : Nat} {a : Answer} (h : s.home.answers.find? (fun a => decide (chanOf a.oid = some c)) = some a) :
    s.copyLineDone c = ({ s with home := { s.home with answers := s.home.answers.erase a } } : State).lineAnswer c a := by
  unfold State.copyLineDone
  rw [h]

/-- The board as a line of a channel is issued again. -/
def Board.lineRetried (b : Board) (since : Nat) : Board := ({ b with now := max b.now (since + 1) } : Board).count pCPE F.CPE_RETRIES.COUNT 1

theorem State.copyLineRetry_issues {s : State} {c : Nat} {l : CopyLine} (h : (s.chan c).lines.find? (fun l => decide (l.phase = 2)) = some l) :
    s.copyLineRetry c = (s.on (·.lineRetried l.since)).startLine c { l with tries := l.tries + 1, poison := false } := by
  unfold State.copyLineRetry
  rw [h]
  rfl

end Sys2Proof.Machine

open Sys2Proof Sys2Proof.Machine

/-- Settles O58: each command by the state that its channel is in. What a channel keeps of its lines and how a halted one resumes is the model's choice (log entries 128, 129), as is the 1 µs that a
line issued again moves the clock (log entry 43). -/
theorem copyChannelsAreCommanded : Obligations.CopyChannelsAreCommanded := by
  intro s p
  refine ⟨fun c hg => ⟨fun ha => ?_, fun ha hst => ?_, fun ha hst => ?_, fun k i hi => ⟨fun hst => ?_, fun hst hca => ?_⟩⟩, fun c i hi hg => ?_, fun n hg => ⟨fun hst => ?_, fun hst => ?_⟩,
    fun c a ha => ?_, fun c l hl => ?_⟩
  · exact ⟨_, Runs.of_run (exec_cpdArm _ _ s) (State.cpdArm_busy hg ha), s.rejects_shows _ _ _ _⟩
  · have hc : c.val < 40 := by omega
    exact ⟨_, Runs.of_run (exec_cpdArm _ _ s) (State.cpdArm_waits hg hc ha hst), rfl, s.bd.armed_arm _, Board.chanState_arm hc, Board.only_arm hc⟩
  · exact ⟨_, s.on (·.arm c.val), Runs.of_run (exec_cpdArm _ _ s) (State.cpdArm_starts hg (by omega) ha hst), rfl, s.bd.armed_arm _, rfl⟩
  · have hexec : exec i s = s.run (fun s => s.resumeCopy p c.val k) := by subst hi; cases k <;> rfl
    exact ⟨_, Runs.of_run hexec (State.resumeCopy_conflict hg hst k), s.rejects_shows _ _ _ _⟩
  · have hexec : exec i s = s.run (fun s => s.resumeCopy p c.val k) := by subst hi; cases k <;> rfl
    have hhome : (if k then s.on (fun b => b.count pCPE F.CPE_SKIPPED.COUNT 1) else s).home = s.home := by cases k <;> rfl
    obtain ⟨hstate, hstop, hlines, hpos, hcause, hkept⟩ := (if k then s.on (fun b => b.count pCPE F.CPE_SKIPPED.COUNT 1) else s).goesOn_shows (c := c.val) (by omega)
      (min (s.bd.desc c.val).len ((s.chan c.val).done + (if k then 64 else 0)))
    exact ⟨_, Runs.of_run hexec (State.resumeCopy_goesOn hg (by omega) hst hca k), hstate, hstop, hlines, hpos, hcause, hkept.trans hhome⟩
  · have hexec : exec i s = s.run (fun s => s.abortCopy p c) := by
      rcases hi with ⟨n, rfl, rfl⟩ | ⟨n, rfl, rfl⟩
      · exact exec_copyAbort p n s
      · exact exec_cpsAbort p n s
    have hc : c < 40 := by rcases hi with ⟨n, rfl, -⟩ | ⟨n, rfl, -⟩ <;> omega
    refine ⟨fun hst => ⟨_, Runs.of_run hexec (State.abortCopy_busy hg hst), s.stopChan_stops c 6 0 0, rfl, rfl⟩, fun hst hr => ?_, fun hst => Runs.of_run hexec (State.abortCopy_idle hg hst)⟩
    exact ⟨_, Runs.of_run hexec (State.abortCopy_halted hg hst), State.aborted_shows hc hr⟩
  · exact ⟨_, Runs.of_run (exec_copyGo _ _ s) ((State.written_pass hg).trans (if_pos hst)), rfl, Board.reject_code _ _ _ _ _⟩
  · exact ⟨_, Runs.of_run (exec_copyGo _ _ s) ((State.written_pass hg).trans (if_neg hst)), rfl⟩
  · exact ⟨_, _, Runs.of_run (exec_copyLineDone _ s) (State.copyLineDone_takes ha), rfl, rfl⟩
  · exact ⟨_, s.on (·.lineRetried l.since), Runs.of_run (exec_copyLineRetry _ s) (State.copyLineRetry_issues hl), rfl, Board.count_now _ _ _ _, Board.get_count_self _ _ _ _ (by decide), rfl⟩

end

section
/-! Event queues, regulation windows, snapshots and the voter (O59): R452 to R458, R467 to R470, R480, R485. The push ports are the model's (log entry 102), as are the content of the triplicated words
(log entries 105, 162) and the clock's periods (log entry 43). -/

namespace Sys2Proof.Machine

theorem exec_pushStart (p : Path) (q : Fin 64) (len : BitVec 16) (s : State) : exec (.pushStart p q len) s = s.quick (fun s => s.pushStart p q.val len.toNat) := rfl
theorem exec_pushData (p : Path) (d : Word) (s : State) : exec (.pushData p d) s = s.quick (fun s => s.pushData p d) := rfl
theorem exec_pushEnd (p : Path) (s : State) : exec (.pushEnd p) s = s.quick (fun s => s.pushEnd p) := rfl
theorem exec_pushTimeout (p : Path) (s : State) : exec (.pushTimeout p) s = s.quick (fun s => s.pushTimeout p) := rfl
theorem exec_queuePop (p : Path) (s : State) : exec (.queuePop p) s = s.quick (fun s => s.pop p) := rfl
theorem exec_qosWindow (s : State) : exec .qosWindow s = s.run State.qosWindow := rfl
theorem exec_qosPromote (m : Fin 64) (point : Fin 4) (k : Nat) (s : State) : exec (.qosPromote m point k) s = s.quick (fun s => s.qosPromote m.val point.val k) := rfl
theorem exec_snap (p : Path) (s : State) : exec (.snap p) s = s.quick (fun s => (s.on Board.followCounters).snap p) := rfl
theorem exec_pmcAutoSnap (s : State) : exec .pmcAutoSnap s = s.quick (fun s => (s.on Board.followCounters).autoSnap) := rfl
theorem exec_snapDone (s : State) : exec .snapDone s = s.quick State.snapDone := rfl
theorem exec_trvScrub (l : List (Fin 32 × Fin 3 × Word)) (s : State) :
    exec (.trvScrub l) s = s.run (fun s => s.trvScrub (l.map (fun x => (x.1.val, x.2.1.val, x.2.2.toNat)))) := rfl
theorem exec_trvFlipArm (p : Path) (copy : Fin 4) (w : Fin 32) (s : State) : exec (.trvFlipArm p copy w) s = s.quick (fun s => s.trvFlipArm p copy.val w.val) := rfl

/-! ### The push ports (R452, R453) -/

@[simp] theorem Board.port_setPort (b : Board) (p : Path) (v : PushPort) : (b.setPort p v).port p = v := by cases p <;> rfl
@[simp] theorem Board.setPort_queue (b : Board) (p : Path) (v : PushPort) (q : Nat) : (b.setPort p v).queue q = b.queue q := by cases p <;> rfl
@[simp] theorem Board.setPort_freeCells (b : Board) (p : Path) (v : PushPort) : (b.setPort p v).freeCells = b.freeCells := by cases p <;> rfl
@[simp] theorem Board.setPort_cellFree (b : Board) (p : Path) (v : PushPort) (q : Nat) : (b.setPort p v).cellFree q = b.cellFree q := by cases p <;> rfl
@[simp] theorem Board.setPort_now (b : Board) (p : Path) (v : PushPort) : (b.setPort p v).now = b.now := by cases p <;> rfl
@[simp] theorem Board.setPort_regs (b : Board) (p : Path) (v : PushPort) : (b.setPort p v).regs = b.regs := by cases p <;> rfl

/-- Events leave the ports. -/
theorem Board.EventFrame.port {b c : Board} (h : b.EventFrame c) (p : Path) : c.port p = b.port p := by
  cases p with
  | host => exact (congrArg Board.pushHost h.same :)
  | mgmt => exact (congrArg Board.pushMgmt h.same :)

theorem Board.poolLow_port (b : Board) (n : Nat) (p : Path) : (b.poolLow n).port p = b.port p := by
  unfold Board.poolLow
  split
  · exact (b.raise_frame pEVQ _).port p
  · rfl

/-- What START leaves in a port that takes it. -/
def PushPort.started (o : PushPort) (q len now : Nat) : PushPort := { o with isOpen := true, queue := q, len := len, bytes := [], openedAt := now, result := Code.ok.num }

theorem Board.pushStart_takes {b : Board} {p : Path} {q len : Nat} (hlen : len ≠ 0) (ho : (b.port p).isOpen = false) (hmax : ceilDiv (len + 4) 64 ≤ (b.queue q).maxCells)
    (hen : (b.queue q).en = true) (hfree : b.cellFree q = true) : (b.pushStart p q len).port p = (b.port p).started q len b.now := by
  unfold Board.pushStart
  simp only [if_neg hlen, if_neg (show ¬ (b.port p).isOpen = true by simp [ho]), if_neg (Nat.not_lt.2 hmax), hen, hfree, Bool.and_self, if_true]
  rw [Board.poolLow_port]
  cases p <;> rfl

/-- The word of EVQ_PUSH_CTL that starts a packet: START, and not END. -/
theorem wordBits_pushStart (q : Fin 64) (len : BitVec 16) :
    wordBits (BitVec.ofNat 32 (len.toNat + 2 ^ 16 + q.val * 2 ^ 18)) 17 1 = 0 ∧ wordBits (BitVec.ofNat 32 (len.toNat + 2 ^ 16 + q.val * 2 ^ 18)) 16 1 = 1
      ∧ wordBits (BitVec.ofNat 32 (len.toNat + 2 ^ 16 + q.val * 2 ^ 18)) 18 6 = q.val ∧ wordBits (BitVec.ofNat 32 (len.toNat + 2 ^ 16 + q.val * 2 ^ 18)) 0 16 = len.toNat := by
  have hl := len.isLt
  have hq := q.isLt
  simp only [wordBits, BitVec.toNat_ofNat, Nat.shiftRight_eq_div_pow]
  omega

theorem Board.pushCtl_starts (b : Board) (p : Path) (q : Fin 64) (len : BitVec 16) : b.pushCtl p (BitVec.ofNat 32 (len.toNat + 2 ^ 16 + q.val * 2 ^ 18))
    = (b.setPort p { b.port p with ctl := BitVec.ofNat 32 (len.toNat + 2 ^ 16 + q.val * 2 ^ 18) &&& 0x00FCFFFF }).pushStart p q.val len.toNat := by
  obtain ⟨hend, hstart, hqueue, hlen⟩ := wordBits_pushStart q len
  unfold Board.pushCtl
  rw [hend, hstart, hqueue, hlen]
  rfl

theorem Board.pushCtl_takes {b : Board} {p : Path} (q : Fin 64) (len : BitVec 16) (hlen : len.toNat ≠ 0) (ho : (b.port p).isOpen = false)
    (hmax : ceilDiv (len.toNat + 4) 64 ≤ (b.queue q.val).maxCells) (hen : (b.queue q.val).en = true) (hfree : b.cellFree q.val = true) :
    ∃ w, (b.pushCtl p (BitVec.ofNat 32 (len.toNat + 2 ^ 16 + q.val * 2 ^ 18))).port p = ({ b.port p with ctl := w } : PushPort).started q.val len.toNat b.now := by
  refine ⟨BitVec.ofNat 32 (len.toNat + 2 ^ 16 + q.val * 2 ^ 18) &&& 0x00FCFFFF, ?_⟩
  rw [Board.pushCtl_starts, Board.pushStart_takes hlen (by rwa [Board.port_setPort]) (by rwa [Board.setPort_queue]) (by rwa [Board.setPort_queue]) (by rwa [Board.setPort_cellFree]),
    Board.port_setPort, Board.setPort_now]

theorem Board.pushData_closed {b : Board} {p : Path} (h : (b.port p).isOpen = false) (d : Word) : b.pushData p d = b := by
  unfold Board.pushData
  simp [h]

theorem Board.pushData_fits {b : Board} {p : Path} (h : (b.port p).isOpen = true) (hl : (b.port p).bytes.length + 4 ≤ (b.port p).len)
    (hc : ceilDiv ((b.port p).bytes.length + 8) 64 ≤ ceilDiv ((b.port p).bytes.length + 4) 64) (d : Word) :
    b.pushData p d = b.setPort p { b.port p with bytes := (b.port p).bytes ++ leBytes 4 d.toNat } := by
  have htake : (leBytes 4 d.toNat).take ((b.port p).len - (b.port p).bytes.length) = leBytes 4 d.toNat := List.take_of_length_le (show 4 ≤ _ by omega)
  refine (if_pos h).trans ?_
  show Board.pushBytes (if (b.port p).len - (b.port p).bytes.length < 4 then _ else b) p ((leBytes 4 d.toNat).take ((b.port p).len - (b.port p).bytes.length)) = _
  rw [if_neg (by omega), htake]
  exact if_pos hc

theorem Board.announce_frame (b : Board) (q : Nat) : b.EventFrame (Board.run 256 [.announce q] b) := Board.run_frame 256 _ _ (by simp [Act.ok])

theorem Board.announce_now (b : Board) (q : Nat) : (Board.run 256 [.announce q] b).now = b.now := (congrArg Board.now (b.announce_frame q).same :)

theorem Board.closePush_closed (b : Board) (p : Path) (trunc : Bool) : ((b.closePush p trunc).port p).isOpen = false := by
  unfold Board.closePush
  rw [(Board.announce_frame _ _).port p, Board.port_setPort]

theorem Board.closePush_now (b : Board) (p : Path) (trunc : Bool) : (b.closePush p trunc).now = b.now := by
  unfold Board.closePush
  exact (Board.announce_now _ _).trans (Board.setPort_now _ _ _)

theorem wordBits_pushEnd (w : Word) : wordBits (w ||| 0x20000) 17 1 = 1 ∧ wordBits (w ||| 0x20000) 16 1 = wordBits w 16 1 := by
  constructor
  · refine Nat.eq_of_testBit_eq fun i => ?_
    rw [testBit_wordBits]
    cases i with
    | zero => simp [Nat.testBit_or, show Nat.testBit 131072 17 = true by decide]
    | succ i => simp [Nat.testBit_succ]
  · refine Nat.eq_of_testBit_eq fun i => ?_
    rw [testBit_wordBits, testBit_wordBits]
    cases i with
    | zero => simp [Nat.testBit_or, show Nat.testBit 131072 16 = false by decide]
    | succ i => simp

theorem Board.pushCtl_ends {b : Board} {p : Path} (ho : (b.port p).isOpen = true) (hs : wordBits (b.port p).ctl 16 1 = 0) :
    b.pushCtl p ((b.port p).ctl ||| 0x20000) = (b.setPort p { b.port p with ctl := ((b.port p).ctl ||| 0x20000) &&& 0x00FCFFFF }).closePush p false := by
  obtain ⟨hend, hstart⟩ := wordBits_pushEnd (b.port p).ctl
  unfold Board.pushCtl
  rw [hend, hstart, hs]
  show Board.pushEnd (b.setPort p _) p = _
  exact if_pos (by rw [Board.port_setPort]; exact ho)

theorem Board.truncatePush_shows (b : Board) (p : Path) (timeout : Bool) : ((b.truncatePush p timeout).port p).isOpen = false ∧ (b.truncatePush p timeout).now = b.now
    ∧ ((b.truncatePush p timeout).rd pEVQ 0x010).getLsbD E.EVQ.TRUNCATED = true := by
  have hcount : ((b.closePush p true).count pEVQ F.EVQ_TRUNC.COUNT 1).port p = (b.closePush p true).port p := by
    unfold Board.count Board.tally
    split <;> cases p <;> rfl
  unfold Board.truncatePush
  refine ⟨?_, ?_, Board.raise_status _ _ _ (show E.EVQ.TRUNCATED < 32 by decide)⟩
  · rw [(Board.raise_frame _ _ _).port, hcount, Board.closePush_closed]
  · exact (Board.raises_now _ _ _).trans ((Board.count_now _ _ _ _).trans (b.closePush_now p true))

/-- The board as the 10 ms of a push that began at `since` end. -/
def Board.pushCut (b : Board) (p : Path) (since : Nat) : Board := { b with now := max b.now (since + 10000) }.truncatePush p true

theorem State.pushTimeout_cuts {s : State} {p : Path} (h : (s.bd.port p).isOpen = true) : s.pushTimeout p = s.on (·.pushCut p (s.bd.port p).openedAt) := if_pos h

/-! ### POP (R454) -/

theorem Board.pop_some {b : Board} {n : Nat} {k : Pkt} (hn : n = b.get pEVQ F.EVQ_QSEL.QUEUE) (h : (b.queue n).head = some k) :
    b.pop = (b.setQueue n { b.queue n with pkts := (b.queue n).pkts.drop 1 }).put pEVQ F.EVQ_RD_STAT.RESULT Code.ok.num := by
  subst hn
  unfold Board.pop
  simp only [h]

theorem Board.pop_none {b : Board} {n : Nat} (hn : n = b.get pEVQ F.EVQ_QSEL.QUEUE) (h : (b.queue n).head = none) :
    b.pop = (b.put pEVQ F.EVQ_RD_STAT.RESULT Code.empty.num).count pEVQ F.EVQ_UNDERRUN.COUNT 1 := by
  subst hn
  unfold Board.pop
  simp only [h]

theorem Board.setQueue_only (b : Board) (n : Nat) (v : Queue) (ks : List (Nat × Nat)) : b.Only (b.setQueue n v) ks := fun _ _ _ _ => rfl

theorem Board.queue_setQueue (b : Board) (n : Nat) (v : Queue) : (b.setQueue n v).queue n = v := smGet_smSet_self _ _ _ _

theorem Board.count_queues (b : Board) (p : Nat) (f : Fld) (n : Nat) : (b.count p f n).queues = b.queues := by
  unfold Board.count Board.tally
  split <;> rfl

/-! ### Promotion of LOW requests (R458) -/

/-- The state that has promoted a request at a point. -/
def State.promoted (s : State) (x : Nat × Nat × List Nat) (point : Nat) : State :=
  { s with traffic := { s.traffic with low := s.traffic.low.map (fun l => if l = x then (l.1, l.2.1, nsInsert point l.2.2) else l) } }

/-- The board that tells it. -/
def Board.promotion (b : Board) (m point : Nat) : Board := (b.count pQOS F.QOS_PROMOTED.COUNT 1).raise pQOS (ev E.QOS.PROMOTED (m + point * 64) 0 0 0)

theorem State.qosPromote_tells {s : State} {m point k : Nat} {x : Nat × Nat × List Nat}
    (h : (s.traffic.low.filter (fun l => decide (masterOf l.1 = m) && decide (point ∉ l.2.2)))[k]? = some x) :
    s.qosPromote m point k = (s.promoted x point).on (·.promotion m point) := by
  unfold State.qosPromote
  rw [h]
  rfl

theorem Board.promotion_shows (b : Board) (m point : Nat) : ((b.promotion m point).rd pQOS 0x010).getLsbD E.QOS.PROMOTED = true
    ∧ (b.promotion m point).get pQOS F.QOS_PROMOTED.COUNT = min (2 ^ F.QOS_PROMOTED.COUNT.width - 1) (b.get pQOS F.QOS_PROMOTED.COUNT + 1) :=
  ⟨Board.raise_status _ _ _ (show E.QOS.PROMOTED < 32 by decide), (Board.get_raise _ _ _ (by decide)).trans (Board.get_count_self _ _ _ _ (by decide))⟩

/-! ### Snapshots (R467, R470) -/

theorem Board.countDue_nil {b : Board} (h : b.pmcDue = []) (n : Nat) : Board.countDue n b = b := by
  cases n with
  | zero => rfl
  | succ n => simp only [Board.countDue, h]

theorem Board.followCounters_idle {b : Board} (hd : b.pmcDue = []) (hc : b.clockPages = []) : b.followCounters = b := by
  unfold Board.followCounters
  rw [Board.countDue_nil hd]
  dsimp only
  rw [hc]
  rfl

/-- With no clearing, a latch takes the counters and shows BUSY. -/
theorem Board.latchSnap_shows {b : Board} (h : b.on pPMC F.PMC_CTL.CLEAR_ON_SNAP = false) (auto : Bool) : (b.latchSnap auto).snap.isSome = true
    ∧ (b.latchSnap auto).on pPMC F.PMC_STAT.BUSY = true ∧ b.Only (b.latchSnap auto) [(pPMC, 17)] ∧ (b.latchSnap auto).now = b.now := by
  have hlatch : ∃ x, b.latchSnap auto = ({ b with snap := some x } : Board).put pPMC F.PMC_STAT.BUSY 1 := by
    unfold Board.latchSnap
    simp only [h, Bool.false_eq_true, if_false]
    exact ⟨_, rfl⟩
  obtain ⟨x, hx⟩ := hlatch
  rw [hx]
  exact ⟨rfl, Board.on_put_one _ _ _ (by decide), fun p o ho hn => (Board.Only.refl ({ b with snap := some x } : Board) [(pPMC, 17)]).put 1 (by decide) (by decide) p o ho hn, rfl⟩

theorem Board.snapNow_latches {b : Board} (h : b.snap = none) (p : Path) : b.snapNow p = b.latchSnap false := by
  unfold Board.snapNow
  rw [h]
  rfl

/-- The board as the period of PMC_PERIOD ends. -/
def Board.autoSnapped (b : Board) : Board := (b.elapse 14 (b.get pPMC F.PMC_PERIOD.MS * 1000)).latchSnap true

theorem State.autoSnap_latches {s : State} (hp : s.bd.powered pPMC = true) (ha : s.bd.on pPMC F.PMC_PERIOD.AUTO = true) (hn : s.bd.snap = none) : s.autoSnap = s.on Board.autoSnapped := by
  unfold State.autoSnap
  rw [if_pos (by rw [hp, ha]; rfl)]
  refine congrArg (fun b => { s with bd := b }) (if_neg ?_)
  show ¬ s.bd.snap.isSome = true
  rw [hn]
  decide

/-- The counts of a snapshot as the registers show them. -/
def Board.showCounts (b : Board) (l : List (Nat × Nat)) : Board :=
  l.foldl (fun b (e : Nat × Nat) => if e.1 = 0 then b
    else (b.put pPMC (F.PMC_SNAP.COUNT.ix (2 * e.2)) (e.1 - 1)).put pPMC (F.PMC_SNAP.COUNT.ix (2 * e.2 + 1)) ((e.1 - 1) / 2 ^ 32)) b

theorem Board.showCounts_snap (l : List (Nat × Nat)) : ∀ b : Board, (b.showCounts l).snap = b.snap := by
  induction l with
  | nil => exact fun _ => rfl
  | cons e l ih =>
    intro b
    show (Board.showCounts (if e.1 = 0 then b else _) l).snap = b.snap
    rw [ih]
    split <;> rfl

/-- The board that shows a snapshot, but for its event. -/
def Board.snapShown (b : Board) (counts : List Nat) (missing time : Nat) : Board :=
  ((((((({ b with snap := none } : Board).showCounts counts.zipIdx).put64 pPMC F.PMC_SNAP_TIME_LO.TIME F.PMC_SNAP_TIME_HI.TIME time).put pPMC F.PMC_MISSING.ENTRIES missing).put
    pPMC F.PMC_STAT.BUSY 0).put pPMC F.PMC_STAT.RESULT 0).count pPMC F.PMC_STAT.COUNT 1)

/-- The board that has told it. -/
def Board.snapTold (b : Board) (auto : Bool) (counts : List Nat) (missing time : Nat) : Board :=
  (b.snapShown counts missing time).raise pPMC (ev E.PMC.SNAP_DONE (bit auto) ((b.snapShown counts missing time).get pPMC F.PMC_STAT.COUNT) missing 0)

theorem State.snapDone_tells {s : State} {auto : Bool} {counts : List Nat} {missing time : Nat} (h : s.bd.snap = some (auto, counts, missing, time)) :
    s.snapDone = s.on (·.snapTold auto counts missing time) := by
  unfold State.snapDone
  rw [h]
  rfl

theorem Board.count_snap (b : Board) (p : Nat) (f : Fld) (n : Nat) : (b.count p f n).snap = b.snap := by
  unfold Board.count Board.tally
  split <;> rfl

theorem Board.put_snap (b : Board) (p : Nat) (f : Fld) (v : Nat) : (b.put p f v).snap = b.snap := rfl

theorem Board.snapShown_snap (b : Board) (counts : List Nat) (missing time : Nat) : (b.snapShown counts missing time).snap = none := by
  unfold Board.snapShown Board.put64
  simp only [Board.count_snap, Board.put_snap, Board.showCounts_snap]

theorem Board.snapShown_busy (b : Board) (counts : List Nat) (missing time : Nat) : (b.snapShown counts missing time).on pPMC F.PMC_STAT.BUSY = false := by
  refine decide_eq_false ?_
  unfold Board.snapShown
  rw [Board.get_count_clear _ _ (by decide) (by decide), Board.get_put_clear _ _ (by decide) (by decide), Board.get_put_self _ _ _ _ (by decide)]
  decide

theorem Board.raise_snap (b : Board) (p : Nat) (e : Ev) : (b.raise p e).snap = b.snap := (congrArg Board.snap (b.raise_frame p e).same :)

theorem Board.snapTold_shows (b : Board) (auto : Bool) (counts : List Nat) (missing time : Nat) : (b.snapTold auto counts missing time).snap = none
    ∧ (b.snapTold auto counts missing time).on pPMC F.PMC_STAT.BUSY = false ∧ ((b.snapTold auto counts missing time).rd pPMC 0x010).getLsbD E.PMC.SNAP_DONE = true := by
  unfold Board.snapTold
  exact ⟨(Board.raise_snap _ _ _).trans (b.snapShown_snap _ _ _), (Board.on_raise _ _ _ (by decide)).trans (b.snapShown_busy _ _ _),
    Board.raise_status _ _ _ (show E.PMC.SNAP_DONE < 32 by decide)⟩

/-! ### The content of the triplicated words (R480; log entry 105) -/

/-- The fields that show whether a fatal stop has begun, in the word that the fault log counts its entries in. -/
def fatalFields : List Fld := [F.FLT_STAT.FATAL, F.FLT_STAT.FATAL_CLASS]

/-- From `b` to `c` the owners of the triplicated words read the same: what a repair, its event and its fault log entry may change is theirs to change. -/
structure Board.OwnersKept (b c : Board) : Prop where
  err : c.trvErr = b.trvErr
  get : ∀ p f, f.off < 4096 → eventReg p f.off = false → (p, f.off / 4) ∉ (pTRV, 24) :: faultWords → c.get p f = b.get p f
  fatal : ∀ f ∈ fatalFields, c.get pFLT f = b.get pFLT f

theorem Board.OwnersKept.refl (b : Board) : b.OwnersKept b := ⟨rfl, fun _ _ _ _ _ => rfl, fun _ _ => rfl⟩

theorem Board.OwnersKept.trans {b c d : Board} (h : b.OwnersKept c) (k : c.OwnersKept d) : b.OwnersKept d :=
  ⟨k.err.trans h.err, fun p f ho he hn => (k.get p f ho he hn).trans (h.get p f ho he hn), fun f hf => (k.fatal f hf).trans (h.fatal f hf)⟩

theorem Board.elapse_ownersKept (b : Board) (k us : Nat) : b.OwnersKept (b.elapse k us) := ⟨rfl, fun _ _ _ _ _ => rfl, fun _ _ => rfl⟩

theorem Board.raise_ownersKept (b : Board) (p : Nat) (e : Ev) : b.OwnersKept (b.raise p e) :=
  ⟨(congrArg Board.trvErr (b.raise_frame p e).same :), fun _ _ ho he _ => Board.get_raise _ _ _ ⟨ho, he⟩, fun f hf => Board.get_raise _ _ _ (by
    simp only [fatalFields, List.mem_cons, List.not_mem_nil, or_false] at hf
    rcases hf with rfl | rfl <;> decide)⟩

theorem Board.count_trvErr (b : Board) (p : Nat) (f : Fld) (n : Nat) : (b.count p f n).trvErr = b.trvErr := by
  unfold Board.count Board.tally
  split <;> rfl

theorem Board.repaired_ownersKept (b : Board) : b.OwnersKept (b.count pTRV F.TRV_REPAIRS.COUNT 1) := by
  have honly : b.Only (b.count pTRV F.TRV_REPAIRS.COUNT 1) [(pTRV, 24)] := (Board.Only.refl b _).count 1 (by decide) (by decide)
  refine ⟨b.count_trvErr _ _ _, fun p f ho _ hn => honly.get p f ⟨ho, fun h => hn (List.mem_cons.2 (.inl (List.mem_singleton.1 h)))⟩, fun f hf => honly.get _ f ?_⟩
  simp only [fatalFields, List.mem_cons, List.not_mem_nil, or_false] at hf
  rcases hf with rfl | rfl <;> decide

/-- An entry of the fault log leaves the fields of a fatal stop. -/
theorem Board.logFault_fatal (b : Board) (page event cls stall info : Nat) (fatal : Bool) {f : Fld} (hf : f ∈ fatalFields) :
    (b.logFault page event cls stall info fatal).get pFLT f = b.get pFLT f := by
  have hfld : f.off = 0x44 ∧ f.lo + f.width ≤ 5 := by
    simp only [fatalFields, List.mem_cons, List.not_mem_nil, or_false] at hf
    rcases hf with rfl | rfl <;> decide
  have hclear : ∀ (c : Board) (g : Fld) v, g.off < 4096 → g.off / 4 ≠ 17 ∨ g.off = 0x44 ∧ 5 ≤ g.lo → (c.put pFLT g v).get pFLT f = c.get pFLT f := fun c g v ho h =>
    Board.get_put_clear c v ⟨by omega, ho, by omega⟩ (by omega)
  have hcount : ∀ (c : Board) (g : Fld) n, g.off < 4096 → g.off / 4 ≠ 17 → (c.count pFLT g n).get pFLT f = c.get pFLT f := fun c g n ho h =>
    (Board.get_congr (Board.rd_tally _ _ _ _ _ _)).trans (hclear c g _ ho (.inl h))
  have hraise : ∀ (c : Board) e, (c.raise pFLT e).get pFLT f = c.get pFLT f := fun c e => Board.get_raise c _ _ ⟨by omega, by rw [hfld.1]; decide⟩
  have hite : ∀ (Q : Prop) [Decidable Q] (c d : Board), (if Q then c else d).get pFLT f = if Q then c.get pFLT f else d.get pFLT f := fun Q _ c d => by split <;> rfl
  unfold Board.logFault Board.raiseTo
  dsimp only
  simp only [hite, hraise, hcount _ F.FLT_SEQ.COUNT _ (by decide) (by decide), hcount _ F.FLT_CATALOGUE.COUNT _ (by decide) (by decide), hcount _ F.FLT_OUTSIDE.COUNT _ (by decide) (by decide),
    hcount _ F.FLT_BOUND_MISS.COUNT _ (by decide) (by decide), hclear _ F.FLT_BOUND.NS _ (by decide) (.inl (by decide)),
    hclear _ F.FLT_STAT.ENTRIES _ (by decide) (.inr (by decide)), ite_self]
  rfl

/-- What no fault log entry touches of a board. -/
theorem Board.logFault_trv (b : Board) (page event cls stall info : Nat) (fatal : Bool) :
    (b.logFault page event cls stall info fatal).trvErr = b.trvErr ∧ (b.logFault page event cls stall info fatal).fatal = b.fatal := by
  refine Board.logFault_keeps (P := fun c => c.trvErr = b.trvErr ∧ c.fatal = b.fatal) (fun _ _ h => h) (fun _ _ _ _ h => h) (fun c p k n h => ?_) (fun c e h => ?_) ⟨rfl, rfl⟩ _ _ _ _ _ _
  · unfold Board.tally
    split <;> exact h
  · have hsame := (c.raise_frame pFLT e).same
    exact ⟨(congrArg Board.trvErr hsame :).trans h.1, (congrArg Board.fatal hsame :).trans h.2⟩

theorem Board.logFault_ownersKept (b : Board) (page event cls stall info : Nat) (fatal : Bool) : b.OwnersKept (b.logFault page event cls stall info fatal) :=
  ⟨(b.logFault_trv _ _ _ _ _ _).1, fun p f ho he hn => (b.logFault_beside _ _ _ _ _ _).get p f ⟨ho, he, fun h => hn (List.mem_cons_of_mem _ h)⟩,
    fun _ hf => b.logFault_fatal _ _ _ _ _ _ hf⟩

section
variable {b c : Board} (h : b.OwnersKept c)
include h

theorem Board.OwnersKept.on (p : Nat) (f : Fld) (ho : f.off < 4096 ∧ eventReg p f.off = false ∧ (p, f.off / 4) ∉ (pTRV, 24) :: faultWords) : c.on p f = b.on p f := by
  unfold Board.on
  rw [h.get p f ho.1 ho.2.1 ho.2.2]

theorem Board.OwnersKept.voted (w v : Nat) : c.voted w v = b.voted w v := by
  unfold Board.voted
  rw [h.err]

theorem Board.OwnersKept.stackLost {k : Nat} (hk : k < 4) : c.stackLost k = b.stackLost k := by
  have hreg : ∀ k < 4, eventReg (pFCC k) F.FCC_CAUSE.STACK_LOST.off = false ∧ (pFCC k, F.FCC_CAUSE.STACK_LOST.off / 4) ∉ (pTRV, 24) :: faultWords := by decide
  exact h.on _ _ ⟨by decide, hreg k hk⟩

theorem Board.OwnersKept.dieState {n : Nat} (hn : n < 16) (d : Nat) : c.dieState n d = b.dieState n d := by
  have hreg : ∀ n < 16, eventReg (pMCH n) F.MCH_DIE_STATE.DIE.off = false ∧ (pMCH n, F.MCH_DIE_STATE.DIE.off / 4) ∉ (pTRV, 24) :: faultWords := by decide
  unfold Board.dieState
  rw [h.get _ _ (by decide) (hreg n hn).1 (hreg n hn).2]

theorem Board.OwnersKept.dirtyLimit : c.dirtyLimit = b.dirtyLimit := by
  have hreg : ∀ k < 4, eventReg (pFCC k) F.UNIT_STATE.STATE.off = false ∧ (pFCC k, F.UNIT_STATE.STATE.off / 4) ∉ (pTRV, 24) :: faultWords := by decide
  have hserves : (List.range 4).filter (fun k => c.serves (pFCC k)) = (List.range 4).filter (fun k => b.serves (pFCC k)) := List.filter_congr fun k hk =>
    have hk := hreg k (List.mem_range.1 hk)
    Board.serves_congr (h.get _ F.UNIT_STATE.STATE (by decide) hk.1 hk.2)
  unfold Board.dirtyLimit Board.rawLimit Board.slotsAvailable Board.declared Board.cacheOn
  rw [h.voted, hserves, h.on pFCM F.FCM_STAT.ENABLED (by decide), h.on pPDR F.PDR_CFG.DECLARED (by decide), h.get pPDR F.PDR_HOLDUP_US.US (by decide) (by decide) (by decide)]

theorem Board.OwnersKept.failedDies {k : Nat} (hk : k < 4) : c.failedDies k = b.failedDies k := by
  unfold Board.failedDies
  refine congrArg List.sum (List.map_congr_left fun n hn => ?_)
  have hn := List.mem_range.1 hn
  rw [h.dieState (by omega)]

theorem Board.OwnersKept.pack {l : List (Nat × Fld)} (hl : ∀ e ∈ l, (e.2.off < 4096 ∧ eventReg e.1 e.2.off = false ∧ (e.1, e.2.off / 4) ∉ (pTRV, 24) :: faultWords) ∨ e.1 = pFLT ∧ e.2 ∈ fatalFields) :
    c.pack l = b.pack l := by
  induction l with
  | nil => rfl
  | cons e l ih =>
    have hget : c.get e.1 e.2 = b.get e.1 e.2 := by
      rcases hl e (List.mem_cons_self ..) with ⟨ho, he, hn⟩ | ⟨hp, hf⟩
      · exact h.get _ _ ho he hn
      · rw [hp]
        exact h.fatal _ hf
    show c.get e.1 e.2 + 2 ^ e.2.width * c.pack l = b.get e.1 e.2 + 2 ^ e.2.width * b.pack l
    rw [hget, ih fun e he => hl e (List.mem_cons_of_mem _ he)]

end

theorem trvFields_owned : ∀ w < 32, ∀ e ∈ trvFields w, (e.2.off < 4096 ∧ eventReg e.1 e.2.off = false ∧ (e.1, e.2.off / 4) ∉ (pTRV, 24) :: faultWords) ∨ e.1 = pFLT ∧ e.2 ∈ fatalFields := by
  decide

theorem State.trvWord_congr {s t : State} (h : s.SameBelow t) (k : s.bd.OwnersKept t.bd) {w : Nat} (hw : w < 32) : t.trvWord w = s.trvWord w := by
  have hslot : t.slot = s.slot := (congrArg State.slot h :)
  have hwp : t.wp = s.wp := (congrArg State.wp h :)
  have hepoch : t.rawEpoch = s.rawEpoch := congrArg (fun p => (Pst.counter p 2).getD 0) (congrArg State.pst h :)
  have hstacks : (List.range 12).map (fun n => bit (t.bd.stackLost (n % 4)) * 2 ^ n) = (List.range 12).map (fun n => bit (s.bd.stackLost (n % 4)) * 2 ^ n) :=
    List.map_congr_left fun n _ => by rw [k.stackLost (Nat.mod_lt _ (by decide))]
  have hstacks' : (List.range 4).map (fun n => bit (t.bd.stackLost n) * 2 ^ (12 + n)) = (List.range 4).map (fun n => bit (s.bd.stackLost n) * 2 ^ (12 + n)) :=
    List.map_congr_left fun n hn => by rw [k.stackLost (List.mem_range.1 hn)]
  have hdies : 24 ≤ w ∧ w ≤ 27 → t.bd.failedDies (w - 24) = s.bd.failedDies (w - 24) := fun hw => k.failedDies (by omega)
  unfold State.trvWord State.keyEpoch
  rw [hslot, hwp, hepoch, hstacks, hstacks', k.dirtyLimit, k.voted, k.get pCKP F.CKP_STAT.PHASE (by decide) (by decide) (by decide), k.pack (trvFields_owned w hw)]
  by_cases h24 : 24 ≤ w ∧ w ≤ 27
  · rw [hdies h24]
  · simp only [if_neg h24]

/-! ### The voter (R480, R481) and its test flip (R485) -/

/-- A fold that changes something at one element of its list only. -/
theorem foldl_at {α β : Type} [DecidableEq β] (g : α → β → α) (w : β) : ∀ (l : List β) (a : α), l.Nodup →
    l.foldl (fun a x => if w = x then g a x else a) a = if w ∈ l then g a w else a := by
  intro l
  induction l with
  | nil => exact fun _ _ => rfl
  | cons x l ih =>
    intro a hl
    obtain ⟨hx, hl⟩ := List.nodup_cons.1 hl
    rw [List.foldl_cons, ih _ hl]
    by_cases h : w = x
    · subst h
      simp [hx]
    · simp [h]

theorem majority_left (a c : Nat) : majority c a a = a := by
  refine Nat.eq_of_testBit_eq fun i => ?_
  show (c &&& a ||| c &&& a ||| a &&& a).testBit i = a.testBit i
  simp only [Nat.testBit_or, Nat.testBit_and]
  cases a.testBit i <;> cases c.testBit i <;> rfl

theorem majority_middle (a c : Nat) : majority a c a = a := by
  refine Nat.eq_of_testBit_eq fun i => ?_
  show (a &&& c ||| a &&& a ||| c &&& a).testBit i = a.testBit i
  simp only [Nat.testBit_or, Nat.testBit_and]
  cases a.testBit i <;> cases c.testBit i <;> rfl

theorem majority_right (a c : Nat) : majority a a c = a := by
  refine Nat.eq_of_testBit_eq fun i => ?_
  show (a &&& a ||| a &&& c ||| a &&& c).testBit i = a.testBit i
  simp only [Nat.testBit_or, Nat.testBit_and]
  cases a.testBit i <;> cases c.testBit i <;> rfl

theorem xor_mask_ne {a m : Nat} (h : m ≠ 0) : Nat.xor a m ≠ a := fun e => h (by
  have h' : a ^^^ (a ^^^ m) = a ^^^ a := congrArg (Nat.xor a) e
  rwa [← Nat.xor_assoc, Nat.xor_self, Nat.zero_xor] at h')

/-- The board that has repaired copy `k` of a word. -/
def Board.repaired (b : Board) (w k v copy : Nat) : Board := (b.count pTRV F.TRV_REPAIRS.COUNT 1).told pTRV (ev E.TRV.REPAIRED (w + k * 2 ^ 5) v copy 0) 11 0 v

/-- Copies whose majority is the word's value, and of which one differs, have that one repaired (R481). -/
theorem State.vote_one {s : State} {w k : Nat} {copies : List Nat} (hv : majority (copies.getD 0 0) (copies.getD 1 0) (copies.getD 2 0) = s.trvWord w)
    (hb : (List.range 3).filter (fun n => decide (copies.getD n 0 ≠ s.trvWord w)) = [k]) : s.vote w copies = s.on (·.repaired w k (s.trvWord w) (copies.getD k 0)) := by
  unfold State.vote
  dsimp only
  rw [hv, if_pos rfl, hb]
  rfl

theorem State.vote_repairs (s : State) (w : Nat) (k : Fin 3) {m : Nat} (hm : m ≠ 0) :
    s.vote w ((List.range 3).map (fun n => if n = k.val then Nat.xor (s.trvWord w) m else s.trvWord w)) = s.on (·.repaired w k.val (s.trvWord w) (Nat.xor (s.trvWord w) m)) := by
  have hne : s.trvWord w ^^^ m ≠ s.trvWord w := xor_mask_ne hm
  match k with
  | 0 => exact State.vote_one (k := 0) (majority_left _ _) (by simp [List.range_succ, List.filter, hne])
  | 1 => exact State.vote_one (k := 1) (majority_middle _ _) (by simp [List.range_succ, List.filter, hne])
  | 2 => exact State.vote_one (k := 2) (majority_right _ _) (by simp [List.range_succ, List.filter, hne])

theorem State.copiesOf_one (s : State) (w k m : Nat) : s.copiesOf [(w, k, m)] w = (List.range 3).map (fun n => if n = k then Nat.xor (s.trvWord w) m else s.trvWord w) := by
  unfold State.copiesOf
  refine List.map_congr_left fun n _ => ?_
  by_cases h : n = k
  · subst h; simp
  · simp [h, Ne.symm h]

/-- The board as a scrub begins. -/
def Board.scrubbed (b : Board) : Board := b.elapse 15 (b.get pTRV F.TRV_CFG.SCRUB_US)

/-- With no flip armed a scrub votes the words that upsets have changed. -/
theorem State.trvScrub_unarmed {s : State} (h : s.bd.on pTRV F.TRV_FLIP_CTL.ARM = false) (l : List (Nat × Nat × Nat)) :
    s.trvScrub l = (List.range 32).foldl (fun t w => if l.any (fun u => u.1 == w) then t.vote w (t.copiesOf l w) else t) (s.on Board.scrubbed) := by
  have harm : (s.on (fun b => b.elapse 15 (b.get pTRV F.TRV_CFG.SCRUB_US))).bd.on pTRV F.TRV_FLIP_CTL.ARM = false := h
  unfold State.trvScrub
  simp only [harm, Bool.false_eq_true, if_false]
  rfl

theorem State.trvScrub_none {s : State} (h : s.bd.on pTRV F.TRV_FLIP_CTL.ARM = false) : s.trvScrub [] = s.on Board.scrubbed := by
  rw [State.trvScrub_unarmed h]
  simp

theorem State.trvScrub_one {s : State} (h : s.bd.on pTRV F.TRV_FLIP_CTL.ARM = false) {w : Nat} (k : Fin 3) {m : Nat} (hw : w < 32) (hm : m ≠ 0) :
    s.trvScrub [(w, k.val, m)] = (s.on Board.scrubbed).on (·.repaired w k.val ((s.on Board.scrubbed).trvWord w) (Nat.xor ((s.on Board.scrubbed).trvWord w) m)) := by
  have hfold := foldl_at (fun (t : State) x => t.vote x (t.copiesOf [(w, k.val, m)] x)) w (List.range 32) (s.on Board.scrubbed) List.nodup_range
  rw [if_pos (List.mem_range.2 hw), State.copiesOf_one, State.vote_repairs _ _ _ hm] at hfold
  rw [← hfold, State.trvScrub_unarmed h]
  simp

theorem Board.count_fatal (b : Board) (p : Nat) (f : Fld) (n : Nat) : (b.count p f n).fatal = b.fatal := by
  unfold Board.count Board.tally
  split <;> rfl

theorem Board.raise_fatal (b : Board) (p : Nat) (e : Ev) : (b.raise p e).fatal = b.fatal := (congrArg Board.fatal (b.raise_frame p e).same :)

theorem Board.told_fatal (b : Board) (p : Nat) (e : Ev) (cls stall info : Nat) : (b.told p e cls stall info).fatal = b.fatal :=
  (Board.logFault_trv _ _ _ _ _ _ _).2.trans (b.raise_fatal p e)

theorem Board.repaired_shows (b : Board) (w k v copy : Nat) : b.OwnersKept (b.repaired w k v copy) ∧ (b.repaired w k v copy).fatal = b.fatal
    ∧ ((b.repaired w k v copy).rd pTRV 0x010).getLsbD E.TRV.REPAIRED = true
    ∧ (b.repaired w k v copy).get pTRV F.TRV_REPAIRS.COUNT = min (2 ^ F.TRV_REPAIRS.COUNT.width - 1) (b.get pTRV F.TRV_REPAIRS.COUNT + 1) := by
  refine ⟨(b.repaired_ownersKept.trans (Board.raise_ownersKept _ _ _)).trans (Board.logFault_ownersKept _ _ _ _ _ _ _), ?_, Board.told_status _ _ _ _ _ _ (show E.TRV.REPAIRED < 32 by decide), ?_⟩
  · exact (Board.told_fatal _ _ _ _ _ _).trans (b.count_fatal _ _ _)
  · exact ((Board.told_beside _ _ _ _ _ _).get _ _ (by decide)).trans (Board.get_count_self _ _ _ _ (by decide))

theorem Board.scrubbed_ownersKept (b : Board) : b.OwnersKept b.scrubbed := b.elapse_ownersKept _ _

/-- A repair leaves the word as its owner wrote it. -/
theorem State.trvWord_repaired (s : State) {n : Nat} (hn : n < 32) (w k v copy : Nat) : ((s.on Board.scrubbed).on (·.repaired w k v copy)).trvWord n = s.trvWord n :=
  State.trvWord_congr (((State.SameBelow.refl s).on Board.scrubbed).on (·.repaired w k v copy)) (s.bd.scrubbed_ownersKept.trans (s.bd.scrubbed.repaired_shows w k v copy).1) hn

section
variable {s : State} {p : Path} (hg : s.bd.gate p pTRV 0x058 false false = none) (copy : Fin 4) (w : Fin 32)
include hg

theorem State.trvFlipArm_denied (h : s.bd.unit pTRV ≠ stTEST) : s.trvFlipArm p copy.val w.val = s.rejects p pTRV 0x058 .denied :=
  (State.written_pass hg).trans (congrArg (fun b => { s with bd := b }) (if_pos h))

theorem State.trvFlipArm_arms (h : s.bd.unit pTRV = stTEST) (hm : s.bd.get pTRV F.TRV_FLIP_MASK.MASK ≠ 0) :
    s.trvFlipArm p copy.val w.val = s.on (fun b => b.wr pTRV 0x058 (BitVec.ofNat 32 (1 + copy.val * 2 + w.val * 8) &&& 0xFF)) :=
  (State.written_pass hg).trans (congrArg (fun b => { s with bd := b }) ((if_neg (not_not_intro h)).trans (if_neg fun e => hm e.2)))

end

theorem flipCtl_byte (copy : Fin 4) (w : Fin 32) : BitVec.ofNat 32 (1 + copy.val * 2 + w.val * 8) &&& 0xFF = BitVec.ofNat 32 (1 + copy.val * 2 + w.val * 8) := by
  have hlt : 1 + copy.val * 2 + w.val * 8 < 2 ^ 8 := by omega
  refine BitVec.eq_of_toNat_eq ?_
  rw [BitVec.toNat_and]
  show _ &&& (2 ^ 8 - 1) = _
  rw [Nat.and_two_pow_sub_one_eq_mod, BitVec.toNat_ofNat]
  omega

end Sys2Proof.Machine

open Sys2Proof Sys2Proof.Machine

/-- Settles O59: queue by queue, counter by counter and word by word. The ports, and that END acts before START, are the model's choice (log entry 102), as are the content of the triplicated words
(log entries 105, 162) and the times that a step carries (log entry 43). -/
theorem queuesCountersAndVoter : Obligations.QueuesCountersAndVoter := by
  intro s p
  refine ⟨fun q len hg hlen ho hmax hen hfree => ?_, fun d hg => ⟨fun ho => ?_, fun ho hl hc => ?_⟩, fun ho => ⟨fun hg hs => ?_, ?_⟩, fun hg => ⟨fun n k hn hk => ?_, fun n hn hk => ?_⟩, ?_,
    fun m point k x hx => ?_, fun hsnap hdue hclock hclear => ⟨fun hg => ?_, fun hp ha => ?_⟩, fun x hx => ?_, fun harm => ⟨?_, fun w k bits hb => ?_⟩, fun copy w hg => ⟨fun hu => ?_, fun hu hm => ?_⟩⟩
  · obtain ⟨w, hport⟩ := Board.pushCtl_takes q len hlen ho hmax hen hfree
    refine ⟨_, Ends.of_quick (exec_pushStart _ _ _ s) (State.written_pass hg), (State.SameBelow.refl s).on _, ?_⟩
    rw [State.on_bd, hport]
    exact ⟨rfl, rfl, rfl, rfl, rfl, rfl⟩
  · exact Ends.of_quick (exec_pushData _ _ s) ((State.written_pass hg).trans (congrArg (fun b => { s with bd := b }) (Board.pushData_closed ho d)))
  · refine ⟨_, Ends.of_quick (exec_pushData _ _ s) (State.written_pass hg), (State.SameBelow.refl s).on _, ?_⟩
    rw [State.on_bd, Board.pushData_fits ho hl hc]
    exact ⟨Board.port_setPort _ _ _, Board.setPort_regs _ _ _⟩
  · refine ⟨_, Ends.of_quick (exec_pushEnd _ s) (State.written_pass hg), (State.SameBelow.refl s).on _, ?_⟩
    rw [State.on_bd, Board.pushCtl_ends ho hs]
    exact Board.closePush_closed _ _ _
  · exact ⟨_, Ends.of_quick (exec_pushTimeout _ s) (State.pushTimeout_cuts ho), rfl, Board.truncatePush_shows _ _ _⟩
  · refine ⟨_, Ends.of_quick (exec_queuePop _ s) (State.written_pass hg), (State.SameBelow.refl s).on _, ?_⟩
    rw [State.on_bd, Board.pop_some hn hk]
    exact ⟨Board.queue_setQueue _ _ _, Board.get_put_self _ _ _ _ (by decide), (s.bd.setQueue_only _ _ _).put _ (by decide) (by decide)⟩
  · refine ⟨_, Ends.of_quick (exec_queuePop _ s) (State.written_pass hg), (State.SameBelow.refl s).on _, ?_⟩
    rw [State.on_bd, Board.pop_none hn hk]
    refine ⟨Board.count_queues _ _ _ _, (Board.get_count_clear _ _ (by decide) (by decide)).trans (Board.get_put_self _ _ _ _ (by decide)), (Board.get_count_self _ _ _ _ (by decide)).trans ?_⟩
    rw [Board.get_put_clear _ _ (by decide) (by decide)]
  · exact ⟨_, Runs.of_run (exec_qosWindow s) rfl, rfl, rfl, rfl, rfl, rfl⟩
  · obtain ⟨hev, hcount⟩ := s.bd.promotion_shows m.val point.val
    exact ⟨_, Ends.of_quick (exec_qosPromote _ _ _ s) (State.qosPromote_tells hx), hev, rfl, hcount⟩
  · have hidle : s.on Board.followCounters = s := congrArg (fun b => { s with bd := b }) (Board.followCounters_idle hdue hclock)
    obtain ⟨hlatched, hbusy, honly, _⟩ := Board.latchSnap_shows hclear false
    refine ⟨_, Ends.of_quick (exec_snap _ s) ((congrArg (fun t => State.snap t p) hidle).trans (State.written_pass hg)), rfl, ?_⟩
    rw [State.on_bd, Board.snapNow_latches hsnap]
    exact ⟨hlatched, hbusy, honly⟩
  · have hidle : s.on Board.followCounters = s := congrArg (fun b => { s with bd := b }) (Board.followCounters_idle hdue hclock)
    obtain ⟨hlatched, hbusy, _, hnow⟩ := Board.latchSnap_shows (b := s.bd.elapse 14 (s.bd.get pPMC F.PMC_PERIOD.MS * 1000)) hclear true
    exact ⟨_, Ends.of_quick (exec_pmcAutoSnap s) ((congrArg State.autoSnap hidle).trans (State.autoSnap_latches hp ha hsnap)), rfl, hlatched, hbusy, hnow⟩
  · obtain ⟨auto, counts, missing, time⟩ := x
    exact ⟨_, Ends.of_quick (exec_snapDone s) (State.snapDone_tells hx), rfl, s.bd.snapTold_shows auto counts missing time⟩
  · exact ⟨_, Runs.of_run (exec_trvScrub [] s) (State.trvScrub_none harm), rfl, rfl⟩
  · have hbits : bits.toNat ≠ 0 := fun e => hb (BitVec.eq_of_toNat_eq e)
    obtain ⟨-, hfatal, hev, hcount⟩ := s.bd.scrubbed.repaired_shows w.val k.val ((s.on Board.scrubbed).trvWord w.val) (Nat.xor ((s.on Board.scrubbed).trvWord w.val) bits.toNat)
    exact ⟨_, Runs.of_run (exec_trvScrub _ s) (State.trvScrub_one harm k w.isLt hbits), rfl, s.trvWord_repaired w.isLt _ _ _ _, hfatal, hev, hcount⟩
  · exact ⟨_, Ends.of_quick (exec_trvFlipArm _ _ _ s) (State.trvFlipArm_denied hg copy w hu), s.rejects_shows _ _ _ _⟩
  · refine ⟨_, Ends.of_quick (exec_trvFlipArm _ _ _ s) (State.trvFlipArm_arms hg copy w hu hm), rfl, ?_, (Board.Only.refl s.bd _).wr _ (by decide) (by decide)⟩
    exact (Board.rd_wr_self _ _ _ _).trans (flipCtl_byte copy w)

end

section
/-! The PUF, the generator, boot verification, sessions, tokens and tamper (O56): R404, R405, R411 to R418. That a check comes as its outcome, and sessions as the model numbers them, are the model's
choices (log entries 109, 127); so is the time that a missed heartbeat carries (log entry 43). -/

namespace Sys2Proof.Machine

theorem exec_pufReconstruct (n : Fin 4) (s : State) : exec (.pufReconstruct n) s = s.quick (fun s => s.pufReconstruct n.val) := rfl
theorem exec_rbgHealthFail (s : State) : exec .rbgHealthFail s = s.quick State.rbgFail := rfl
theorem exec_rbgHealthPass (s : State) : exec .rbgHealthPass s = s.quick State.rbgPass := rfl
theorem exec_fwBootVerify (pk sg : Fin 32) (s : State) : exec (.fwBootVerify pk sg) s = s.quick (fun s => s.bootVerify pk.val sg.val) := rfl
theorem exec_storeOpr (p : Path) (auth : Bool) (s : State) : exec (.storeOpr p auth) s = s.quick (fun s => s.storeOpr p auth) := rfl
theorem exec_dbgNonce (s : State) : exec .dbgNonce s = s.quick State.dbgNonce := rfl
theorem exec_dbgToken (uuid nonce : BitVec 128) (scope : BitVec 8) (sg : Bool) (s : State) :
    exec (.dbgToken uuid nonce scope sg) s = s.run (fun s => s.dbgToken uuid.toNat nonce.toNat scope.toNat sg) := rfl
theorem exec_tamper (ns : Nat) (held : Bool) (s : State) : exec (.tamper ns held) s = s.run (fun s => s.tamper ns held) := rfl
theorem exec_spdmRequest (mb : Option (Fin 8)) (k : BitVec 16) (code : BitVec 8) (ok : Bool) (s : State) :
    exec (.spdmRequest mb k code ok) s = s.quick (fun s => s.spdmRequest (mb.map Fin.val) k.toNat code.toNat ok) := rfl
theorem exec_getMeasurements (mb : Option (Fin 8)) (k : BitVec 16) (index : BitVec 8) (sign : Bool) (s : State) :
    exec (.getMeasurements mb k index sign) s = s.quick (fun s => s.getMeasurements (mb.map Fin.val) k.toNat index.toNat sign) := rfl
theorem exec_keyExchange (mb : Option (Fin 8)) (root : Line) (ok : Bool) (s : State) :
    exec (.keyExchange mb root ok) s = s.quick (fun s => s.keyExchange (mb.map Fin.val) root ok) := rfl
theorem exec_heartbeatTimeout (k : BitVec 16) (s : State) : exec (.heartbeatTimeout k) s = s.quick (fun s => s.heartbeatTimeout k.toNat) := rfl

/-! ### The PUF and the generator (R404, R405) -/

/-- The board with the UUID in its registers. -/
def Board.identified (b : Board) : Board :=
  (List.range 4).foldl (fun (b : Board) k => b.put pSEC (F.SEC_UUID.UUID.ix k) (uuidValue / 2 ^ (32 * k))) (b.put pSEC F.SEC_STAT.PUF_OK 1)

theorem Board.identified_ok (b : Board) : b.identified.on pSEC F.SEC_STAT.PUF_OK = true := by
  have honly : ∀ k < 4, ∀ c : Board, c.on pSEC F.SEC_STAT.PUF_OK = true → (c.put pSEC (F.SEC_UUID.UUID.ix k) (uuidValue / 2 ^ (32 * k))).on pSEC F.SEC_STAT.PUF_OK = true :=
    fun k hk c hc => (Board.on_put_clear _ _ ⟨by decide, by simp [Fld.ix]; omega, by decide⟩ (.inr (.inl (by simp [Fld.ix]; omega)))).trans hc
  exact List.foldlRecOn (motive := fun c : Board => c.on pSEC F.SEC_STAT.PUF_OK = true) _ _ (Board.on_put_one _ _ _ (by decide)) fun c hc k hk => honly k (List.mem_range.1 hk) c hc

/-- Four words in the UUID registers. -/
theorem Board.uuidWords_get (b : Board) (v : Nat → Nat) {k : Nat} (hk : k < 4) :
    ((List.range 4).foldl (fun (b : Board) k => b.put pSEC (F.SEC_UUID.UUID.ix k) (v k)) b).get pSEC (F.SEC_UUID.UUID.ix k) = v k % 2 ^ 32 := by
  simp only [List.range_succ, List.range_zero, List.nil_append, List.cons_append, List.foldl_cons, List.foldl_nil]
  interval_cases k <;> simp (disch := decide) only [Board.get_put_clear, Board.get_put_self] <;> rfl

theorem Board.identified_uuid (b : Board) {k : Nat} (hk : k < 4) : b.identified.get pSEC (F.SEC_UUID.UUID.ix k) = uuidValue / 2 ^ (32 * k) % 2 ^ 32 :=
  Board.uuidWords_get _ _ hk

/-- A cause of SEC that opens is open, whatever state the unit was in (R404). -/
theorem Board.secFail_on (b : Board) {f : Fld} (ho : f.off = 0x48 ∧ f.lo + f.width ≤ 32 ∧ 1 % 2 ^ f.width = 1) : (b.secFail f).on pSEC f = true := by
  have hopen := (b.openCause_shows (page := pSEC) (f := f) ⟨by omega, ho.2⟩ (by omega) (by decide)).1
  unfold Board.secFail
  dsimp only
  split
  · exact ((Board.toState_only _ _ _).on _ _ (by rw [ho.1]; decide)).trans hopen
  · exact hopen

theorem Board.secFail_only (b : Board) {f : Fld} (ho : f.off = 0x48) : b.Only (b.secFail f) [(pSEC, 18), (pSEC, 2), (pMGT, 23)] := by
  have hopen : b.Only (b.openCause pSEC f) [(pSEC, 18), (pSEC, 2), (pMGT, 23)] := (b.openCause_only pSEC (by omega)).mono (by simp [ho])
  unfold Board.secFail
  dsimp only
  split
  · exact hopen.trans ((Board.toState_only _ _ _).mono (by simp))
  · exact hopen

/-- The board on which the PUF has failed for the third time. -/
def Board.pufFailed (b : Board) : Board := (b.secFail F.SEC_CAUSE.PUF_FAIL).told pSEC (ev E.SEC.PUF_FAIL 3 0 0 0) 0 0 0

theorem Board.pufFailed_shows (b : Board) : b.pufFailed.on pSEC F.SEC_CAUSE.PUF_FAIL = true ∧ (b.pufFailed.rd pSEC 0x010).getLsbD E.SEC.PUF_FAIL = true :=
  ⟨((Board.told_beside _ _ _ _ _ _).on _ _ (by decide)).trans (b.secFail_on (by decide)), Board.told_status _ _ _ _ _ _ (show E.SEC.PUF_FAIL < 32 by decide)⟩

section
variable {s : State} (hp : s.bd.powered pSEC = true) (hok : s.bd.on pSEC F.SEC_STAT.PUF_OK = false) (hf : s.bd.on pSEC F.SEC_CAUSE.PUF_FAIL = false)
include hp hok hf

theorem State.pufReconstruct_passes {n : Nat} (hn : n < 3) : s.pufReconstruct n = s.on Board.identified := (if_neg (by simp [hp, hok, hf])).trans (if_pos hn)

theorem State.pufReconstruct_fails : s.pufReconstruct 3 = s.on Board.pufFailed := (if_neg (by simp [hp, hok, hf])).trans (if_neg (by decide))

end

/-- The board once the generator has failed its test. -/
def Board.rbgFailed (b : Board) : Board := (b.openCause pSEC F.SEC_CAUSE.INTERNAL).logContained (b.on pSEC F.SEC_CAUSE.INTERNAL) pSEC 0 0

theorem Board.rbgFailed_on (b : Board) : b.rbgFailed.on pSEC F.SEC_CAUSE.INTERNAL = true := by
  have hopen := (b.openCause_shows (page := pSEC) (f := F.SEC_CAUSE.INTERNAL) (by decide) (by decide) (by decide)).1
  unfold Board.rbgFailed Board.logContained
  split
  · exact hopen
  · exact ((Board.logFault_beside _ _ _ _ _ _ _).on _ _ (by decide)).trans hopen

theorem State.rbgFail_eq {s : State} (hp : s.bd.powered pSEC = true) : s.rbgFail = ({ s with keys := { s.keys with rbgBad := true } } : State).on Board.rbgFailed := if_neg (by simp [hp])

/-! ### Boot verification (R411) -/

theorem Board.fwInvalid_shows (b : Board) : b.fwInvalid.on pSEC F.SEC_CAUSE.FW_INVALID = true ∧ b.fwInvalid.on pSEC F.SEC_STAT.RT_VERIFIED = b.on pSEC F.SEC_STAT.RT_VERIFIED := by
  have hlog := (b.secFail F.SEC_CAUSE.FW_INVALID).logFault_beside pSEC E.SEC.FW_FALLBACK 0 0 0 false
  exact ⟨(hlog.on _ _ (by decide)).trans (b.secFail_on (by decide)), (hlog.on _ _ (by decide)).trans ((b.secFail_only rfl).on _ _ (by decide))⟩

/-- Without the key's hash no image verifies (R409). -/
theorem State.verifyImage_unkeyed (s : State) (h typ : Nat) (sig : Bool) : s.verifyImage h typ false sig ≠ .ok := by
  unfold State.verifyImage
  split
  · decide
  split
  · decide
  split
  · decide
  split
  · decide
  · rw [if_pos (by decide)]
    decide

/-- The BL1 copy that the ROM tries first: that of the higher SVN, then of the higher VERSION, and the first of two alike (R411). -/
def State.firstBl1 (s : State) : Nat :=
  if decide (imageSvn (s.sec.image 3) < imageSvn (s.sec.image 4))
      || (decide (imageSvn (s.sec.image 3) = imageSvn (s.sec.image 4)) && decide (imageVersion (s.sec.image 3) < imageVersion (s.sec.image 4))) then 1 else 0

theorem State.firstBl1_places (s : State) : (3 + s.firstBl1 = 3 ∨ 3 + s.firstBl1 = 4) ∧ (4 - s.firstBl1 = 3 ∨ 4 - s.firstBl1 = 4) := by
  unfold State.firstBl1
  split <;> decide

/-- The state once a BL1 copy has been booted. -/
def State.bl1Booted (s : State) (pk sg : Nat) : State := (s.on (fun b => b.put pSEC F.SEC_STAT.BL1_COPY s.firstBl1)).copyStaged s.firstBl1 (nbit pk 2) (nbit sg 2)

/-- The state once a BL1 copy has been booted, where the check of the `first` answers `c`. -/
def State.bl1Chosen (s : State) (first : Nat) (c : Code) (pk sg : Nat) : State :=
  let bl1 := if c = .ok then first else 1 - first
  (s.on (fun b => (if c = .ok then b else b.fellBack 1 first c).put pSEC F.SEC_STAT.BL1_COPY bl1)).copyStaged bl1 (nbit pk 2) (nbit sg 2)

/-- The check of a runtime slot as the part stood before the boot. -/
def State.rtCheck (s : State) (pk sg k : Nat) : Code := s.verifyImage (s.sec.image k) 2 (nbit pk k) (nbit sg k)

/-- The board that runs the image of a slot. -/
def Board.rtBooted (b : Board) (slot h : Nat) : Board :=
  (((b.put pSEC F.SEC_STAT.RT_VERIFIED 1).put pSEC F.SEC_STAT.RT_SLOT slot).put pSEC F.SEC_FW_VER.VERSION (imageVersion h)).put pSEC F.SEC_FW_SVN.SVN (imageSvn h)

theorem State.copyStaged_shows (s : State) (booted : Nat) (pk sg : Bool) :
    (s.copyStaged booted pk sg).bd.get pSEC F.SEC_BOOT.NEXT = s.bd.get pSEC F.SEC_BOOT.NEXT ∧ (s.copyStaged booted pk sg).bd.on pPST F.PST_PROTECT.QUARTER = true := by
  refine ⟨?_, Board.on_put_one _ _ _ (by decide)⟩
  have hstored : ∀ t : State, t.bd = s.bd → ((t.on (fun b => b.put pSEC F.SEC_BOOT.BL1_STAGED 0)).storeBoot).bd.get pSEC F.SEC_BOOT.NEXT = s.bd.get pSEC F.SEC_BOOT.NEXT := fun t ht => by
    rw [← ht]
    exact ((State.store_only _ _ _).get _ _ (by decide)).trans (Board.get_put_clear _ _ (by decide) (by decide))
  unfold State.copyStaged
  refine (Board.get_put_clear _ _ (by decide) (by decide)).trans ?_
  split
  · refine hstored _ ?_
    split <;> rfl
  · rfl

/-- The state that runs a runtime image: NEXT where it passes the check, LAST_GOOD after it, and none where both fail (R411). -/
def State.rtChosen (t : State) (check : Nat → Code) : State :=
  let next := t.bd.get pSEC F.SEC_BOOT.NEXT
  let good := t.bd.get pSEC F.SEC_BOOT.LAST_GOOD
  if check next ≠ .ok ∧ check good ≠ .ok then t.on Board.fwInvalid
  else
    let slot := if check next = .ok then next else good
    t.on (fun b => (if check next = .ok then b else b.fellBack 0 next (check next)).rtBooted slot (t.sec.image slot))

theorem State.rtChosen_next {t : State} {check : Nat → Code} (h : check (t.bd.get pSEC F.SEC_BOOT.NEXT) = .ok) :
    t.rtChosen check = t.on (·.rtBooted (t.bd.get pSEC F.SEC_BOOT.NEXT) (t.sec.image (t.bd.get pSEC F.SEC_BOOT.NEXT))) := by
  unfold State.rtChosen
  simp [h]

theorem Board.rtBooted_shows (b : Board) (slot h : Nat) : (b.rtBooted slot h).on pSEC F.SEC_STAT.RT_VERIFIED = true ∧ (b.rtBooted slot h).get pSEC F.SEC_STAT.RT_SLOT = slot % 2
    ∧ (b.rtBooted slot h).on pPST F.PST_PROTECT.QUARTER = b.on pPST F.PST_PROTECT.QUARTER := by
  have hver : ∀ (c : Board) p (f : Fld) v w, f.off < 4096 ∧ f.lo + f.width ≤ 32 → (p, f.off / 4) ≠ (pSEC, 19) ∧ (p, f.off / 4) ≠ (pSEC, 20) →
      ((c.put pSEC F.SEC_FW_VER.VERSION v).put pSEC F.SEC_FW_SVN.SVN w).get p f = c.get p f := fun c p f v w hf hp =>
    (((Board.Only.refl c [(pSEC, 19), (pSEC, 20)]).put v (by decide) (by decide)).put w (by decide) (by decide)).get p f ⟨hf.1, by simp [hp.1, hp.2]⟩
  refine ⟨Board.on_iff.2 ?_, ?_, ?_⟩
  · exact (hver _ _ _ _ _ (by decide) (by decide)).trans ((Board.get_put_clear _ _ (by decide) (by decide)).trans (Board.get_put_self _ _ _ _ (by decide)))
  · exact (hver _ _ _ _ _ (by decide) (by decide)).trans (Board.get_put_self _ _ _ _ (by decide))
  · unfold Board.on
    exact congrArg (fun n => decide (n = 1)) ((hver _ _ _ _ _ (by decide) (by decide)).trans ((Board.get_put_clear _ _ (by decide) (by decide)).trans (Board.get_put_clear _ _ (by decide) (by decide))))

section
variable {s : State} (hp : s.bd.powered pSEC = true) (hst : s.seq.stage ≠ 0) (hv : s.bd.on pSEC F.SEC_STAT.RT_VERIFIED = false) (hf : s.bd.on pSEC F.SEC_CAUSE.FW_INVALID = false) (pk sg : Nat)
include hp hst hv hf

theorem State.bootVerify_uncounted (hc : ∃ k, k < 4 ∧ s.pst.counter k = none) : s.bootVerify pk sg = s.on Board.fwInvalid := by
  obtain ⟨k, hk, hn⟩ := hc
  refine (if_neg (by simp [hp, hst, hv, hf])).trans (if_pos (List.any_eq_true.2 ⟨k, List.mem_range.2 hk, by rw [hn]; rfl⟩))

theorem State.bootVerify_unkeyed (hk : nbit pk 3 = false ∧ nbit pk 4 = false) : s.bootVerify pk sg = s.on Board.fwInvalid := by
  have hbad : ∀ k typ, k = 3 ∨ k = 4 → s.verifyImage (s.sec.image k) typ (nbit pk k) (nbit sg k) ≠ .ok := fun k typ h => by
    have hbit : nbit pk k = false := by rcases h with rfl | rfl; exacts [hk.1, hk.2]
    rw [hbit]
    exact s.verifyImage_unkeyed _ _ _
  obtain ⟨h1, h2⟩ := s.firstBl1_places
  unfold State.bootVerify
  rw [if_neg (by simp [hp, hst, hv, hf])]
  split
  · rfl
  · exact if_pos ⟨hbad _ _ h1, hbad _ _ h2⟩

theorem State.bootVerify_runs (hc : ∀ k, k < 4 → (s.pst.counter k).isSome = true)
    (hbl1 : ∀ k, k = 3 ∨ k = 4 → s.verifyImage (s.sec.image k) 1 (nbit pk k) (nbit sg k) = .ok)
    (hrt : ∀ k, k = s.bd.get pSEC F.SEC_BOOT.NEXT → s.verifyImage (s.sec.image k) 2 (nbit pk k) (nbit sg k) = .ok) :
    s.bootVerify pk sg = (s.bl1Booted pk sg).on (·.rtBooted (s.bd.get pSEC F.SEC_BOOT.NEXT) ((s.bl1Booted pk sg).sec.image (s.bd.get pSEC F.SEC_BOOT.NEXT))) := by
  have hany : ¬ (List.range 4).any (fun k => (s.pst.counter k).isNone) = true := by
    simp only [List.any_eq_true, List.mem_range, not_exists, not_and]
    intro k hk hn
    have hsome := hc k hk
    rw [Option.isNone_iff_eq_none.1 hn] at hsome
    exact absurd hsome (by decide)
  have hnext : (s.bl1Booted pk sg).bd.get pSEC F.SEC_BOOT.NEXT = s.bd.get pSEC F.SEC_BOOT.NEXT :=
    (State.copyStaged_shows _ _ _ _).1.trans (Board.get_put_clear _ _ (by decide) (by decide))
  have hc1 : s.verifyImage (s.sec.image (3 + s.firstBl1)) 1 (nbit pk (3 + s.firstBl1)) (nbit sg (3 + s.firstBl1)) = .ok := hbl1 _ s.firstBl1_places.1
  have hr1 := hrt _ hnext
  refine (if_neg (by simp [hp, hst, hv, hf])).trans ((if_neg hany).trans ((if_neg fun h => h.1 hc1).trans ?_))
  show State.rtChosen (s.bl1Chosen s.firstBl1 (s.verifyImage (s.sec.image (3 + s.firstBl1)) 1 (nbit pk (3 + s.firstBl1)) (nbit sg (3 + s.firstBl1))) pk sg) (s.rtCheck pk sg) = _
  rw [hc1]
  exact (State.rtChosen_next (t := s.bl1Booted pk sg) hr1).trans (by rw [hnext])

end


/-! ### The operator root (R415) -/

theorem State.pstKick_pages (s : State) : s.pstKick.pst.pages = s.pst.pages := by
  unfold State.pstKick
  split
  · rfl
  · split <;> rfl

theorem State.pages_ite {P : Prop} [Decidable P] {s t : State} {m : SMap Nat} (hs : s.pst.pages = m) (ht : t.pst.pages = m) : (if P then s else t).pst.pages = m := by
  split
  · exact hs
  · exact ht

/-- A store queues the pages it writes; the array keeps what it holds until then (R429). -/
theorem State.store_pages (s : State) (id : Nat) (body : List Byte) : (s.store id body).pst.pages = s.pst.pages := State.pages_ite rfl (State.pstKick_pages _)

/-- The board that refuses a new operator root. -/
def Board.oprDenied (b : Board) : Board := (b.put pSEC F.SEC_CMD.OP 1).put pSEC F.SEC_CMD.RESULT Code.denied.num

/-- The board that takes one. -/
def Board.oprTaken (b : Board) : Board := ((b.put pSEC F.SEC_CMD.OP 1).put pSEC F.SEC_STAT.OPR_SET 1).put pSEC F.SEC_CMD.RESULT 0

theorem Board.oprDenied_shows (b : Board) : b.oprDenied.get pSEC F.SEC_CMD.RESULT = Code.denied.num ∧ b.Only b.oprDenied [(pSEC, 28)] :=
  ⟨Board.get_put_self _ _ _ _ (by decide), ((Board.Only.refl b _).put _ (by decide) (by decide)).put _ (by decide) (by decide)⟩

theorem Board.oprTaken_shows (b : Board) : b.oprTaken.on pSEC F.SEC_STAT.OPR_SET = true ∧ b.oprTaken.get pSEC F.SEC_CMD.RESULT = Code.ok.num :=
  ⟨(Board.on_put_clear _ _ (by decide) (by decide)).trans (Board.on_put_one _ _ _ (by decide)), Board.get_put_self _ _ _ _ (by decide)⟩

/-- The record of the operator root (Table 17-4). -/
def Board.oprWords (b : Board) : List Nat := 1 :: (List.range 16).map (fun k => b.get pSEC (F.SEC_OPR.HASH.ix k))

section
variable {s : State} {p : Path} (hg : s.bd.gate p pSEC 0x070 false false = none)
include hg

theorem State.storeOpr_denied (h : s.bd.on pSEC F.SEC_STAT.OPR_SET = true) : s.storeOpr p false = s.on Board.oprDenied := by
  have hset : (s.bd.put pSEC F.SEC_CMD.OP 1).on pSEC F.SEC_STAT.OPR_SET = true := (Board.on_put_clear _ _ (by decide) (by decide)).trans h
  exact (State.written_pass hg).trans (if_pos ⟨hset, by decide⟩)

theorem State.storeOpr_takes (h : s.bd.on pSEC F.SEC_STAT.OPR_SET = false) (auth : Bool) : s.storeOpr p auth = (s.on Board.oprTaken).storeWords 7 s.bd.oprTaken.oprWords := by
  have hset : (s.bd.put pSEC F.SEC_CMD.OP 1).on pSEC F.SEC_STAT.OPR_SET = false := (Board.on_put_clear _ _ (by decide) (by decide)).trans h
  exact (State.written_pass hg).trans (if_neg fun e => Bool.false_ne_true (hset.symm.trans e.1))

end

/-! ### Zeroisation, tamper and debug (R416, R417) -/

/-- Two states that agree beside the board and the shelf. -/
def State.SameButShelf (s t : State) : Prop := { t with bd := s.bd, shelf := s.shelf } = s

theorem State.SameButShelf.trans {s t u : State} (h : s.SameButShelf t) (k : t.SameButShelf u) : s.SameButShelf u := by
  have e : ({ u with bd := s.bd, shelf := s.shelf } : State) = { ({ u with bd := t.bd, shelf := t.shelf } : State) with bd := s.bd, shelf := s.shelf } := rfl
  unfold State.SameButShelf at h k ⊢
  rw [e, k, h]

theorem State.SameBelow.sameButShelf {s t : State} (h : s.SameBelow t) : s.SameButShelf t := (congrArg (fun u : State => { u with shelf := s.shelf }) h :)

theorem State.SameButShelf.on {s t : State} (h : s.SameButShelf t) (f : Board → Board) : s.SameButShelf (t.on f) := h

theorem State.SameButShelf.onLink {s t : State} (h : s.SameButShelf t) (k : Nat) (f : Link → Link) : s.SameButShelf (t.onLink k f) := h

theorem State.SameButShelf.toPhase {s t : State} (h : s.SameButShelf t) (k ph : Nat) : s.SameButShelf (t.toPhase k ph) := ((h.on _).onLink k _).on _

theorem State.linkDropped_sameButShelf (s : State) (k : Nat) (recover : Bool) (discarded : Nat) : s.SameButShelf (s.linkDropped k recover discarded) :=
  (((State.SameBelow.refl s).sameButShelf.on _).onLink k _).toPhase k 0

theorem State.linkGone_sameButShelf (s : State) (k : Nat) (recover : Bool) (discarded : Nat) : s.SameButShelf (s.linkGone k recover discarded) :=
  (s.linkDropped_sameButShelf k recover discarded).trans (s.linkGone_still k recover discarded).below.sameButShelf

/-- The links that a tamper response takes down. -/
def State.linksFallen (s : State) : State := (List.range 2).foldl (fun (s : State) k => if s.bd.powered (pSHL k) ∧ s.bd.phase k ≠ 0 then s.linkGone k false 0 else s) s

theorem State.linksFallen_sameButShelf (s : State) : s.SameButShelf s.linksFallen := by
  refine List.foldlRecOn (motive := fun t : State => s.SameButShelf t) _ _ rfl fun t ht k _ => ?_
  split
  · exact ht.trans (t.linkGone_sameButShelf k false 0)
  · exact ht

/-- Nothing of the keys, of the front and of the sessions is left (R417). -/
structure State.Wiped (s : State) : Prop where
  slots : s.keys.slots = []
  sweeps : s.keys.sweeps = []
  derived : s.home.keyCache = []
  frames : s.cache.frames = []
  window : s.cache.window = []
  sessions : s.sec.sessions = []

theorem State.tamperWiped_wiped (s : State) : s.tamperWiped.Wiped := ⟨rfl, rfl, rfl, rfl, rfl, rfl⟩

theorem State.Wiped.sameButShelf {s t : State} (h : s.Wiped) (k : s.SameButShelf t) : t.Wiped := by
  have hkeys : t.keys = s.keys := (congrArg State.keys k :)
  have hhome : t.home = s.home := (congrArg State.home k :)
  have hcache : t.cache = s.cache := (congrArg State.cache k :)
  have hsec : t.sec = s.sec := (congrArg State.sec k :)
  exact ⟨hkeys ▸ h.slots, hkeys ▸ h.sweeps, hhome ▸ h.derived, hcache ▸ h.frames, hcache ▸ h.window, hsec ▸ h.sessions⟩

theorem State.tamperTold_wiped {s : State} (h : s.Wiped) (debug : Bool) (lines slots : Nat) : (s.tamperTold debug lines slots).Wiped ∧ (s.tamperTold debug lines slots).sec.tampered = true :=
  ⟨⟨h.slots, h.sweeps, h.derived, h.frames, h.window, h.sessions⟩, rfl⟩

theorem State.tamperResponse_wipes {s : State} (h : s.responding = false) (debug : Bool) : (s.tamperResponse debug).Wiped ∧ (s.tamperResponse debug).sec.tampered = true := by
  have heq : s.tamperResponse debug = s.tamperWiped.linksFallen.tamperTold debug ((s.bumpCounter 2 0 .epoch).zeroise.2.forgetFront).1 (s.bumpCounter 2 0 .epoch).zeroise.1 :=
    if_neg (by simp [h])
  rw [heq]
  exact State.tamperTold_wiped (s.tamperWiped_wiped.sameButShelf (State.linksFallen_sameButShelf _)) _ _ _

theorem State.tamper_short {s : State} {ns : Nat} (h : ns < 200) (held : Bool) : s.tamper ns held = { s with sec := { s.sec with tamperLow := held && s.sec.tamperLow } } := by
  have hq : ¬ (200 ≤ ns ∧ s.sec.tamperLow = false) := by omega
  unfold State.tamper
  simp only [if_neg hq, decide_eq_false (show ¬ 200 ≤ ns by omega), Bool.or_false]

theorem State.tamper_qualifies {s : State} {ns : Nat} (h : 200 ≤ ns) (hl : s.sec.tamperLow = false) (held : Bool) :
    s.tamper ns held = { s.tamperResponse false with sec := { (s.tamperResponse false).sec with tamperLow := held } } := by
  unfold State.tamper
  simp only [if_pos (show 200 ≤ ns ∧ s.sec.tamperLow = false from ⟨h, hl⟩), decide_eq_true h, Bool.or_true, Bool.and_true]

/-- The version and the variant of a UUID leave it a number of 128 bits. -/
theorem uuidVersion_lt {v : Nat} (h : v < 2 ^ 128) : v - v / 2 ^ 52 % 16 * 2 ^ 52 + 8 * 2 ^ 52 < 2 ^ 128 := by omega

theorem uuidVariant_lt {v : Nat} (h : v < 2 ^ 128) : v - v / 2 ^ 70 % 4 * 2 ^ 70 + 2 * 2 ^ 70 < 2 ^ 128 := by omega

/-- The UUID of a seed: version 8 and the RFC's variant put into its bits (Table 16-1). Over a variable seed the kernel does not evaluate it; the power is a parameter, for the instance of `^` that the
model's definition was read with. -/
def uuidOf (pow : Nat → Nat → Nat) (seed : BitVec 128) : Nat :=
  let v := seed.toNat
  let v := v - v / pow 2 52 % 16 * pow 2 52 + 8 * pow 2 52
  v - v / pow 2 70 % 4 * pow 2 70 + 2 * pow 2 70

theorem uuidOf_lt {pow : Nat → Nat → Nat} (hp : ∀ a b, pow a b = a ^ b) (seed : BitVec 128) : uuidOf pow seed < 2 ^ 128 := by
  simp only [uuidOf, hp]
  exact uuidVariant_lt (uuidVersion_lt seed.isLt)

theorem uuidValue_eq : ∃ pow : Nat → Nat → Nat, uuidValue = uuidOf pow Config.uuidSeed ∧ ∀ a b, pow a b = a ^ b := ⟨_, rfl, fun _ _ => rfl⟩

theorem uuidValue_lt : uuidValue < 2 ^ 128 := by
  obtain ⟨pow, huuid, hp⟩ := uuidValue_eq
  exact huuid ▸ uuidOf_lt hp _

/-- The board once debug is open. -/
def Board.debugOpened (b : Board) (scope : Nat) : Board := (b.put pSEC F.SEC_STAT.DEBUG_OPEN 1).raise pSEC (ev E.SEC.DEBUG_OPENED 0 scope 0 0)

theorem Board.debugOpened_shows (b : Board) (scope : Nat) : (b.debugOpened scope).on pSEC F.SEC_STAT.DEBUG_OPEN = true ∧ ((b.debugOpened scope).rd pSEC 0x010).getLsbD E.SEC.DEBUG_OPENED = true :=
  ⟨(Board.on_raise _ _ _ (by decide)).trans (Board.on_put_one _ _ _ (by decide)), Board.raise_status _ _ _ (show E.SEC.DEBUG_OPENED < 32 by decide)⟩

section
variable {s : State} (hp : s.bd.powered pSEC = true) (hd : s.bd.on pSEC F.SEC_CFG.DEBUG_EN = true)
include hp hd

theorem State.dbgNonce_draws (hr : s.keys.rbgBad = false) :
    s.dbgNonce = ({ s.draw.2 with sec := { s.sec with nonce := some (s.draw.1 % 2 ^ 64) } } : State).say (.jtag (leBytes 8 s.draw.1)) := if_neg (by simp [hp, hd, hr])

theorem State.dbgToken_opens {nonce : Nat} (hn : s.sec.nonce = some nonce) (scope : Nat) : s.dbgToken uuidValue nonce scope true = (s.tamperResponse true).on (·.debugOpened scope) :=
  if_neg (by simp [hp, hd, hn])

end

theorem State.dbgToken_stale {s : State} {nonce : Nat} (hn : s.sec.nonce ≠ some nonce) (uuid scope : Nat) (sg : Bool) : s.dbgToken uuid nonce scope sg = s :=
  if_pos (.inr (.inr (.inr (.inl hn))))

/-! ### Attestation and sessions (R413 to R415) -/

theorem Board.received_only (b : Board) (m : Bool) : b.Only (b.received m) [(pMGT, F.MGT_RX_MSG.COUNT.off / 4)] := by
  unfold Board.received
  split
  · exact (Board.Only.refl b _).count 1 (by decide) (by decide)
  · exact .refl b _

theorem Board.received_out (b : Board) (m : Bool) : (b.received m).out = b.out := by
  unfold Board.received
  split
  · exact Board.count_out _ _ _ _
  · rfl

theorem Board.received_now (b : Board) (m : Bool) : (b.received m).now = b.now := by
  unfold Board.received
  split
  · exact Board.count_now _ _ _ _
  · rfl

/-- The state that has received a message. -/
def State.spdmHeard (s : State) (m : Bool) : State := s.on (·.received m)

theorem State.spdmHeard_spdmShut (s : State) (m : Bool) (code : Nat) : (s.spdmHeard m).spdmShut code = s.spdmShut code := by
  have honly := s.bd.received_only m
  unfold State.spdmShut Board.powered
  rw [show (s.spdmHeard m).bd = s.bd.received m from rfl, honly.domainOn (by decide), honly.on pSEC F.SEC_STAT.PUF_OK (by decide)]

theorem State.spdmHeard_measurement (s : State) (m : Bool) (k : Nat) : (s.spdmHeard m).measurement k = s.measurement k := by
  have honly := s.bd.received_only m
  have hopr : ∀ n < 16, (s.bd.received m).get pSEC (F.SEC_OPR.HASH.ix n) = s.bd.get pSEC (F.SEC_OPR.HASH.ix n) := fun n hn =>
    honly.get _ _ (by simp [Fld.ix]; omega)
  have hhash : (List.range 16).flatMap (fun n => leBytes 4 ((s.bd.received m).get pSEC (F.SEC_OPR.HASH.ix n))) = (List.range 16).flatMap (fun n => leBytes 4 (s.bd.get pSEC (F.SEC_OPR.HASH.ix n))) :=
    List.flatMap_congr fun n hn => by rw [hopr n (List.mem_range.1 hn)]
  unfold State.measurement
  rw [show (s.spdmHeard m).bd = s.bd.received m from rfl, show (s.spdmHeard m).sec = s.sec from rfl, show (s.spdmHeard m).pst = s.pst from rfl, honly.get pSEC F.SEC_STAT.BL1_COPY (by decide),
    honly.on pSEC F.SEC_STAT.RT_VERIFIED (by decide), honly.get pSEC F.SEC_STAT.RT_SLOT (by decide), honly pSEC 0x040 (by decide) (by decide), honly.get pMGT F.MGT_CFG.SESSION_REQ (by decide),
    honly.get pSEC F.SEC_STAT.DEBUG_OPEN (by decide), honly.get pSEC F.SEC_STAT.TAMPERED (by decide), hhash]

/-- An answer is all that is sent. -/
theorem State.spdmHeard_spdmSay_bd (s : State) (m : Bool) (doe : Option Nat) (session code : Nat) (body : List Byte) :
    ((s.spdmHeard m).spdmSay doe session code body).bd = { s.bd.received m with out := s.bd.out ++ [Output.spdm doe session code body] } := by
  rw [← s.bd.received_out m]
  rfl

theorem State.spdmSay_out (s : State) (doe : Option Nat) (session code : Nat) (body : List Byte) :
    (s.spdmSay doe session code body).bd.out = s.bd.out ++ [Output.spdm doe session code body] := rfl

theorem State.spdmTake_heard {s : State} {doe : Option Nat} (h : s.bd.spdmHears doe = true) (f : State → State) : s.spdmTake doe f = f (s.spdmHeard doe.isNone) := if_neg (by simp [h])

theorem State.spdmRequest_unknown {s : State} {doe : Option Nat} (h : s.bd.spdmHears doe = true) {code : Nat} (hc : code ∉ spdmCodes) (session : Nat) (ok : Bool) :
    s.spdmRequest doe session code ok = (s.spdmHeard doe.isNone).spdmSay doe session 0x7F [0x07] := (State.spdmTake_heard h _).trans (if_pos hc)

theorem State.spdmRequest_ends {s : State} {doe : Option Nat} (h : s.bd.spdmHears doe = true) (hs : s.spdmShut 0xEC = false) (session : Nat) (ok : Bool) :
    s.spdmRequest doe session 0xEC ok = ((s.spdmHeard doe.isNone).endSession session).spdmSay doe session 0x6C [] := by
  have hmap : ∀ l : List Session, l.map (fun (x : Session) => if x.id = session ∧ 0xEC = 0xE8 then { x with last := (s.spdmHeard doe.isNone).bd.now } else x) = l := fun l =>
    (List.map_congr_left fun x _ => if_neg fun e => absurd e.2 (by decide)).trans (List.map_id l)
  unfold State.spdmRequest
  rw [State.spdmTake_heard h, if_neg (by decide), State.spdmHeard_spdmShut, hs, if_neg (by decide), if_neg (show ¬ 0xEC = 0x83 by decide)]
  dsimp only
  rw [hmap]
  exact (if_neg fun e => absurd e.1 (by decide)).trans (congrArg (fun t : State => t.spdmSay doe session 0x6C []) (if_pos rfl))

theorem State.getMeasurements_one {s : State} {doe : Option Nat} (h : s.bd.spdmHears doe = true) (hs : s.spdmShut 0xE0 = false) {index : Nat} (hi : 1 ≤ index ∧ index ≤ 5) (session : Nat) :
    s.getMeasurements doe session index false = (s.spdmHeard doe.isNone).spdmSay doe session 0x60 ([1] ++ leBytes 1 index ++ s.measurement index) := by
  unfold State.getMeasurements
  rw [State.spdmTake_heard h, State.spdmHeard_spdmShut, hs, if_neg (by decide), if_neg (by omega)]
  simp only [Bool.false_eq_true, if_false, if_neg (show ¬ index = 0xFF by omega), if_neg (show ¬ index = 0 by omega), List.length_singleton, List.flatMap_cons, List.flatMap_nil,
    List.append_nil, State.spdmHeard_measurement]
  rfl

/-- The state with a new session, of the requester on `doe`. -/
def State.sessionOpened (s : State) (doe : Option Nat) : State :=
  ({ s.draw.2 with
    sec := { s.draw.2.sec with sessions := s.draw.2.sec.sessions ++ [⟨s.draw.2.sec.nextSession, doe, false, s.draw.2.bd.now⟩], nextSession := s.draw.2.sec.nextSession + 1 } }
      : State).signed.followSessions

theorem State.keyExchange_opens {s : State} {doe : Option Nat} (h : s.bd.spdmHears doe = true) (hs : s.spdmShut 0xE4 = false) (hr : s.keys.rbgBad = false)
    (hm : s.bd.on pSEC F.SEC_CFG.MUTUAL = false) (hn : s.sec.sessions = []) (root : Line) (ok : Bool) :
    s.keyExchange doe root ok = ((s.spdmHeard doe.isNone).sessionOpened doe).spdmSay doe s.sec.nextSession 0x64 [] := by
  have hmutual : (s.spdmHeard doe.isNone).bd.on pSEC F.SEC_CFG.MUTUAL = false := ((s.bd.received_only _).on _ _ (by decide)).trans hm
  have hnone : (s.spdmHeard doe.isNone).sec.sessions = [] := hn
  have hbad : (s.spdmHeard doe.isNone).keys.rbgBad = false := hr
  unfold State.keyExchange
  rw [State.spdmTake_heard h]
  dsimp only
  rw [State.spdmHeard_spdmShut, hs, hbad, hmutual, if_neg (by decide), if_neg (by simp)]
  refine (if_neg ?_).trans rfl
  rw [hnone]
  cases doe <;> simp

theorem State.sessionOpened_shows {s : State} (h : s.sec.sessions = []) (m : Bool) (doe : Option Nat) : ((s.spdmHeard m).sessionOpened doe).sec.sessions = [⟨s.sec.nextSession, doe, false, s.bd.now⟩]
    ∧ ((s.spdmHeard m).sessionOpened doe).sec.nextSession = s.sec.nextSession + 1 ∧ ((s.spdmHeard m).sessionOpened doe).bd.out = s.bd.out := by
  rw [← s.bd.received_now m, ← s.bd.received_out m]
  exact ⟨congrArg (· ++ _) h, rfl, Board.count_out _ _ _ _⟩

/-- A session that ends shows in SEC_STAT and MGT_STAT alone. -/
theorem State.endSession_shows (s : State) (k : Nat) : (s.endSession k).sec.sessions = s.sec.sessions.filter (fun x => decide (x.id ≠ k)) ∧ (s.endSession k).bd.out = s.bd.out
    ∧ (s.endSession k).bd.now = s.bd.now := ⟨rfl, rfl, rfl⟩

theorem State.heartbeatTimeout_ends {s : State} {k : Nat} {x : Session} (h : s.sec.sessions[k]? = some x) : s.heartbeatTimeout k = (s.upTo (x.last + 120000000)).endSession x.id := by
  unfold State.heartbeatTimeout
  rw [h]
  rfl

end Sys2Proof.Machine

open Sys2Proof Sys2Proof.Machine

/-- Settles O56: unit by unit of the island. What an image, a requester or a token verifies as comes with the command, and sessions are numbered as the model chooses (log entries 109, 127); a missed
heartbeat carries its own time (log entry 43). -/
theorem islandGuardsThePart : Obligations.IslandGuardsThePart := by
  intro s
  refine ⟨fun hp hok hf => ⟨fun n hn => ?_, ?_⟩, fun hp => ?_, ?_, fun hp hst hv hf pk sg => ⟨fun h => ?_, fun hc hbl1 hrt => ?_⟩, fun p auth hg => ⟨fun h ha => ?_, fun h => ?_⟩,
    fun hp hd => ⟨fun hr => ?_, fun nonce scope hn hr => ?_, fun uuid nonce scope sg hn => ?_⟩, fun ns held => ⟨fun h => ?_, fun h hl hr => ?_⟩,
    fun mb k hh => ⟨fun code ok hc => ?_, fun hs ok => ?_, fun hs index hlo hhi => ?_, fun root ok hs hr hm hn => ?_⟩, fun k x hx => ?_⟩
  · exact ⟨_, Ends.of_quick (exec_pufReconstruct n s) (State.pufReconstruct_passes hp hok hf hn), (State.SameBelow.refl s).on _, s.bd.identified_ok, fun k hk => s.bd.identified_uuid hk⟩
  · exact ⟨_, Ends.of_quick (exec_pufReconstruct 3 s) (State.pufReconstruct_fails hp hok hf), (State.SameBelow.refl s).on _, s.bd.pufFailed_shows⟩
  · exact ⟨_, Ends.of_quick (exec_rbgHealthFail s) (State.rbgFail_eq hp), rfl, s.bd.rbgFailed_on⟩
  · exact ⟨_, Ends.of_quick (exec_rbgHealthPass s) rfl, rfl, rfl⟩
  · have hbad : s.bootVerify pk.val sg.val = s.on Board.fwInvalid := by
      rcases h with hk | hc
      · exact State.bootVerify_unkeyed hp hst hv hf _ _ hk
      · exact State.bootVerify_uncounted hp hst hv hf _ _ hc
    obtain ⟨hcause, hkept⟩ := s.bd.fwInvalid_shows
    exact ⟨_, Ends.of_quick (exec_fwBootVerify pk sg s) hbad, (State.SameBelow.refl s).on _, hcause, hkept.trans hv⟩
  · obtain ⟨hver, hslot, hquarter⟩ := (s.bl1Booted pk.val sg.val).bd.rtBooted_shows (s.bd.get pSEC F.SEC_BOOT.NEXT) ((s.bl1Booted pk.val sg.val).sec.image (s.bd.get pSEC F.SEC_BOOT.NEXT))
    exact ⟨_, Ends.of_quick (exec_fwBootVerify pk sg s) (State.bootVerify_runs hp hst hv hf _ _ hc hbl1 hrt), hver, hslot.trans (Nat.mod_eq_of_lt (Board.get_lt _ _ _)),
      hquarter.trans (State.copyStaged_shows _ _ _ _).2⟩
  · subst ha
    exact ⟨_, Ends.of_quick (exec_storeOpr _ _ s) (State.storeOpr_denied hg h), (State.SameBelow.refl s).on _, s.bd.oprDenied_shows⟩
  · obtain ⟨hset, hok⟩ := s.bd.oprTaken_shows
    have honly := (s.on Board.oprTaken).store_only 7 (wordBytes s.bd.oprTaken.oprWords)
    exact ⟨_, Ends.of_quick (exec_storeOpr _ _ s) (State.storeOpr_takes hg h auth), (honly.on _ _ (by decide)).trans hset, (honly.get _ _ (by decide)).trans hok, State.store_pages _ _ _⟩
  · exact ⟨_, s.draw.1, Ends.of_quick (exec_dbgNonce s) (State.dbgNonce_draws hp hd hr), rfl, rfl⟩
  · have huuid : (BitVec.ofNat 128 uuidValue).toNat = uuidValue := (BitVec.toNat_ofNat _ _).trans (Nat.mod_eq_of_lt uuidValue_lt)
    obtain ⟨hwiped, htampered⟩ := State.tamperResponse_wipes hr true
    obtain ⟨hopen, hev⟩ := (s.tamperResponse true).bd.debugOpened_shows scope.toNat
    exact ⟨_, Runs.of_run (exec_dbgToken _ _ _ _ s) ((congrArg (fun u => s.dbgToken u nonce.toNat scope.toNat true) huuid).trans (State.dbgToken_opens hp hd hn _)), hopen, hwiped.slots, hwiped.frames,
      htampered, hev⟩
  · exact Runs.of_run (exec_dbgToken _ _ _ _ s) (State.dbgToken_stale hn _ _ _)
  · exact ⟨_, Runs.of_run (exec_tamper _ _ s) (State.tamper_short h held), rfl, rfl, rfl⟩
  · obtain ⟨hwiped, htampered⟩ := State.tamperResponse_wipes hr false
    exact ⟨_, Runs.of_run (exec_tamper _ _ s) (State.tamper_qualifies h hl held), hwiped.slots, hwiped.sweeps, hwiped.derived, hwiped.frames, hwiped.window, hwiped.sessions, htampered, rfl⟩
  · have hbd := s.spdmHeard_spdmSay_bd (mb.map Fin.val).isNone (mb.map Fin.val) k.toNat 0x7F [0x07]
    rw [Option.isNone_map] at hbd
    exact ⟨_, Ends.of_quick (exec_spdmRequest _ _ _ _ s) (State.spdmRequest_unknown hh hc _ _), rfl, by rw [Option.isNone_map]; exact hbd⟩
  · obtain ⟨hsessions, hout, -⟩ := (s.spdmHeard (mb.map Fin.val).isNone).endSession_shows k.toNat
    exact ⟨_, Ends.of_quick (exec_spdmRequest _ _ 0xEC _ s) (State.spdmRequest_ends hh hs _ ok), hsessions, (State.spdmSay_out _ _ _ _ _).trans (by rw [hout]; exact congrArg (· ++ _) (s.bd.received_out _))⟩
  · have hbd := s.spdmHeard_spdmSay_bd (mb.map Fin.val).isNone (mb.map Fin.val) k.toNat 0x60 ([1] ++ leBytes 1 index.toNat ++ s.measurement index.toNat)
    rw [Option.isNone_map] at hbd
    exact ⟨_, Ends.of_quick (exec_getMeasurements _ _ _ _ s) (State.getMeasurements_one hh hs ⟨hlo, hhi⟩ _), rfl, by rw [Option.isNone_map]; exact hbd⟩
  · obtain ⟨hsessions, hnext, hout⟩ := State.sessionOpened_shows hn (mb.map Fin.val).isNone (mb.map Fin.val)
    exact ⟨_, Ends.of_quick (exec_keyExchange _ _ _ s) (State.keyExchange_opens hh hs hr hm hn root ok), hsessions, hnext, (State.spdmSay_out _ _ _ _ _).trans (by rw [hout])⟩
  · obtain ⟨hsessions, -, hnow⟩ := (s.upTo (x.last + 120000000)).endSession_shows x.id
    exact ⟨_, Ends.of_quick (exec_heartbeatTimeout k s) (State.heartbeatTimeout_ends hx), hsessions, hnow⟩

end

section
/-! The I3C target, its notices and the packets it puts together (O53): R389 to R394, Table 15-1. The bytes of GETMXDS, the third byte of GETMRL and the layout of the other answers are the model's
choices (log entries 109, 142). -/

namespace Sys2Proof.Machine

/-! ### Command codes (R389, Table 15-1) -/

section
variable {s : State} (ha : s.bd.answers = true)
include ha

/-- A broadcast code is taken by a part that answers. -/
theorem State.ccc_broadcast (f : State → State) : s.ccc false f = f s := if_neg (by simp [ha])

/-- A directed code is taken by a part that has its address. -/
theorem State.ccc_directed (hv : s.bd.on pMGT F.MGT_STAT.ADDR_VALID = true) (f : State → State) : s.ccc true f = f s := if_neg (by simp [ha, hv])

theorem State.enableIbi_set {events : Nat} (he : nbit events 0 = true) (on : Bool) : s.enableIbi events on = s.on (·.put pMGT F.MGT_STAT.IBI_EN (bit on)) :=
  (State.ccc_broadcast ha _).trans (if_pos he)

theorem State.entdaa_takes (hv : s.bd.on pMGT F.MGT_STAT.ADDR_VALID = false) (a : Nat) : s.entdaa a = (s.cccSay 0x07 (s.pid ++ leBytes 1 bcr ++ leBytes 1 0)).setAddr a :=
  (State.ccc_broadcast ha _).trans (if_neg (by simp [hv]))

theorem State.setdasa_takes (hv : s.bd.on pMGT F.MGT_STAT.ADDR_VALID = false) (hs : s.bd.on pMGT F.MGT_CFG.SDA_EN = true) (a : Nat) : s.setdasa s.staticAddr a = s.setAddr a :=
  (State.ccc_broadcast ha _).trans (if_pos ⟨hs, rfl, hv⟩)

/-- SETMWL of a length that the target takes, and of one that it does not. -/
theorem State.setmwl_eq (n : Nat) : s.setmwl n = if lengthOk n then { s with mgmt := { s.mgmt with mwl := n } } else s := State.ccc_broadcast ha _

theorem State.setmrl_eq (n : Nat) : s.setmrl n = if lengthOk n then { s with mgmt := { s.mgmt with mrl := n } } else s := State.ccc_broadcast ha _

theorem State.cccNack_says {code : Nat} (hc : code ∉ cccCodes) : s.cccNack code = s.cccSay code [] := (if_neg hc).trans (State.ccc_broadcast ha _)

end

theorem State.cccSay_below (s : State) (code : Nat) (bytes : List Byte) : s.SameBelow (s.cccSay code bytes) := (State.SameBelow.refl s).on (·.emit (.i3c code bytes))

theorem State.staticAddr_toNat (s : State) : (BitVec.ofNat 7 s.staticAddr).toNat = s.staticAddr := by
  refine (BitVec.toNat_ofNat _ _).trans (Nat.mod_eq_of_lt ?_)
  unfold State.staticAddr
  omega

/-- A command code that reads is answered with its bytes, and changes nothing else. -/
theorem State.cccGet_ends {s : State} (ha : s.bd.answers = true) (hv : s.bd.on pMGT F.MGT_STAT.ADDR_VALID = true) {c : Instr} {code : Nat} {bytes : State → List Byte}
    (h : exec c s = s.quick (fun s => s.cccGet code bytes)) : ∃ u, Ends c s u ∧ s.SameBelow u ∧ u.bd = { s.bd with out := s.bd.out ++ [.i3c code (bytes s)] } :=
  ⟨_, Ends.of_quick h (State.ccc_directed ha hv _), s.cccSay_below _ _, rfl⟩

/-- A part that has taken an address shows it. -/
theorem State.setAddr_shows (s : State) (a : BitVec 7) : (s.setAddr a.toNat).bd.get pMGT F.MGT_STAT.DYN_ADDR = a.toNat ∧ (s.setAddr a.toNat).bd.on pMGT F.MGT_STAT.ADDR_VALID = true :=
  ⟨(Board.get_put_clear _ _ (by decide) (by decide)).trans ((Board.get_put_self _ _ _ _ (by decide)).trans (Nat.mod_eq_of_lt a.isLt)), Board.on_put_one _ _ _ (by decide)⟩

theorem State.setAddr_out (s : State) (a : Nat) : (s.setAddr a).bd.out = s.bd.out := rfl

theorem State.setAddr_below (s : State) (a : Nat) : s.SameBelow (s.setAddr a) := (State.SameBelow.refl s).on _

/-! ### RSTACT -/

/-- Ended sessions leave all but the list of sessions and the board as they were. -/
theorem State.endSessions_keeps (l : List Session) (s : State) : (l.foldl (fun s (x : Session) => s.endSession x.id) s).heads = s.heads ∧ (l.foldl (fun s (x : Session) => s.endSession x.id) s).home = s.home := by
  induction l generalizing s with
  | nil => exact ⟨rfl, rfl⟩
  | cons x l ih => exact ih _

/-- What is left of the sessions was there before, and none of those ended is left. -/
theorem State.endSessions_sessions {y : Session} (l : List Session) (s : State) (hy : y ∈ (l.foldl (fun s (x : Session) => s.endSession x.id) s).sec.sessions) : y ∈ s.sec.sessions ∧ y ∉ l := by
  induction l generalizing s with
  | nil => exact ⟨hy, List.not_mem_nil⟩
  | cons x l ih =>
    obtain ⟨hin, hnot⟩ := ih _ hy
    rw [(s.endSession_shows x.id).1, List.mem_filter, decide_eq_true_eq] at hin
    exact ⟨hin.1, fun h => (List.mem_cons.1 h).elim (fun e => hin.2 (congrArg _ e)) hnot⟩

/-- The bus registers once RSTACT has reset them. -/
def Board.busReset (b : Board) : Board :=
  ((((b.put pMGT F.MGT_STAT.DYN_ADDR 0).put pMGT F.MGT_STAT.ADDR_VALID 0).put pMGT F.MGT_STAT.EID 0).put pMGT F.MGT_STAT.EID_VALID 0).put pMGT F.MGT_STAT.IBI_EN 0

theorem Board.busReset_off (b : Board) : b.busReset.on pMGT F.MGT_STAT.ADDR_VALID = false ∧ b.busReset.on pMGT F.MGT_STAT.EID_VALID = false ∧ b.busReset.on pMGT F.MGT_STAT.IBI_EN = false := by
  refine ⟨?_, ?_, Board.on_put_zero _ _ _ (by decide)⟩
  · exact (Board.on_put_clear _ _ (by decide) (by decide)).trans ((Board.on_put_clear _ _ (by decide) (by decide)).trans
      ((Board.on_put_clear _ _ (by decide) (by decide)).trans (Board.on_put_zero _ _ _ (by decide))))
  · exact (Board.on_put_clear _ _ (by decide) (by decide)).trans (Board.on_put_zero _ _ _ (by decide))

/-- The sessions that RSTACT ends are those of the management path: those over a mailbox stay. -/
theorem State.resetBus_shows (s : State) : s.resetBus.mgmt.mwl = 256 ∧ s.resetBus.mgmt.mrl = 256 ∧ (∃ b : Board, s.resetBus.bd = b.busReset) ∧ (∀ x ∈ s.resetBus.sec.sessions, x.doe.isSome = true)
    ∧ s.resetBus.heads = s.heads ∧ s.resetBus.home = s.home := by
  obtain ⟨hheads, hhome⟩ := State.endSessions_keeps (s.sec.sessions.filter (fun (x : Session) => x.doe.isNone)) s
  refine ⟨rfl, rfl, ⟨_, rfl⟩, fun x hx => ?_, hheads, hhome⟩
  obtain ⟨hin, hnot⟩ := State.endSessions_sessions _ s hx
  rw [List.mem_filter, not_and] at hnot
  exact Option.isSome_iff_ne_none.2 fun h => hnot hin (by rw [h]; rfl)

/-! ### Bus errors, notices and ALERT_N (R389 to R392) -/

/-- BUS_ERROR counted and raised. -/
def Board.busFaulted (b : Board) (info : Nat) : Board :=
  (b.count pMGT F.MGT_BUS_ERR.COUNT 1).raise pMGT (ev E.MGT.BUS_ERROR info ((b.count pMGT F.MGT_BUS_ERR.COUNT 1).get pMGT F.MGT_BUS_ERR.COUNT) 0 0)

theorem State.busFault_eq (s : State) (n : Nat) (pec : Bool) : s.busFault n pec = ({ s with mgmt := { s.mgmt with hdr := false } } : State).on (·.busFaulted (n + bit pec * 8)) := rfl

theorem Board.busFaulted_shows (b : Board) (info : Nat) : ((b.busFaulted info).rd pMGT 0x010).getLsbD E.MGT.BUS_ERROR = true
    ∧ (b.busFaulted info).get pMGT F.MGT_BUS_ERR.COUNT = min (2 ^ F.MGT_BUS_ERR.COUNT.width - 1) (b.get pMGT F.MGT_BUS_ERR.COUNT + 1) :=
  ⟨Board.raise_status _ _ _ (show E.MGT.BUS_ERROR < 32 by decide), (Board.get_raise _ _ _ (by decide)).trans (Board.get_count_self _ _ _ _ (by decide))⟩

section
variable {s : State} (ha : s.bd.answers = true) (hv : s.bd.on pMGT F.MGT_STAT.ADDR_VALID = true)
include ha hv

/-- With no Resynchronise and no message waiting, the oldest unit state is delivered. -/
theorem State.ibiSend_state {n : Notice} {rest : List Notice} (he : s.bd.on pMGT F.MGT_STAT.IBI_EN = true) (hr : s.bd.resyncQ = none) (hm : s.mgmt.ready = 0) (hq : s.bd.stateQ = n :: rest) :
    s.ibiSend true = (s.on (fun b => { b with stateQ := rest })).say (.ibi (leBytes 1 0xB1 ++ leBytes 2 n.page ++ leBytes 1 (n.a + n.b * 16) ++ leBytes 2 n.epoch)) := by
  have hnext : s.nextIbi = some (leBytes 1 0xB1 ++ leBytes 2 n.page ++ leBytes 1 (n.a + n.b * 16) ++ leBytes 2 n.epoch, s.on (fun b => { b with stateQ := rest })) := by
    simp only [State.nextIbi, hr, hm, hq, ne_eq, not_true_eq_false, if_false]
  refine (if_neg (by simp [ha, hv, he])).trans ?_
  rw [hnext]

end

/-- Does ALERT_N have to be low (R392)? -/
def Board.alertDue (b : Board) : Bool :=
  b.on pMGT F.MGT_CFG.ALERT_EN && ((match b.noticeSince with | some t => decide (t + 1000 ≤ b.now) | none => false) || b.resyncQ.isSome)

theorem Board.alertDue_old {b : Board} {t : Nat} (ht : b.noticeSince = some t) (hn : t + 1000 ≤ b.now) (he : b.on pMGT F.MGT_CFG.ALERT_EN = true) : b.alertDue = true := by
  simp [Board.alertDue, he, ht, hn]

/-- ALERT_N follows what is due; time and notices stay. -/
theorem Board.followAlert_shows (b : Board) : b.followAlert.now = b.now ∧ b.followAlert.stateQ = b.stateQ ∧ b.followAlert.on pMGT F.MGT_STAT.ALERT = b.alertDue := by
  have heq : b.followAlert = if b.alertDue = b.on pMGT F.MGT_STAT.ALERT then b else (b.put pMGT F.MGT_STAT.ALERT (bit b.alertDue)).emit (.pin "ALERT_N" (bit (!b.alertDue))) := rfl
  rw [heq]
  split
  next h => exact ⟨rfl, rfl, h.symm⟩
  next => exact ⟨rfl, rfl, Board.on_put_bit _ _ _ _ (by decide)⟩

/-- The board 1 ms after a notice has begun to wait. -/
def Board.alertTime (b : Board) (t : Nat) : Board := { b with now := max b.now (t + 1000) }

theorem State.alertTimeout_eq {s : State} {t : Nat} (ht : s.bd.noticeSince = some t) : s.alertTimeout = s.on (fun b => (b.alertTime t).followAlert) := by
  unfold State.alertTimeout
  rw [ht]
  rfl

theorem Board.alertTime_shows {b : Board} {t : Nat} (ht : b.noticeSince = some t) (he : b.on pMGT F.MGT_CFG.ALERT_EN = true) :
    (b.alertTime t).followAlert.now = max b.now (t + 1000) ∧ (b.alertTime t).followAlert.on pMGT F.MGT_STAT.ALERT = true ∧ (b.alertTime t).followAlert.stateQ = b.stateQ := by
  obtain ⟨hnow, hq, halert⟩ := (b.alertTime t).followAlert_shows
  exact ⟨hnow, halert.trans (Board.alertDue_old (b := b.alertTime t) ht (Nat.le_max_right _ _) he), hq⟩

/-! ### Packets (R393, R394) -/

section
variable {s : State} {p : McPacket} (ha : s.bd.answers = true)
include ha

theorem State.mctpPacket_badPec (hp : p.pec = false) : s.mctpPacket p = ({ s with mgmt := { s.mgmt with hdr := false } } : State).busFault 0 true := by
  unfold State.mctpPacket
  dsimp only
  rw [if_neg (by simp [ha]), if_pos (by simp [hp])]

variable (hp : p.pec = true) (hd : p.dest = 0) (hs : p.som = true) (hl : p.payload.length ≤ 4200)
include hp hd hs hl

theorem State.mctpPacket_first (he : p.eom = false) :
    s.mctpPacket p = { s with mgmt := { s.mgmt with hdr := false, asm := some ⟨p.src.toNat, p.tag.val, (p.seq.val + 1) % 4, p.payload, false⟩ } } := by
  have hshort : ¬ 4200 < p.payload.length := Nat.not_lt.2 hl
  unfold State.mctpPacket
  dsimp only
  rw [if_neg (by simp [ha]), if_neg (by simp [hp]), if_neg (by simp [hd]), if_pos hs]
  simp [he, hshort]

theorem State.mctpPacket_only (he : p.eom = true) (ho : p.opened = none) :
    s.mctpPacket p = ({ s with mgmt := { s.mgmt with hdr := false, asm := none } } : State).wholeMessage p.src.toNat 0 none p.payload := by
  have hshort : ¬ 4200 < p.payload.length := Nat.not_lt.2 hl
  unfold State.mctpPacket
  dsimp only
  rw [if_neg (by simp [ha]), if_neg (by simp [hp]), if_neg (by simp [hd]), if_pos hs]
  simp [he, hshort, ho, hd]

end

end Sys2Proof.Machine

open Sys2Proof Sys2Proof.Machine

/-- Settles O53, command by command: each code is taken by a part that answers, and the board that it leaves is read field by field. The bytes of GETMXDS and the third of GETMRL are the model's (log
entries 109, 142). -/
theorem busCommandsAreTaken : Obligations.BusCommandsAreTaken := by
  unfold Obligations.BusCommandsAreTaken
  intro s ha
  refine ⟨fun events he => ⟨?_, ?_⟩, fun a => ⟨fun hv => ⟨?_, fun hsda => ?_⟩, fun hv => ?_⟩, ?_, fun n => ⟨fun hn => ⟨?_, ?_⟩, fun hn => ⟨?_, ?_⟩⟩,
    fun hv => ⟨fun c code bytes hc => ?_, ?_, fun he hr hm n rest hq => ?_⟩, ?_, ?_, ?_, fun code hc => ?_, fun e => ?_, fun t ht hen => ?_, fun pk => ⟨fun hp => ?_, fun hp hd hs hl => ⟨fun he => ?_, fun he ho => ?_⟩⟩⟩
  · exact ⟨_, Ends.of_quick (f := (·.enableIbi events.toNat true)) rfl (State.enableIbi_set ha he true), (State.SameBelow.refl s).on _, Board.on_put_bit _ _ _ true (by decide),
      (Board.Only.refl _ _).put _ (by decide) (by decide)⟩
  · exact ⟨_, Ends.of_quick (f := (·.enableIbi events.toNat false)) rfl (State.enableIbi_set ha he false), (State.SameBelow.refl s).on _, Board.on_put_bit _ _ _ false (by decide),
      (Board.Only.refl _ _).put _ (by decide) (by decide)⟩
  · obtain ⟨haddr, hvalid⟩ := (s.cccSay 0x07 (s.pid ++ leBytes 1 bcr ++ leBytes 1 0)).setAddr_shows a
    exact ⟨_, Ends.of_quick (f := (·.entdaa a.toNat)) rfl (State.entdaa_takes ha hv _), (s.cccSay_below _ _).trans (State.setAddr_below _ _), haddr, hvalid,
      (State.setAddr_out _ _).trans (by rw [List.append_assoc]; rfl)⟩
  · obtain ⟨haddr, hvalid⟩ := s.setAddr_shows a
    exact ⟨_, Ends.of_quick (f := (·.setdasa (BitVec.ofNat 7 s.staticAddr).toNat a.toNat)) rfl ((congrArg (s.setdasa · a.toNat) s.staticAddr_toNat).trans (State.setdasa_takes ha hv hsda _)), haddr, hvalid⟩
  · exact ⟨_, Ends.of_quick (f := (·.setnewda a.toNat)) rfl (State.ccc_directed ha hv _), s.setAddr_below _, (s.setAddr_shows a).1⟩
  · exact ⟨_, Ends.of_quick (f := (·.rstdaa)) rfl (State.ccc_broadcast ha _), (State.SameBelow.refl s).on _,
      (Board.get_put_clear _ _ (by decide) (by decide)).trans (Board.get_put_self _ _ _ _ (by decide)), Board.on_put_zero _ _ _ (by decide)⟩
  · exact ⟨_, Ends.of_quick (f := (·.setmwl n.toNat)) rfl ((State.setmwl_eq ha _).trans (if_pos hn)), rfl, rfl⟩
  · exact ⟨_, Ends.of_quick (f := (·.setmrl n.toNat)) rfl ((State.setmrl_eq ha _).trans (if_pos hn)), rfl, rfl⟩
  · exact Ends.of_quick (f := (·.setmwl n.toNat)) rfl ((State.setmwl_eq ha _).trans (if_neg (by simp [hn])))
  · exact Ends.of_quick (f := (·.setmrl n.toNat)) rfl ((State.setmrl_eq ha _).trans (if_neg (by simp [hn])))
  · simp only [List.mem_cons, Prod.mk.injEq, List.not_mem_nil, or_false] at hc
    rcases hc with ⟨rfl, rfl, rfl⟩ | ⟨rfl, rfl, rfl⟩ | ⟨rfl, rfl, rfl⟩ | ⟨rfl, rfl, rfl⟩ | ⟨rfl, rfl, rfl⟩ | ⟨rfl, rfl, rfl⟩
    · exact State.cccGet_ends ha hv (bytes := fun s => [BitVec.ofNat 8 (s.mgmt.mwl / 256), BitVec.ofNat 8 s.mgmt.mwl]) rfl
    · exact State.cccGet_ends ha hv (bytes := fun s => [BitVec.ofNat 8 (s.mgmt.mrl / 256), BitVec.ofNat 8 s.mgmt.mrl, 8]) rfl
    · exact State.cccGet_ends ha hv (bytes := State.pid) rfl
    · exact State.cccGet_ends ha hv (bytes := fun _ => leBytes 1 bcr) rfl
    · exact State.cccGet_ends ha hv (bytes := fun _ => [0]) rfl
    · exact State.cccGet_ends ha hv (bytes := fun _ => leBytes 2 0 ++ leBytes 3 50) rfl
  · exact ⟨_, leBytes 2 s.bd.openVal, Ends.of_quick (f := (·.getStatus)) rfl (State.ccc_directed ha hv _), (s.cccSay_below _ _).on Board.useOpen, rfl, rfl, rfl⟩
  · exact ⟨_, Ends.of_quick (f := (·.ibiSend true)) rfl (State.ibiSend_state ha hv he hr hm hq), (State.SameBelow.refl s).on fun b => ({ b with stateQ := rest } : Board).emit _, rfl⟩
  · exact Ends.of_quick (f := (·.ibiSend false)) rfl (if_pos (by simp))
  · obtain ⟨hmwl, hmrl, ⟨b, hb⟩, hsessions, hheads, hhome⟩ := s.resetBus_shows
    obtain ⟨haddr, heid, hibi⟩ := b.busReset_off
    exact ⟨s.resetBus, Ends.of_quick (f := (·.rstact 1)) rfl (State.ccc_broadcast ha _), hmwl, hmrl, hb ▸ haddr, hb ▸ heid, hb ▸ hibi, hsessions, hheads, hhome⟩
  · exact ⟨_, Ends.of_quick (f := (·.enthdr0)) rfl (State.ccc_broadcast ha _), rfl, rfl⟩
  · exact ⟨_, Ends.of_quick (f := (·.cccNack code.toNat)) rfl (State.cccNack_says ha hc), s.cccSay_below _ _, rfl⟩
  · obtain ⟨hev, hcount⟩ := s.bd.busFaulted_shows (e.val + bit false * 8)
    exact ⟨_, Ends.of_quick (f := (·.busError e.val)) rfl ((if_pos ha).trans (s.busFault_eq _ _)), rfl, hev, hcount⟩
  · exact ⟨_, Ends.of_quick (f := (·.alertTimeout)) rfl (State.alertTimeout_eq ht), (State.SameBelow.refl s).on _, Board.alertTime_shows ht hen⟩
  · obtain ⟨hev, -⟩ := s.bd.busFaulted_shows (0 + bit true * 8)
    exact ⟨_, Runs.of_run (f := (·.mctpPacket pk)) rfl ((State.mctpPacket_badPec ha hp).trans (State.busFault_eq _ _ _)), rfl, hev⟩
  · exact ⟨_, Runs.of_run (f := (·.mctpPacket pk)) rfl (State.mctpPacket_first ha hp hd hs hl he), rfl, rfl⟩
  · exact ⟨_, { s with mgmt := { s.mgmt with hdr := false, asm := none } }, Runs.of_run (f := (·.mctpPacket pk)) rfl (State.mctpPacket_only ha hp hd hs hl he ho), rfl, rfl, rfl, rfl⟩

end

section
/-! MCTP control and PLDM messages (O54): R393, R394, R396. The layout of their bytes, and which values the spec leaves open, are the model's choices (log entries 109, 144). -/

namespace Sys2Proof.Machine

/-! ### What a message that has come leaves as it was -/

theorem State.spdmHeard_get (s : State) (m : Bool) (p : Nat) (f : Fld) (h : f.off < 4096 ∧ (p, f.off / 4) ∉ [(pMGT, F.MGT_RX_MSG.COUNT.off / 4)]) : (s.spdmHeard m).bd.get p f = s.bd.get p f :=
  (s.bd.received_only m).get p f h

theorem State.spdmHeard_on (s : State) (m : Bool) (p : Nat) (f : Fld) (h : f.off < 4096 ∧ (p, f.off / 4) ∉ [(pMGT, F.MGT_RX_MSG.COUNT.off / 4)]) : (s.spdmHeard m).bd.on p f = s.bd.on p f :=
  (s.bd.received_only m).on p f h

theorem State.spdmHeard_powered (s : State) (m : Bool) (p : Nat) : (s.spdmHeard m).bd.powered p = s.bd.powered p := (s.bd.received_only m).domainOn (by decide) _

/-- The worst unit state is that of UNIT_STATE alone. -/
theorem Board.worstState_congr {b c : Board} (h : ∀ p, c.unit p = b.unit p) : c.worstState = b.worstState := by
  unfold Board.worstState
  rw [show c.unit = b.unit from funext h]

theorem State.spdmHeard_worstState (s : State) (m : Bool) : (s.spdmHeard m).bd.worstState = s.bd.worstState :=
  Board.worstState_congr fun p => s.spdmHeard_get m p _ ⟨by decide, by simp⟩

theorem State.spdmHeard_messageTypes (s : State) (m : Bool) : (s.spdmHeard m).bd.messageTypes = s.bd.messageTypes := by
  unfold Board.messageTypes Board.manages
  rw [s.spdmHeard_on m pSHM F.SHM_SELF.MANAGER (by decide)]

/-- FCM_DIRTY shows the dirty lines of the cache. -/
theorem State.shows_dirty (s : State) (p : Path) : s.shows p pFCM F.FCM_DIRTY.LINES.off = BitVec.ofNat 32 s.dirty := rfl

/-- A message that has come changes no reading. -/
theorem State.spdmHeard_sensor (s : State) (m : Bool) (id : Nat) : (s.spdmHeard m).sensor id = s.sensor id := by
  unfold State.sensor
  dsimp only
  rw [s.spdmHeard_powered, s.spdmHeard_get m pTHM F.THM_JMAX.TEMP (by decide), s.spdmHeard_get m pHLT F.HLT_STATUS.SPARE_PCT (by decide), s.spdmHeard_get m pHLT F.HLT_STATUS.LIFE_PCT (by decide),
    s.spdmHeard_worstState, s.spdmHeard_get m pPDR F.PDR_LEDGER.STATE (by decide), s.spdmHeard_get m pRTM F.RTM_STAT.TICK (by decide), State.shows_dirty, State.shows_dirty]
  rfl

/-! ### Answers -/

/-- A message sent is all that its sender adds to the board that it found. -/
theorem State.mctp_sends {s t : State} (hb : t.bd = s.bd.received true) (hr : t.mgmt.ready = s.mgmt.ready) (type dest : Nat) (body : List Byte) : Sends s (t.mctp type dest body) type dest body := by
  refine ⟨?_, congrArg (· + 1) hr⟩
  rw [← s.bd.received_out true, ← hb]
  rfl

section
variable {s : State} {c : Instr} {src : Nat} {inst : Fin 32}

/-- A control message to the null endpoint is answered. -/
theorem State.control_null (ha : s.bd.answers = true) (f : State → Nat × List Byte × State) (cmd : Nat) :
    s.control src 0 inst.val cmd f = (f (s.spdmHeard true)).2.2.mctp 0x00 src (leBytes 1 inst.val ++ leBytes 1 cmd ++ leBytes 1 (f (s.spdmHeard true)).1 ++ (f (s.spdmHeard true)).2.1) := by
  refine (if_neg (by simp [ha])).trans ?_
  rw [Nat.mod_eq_of_lt inst.isLt]
  rfl

theorem State.pldm_heard (hh : s.bd.hears = true) (f : State → Nat × List Byte × State) (type cmd : Nat) :
    s.pldm src inst.val type cmd f
      = (f (s.spdmHeard true)).2.2.mctp 0x01 src (leBytes 1 inst.val ++ leBytes 1 type ++ leBytes 1 cmd ++ leBytes 1 (f (s.spdmHeard true)).1 ++ (f (s.spdmHeard true)).2.1) := by
  refine (if_neg (by simp [hh])).trans ?_
  rw [Nat.mod_eq_of_lt inst.isLt]
  rfl

/-- A control command that changes nothing sends its code and data. -/
theorem State.control_answers (ha : s.bd.answers = true) {f : State → Nat × List Byte × State} {cmd code : Nat} {data : List Byte}
    (hc : exec c s = s.quick (fun s => s.control src 0 inst.val cmd f)) (hf : f (s.spdmHeard true) = (code, data, s.spdmHeard true)) :
    ∃ u, Ends c s u ∧ Sends s u 0x00 src (leBytes 1 inst.val ++ [BitVec.ofNat 8 cmd, BitVec.ofNat 8 code] ++ data) := by
  refine ⟨_, Ends.of_quick hc (State.control_null ha f cmd), ?_⟩
  rw [hf]
  exact State.mctp_sends (t := s.spdmHeard true) rfl rfl _ _ _

/-- So does a PLDM command. -/
theorem State.pldm_answers (hh : s.bd.hears = true) {f : State → Nat × List Byte × State} {type cmd code : Nat} {data : List Byte}
    (hc : exec c s = s.quick (fun s => s.pldm src inst.val type cmd f)) (hf : f (s.spdmHeard true) = (code, data, s.spdmHeard true)) :
    ∃ u, Ends c s u ∧ Sends s u 0x01 src (leBytes 1 inst.val ++ ([BitVec.ofNat 8 type, BitVec.ofNat 8 cmd, BitVec.ofNat 8 code] ++ data)) := by
  refine ⟨_, Ends.of_quick hc (State.pldm_heard hh f type cmd), ?_⟩
  rw [hf]
  exact State.mctp_sends (t := s.spdmHeard true) rfl rfl _ _ _

/-- A PLDM command that answers an open value sends it, and uses it up. -/
theorem State.pldm_opens (hh : s.bd.hears = true) {f : State → Nat × List Byte × State} {type cmd n : Nat}
    (hc : exec c s = s.quick (fun s => s.pldm src inst.val type cmd f)) (hf : f (s.spdmHeard true) = (0, leBytes n (s.spdmHeard true).bd.openVal, (s.spdmHeard true).on Board.useOpen)) :
    ∃ u, Ends c s u ∧ u.bd.out = s.bd.out ++ [.mctp 0x01 src (leBytes 1 inst.val ++ [BitVec.ofNat 8 type, BitVec.ofNat 8 cmd, 0] ++ leBytes n (s.spdmHeard true).bd.openVal)] ∧ u.bd.regs = (s.bd.received true).regs := by
  refine ⟨_, Ends.of_quick hc (State.pldm_heard hh f type cmd), ?_⟩
  rw [hf]
  exact ⟨congrArg (· ++ _) (s.bd.received_out true), rfl⟩

end

/-! ### SET_ENDPOINT_ID -/

/-- The board once it has taken its endpoint ID. -/
def Board.eidTaken (b : Board) (eid : Nat) : Board :=
  ((b.put pMGT F.MGT_STAT.EID eid).put pMGT F.MGT_STAT.EID_VALID 1).raise pMGT
    (ev E.MGT.EID_ASSIGNED eid (((b.put pMGT F.MGT_STAT.EID eid).put pMGT F.MGT_STAT.EID_VALID 1).get pMGT F.MGT_STAT.DYN_ADDR) 0 0)

theorem Board.eidTaken_shows (b : Board) (eid : BitVec 8) : (b.eidTaken eid.toNat).get pMGT F.MGT_STAT.EID = eid.toNat ∧ (b.eidTaken eid.toNat).on pMGT F.MGT_STAT.EID_VALID = true
    ∧ ((b.eidTaken eid.toNat).rd pMGT 0x010).getLsbD E.MGT.EID_ASSIGNED = true :=
  ⟨(Board.get_raise _ _ _ (by decide)).trans ((Board.get_put_clear _ _ (by decide) (by decide)).trans ((Board.get_put_self _ _ _ _ (by decide)).trans (Nat.mod_eq_of_lt eid.isLt))),
    (Board.on_raise _ _ _ (by decide)).trans (Board.on_put_one _ _ _ (by decide)), Board.raise_status _ _ _ (show E.MGT.EID_ASSIGNED < 32 by decide)⟩

theorem State.setEid_takes {s : State} (ha : s.bd.answers = true) {op : Nat} (hop : op < 2) {eid : Nat} (h0 : eid ≠ 0) (h1 : eid ≠ 0xFF) (src : Nat) (inst : Fin 32) :
    s.setEid src 0 inst.val op eid = ((s.spdmHeard true).on (·.eidTaken eid)).mctp 0x00 src (leBytes 1 inst.val ++ leBytes 1 0x01 ++ leBytes 1 0 ++ (leBytes 1 0 ++ leBytes 1 eid ++ leBytes 1 0)) := by
  refine (State.control_null ha _ _).trans ?_
  rw [if_neg (by omega)]
  rfl

/-! ### The commands -/

theorem exec_getEndpointId (src : BitVec 8) (inst : Fin 32) (s : State) : exec (.getEndpointId src 0 inst) s = s.quick (fun s => s.getEid src.toNat 0 inst.val) := rfl

theorem exec_getEndpointUuid (src : BitVec 8) (inst : Fin 32) (s : State) : exec (.getEndpointUuid src 0 inst) s = s.quick (fun s => s.getUuid src.toNat 0 inst.val) := rfl

theorem exec_getMctpVersionSupport (src : BitVec 8) (inst : Fin 32) (s : State) : exec (.getMctpVersionSupport src 0 inst 0) s = s.quick (fun s => s.getMctpVersion src.toNat 0 inst.val 0) := rfl

theorem exec_getMessageTypeSupport (src : BitVec 8) (inst : Fin 32) (s : State) : exec (.getMessageTypeSupport src 0 inst) s = s.quick (fun s => s.getTypes src.toNat 0 inst.val) := rfl

theorem exec_getVendorDefinedMessageSupport (src : BitVec 8) (inst : Fin 32) (s : State) : exec (.getVendorDefinedMessageSupport src 0 inst 0) s = s.quick (fun s => s.getVendor src.toNat 0 inst.val 0) := rfl

theorem exec_mctpControlUnsupported (src : BitVec 8) (inst : Fin 32) (cmd : BitVec 8) (s : State) : exec (.mctpControlUnsupported src 0 inst cmd) s = s.quick (fun s => s.controlOther src.toNat 0 inst.val cmd.toNat) := rfl

theorem exec_getTid (src : BitVec 8) (inst : Fin 32) (s : State) : exec (.getTid src inst) s = s.quick (fun s => s.getTid src.toNat inst.val) := rfl

theorem exec_getPldmVersion (src : BitVec 8) (inst : Fin 32) (type : BitVec 8) (s : State) : exec (.getPldmVersion src inst type) s = s.quick (fun s => s.getPldmVersion src.toNat inst.val type.toNat) := rfl

theorem exec_getPldmTypes (src : BitVec 8) (inst : Fin 32) (s : State) : exec (.getPldmTypes src inst) s = s.quick (fun s => s.getPldmTypes src.toNat inst.val) := rfl

theorem exec_getPldmCommands (src : BitVec 8) (inst : Fin 32) (type : BitVec 8) (s : State) : exec (.getPldmCommands src inst type) s = s.quick (fun s => s.getPldmCommands src.toNat inst.val type.toNat) := rfl

theorem exec_getPdrRepositoryInfo (src : BitVec 8) (inst : Fin 32) (s : State) : exec (.getPdrRepositoryInfo src inst) s = s.quick (fun s => s.getPdrInfo src.toNat inst.val) := rfl

theorem exec_getSensorReading (src : BitVec 8) (inst : Fin 32) (id : BitVec 16) (s : State) : exec (.getSensorReading src inst id) s = s.quick (fun s => s.getSensor src.toNat inst.val id.toNat) := rfl

theorem exec_getStateSensorReadings (src : BitVec 8) (inst : Fin 32) (id : BitVec 16) (s : State) : exec (.getStateSensorReadings src inst id) s = s.quick (fun s => s.getStateSensor src.toNat inst.val id.toNat) := rfl

theorem exec_setEventReceiver (src : BitVec 8) (inst : Fin 32) (r : Option Byte) (s : State) : exec (.setEventReceiver src inst r) s = s.quick (fun s => s.setReceiver src.toNat inst.val (r.map BitVec.toNat)) := rfl

theorem exec_getEventReceiver (src : BitVec 8) (inst : Fin 32) (s : State) : exec (.getEventReceiver src inst) s = s.quick (fun s => s.getReceiver src.toNat inst.val) := rfl

/-- The event receiver set. -/
def State.receives (s : State) (r : Option Nat) : State := { s with mgmt := { s.mgmt with receiver := r } }

theorem State.setReceiver_eq {s : State} (hh : s.bd.hears = true) (src : Nat) (inst : Fin 32) (r : Option Nat) :
    s.setReceiver src inst.val r = ((s.spdmHeard true).receives r).mctp 0x01 src (leBytes 1 inst.val ++ [2, 0x04, 0]) := State.pldm_heard hh _ _ _

/-! ### Records of the sensors -/

/-- The record of a sensor. -/
def State.pdr (s : State) (id : Nat) : List Byte :=
  leBytes 4 (if id = 27 then 0 else id + 1) ++ leBytes 2 id ++ leBytes 1 (bit (numericSensor id)) ++ leBytes 1 (bit (s.bd.thresholds id).1) ++ leBytes 1 (s.bd.thresholds id).2.length
    ++ (s.bd.thresholds id).2.flatMap (fun t => leBytes 4 (ofSigned 32 t))

/-- What GET_PDR answers for record `n`. -/
def State.pdrAnswer (n : Nat) (s : State) : Nat × List Byte × State :=
  if 27 < (if n = 0 then 1 else n) then (0x82, [], s) else (0, s.pdr (if n = 0 then 1 else n), s)

theorem State.getPdr_eq (s : State) (eid inst n : Nat) : s.getPdr eid inst n = s.pldm eid inst 2 0x51 (State.pdrAnswer n) := rfl

theorem exec_getPdr (src : BitVec 8) (inst : Fin 32) (record : Word) (s : State) : exec (.getPdr src inst record) s = s.quick (fun s => s.pldm src.toNat inst.val 2 0x51 (State.pdrAnswer record.toNat)) :=
  congrArg s.quick (funext fun t => t.getPdr_eq _ _ _)

theorem State.pdrAnswer_found {n : Nat} (h : 1 ≤ n ∧ n ≤ 27) (s : State) : State.pdrAnswer n s = (0, s.pdr n, s) := by
  rw [State.pdrAnswer, if_neg (by omega : ¬ n = 0), if_neg (by omega)]

theorem State.pdrAnswer_none {n : Nat} (h : 27 < n) (s : State) : State.pdrAnswer n s = (0x82, [], s) := by
  rw [State.pdrAnswer, if_neg (by omega : ¬ n = 0), if_pos h]

end Sys2Proof.Machine

open Sys2Proof Sys2Proof.Machine

/-- Settles O54, command by command: a message that has come is counted and changes nothing that its answer reads. The layouts are those of the model (log entries 109, 144). -/
theorem controlAndPldmAnswer : Obligations.ControlAndPldmAnswer := by
  unfold Obligations.ControlAndPldmAnswer
  intro s src inst
  refine ⟨fun ha => ⟨fun op eid hop h0 h1 => ?_, fun c cmd data hc => ?_, fun cmd hc => ?_, fun hp hk => ?_, fun hk => ?_⟩,
    fun hh => ⟨?_, ?_, fun c body hc => ?_, fun record hlo hhi => ?_, fun record hhi => ?_, fun id => ⟨fun v hn hv => ?_, fun hn hv => ?_, fun v hlo hhi hv => ?_, fun hid => ?_⟩, fun r => ?_⟩⟩
  · obtain ⟨heid, hvalid, hev⟩ := (s.spdmHeard true).bd.eidTaken_shows eid
    exact ⟨_, Ends.of_quick (f := fun s => s.setEid src.toNat 0 inst.val op.val eid.toNat) rfl (State.setEid_takes ha hop (by simpa using BitVec.toNat_ne.1 h0) (by simpa using BitVec.toNat_ne.1 h1) _ _), heid, hvalid, hev,
      List.mem_append_right _ (List.mem_singleton_self _)⟩
  · simp only [List.mem_cons, Prod.mk.injEq, List.not_mem_nil, or_false] at hc
    rcases hc with ⟨rfl, rfl, rfl⟩ | ⟨rfl, rfl, rfl⟩ | ⟨rfl, rfl, rfl⟩ | ⟨rfl, rfl, rfl⟩
    · exact State.control_answers ha (exec_getEndpointId src inst s) (code := 0) (data := leBytes 1 (s.bd.get pMGT F.MGT_STAT.EID) ++ leBytes 1 0 ++ leBytes 1 0) (by rw [s.spdmHeard_get true pMGT F.MGT_STAT.EID (by decide)])
    · exact State.control_answers ha (exec_getMctpVersionSupport src inst s) (code := 0) (data := leBytes 1 1 ++ leBytes 4 0x00FFF3F1) rfl
    · exact State.control_answers ha (exec_getMessageTypeSupport src inst s) (code := 0) (data := leBytes 1 s.bd.messageTypes.length ++ s.bd.messageTypes.flatMap (leBytes 1)) (by rw [State.spdmHeard_messageTypes])
    · exact State.control_answers ha (exec_getVendorDefinedMessageSupport src inst s) (code := 0) (data := leBytes 1 0xFF ++ leBytes 1 1 ++ (leBytes 4 0xB5E1).reverse ++ leBytes 2 1) rfl
  · have hother : exec (.mctpControlUnsupported src 0 inst cmd) s = s.quick (fun s => s.control src.toNat 0 inst.val cmd.toNat (fun s => (0x05, [], s))) :=
      (exec_mctpControlUnsupported src inst cmd s).trans (congrArg s.quick (funext fun t => if_neg (by omega)))
    exact State.control_answers ha hother (code := 5) (data := []) rfl
  · exact State.control_answers ha (exec_getEndpointUuid src inst s) (code := 0) (data := leBytes 16 uuidValue) (if_pos ⟨(s.spdmHeard_powered true pSEC).trans hp, (s.spdmHeard_on true pSEC _ (by decide)).trans hk⟩)
  · exact State.control_answers ha (exec_getEndpointUuid src inst s) (code := 4) (data := []) (if_neg fun h => Bool.false_ne_true (hk.symm.trans ((s.spdmHeard_on true pSEC _ (by decide)).symm.trans h.2)))
  · obtain ⟨u, hu, hout, hregs⟩ := State.pldm_opens (n := 1) hh (exec_getTid src inst s) rfl
    exact ⟨u, BitVec.ofNat 8 (s.spdmHeard true).bd.openVal, hu, hout, hregs⟩
  · obtain ⟨u, hu, hout, hregs⟩ := State.pldm_opens (n := 4) hh (exec_getPldmVersion src inst 2 s) rfl
    exact ⟨u, leBytes 4 (s.spdmHeard true).bd.openVal, hu, rfl, hout, hregs⟩
  · simp only [List.mem_cons, Prod.mk.injEq, List.not_mem_nil, or_false] at hc
    rcases hc with ⟨rfl, rfl⟩ | ⟨rfl, rfl⟩ | ⟨rfl, rfl⟩ | ⟨rfl, rfl⟩
    · exact State.pldm_answers hh (exec_getPldmTypes src inst s) (code := 0) (data := leBytes 8 0x05) rfl
    · exact State.pldm_answers hh (exec_getPldmCommands src inst 0 s) (code := 0) (data := leBytes 32 0x3C) rfl
    · exact State.pldm_answers hh (exec_getPdrRepositoryInfo src inst s) (code := 0) (data := leBytes 1 0 ++ leBytes 4 27) rfl
    · exact State.pldm_answers hh (exec_getEventReceiver src inst s) (code := 0) (data := leBytes 1 0 ++ leBytes 1 (s.mgmt.receiver.getD 0)) rfl
  · obtain ⟨u, hu, hsends⟩ := State.pldm_answers hh (exec_getPdr src inst record s) (State.pdrAnswer_found ⟨hlo, hhi⟩ _)
    exact ⟨u, (s.spdmHeard true).pdr record.toNat, hu, hsends⟩
  · exact State.pldm_answers hh (exec_getPdr src inst record s) (code := 0x82) (data := []) (State.pdrAnswer_none hhi _)
  · exact State.pldm_answers hh (exec_getSensorReading src inst id s) (code := 0) (data := leBytes 1 0 ++ leBytes 4 (ofSigned 32 v)) (by simp [hn, hv, State.spdmHeard_sensor])
  · exact State.pldm_answers hh (exec_getSensorReading src inst id s) (code := 0) (data := leBytes 1 4 ++ leBytes 4 0) (by simp [hn, hv, State.spdmHeard_sensor])
  · exact State.pldm_answers hh (exec_getStateSensorReadings src inst id s) (code := 0) (data := leBytes 1 1 ++ leBytes 1 0 ++ leBytes 1 v.toNat) (by simp [show ¬ (id.toNat < 25 ∨ 27 < id.toNat) by omega, hv, State.spdmHeard_sensor])
  · exact State.pldm_answers hh (exec_getStateSensorReadings src inst id s) (code := 0x80) (data := []) (by simp [hid])
  · exact ⟨_, Ends.of_quick (exec_setEventReceiver src inst r s) (State.setReceiver_eq hh _ _ _), rfl, State.mctp_sends (t := (s.spdmHeard true).receives (r.map BitVec.toNat)) rfl rfl _ _ _⟩

end

section
/-! The line of the power sequence after a settled step (O50): R357, R362, R364. A part that leaves STANDBY when SEQ_STEP is high enters a state whose step it holds low, so that the step ends with LINE at 0.
What a step settles touches neither LINE nor STATE. That the work of a command is done within its step is the model's choice (log entries 43, 89, 90, 166). -/

namespace Sys2Proof.Machine

/-! ### The words that settling keeps -/

/-- SEQ_STAT and CPE_STAT. -/
def lineWords : List (Nat × Nat) := [(pSEQ0, F.SEQ_STAT.LINE.off / 4), (pCPE, F.CPE_STAT.ACTIVE.off / 4)]

theorem lineWords_quiet {p off : Nat} (h : (p, off / 4) ∈ lineWords) : eventReg p off = false ∧ stateReg p off = false ∧ off < 0xC00 := by
  simp only [lineWords, List.mem_cons, Prod.mk.injEq, List.not_mem_nil, or_false] at h
  rcases h with ⟨rfl, hw⟩ | ⟨rfl, hw⟩ <;> exact ⟨by simp only [eventReg, hw]; decide, by simp only [stateReg, hw]; decide, by rw [Nat.div_eq_iff (by decide)] at hw; simp at hw; omega⟩

/-- The line words of `c` read as those of `b`. -/
def Board.Keeps (b c : Board) : Prop := ∀ p off, off < 4096 → (p, off / 4) ∈ lineWords → c.rd p off = b.rd p off

section
variable {b c d : Board}

theorem Board.Keeps.refl (b : Board) : b.Keeps b := fun _ _ _ _ => rfl

theorem Board.Keeps.trans (h : b.Keeps c) (k : c.Keeps d) : b.Keeps d := fun p o ho hm => (k p o ho hm).trans (h p o ho hm)

theorem Board.Keeps.ite {P : Prop} [Decidable P] (h : b.Keeps c) (k : b.Keeps d) : b.Keeps (if P then c else d) := by
  split
  · exact h
  · exact k

theorem Board.Keeps.only {ks : List (Nat × Nat)} (h : b.Keeps c) (k : c.Only d ks) (hk : ∀ w ∈ lineWords, w ∉ ks) : b.Keeps d := h.trans fun p o ho hm => k p o ho (hk _ hm)

theorem Board.Keeps.put (h : b.Keeps c) {p : Nat} {f : Fld} (v : Nat) (hk : f.off < 4096 ∧ (p, f.off / 4) ∉ lineWords) : b.Keeps (c.put p f v) :=
  h.only ((Board.Only.refl c [(p, f.off / 4)]).put v hk.1 (List.mem_singleton_self _)) fun _ hw he => hk.2 (List.mem_singleton.1 he ▸ hw)

theorem Board.Keeps.count (h : b.Keeps c) {p : Nat} {f : Fld} (n : Nat) (hk : f.off < 4096 ∧ (p, f.off / 4) ∉ lineWords) : b.Keeps (c.count p f n) :=
  h.only ((Board.Only.refl c [(p, f.off / 4)]).count n hk.1 (List.mem_singleton_self _)) fun _ hw he => hk.2 (List.mem_singleton.1 he ▸ hw)

theorem Board.Keeps.raises (h : b.Keeps c) (p : Nat) (evs : List Ev) : b.Keeps (c.raises p evs) :=
  h.trans fun q o ho hm => (c.raises_frame p evs).regs q o ho (lineWords_quiet hm).1

theorem Board.Keeps.raise (h : b.Keeps c) (p : Nat) (e : Ev) : b.Keeps (c.raise p e) := h.raises p [e]

theorem Board.Keeps.get (h : b.Keeps c) {p : Nat} {f : Fld} (hk : f.off < 4096 ∧ (p, f.off / 4) ∈ lineWords) : c.get p f = b.get p f := Board.get_congr (h p f.off hk.1 hk.2)

theorem Board.closing_keeps (b : Board) : b.Keeps b.closing := fun p o ho hm => b.closing_frame.regs p o ho (lineWords_quiet hm).2.1

theorem Board.followCounters_keeps (b : Board) : b.Keeps b.followCounters := fun _ _ _ hm =>
  Uncounted.followCounters ⟨(lineWords_quiet hm).2.2, (lineWords_quiet hm).1⟩ b

theorem Board.followNotices_keeps (b : Board) : b.Keeps b.followNotices := by
  unfold Board.followNotices
  dsimp only
  split
  · exact .refl b
  · refine Board.Keeps.raise ?_ _ _
    exact fun _ _ _ _ => rfl

theorem Board.followAlert_keeps (b : Board) : b.Keeps b.followAlert := by
  unfold Board.followAlert
  exact (Board.Keeps.refl b).ite ((Board.Keeps.refl b).put _ (by decide))

end

/-- The line words stay, and so does the island. -/
structure State.Holds (s t : State) : Prop where
  sec : t.sec = s.sec
  keeps : s.bd.Keeps t.bd

section
variable {s t u : State}

theorem State.Holds.refl (s : State) : s.Holds s := ⟨rfl, .refl _⟩

theorem State.Holds.trans (h : s.Holds t) (k : t.Holds u) : s.Holds u := ⟨k.sec.trans h.sec, h.keeps.trans k.keeps⟩

theorem State.Holds.ite {P : Prop} [Decidable P] (h : s.Holds t) (k : s.Holds u) : s.Holds (if P then t else u) := by
  split
  · exact h
  · exact k

/-- A change of neither board nor island. -/
theorem State.Holds.same (h : s.Holds t) (hs : u.sec = t.sec) (hb : u.bd = t.bd) : s.Holds u := h.trans ⟨hs, hb ▸ .refl _⟩

theorem State.Holds.from (k : t.Holds u) (hs : t.sec = s.sec) (hb : t.bd = s.bd) : s.Holds u := (State.Holds.same (.refl s) hs hb).trans k

theorem State.Holds.on (h : s.Holds t) {f : Board → Board} (k : t.bd.Keeps (f t.bd)) : s.Holds (t.on f) := h.trans ⟨rfl, k⟩

theorem State.Holds.writes (h : s.Holds t) (k : t.SameButWrites u) : s.Holds u := h.same (congrArg State.sec k :) k.bd

theorem State.Holds.foldl {α : Type} {f : State → α → State} (hf : ∀ t a, State.Holds t (f t a)) (l : List α) (s : State) : s.Holds (l.foldl f s) :=
  List.foldlRecOn (motive := s.Holds) _ _ (.refl s) fun t ht a _ => ht.trans (hf t a)

end

/-! ### Lines that the home poisons (R269, R270, R291, R292) -/

theorem State.say_holds (s : State) (o : Output) : s.Holds (s.say o) := ⟨rfl, fun _ _ _ _ => rfl⟩

theorem State.followLimit_holds (s : State) : s.Holds s.followLimit := by
  have hput : s.bd.Keeps (s.bd.put pFCM F.FCM_STAT.AT_LIMIT (bit (s.atLimit && decide (0 < s.dirty ∨ 0 < s.bd.dirtyLimit)))) := (Board.Keeps.refl _).put _ (by decide)
  unfold State.followLimit
  exact State.Holds.ite (((State.Holds.refl s).on hput).on ((Board.Keeps.refl _).raise _ _)) ((State.Holds.refl s).on hput)

/-- The mirror slots of a line that is dropped are free. -/
def State.freeLine (s : State) (l : LineSt) : State :=
  if l.dirty then (if l.slot2 = 0 then s.freeMirrorSlot l.slot else (s.freeMirrorSlot l.slot).freeMirrorSlot (l.slot2 - 1)) else s

theorem State.freeLine_holds (s : State) (l : LineSt) : s.Holds (s.freeLine l) := by
  unfold State.freeLine
  exact .ite (.ite (.same (.refl s) rfl rfl) (.same (.refl s) rfl rfl)) (.refl s)

theorem State.dropLine_holds (s : State) (lln : Nat) : s.Holds (s.dropLine lln).2 := by
  unfold State.dropLine
  extract_lets free
  have hfree : ∀ (t : State) l, t.Holds (free t l) := State.freeLine_holds
  split
  next w t he =>
    have ht : s.Holds t := by
      split at he
      · exact (Prod.mk.inj he).2 ▸ .from (hfree _ _) rfl rfl
      · exact (Prod.mk.inj he).2 ▸ .refl s
    split
    · exact ht.trans t.followLimit_holds
    · split
      · exact ht.trans t.followLimit_holds
      · exact ht.trans (.from ((hfree _ _).trans (State.followLimit_holds _)) rfl rfl)

theorem State.closeHole_holds (n : Nat) : ∀ (s : State) (i : Nat), s.Holds (s.closeHole n i) := by
  induction n with
  | zero => exact fun s _ => .refl s
  | succ n ih =>
    intro s i
    unfold State.closeHole
    split
    · exact .refl s
    · exact .from (ih _ _) rfl rfl

theorem State.freeSlot_holds (s : State) (lln : Nat) : s.Holds (s.freeSlot lln) := by
  unfold State.freeSlot
  split
  · exact .refl s
  · exact .from (State.closeHole_holds _ _ _) rfl rfl

theorem State.store_holds (s : State) (id : Nat) (body : List Byte) : s.Holds (s.store id body) :=
  ⟨(congrArg State.sec ((State.StoreFrame.refl [(pPST, 16)] s).store (by simp) id body).same :), (Board.Keeps.refl _).only (s.store_only id body) (by decide)⟩

theorem State.mapSet_holds (s : State) (page : Nat) (e : MapEntry) (g : Bool) : s.Holds (s.mapSet page e g) := by
  have hobj : ∀ (t : State) n, t.Holds (t.dirtyObject n) := fun t n => .ite (.refl t) (.same (.refl t) rfl rfl)
  have hmark : ∀ t : State, t.Holds t.clearMark := fun t => .ite (.from (State.store_holds _ _ _) rfl rfl) (.refl t)
  exact ((State.Holds.from (s := s) (t := s.setMap page e) (hobj _ _) rfl rfl).same (u := ((s.setMap page e).dirtyObject (page / 2 ^ 17)).journal 1 page e.word (bit g)) rfl rfl).trans (hmark _)

theorem State.loadMoved_holds (s : State) (n : Nat) : s.Holds (s.loadMoved n) := by
  have hraise : ∀ (t : State) p e, t.Holds (t.on fun b => b.raise p e) := fun t p e => (State.Holds.refl t).on ((Board.Keeps.refl _).raise p e)
  unfold State.loadMoved
  exact State.Holds.trans (.ite (hraise _ _ _) (.refl s)) (.ite (hraise _ _ _) (.refl _))

theorem State.putSlot_holds {s t : State} {lln loc pslot pseq : Nat} {staged poison : Bool} (h : s.putSlot lln staged poison loc pslot pseq = some t) : s.Holds t := by
  unfold State.putSlot at h
  split at h <;> obtain ⟨_, -, rfl⟩ := Option.map_eq_some_iff.1 h <;> exact .same (.refl s) rfl rfl

theorem State.insertPoison_holds {s t : State} {lln key : Nat} {ws : List (Nat × Nat)} (h : s.insertPoison lln key ws = some t) : s.Holds t := by
  obtain ⟨u, hu, rfl⟩ := Option.map_eq_some_iff.1 h
  have hmap : u.Holds (if (u.mapEntry (lln / 64)).patched then u else u.setMap (lln / 64) { u.mapEntry (lln / 64) with patched := true }) := .ite (.refl u) (.same (.refl u) rfl rfl)
  have hobj : ∀ (v : State) n, v.Holds (v.dirtyObject n) := fun v n => .ite (.refl v) (.same (.refl v) rfl rfl)
  have hpack : ∀ v : State, v.Holds (v.packPoison lln key ws) := fun v => .same (.refl v) rfl rfl
  exact ((State.putSlot_holds hu).trans hmap).trans ((hobj _ _).trans ((hpack _).trans (State.loadMoved_holds _ _)))

/-- What waits for a page is gone. -/
def State.pageForgotten (s : State) (page : Nat) : State :=
  { s with wp := { s.wp with
    patches := s.wp.patches.filter (fun p => p.lln / 64 ≠ page)
    poisonWait := s.wp.poisonWait.filter (fun p => decide (p.1 / 64 ≠ page)) } }

/-- A page becomes poison as a whole. -/
def State.pagePoisoned (s : State) (page bucket : Nat) : State :=
  (s.mapSet page { s.mapEntry page with ppa := 0, patched := false, zero := false, poison := true, fresh := false } false).on (fun b =>
    (b.count pCRY F.CRY_POISON_PAGE.COUNT 1).raiseCode pCRY .integrity (ev E.CRY.POISON_PAGE 0 page bucket 63))

theorem State.poisonPage_eq (s : State) (page bucket : Nat) : s.poisonPage page bucket =
    (((List.range 64).foldl (fun s n => (s.dropLine (page * 64 + n)).2.freeSlot (page * 64 + n)) s).pageForgotten page).pagePoisoned page bucket := rfl

theorem State.pagePoisoned_holds (s : State) (page bucket : Nat) : s.Holds (s.pagePoisoned page bucket) :=
  (State.mapSet_holds _ _ _ _).on (((Board.Keeps.refl _).count 1 (by decide)).raises _ _)

theorem State.poisonPage_holds (s : State) (page bucket : Nat) : s.Holds (s.poisonPage page bucket) := by
  have hforgot : ∀ t : State, t.Holds (t.pageForgotten page) := fun t => .same (.refl t) rfl rfl
  rw [State.poisonPage_eq]
  exact ((State.Holds.foldl (fun t n => (t.dropLine_holds _).trans (State.freeSlot_holds _ _)) _ s).trans (hforgot _)).trans (State.pagePoisoned_holds _ _ _)

theorem State.writeBack_holds (s : State) (page : Nat) : s.Holds (s.writeBack page) := (State.Holds.refl s).writes (s.writeBack_same page)

theorem State.placePoison_holds (s : State) (lln key : Nat) (ws : List (Nat × Nat)) : s.Holds (s.placePoison lln key ws) := by
  have hwait : s.Holds (if s.wp.poisonWait.any (fun p => decide (p.1 = lln)) then s else { s with wp := { s.wp with poisonWait := s.wp.poisonWait ++ [(lln, key, ws)] } }) :=
    .ite (.refl s) (.same (.refl s) rfl rfl)
  unfold State.placePoison
  split
  · exact .refl s
  · split
    next t ht => exact (State.insertPoison_holds ht).same rfl rfl
    next =>
      dsimp only
      split
      · exact s.poisonPage_holds _ _
      · split
        · exact .ite (hwait.writes (State.writeBack_same _ _)) (hwait.writes (State.wantFold_same _ _ _))
        · exact hwait

theorem State.durable_holds (s : State) (ws : List (Nat × Nat)) (copy lln : Nat) : s.Holds (s.durable ws copy lln) :=
  State.Holds.foldl (fun t w => by exact .ite (.ite (.same (.refl t) rfl rfl) (t.say_holds _)) (.ite (.same (.refl t) rfl rfl) (t.say_holds _))) ws s

theorem State.allocatePage_holds (s : State) (page : Nat) : s.Holds (s.allocatePage page) := .ite (.same (.refl s) rfl rfl) (.refl s)

theorem State.poisonLine_holds (s : State) (lln key : Nat) (ws : List (Nat × Nat)) : s.Holds (s.poisonLine lln key ws) := by
  have hcount : ∀ t : State, t.Holds (t.on fun b => b.count pHLT F.HLT_LIFE_POISON.COUNT 1) := fun t => (State.Holds.refl t).on ((Board.Keeps.refl _).count 1 (by decide))
  have hdrop : s.Holds ((s.noteWrite lln).dropLine lln).2 := .from (State.dropLine_holds _ _) rfl rfl
  have hplaced := ((hdrop.trans (State.allocatePage_holds _ (lln / 64))).trans (State.placePoison_holds _ lln key (((s.noteWrite lln).dropLine lln).1 ++ ws))).trans (hcount _)
  exact .ite (hplaced.trans (State.durable_holds _ _ _ _)) hplaced

theorem State.alias_holds (s : State) (r : Req) : s.Holds (s.alias r).2 ∧ ∀ t, (s.alias r).1 = some t → s.Holds t := by
  have hwait : ∀ i page, s.Holds ((({ s with home := { s.home with aliases := s.home.aliases ++ [⟨r, i⟩] } } : State).dequeue r).writeBack page) := fun i page =>
    .from (State.writeBack_holds _ _) rfl rfl
  unfold State.alias
  split
  · split
    · exact ⟨hwait _ _, fun _ h => nomatch h⟩
    · exact ⟨.refl s, fun _ h => Option.some.inj h ▸ .refl s⟩
  · split
    · exact ⟨.refl s, fun _ h => Option.some.inj h ▸ .refl s⟩
    · split
      · exact ⟨.refl s, fun _ h => Option.some.inj h ▸ .same (.refl s) rfl rfl⟩
      · exact ⟨hwait _ _, fun _ h => nomatch h⟩

theorem State.lineTurn_holds (s : State) {r : Req} (hr : r.ask = .poison) (bad : Nat) : s.Holds (s.lineTurn r bad) := by
  obtain ⟨hwaits, hgoes⟩ := s.alias_holds r
  unfold State.lineTurn
  split
  next t ht =>
    rw [ht] at hwaits
    exact hwaits
  next t v ht =>
    rw [ht] at hgoes
    rw [hr]
    exact (hgoes t rfl).trans (.ite (.same (.refl t) rfl rfl) (.from (State.poisonLine_holds _ _ _ _) rfl rfl))

theorem State.arriveNow_holds (s : State) {r : Req} (hr : r.ask = .poison) (hv : r.volatile = false) : s.Holds (s.arriveNow r) := by
  have hturn : (s.arrive r).turn r 0 = (s.arrive r).lineTurn r 0 := by
    simp [State.turn, hr, hv]
  refine .from (t := s.arrive r) ?_ rfl rfl
  exact .ite (.refl _) (hturn ▸ State.lineTurn_holds _ hr 0)

theorem State.reportLoss_holds (s : State) (owner : Nat) (ws : List Nat) : s.Holds (s.reportLoss owner ws) := by
  have hpoison : ∀ lln lines key, s.Holds (s.poisonLoss lln lines key) := fun lln lines key =>
    State.Holds.foldl (fun t i => by exact .from (State.arriveNow_holds _ rfl rfl) rfl rfl) _ s
  have howed : s.Holds { s with shelf := { s.shelf with owed := s.shelf.owed ++ [(owner, ws)] } } := .same (.refl s) rfl rfl
  exact .ite (.ite (hpoison _ _ _) (.ite (s.say_holds _) howed)) (.ite (s.say_holds _) howed)

/-! ### The tail of a step -/

theorem State.followRequests_holds (s : State) : s.Holds s.followRequests := by
  have hlost : ∀ (t : State) a, t.Holds (t.takeAnswer a) := fun t a => by
    have h : t.Holds (t.memLost a) := by
      unfold State.memLost
      split
      · exact .refl t
      · exact .ite (.refl t) (t.reportLoss_holds _ _)
    exact h.same rfl rfl
  have htaken : s.Holds s.answersTaken := .from (State.Holds.foldl hlost _ _) rfl rfl
  have hsays : ∀ (t : State) code eid session c body, t.Holds (t.respond code eid session c body) := fun t _ _ _ _ _ =>
    .trans ((State.Holds.refl t).on (((Board.Keeps.refl _).put _ (by decide)).put _ (by decide))) ⟨rfl, fun _ _ _ _ => rfl⟩
  rw [State.followRequests_eq]
  exact (htaken.same (u := s.answersTaken.requestsKept) rfl rfl).trans (State.Holds.foldl (fun t _ => hsays t _ _ _ _ _) _ _)

theorem State.followSessions_holds (s : State) : s.Holds s.followSessions :=
  (State.Holds.refl s).on (((Board.Keeps.refl _).put _ (by decide)).put _ (by decide) |>.put _ (by decide))

/-- A sensor's event is one more message that is ready; FM API commands stay. -/
theorem State.followSensor_holds (s : State) (id : Nat) : s.Holds (s.followSensor id) ∧ s.mgmt.ready ≤ (s.followSensor id).mgmt.ready ∧ (s.followSensor id).mgmt.fm = s.mgmt.fm := by
  unfold State.followSensor
  split
  · exact ⟨.refl s, le_rfl, rfl⟩
  · dsimp only
    split
    · exact ⟨.refl s, le_rfl, rfl⟩
    · split
      · exact ⟨.same (.refl s) rfl rfl, le_rfl, rfl⟩
      · exact ⟨⟨rfl, fun _ _ _ _ => rfl⟩, Nat.le_succ _, rfl⟩

theorem State.followSensors_holds (s : State) : s.Holds s.followSensors ∧ s.mgmt.ready ≤ s.followSensors.mgmt.ready ∧ s.followSensors.mgmt.fm = s.mgmt.fm := by
  unfold State.followSensors
  split
  · exact ⟨.refl s, le_rfl, rfl⟩
  · refine List.foldlRecOn (motive := fun t : State => s.Holds t ∧ s.mgmt.ready ≤ t.mgmt.ready ∧ t.mgmt.fm = s.mgmt.fm) _ _ ⟨.refl s, le_rfl, rfl⟩ fun t ht k _ => ?_
    obtain ⟨hkeeps, hready, hfm⟩ := t.followSensor_holds (k + 1)
    exact ⟨ht.1.trans hkeeps, ht.2.1.trans hready, hfm.trans ht.2.2⟩

/-- A clean shutdown goes on with its writes, or ends in the downward order. -/
theorem State.followShutdown_cases (s : State) : s.Holds s.followShutdown ∨ s.followShutdown.bd.seqState = 11 := by
  unfold State.followShutdown
  split
  · exact .inl (.refl s)
  · split
    · exact .inr (State.enterDown_state _ (by decide)).1
    · exact .inl (State.Holds.foldl (fun t p => t.writeBack_holds p) _ s)

theorem State.tamperResponse_cases (s : State) (debug : Bool) : (s.tamperResponse debug).bd = s.bd ∨ (s.tamperResponse debug).sec.tampered = true := by
  cases hr : s.responding with
  | true => exact .inl (congrArg State.bd (if_pos hr))
  | false => exact .inr (State.tamperResponse_wipes hr debug).2

/-- TAMPER closes or stays without a change of the board, or the response marks the island. -/
theorem State.resetTamper_cases (s : State) : s.resetTamper.bd = s.bd ∨ s.resetTamper.sec.tampered = true := by
  unfold State.resetTamper
  split
  · exact .inl rfl
  · extract_lets
    split
    · exact State.tamperResponse_cases _ _
    · exact .inl rfl

theorem State.change_mgmt (s : State) (c : Sync) : (s.change c).mgmt = s.mgmt := by
  have happly : (s.applySync c).mgmt = s.mgmt := by
    cases c <;> rfl
  unfold State.change
  split
  · exact happly
  · split
    · exact happly
    · rfl

/-- An FM API command that is done has been answered. -/
theorem State.fmStep_done (n : Nat) : ∀ (s : State) (op : FmOp), (s.fmStep op n).1 = none → 0 < (s.fmStep op n).2.mgmt.ready := by
  induction n with
  | zero => exact fun _ _ h => nomatch h
  | succ n ih =>
    intro s op
    have hreply : ∀ (t : State) code, 0 < (t.fmReply op.eid op.opcode code []).mgmt.ready := fun _ _ => Nat.succ_pos _
    unfold State.fmStep
    split
    next =>
      intro _
      dsimp only
      split
      · rw [State.change_mgmt]
        exact hreply _ _
      · exact hreply _ _
    next part t i ws _ _ =>
      extract_lets w go
      have hgo : ∀ (u : State) c, (go u c).1 = none → 0 < (go u c).2.mgmt.ready := by
        intro u c
        dsimp only [go]
        split
        · exact fun _ => hreply _ _
        · split
          · exact fun h => nomatch h
          · exact ih _ _
      split
      · exact fun h => nomatch h
      · split
        · exact hgo _ _
        · split
          · split
            · split
              · exact fun h => nomatch h
              · exact hgo _ _
            · exact hgo _ _
          · split
            · exact hgo _ _
            · exact fun h => nomatch h

theorem State.followFm_cases (s : State) : (s.followFm.bd = s.bd ∧ s.followFm.sec = s.sec) ∨ 0 < s.followFm.mgmt.ready ∨ s.followFm.mgmt.fm ≠ [] := by
  unfold State.followFm
  split
  · exact .inl ⟨rfl, rfl⟩
  next op rest _ =>
    split
    · exact .inl ⟨rfl, rfl⟩
    · dsimp only
      cases hleft : (s.fmStep op 65536).1 with
      | none => exact .inr (.inl (State.fmStep_done _ s op hleft))
      | some op' => exact .inr (.inr (List.cons_ne_nil _ _))

/-! ### A settled step -/

/-- What a settled step does first, where the domain of the home is on. -/
def State.homeSettled (s : State) : State :=
  if s.bd.domainOn 1 then
    let s := s.media.weak.foldl (fun s w => s.weakDie (w.1 / 8) (w.1 % 8)) s
    let s := (s.settleWrites).settleRequests
    let s := (s.on Board.followShm).followHealth
    (s.settleDeferred).followCopy
  else s

theorem State.settle_eq (s : State) : s.settle = s.homeSettled.followed.fatalTaken.closing := rfl

/-- CPE counts the busy channels, of 40, before the tail of a step. -/
theorem State.followCopy_active (s : State) : s.followCopy.bd.get pCPE F.CPE_STAT.ACTIVE ≤ 40 := by
  unfold State.followCopy
  extract_lets
  rw [State.on_bd, Board.get_put_self _ _ _ _ (by decide)]
  exact (Nat.mod_le _ _).trans ((List.length_filter_le _ _).trans (by simp))

theorem State.homeSettled_cases (s : State) : s.homeSettled = s ∨ s.homeSettled.bd.get pCPE F.CPE_STAT.ACTIVE ≤ 40 := by
  unfold State.homeSettled
  split
  · exact .inr (State.followCopy_active _)
  · exact .inl rfl

/-- A part with no message ready and no FM API command under way. -/
structure Mgmt.Idle (m : Mgmt) : Prop where
  ready : m.ready = 0
  fm : m.fm = []

/-- What comes after the requests keeps the line words, where it ends with the management path idle. -/
theorem State.sensed_holds {s : State} (h : s.followFm.followSensors.mgmt.Idle) : s.followFm.followSensors.sec = s.sec ∧ s.bd.Keeps s.followFm.followSensors.bd := by
  obtain ⟨hsens, hmore, hfms⟩ := s.followFm.followSensors_holds
  have hzero : s.followFm.mgmt.ready = 0 := Nat.le_zero.1 (hmore.trans h.ready.le)
  obtain ⟨hfmbd, hfmsec⟩ := s.followFm_cases.resolve_right (not_or.2 ⟨hzero ▸ Nat.lt_irrefl 0, not_not_intro (hfms.symm.trans h.fm)⟩)
  exact ⟨hsens.sec.trans hfmsec, hfmbd ▸ hsens.keeps⟩

/-- So does the tail before the counters, where it ends in state 2 with no tampering. -/
theorem State.tail_keeps {s t : State} (ht : t = s.followShutdown.resetTamper.followSessions.followRequests.followFm.followSensors) (hst : t.bd.seqState = 2) (hi : t.mgmt.Idle)
    (hs : t.sec.tampered = false) : s.bd.Keeps t.bd := by
  obtain ⟨x, hx⟩ : ∃ x, x = s.followShutdown := ⟨_, rfl⟩
  obtain ⟨y, hy⟩ : ∃ y, y = x.resetTamper := ⟨_, rfl⟩
  obtain ⟨z, hz⟩ : ∃ z, z = y.followSessions.followRequests := ⟨_, rfl⟩
  rw [← hx, ← hy, ← hz] at ht
  have hyz : y.Holds z := hz ▸ y.followSessions_holds.trans (State.followRequests_holds _)
  obtain ⟨hsec, hkeeps⟩ := z.sensed_holds (ht ▸ hi)
  have hbd : y.bd = x.bd := hy ▸ x.resetTamper_cases.resolve_right (by rw [← hy, ← hyz.sec, ← hsec, ← ht, hs]; decide)
  have hxt : x.bd.Keeps t.bd := hbd ▸ hyz.keeps.trans (ht ▸ hkeeps)
  have hstate : x.bd.seqState = 2 := (hxt.get (f := F.SEQ_STAT.STATE) (by decide)).symm.trans hst
  exact Board.Keeps.trans (hx ▸ (s.followShutdown_cases.resolve_right (by rw [← hx, hstate]; decide)).keeps) hxt

theorem State.followed_eq (s : State) : s.followed =
    (s.followShutdown.resetTamper.followSessions.followRequests.followFm.followSensors.on Board.followNotices).on (fun b => b.followAlert.followCounters) := rfl

/-- And the tail as a whole. -/
theorem State.followed_keeps {s : State} (hst : s.followed.bd.seqState = 2) (hi : s.followed.mgmt.Idle) (hs : s.followed.sec.tampered = false) : s.bd.Keeps s.followed.bd := by
  obtain ⟨t, ht⟩ : ∃ t, t = s.followShutdown.resetTamper.followSessions.followRequests.followFm.followSensors := ⟨_, rfl⟩
  rw [State.followed_eq, ← ht] at hst hi hs ⊢
  have hend : t.bd.Keeps t.bd.followNotices.followAlert.followCounters := ((Board.followNotices_keeps _).trans (Board.followAlert_keeps _)).trans (Board.followCounters_keeps _)
  exact (State.tail_keeps ht ((hend.get (f := F.SEQ_STAT.STATE) (by decide)).symm.trans hst) hi hs).trans hend

theorem State.closing_mgmt (s : State) : s.closing.mgmt = s.mgmt := rfl

theorem State.closing_sec (s : State) : s.closing.sec = s.sec := rfl

theorem State.closing_keeps (s : State) : s.bd.Keeps s.closing.bd := s.bd.closing_keeps

/-- With no fatal stop, for which the step would end in state 14, the causes do not change them either. -/
theorem State.closed_keeps {s t : State} (h : t = s.followed.fatalTaken.closing) (hst : t.bd.seqState = 2) (hi : t.mgmt.Idle) (hs : t.sec.tampered = false) : s.bd.Keeps t.bd := by
  have hfatal : s.followed.fatalTaken = s.followed := (State.fatalTaken_cases _).resolve_left fun he => by
    rw [h, State.closing_seqState, he] at hst
    exact absurd hst (by decide)
  have hbd : s.followed.bd.Keeps t.bd := by
    rw [h, hfatal]
    exact State.closing_keeps _
  rw [h, hfatal, State.closing_seqState] at hst
  rw [h, hfatal, State.closing_mgmt] at hi
  rw [h, hfatal, State.closing_sec] at hs
  exact (State.followed_keeps hst hi hs).trans hbd

/-- So what a settled step shows of the line is what its start shows: at once, or once the home has been settled, which counts the channels again. -/
theorem State.settle_line {u t : State} (h : t = u.homeSettled.followed.fatalTaken.closing) (hst : t.bd.seqState = 2) (hi : t.mgmt.Idle) (hs : t.sec.tampered = false)
    (hactive : 40 < t.bd.get pCPE F.CPE_STAT.ACTIVE) : t.bd.on pSEQ0 F.SEQ_STAT.LINE = u.bd.on pSEQ0 F.SEQ_STAT.LINE := by
  have hkeeps := State.closed_keeps h hst hi hs
  have hhome : u.homeSettled = u := u.homeSettled_cases.resolve_right fun he => by
    rw [hkeeps.get (f := F.CPE_STAT.ACTIVE) (by decide)] at hactive
    exact absurd he (Nat.not_le.2 hactive)
  rw [hhome] at hkeeps
  exact congrArg (fun v => decide (v = 1)) (hkeeps.get (f := F.SEQ_STAT.LINE) (by decide))

/-- What is left of a step is what its command leaves, but for the queue of commands. -/
theorem Runs.settled {c : Instr} {s u : State} {f : State → State} (h : Runs c s u) (hx : exec c s = s.run f) :
    u.settle.bd = (f s).settle.bd ∧ u.settle.mgmt = (f s).settle.mgmt ∧ u.settle.sec = (f s).settle.sec := by
  have hnext : ({ u.settle with pending := s.pending } : State) = { (f s).settle with pending := s.pending } := Host.Outcome.next.inj (h.symm.trans hx)
  exact ⟨(congrArg State.bd hnext :), (congrArg State.mgmt hnext :), (congrArg State.sec hnext :)⟩

/-! ### A part that leaves STANDBY with SEQ_STEP high -/

/-- STANDBY with a shared SEQ_STEP that the part has released. CPE shows more busy channels than there are, so that it would show a settled home. -/
def barrierBoard : Board :=
  [(pSEQ0, F.SEQ_STAT.STATE, 1), (pSEQ0, F.SEQ_CFG.SHARED, 1), (pSEQ0, F.SEQ_STAT.DRIVE, 0), (pCPE, F.CPE_STAT.ACTIVE, 63)].foldl (fun (b : Board) x => b.put x.1 x.2.1 x.2.2) Board.reset

/-- The part waits for the line. -/
def barrierPart : State := { State.reset with bd := barrierBoard, seq := { State.reset.seq with startAllowed := true } }

theorem barrierPart_waits : barrierPart.atBarrier = true := by decide +kernel

/-- The step ends in state 2, in which the part drives SEQ_STEP low. -/
theorem barrierPart_drives : barrierPart.stepHigh.settle.bd.seqState = 2 ∧ barrierPart.stepHigh.settle.mgmt.ready = 0 ∧ barrierPart.stepHigh.settle.mgmt.fm.isEmpty = true
    ∧ barrierPart.stepHigh.settle.sec.tampered = false ∧ 40 < barrierPart.stepHigh.settle.bd.get pCPE F.CPE_STAT.ACTIVE
    ∧ barrierPart.stepHigh.settle.bd.on pSEQ0 F.SEQ_STAT.LINE = false := by
  decide +kernel

theorem exec_seqStepHigh (s : State) : exec .seqStepHigh s = s.run State.stepHigh := rfl

end Sys2Proof.Machine

open Sys2Proof Sys2Proof.Machine

/-- Refutes O50, in its clause on SEQ_STEP_HIGH at a barrier: the part advances and, in the state that it enters, drives SEQ_STEP low again at once (R362), so that the step ends with LINE at 0. No state
with LINE at 1 settles into its outcome: what a step settles leaves LINE alone. -/
theorem not_sequenceRunsUpAndDown : ¬ Obligations.SequenceRunsUpAndDown := by
  unfold Obligations.SequenceRunsUpAndDown
  intro h
  obtain ⟨-, -, -, -, hbarrier, -⟩ := h barrierPart .mgmt 0
  obtain ⟨⟨u, hruns, -, hline, -⟩, -⟩ := hbarrier barrierPart_waits
  obtain ⟨hbd, hmgmt, hsec⟩ := hruns.settled (exec_seqStepHigh barrierPart)
  obtain ⟨hst, hready, hfm, ht, hactive, hlow⟩ := barrierPart_drives
  rw [← hbd] at hst hactive hlow
  rw [← hmgmt] at hready hfm
  rw [← hsec] at ht
  exact Bool.false_ne_true (hlow.symm.trans ((State.settle_line u.settle_eq hst ⟨hready, List.isEmpty_iff.1 hfm⟩ ht hactive).trans hline))

end
